-- ==== Sys2Proof/Word.lean ====
section
/-! DEFINITION. The word types of the HKS-8264 (spec/00_scope.md, Numbers, units and bit ranges). -/

namespace Sys2Proof

/-- An octet. -/
abbrev Byte := BitVec 8

/-- A register word of the BAR0 map (04_register_interface R78). -/
abbrev Word := BitVec 32

end Sys2Proof
end

