-- ==== Sys2Proof/Syntax.lean ====
section
/-! DEFINITION. The commands of the block, one constructor for each row of spec/opcode_table.json, and the types of
their operands. -/

namespace Sys2Proof

/-- The four ports of the register fabric, in their arbitration order (04_register_interface R79). -/
inductive Port | pcie | mdio | spi | steward
  deriving DecidableEq, Repr

/-- What the keys decide about a signed image: whether its signature verifies, whether its authentication tag verifies,
and the decrypted body (03_warp R56, R57). -/
structure Verdict where
  sigOk : Bool
  tagOk : Bool
  plain : List Word
  deriving DecidableEq, Repr, Inhabited

/-- A self-test target: KIND and INDEX of 02_startup_modes_selftest R49, or a block that R41 sends to QUARANTINE. -/
inductive Block
  | trunk (t : Nat) | drop (d : Nat) | vale (v : Nat) | hostLane (n : Nat) | gran | surv (v : Nat) | macsec | assayer
  | pcie | agent (v : Nat) | core
  deriving DecidableEq, Repr

/-- One memory or logic failure of a BIST: the block with its Watch source, a vale's bank where it is one, the memory, its
first failing word and bit, and whether the redundancy can replace every failing cell (02_startup_modes_selftest R40,
R41). -/
structure BistFail where
  block : Block
  src : Nat
  bank : Option Nat
  memId : Nat
  addr : Nat
  bit : Nat
  memory : Bool
  repairable : Bool
  deriving DecidableEq, Repr

/-- A time stamp: seconds, nanoseconds, fraction in units of 2^-16 ns (00_scope, Numbers). -/
structure Stamp where
  sec : Nat
  ns : Nat
  frac : Nat
  deriving DecidableEq, Repr

/-- A frame received on a line: its octets, its wire stamp, and its class, where the port's rules give one. -/
structure LineFrame where
  octets : List Byte
  stamp : Stamp
  deriving DecidableEq, Repr

/-- The decode status of a codeword (05_trunk_signalling R99): symbols corrected, or uncorrectable. -/
inductive CwStatus
  | corrected (n : Nat)
  | uncorrectable
  deriving DecidableEq, Repr

/-- A coefficient that adaptation has moved (06_trunk_equalisation R137): bank 0 dense, 1 sparse (64 × window + tap),
2 FFE, 3 DFE (tap − 1), and its new value in units of 2^-14. -/
structure CoefUpd where
  bank : Nat
  index : Nat
  value : Int
  deriving DecidableEq, Repr

/-- What a receiver measures over one training frame: margin in units of 0.25 dB, SNR in units of 0.25 dB, the
convergence conditions of 06_trunk_equalisation R141, and the coefficients moved. -/
structure FrameMeas where
  margin : Int
  snr : Nat
  ecConv : Bool
  ffeConv : Bool
  dfeConv : Bool
  timing : Bool
  gainStep : Bool
  adapt : List CoefUpd
  deriving DecidableEq, Repr

/-- What Clause 98 auto-negotiation with the CR pages ends with (05_trunk_signalling R106, R107): the standard modes
that the peer advertises, the CR ability word where one counted, and whether this end is master; `msFault` when both
ends force the same role. -/
structure AnResult where
  lpModes : Nat
  crWord : Option Word
  master : Bool
  msFault : Bool
  deriving DecidableEq, Repr

/-- One reflection of a Surveyor result: delay in picoseconds and level in units of 0.5 dB below launch. -/
structure PsReflection where
  delayPs : Nat
  levelHdb : Nat
  deriving DecidableEq, Repr

/-- Who asks for a quiet window (07_twinning_quiet_windows R167). -/
inductive QwPurpose | calibration | contactCare | survey | host
  deriving DecidableEq, Repr

/-- A HELLO's content (07_twinning_quiet_windows R157). -/
structure HelloMsg where
  role : Nat
  seen : Bool
  twin : Nat
  tag : Nat
  deriving DecidableEq, Repr

/-- A member's decoded copy of a twin position (07_twinning_quiet_windows R160): the position's AM counter and index,
the decode status, the 5,140-bit message, the wire stamp of its first symbol, and the difference of arrival to the other member's copy
in nanoseconds, B minus A; the frames that end in it, each with what MACsec verification yields, none where the ICV
fails. -/
structure TwinCopy where
  am : Nat
  index : Nat
  status : CwStatus
  message : Nat
  stampPs : Nat
  frames : List (LineFrame × Option (List Byte))
  deriving DecidableEq, Repr


/-- What a drop receives in 10BASE-T1S mode (08_drop_segments R184, R185): a frame, with whether its line code was
free of errors and an end-of-stream delimiter closed it, or a BEACON of another coordinator. -/
inductive DropRx
  | frame (f : LineFrame) (codeOk : Bool)
  | beacon
  deriving DecidableEq, Repr

/-- One received codeword of a Long-Drop burst (09_long_drop_modem R203): its decode status and its 239 message
octets. -/
structure LdCw where
  status : CwStatus
  msg : List Byte
  deriving DecidableEq, Repr

/-- What the receiver has at the end of a Long-Drop burst (R204, R208, R212): the codewords of its QPSK and 16-QAM
segments, its SNR in units of 0.25 dB, its carrier offset in Hz, the coefficients that end it (real, imaginary, in units
of 2^-13), and the stamp of the burst's stamp point. -/
structure LdBurst where
  qpsk : List LdCw
  qam : List LdCw
  snr : Nat
  cfo : Int
  ffe : List (Int × Int)
  dfe : List (Int × Int)
  stamp : Stamp
  deriving DecidableEq, Repr

/-- An item of a data lane that an uncorrectable block touches (10_pass R231): an ingress frame of a port, an egress
frame of a port, a twin message toward a member or from a member, a Surveyor capture, or a shadow image. -/
inductive PassItem
  | ingress (port : Nat)
  | egress (port : Nat)
  | twinDown (i : Nat) (b : Bool)
  | twinUp (i : Nat) (b : Bool)
  | capture
  | shadow
  deriving DecidableEq, Repr

/-- One block of a data lane (10_pass R219): its header octet, whether a stuff bit equalled its run, the decode status
of its codeword, the 128 message octets, the receiver's time at its first header bit, and the items that it touches. -/
structure PassBlock where
  hdr : BitVec 8
  stuffBad : Bool
  status : CwStatus
  msg : List Byte
  arrive : Stamp
  touched : List PassItem
  deriving DecidableEq, Repr

/-- A memory finding of the code over a packet-store word (12_miller_queues R284, 13_memory_granary R292): the word was
corrected, or it is uncorrectable and lies in frame `i` of a queue, in a queue's descriptor or links, in the free-cell
list so that so many cells are affected, or in no live data. -/
inductive PsErr
  | corrected (word : Nat)
  | frame (q i word : Nat)
  | desc (q word : Nat)
  | freeList (cells word : Nat)
  | unused (word : Nat)
  deriving DecidableEq, Repr

/-- What the code finds in a word of a vale bank (13_memory_granary R289): nothing, a corrected word with whether the
writer has written that word in the meantime, or an uncorrectable word with the received frame of the bank that holds
it, if one does. -/
inductive WordFind | clean | corrected (overwritten : Bool) | lost (frame : Option Nat)
  deriving DecidableEq, Repr

/-- What the code finds in a granary burst (R309): nothing, one or two symbols corrected, or an uncorrectable burst. -/
inductive BurstFind | clean | corrected (two : Bool) | lost
  deriving DecidableEq, Repr

/-- The calibrated quantities (16_assayer_calibration R350). -/
inductive Quantity
  | dacAmplitude | dacLinearity | adcOffset | adcGain | adcSkew | trunkDelay | dropDelay | passTaps | asym | timebase
  | loop | temperature | voltage
  deriving DecidableEq, Repr

/-- A value of a calibration: percentages in units of 0.01 %, DAC linearity in 1/25,600 of full scale, ADC offset in
0.01 LSB, skew in 0.01 ps, port delays in 10 ps (transmit first), equaliser taps, ASYM in ps, temperature in 0.125 °C. -/
structure CalVal where
  q : Quantity
  v : Int
  deriving DecidableEq, Repr

/-- A PCIe configuration request to the function (11_host_interfaces R261): a read of a double word, a write of the
Command register, of BAR0, of the power state, of the MSI-X enable and function mask bits or of Device Control, or a write
of anything else. -/
inductive CfgReq
  | read (dw : BitVec 10)
  | command (v : BitVec 16)
  | bar0 (v : BitVec 64)
  | power (d3 : Bool)
  | msix (enable mask : Bool)
  | deviceControl (v : BitVec 16)
  | other (dw : BitVec 10) (v : Word)
  deriving DecidableEq, Repr

/-- The commands of the block: one constructor for each row of spec/opcode_table.json, in its order. -/
inductive Instr where
    /-- R33: VIN rises through 10.8 V from below 1 V or after a long dip, or RESET_N is held low for 1 µs or longer;
  lines go quiet and BOOT starts at the release. -/
  | coldReset (pin : Bool)
    /-- R34: 2 s pass without a service from the Steward firmware, and a warm reset with cause WATCHDOG follows. -/
  | stewardWatchdogExpiry
    /-- R36: The converters and host reference are stable; the boot ROM reads the fuses and repair record, wipes the
  strongroom and lets the register fabric serve. -/
  | bootRomStart (active : BitVec 5)
    /-- R41: Host-die memory and logic BIST end; failing blocks are fenced or the device is bound for QUARANTINE, and
  the strongroom loads from the fuses. -/
  | hostSelftestDone (fails : List BistFail)
    /-- R38: The ROM finishes checking firmware slots 1 and 2; it starts the Steward from the first that verifies or
  enters the recovery stage. -/
  | firmwareVerifyDone (sig1 : Bool) (sig2 : Bool) (storeOk : Bool)
    /-- R42: The vales report the end of their BIST by tally, and failing vales, banks or ports are fenced. -/
  | valeSelftestDone (fails : List BistFail)
    /-- R60: The Steward tries the warp slots in order, records each refusal code, and selects the first slot that
  passes, or enters PROVISION. -/
  | warpSelect (a : Verdict) (b : Verdict) (g : Verdict)
    /-- R64: The warp's records have been applied in stage order to the host die and each unfenced vale; BOOT ends in
  SERVICE, DEGRADED or QUARANTINE and unfenced lines leave the quiet state. -/
  | warpApplyDone
    /-- R34: An armed write of 1 to STW_RESET_CTL.WARM starts a warm reset, and is also served in QUARANTINE. -/
  | stwResetWarm (p : Port)
    /-- R44: An armed write to STW_MODE_REQ.MAINT moves SERVICE or DEGRADED to MAINTENANCE, or is refused with REFUSED
  set. -/
  | stwModeMaint (p : Port)
    /-- R34: An armed write to STW_MODE_REQ.EXIT_MAINT in MAINTENANCE leaves the mode by a warm reset with cause
  MAINT_EXIT. -/
  | stwModeExitMaint (p : Port)
    /-- R46: An armed write to STW_SCAN_CTL.REQ in MAINTENANCE makes the Steward wipe the strongroom, the MACsec keys
  and the packet store. -/
  | stwScanReq (p : Port)
    /-- R46: The wipe has been read back; scan is enabled with WIPED and SCAN_EN set, or is refused with a class F
  event against the strongroom. -/
  | scanWipeDone (ok : Bool)
    /-- R48: A write of 1 to STW_SELFTEST_CTL.START starts a self-test of the block named by KIND and INDEX, or
  records the first refusal that applies. -/
  | stwSelftestStart (p : Port) (kind : BitVec 4) (index : BitVec 8)
    /-- R50: A self-test ends: a passing block keeps its state and earns one release, and a failing block stays fenced
  with a kind 0x58 event. -/
  | selftestDone (res : Option BistFail)
    /-- R50: An armed write of 1 to STW_RELEASE.GO returns a fenced block after a passing self-test, or records the
  reason for refusal in REL_REFUSE. -/
  | stwRelease (p : Port) (kind : BitVec 4) (index : BitVec 8)
    /-- R62: A write of 1 to WARP_LOAD_CTL.BEGIN opens staging of an image of WARP_LOAD_LEN octets for the named slot.
  -/
  | warpLoadBegin (p : Port) (slot : BitVec 2) (live : Bool)
    /-- R62: A write to WARP_LOAD_DATA stages the next 4 image octets. -/
  | warpLoadData (p : Port) (v : Word)
    /-- R62: An armed write of 1 to WARP_LOAD_CTL.COMMIT checks the staged image and starts programming, or refuses it
  with a code. -/
  | warpLoadCommit (p : Port) (v : Verdict)
    /-- R62: A write of 1 to WARP_LOAD_CTL.ABORT discards the staged image. -/
  | warpLoadAbort (p : Port)
    /-- R62: No data write arrives for 10 s, and the staged image is discarded. -/
  | warpStagingTimeout
    /-- R62: Erase, program, read-back and the COMMIT word complete; in PROVISION a warm reset follows, and with LIVE
  set the live records are applied. -/
  | warpCommitDone
    /-- R72: A read of WARP_CLAMP_DATA[3] returns the word of clamp entry IDX and advances IDX by one. -/
  | warpClampDataRead (p : Port)
    /-- R82: A write to a register that has no step of its own is checked for width, keying, range, mode and fence,
  and takes effect in the cycle it is executed. -/
  | registerWrite (p : Port) (addr : BitVec 24) (be : BitVec 4) (v : Word)
    /-- R84: A write of 0xC0A5_1E5D arms the writing port for 1 ms, and any other value disarms it and records a key
  mismatch. -/
  | glbKeygateWrite (p : Port) (v : Word)
    /-- R84: A port's arming lapses 1 ms after the arming write. -/
  | keygateArmExpiry (p : Port)
    /-- R78: A read of a word that holds RC fields returns the word and clears those fields. -/
  | registerReadClear (p : Port) (addr : BitVec 24)
    /-- R81: A read of the lowest word of a wide counter takes a snapshot for the port, and a later higher-word read
  of another counter takes a fresh one. -/
  | wideCounterRead (p : Port) (addr : BitVec 24)
    /-- R86: The scrubber visits the next voted field on an idle or forced fabric cycle and votes its three copies. -/
  | votedFieldScrub
    /-- R88: A vale access gets no reply tally within 50 µs; a read returns all ones and the Watch logs a class C
  event. -/
  | valeAccessTimeout (v : Fin 4)
    /-- R262: A PCIe memory read of BAR0 is executed DW by DW and completed in completions of at most 16 DW. -/
  | pcieMemoryRead (addr : BitVec 24) (dws : Nat)
    /-- R262: A PCIe memory write of BAR0 is executed DW by DW, and a write with poisoned data is dropped and logged.
  -/
  | pcieMemoryWrite (addr : BitVec 24) (data : List (Word × BitVec 4)) (poisoned : Bool)
    /-- R261: A configuration request to the single Type 0 function is served. -/
  | pcieConfigRequest (r : CfgReq)
    /-- R262: A request other than a BAR0 memory access or a configuration request, locked requests included, is
  answered with Unsupported Request. -/
  | pcieUnsupportedRequest
    /-- R263: PCIE_PERST_N resets only the endpoint's link and configuration space. -/
  | pciePerst
    /-- R265: A Clause 45 address frame sets the MMD address and starts the 32-bit prefetch of the word that holds it.
  -/
  | mdioAddressFrame (prtad : BitVec 5) (devad : BitVec 5) (addr : BitVec 16)
    /-- R90: A Clause 45 read frame returns a half of the prefetched word, or 0xFFFF with LATE set when the prefetch
  has not completed. -/
  | mdioReadFrame (prtad : BitVec 5) (devad : BitVec 5)
    /-- R265: A post-read-increment-address frame returns the half and starts the prefetch of the next address. -/
  | mdioPostReadIncrement (prtad : BitVec 5) (devad : BitVec 5)
    /-- R90: A Clause 45 write frame holds a lower half or writes the whole word from both halves; keyed fields are
  treated as unarmed. -/
  | mdioWriteFrame (prtad : BitVec 5) (devad : BitVec 5) (data : BitVec 16)
    /-- R265: The 32-bit read started for an MDIO address completes and is held for the read frame. -/
  | mdioPrefetchComplete
    /-- R267: An SPI frame with command 0x02 and exactly 8 octets executes a 32-bit write when SPI_CS_N rises. -/
  | spiWriteFrame (addr : BitVec 24) (v : Word)
    /-- R267: An SPI frame with command 0x03 executes a read after its fourth octet and returns 0xA5 and the data. -/
  | spiReadFrame (addr : BitVec 24)
    /-- R267: An SPI frame with another command, or a write frame of the wrong length, is ignored and counted in
  FRAME_ERR. -/
  | spiFrameError
    /-- R268: A write of BEGIN to MGMT_RECOV_CTL over SPI in the recovery stage opens staging of a firmware image. -/
  | mgmtRecovBegin (p : Port) (slot : BitVec 2)
    /-- R268: A write to MGMT_RECOV_DATA stages the next 4 octets of the recovery image. -/
  | mgmtRecovData (p : Port) (v : Word)
    /-- R268: A write of COMMIT makes the boot ROM check the staged image and program the slot, or refuse it. -/
  | mgmtRecovCommit (p : Port) (sig : Bool)
    /-- R268: Programming and read-back of the recovery slot complete and DONE is set. -/
  | recoveryCommitDone (ok : Bool)
    /-- R115: A write of 1 to TRK[t].CTL.ENABLE takes an unfenced trunk from DISABLED to AN; a write of 0 quiets the
  line within 10 µs. -/
  | trkEnableWrite (p : Port) (t : Fin 8) (v : Bool)
    /-- R115: A keyed write that changes TRK[t].CTL.MODE abandons the trunk's state and restarts AN. -/
  | trkModeWrite (p : Port) (t : Fin 8) (m : BitVec 3)
    /-- R115: A write of 1 to TRK[t].CTL.RESTART_AN abandons any state other than TEST and starts AN. -/
  | trkRestartAn (p : Port) (t : Fin 8)
    /-- R116: A write of 1 to TRK[t].CTL.RETRAIN in DATA starts fast retrain. -/
  | trkRetrain (p : Port) (t : Fin 8)
    /-- R124: A keyed write of TRK[t].CTL.TEST in MAINTENANCE takes the trunk to TEST with the chosen pattern, or
  leaves it to DISABLED when written 0. -/
  | trkTestWrite (p : Port) (t : Fin 8) (v : BitVec 4)
    /-- R108: Clause 98 auto-negotiation with the CR pages resolves a mode and master, leading to SURVEY_QUIET,
  STD_TRAIN or FAIL_HOLD. -/
  | anComplete (t : Fin 8) (r : AnResult)
    /-- R113: The fixed time of SURVEY_QUIET, ECHO_M or ECHO_S elapses and the trunk moves to the next training state.
  -/
  | trainingStateTimer (t : Fin 8)
    /-- R110: A training frame is received and its InfoField, when valid, drives readiness, state changes, the
  countdown and notices from the peer. -/
  | trainingFrameReceive (t : Fin 8) (info : BitVec 64) (m : FrameMeas)
    /-- R155: A twin member that is ready starts COUNTDOWN when its data codeword 0 will fall on a stream position of
  index 0. -/
  | twinCountdownAlign (t : Fin 8)
    /-- R114: The limit of a training, RETRAIN or RESUME state expires, and the trunk goes to FAIL_HOLD with cause
  0b0001. -/
  | trainingLimitExpiry (t : Fin 8)
    /-- R114: No valid InfoField is received for 64 consecutive expected frames, and the trunk goes to FAIL_HOLD with
  cause 0b0100. -/
  | infofieldLoss (t : Fin 8)
    /-- R113: The hold of FAIL_HOLD elapses, 1 s or 50 ms, and the trunk starts AN again. -/
  | failHoldElapsed (t : Fin 8)
    /-- R96: A standard-mode trunk completes its standard's training and enters DATA. -/
  | stdLinkUp (t : Fin 8)
    /-- R116: A standard-mode link fails under its standard's monitoring, and the trunk goes to FAIL_HOLD with
  FAIL_STATE DATA. -/
  | stdLinkFail (t : Fin 8) (los : Bool)
    /-- R99: A CR codeword is decoded, its AM matched where due, its link-channel message extracted and its margin and
  FEC counts updated. -/
  | crCodewordReceive (t : Fin 8) (st : CwStatus) (blk : BitVec 257) (margin : Int) (lpi : Bool) (part : Bool) (frames : List LineFrame) (adapt : List CoefUpd)
    /-- R116: Four consecutive expected AMs fail to match, and fast retrain or FAIL_HOLD follows. -/
  | amLoss (t : Fin 8)
    /-- R116: UNC_LIM uncorrectable codewords fall within one AM period, and fast retrain or FAIL_HOLD follows. -/
  | uncorrectableBurst (t : Fin 8)
    /-- R116: SNR margin stays below MARGIN_QDB for 1,024 codewords, and fast retrain or FAIL_HOLD follows. -/
  | lowMargin (t : Fin 8)
    /-- R116: The received level stays below the loss-of-signal threshold for 1 µs, and fast retrain or FAIL_HOLD
  follows. -/
  | lossOfSignal (t : Fin 8)
    /-- R118: DATA is not regained 2 ms after the trigger, and the trunk goes to FAIL_HOLD with cause 0b0111. -/
  | fastRetrainTimeout (t : Fin 8)
    /-- R103: A link-channel request gets no reply after 8 AMs; LCH_TIMEOUT is set and the request is given up. -/
  | linkChannelTimeout (t : Fin 8)
    /-- R122: A received SLEEP_REQ is answered with SLEEP_ACK or SLEEP_NAK. -/
  | sleepReq (t : Fin 8) (seq : BitVec 8)
    /-- R122: A received SLEEP_ACK lets the trunk, or a twin as one port, enter SLEEP at the next AM and accept the
  rung. -/
  | sleepAck (t : Fin 8) (seq : BitVec 8)
    /-- R122: A received SLEEP_NAK makes the trunk refuse the rung with reason peer awake and set SLEEP_NAK. -/
  | sleepNak (t : Fin 8) (seq : BitVec 8)
    /-- R120: A transmit direction has had nothing to send for IDLE_US, and the LPI client asserts low-power idle. -/
  | lpiIdleExpiry (t : Fin 8)
    /-- R120: A CR quiet interval of 1 ms ends and refresh codewords are sent, during which the loops adapt. -/
  | lpiQuietExpiry (t : Fin 8)
    /-- R123: A trunk in SLEEP detects a wake tone; a responder answers and resumes, and an initiator stops its
  bursts. -/
  | wakeToneDetect (t : Fin 8)
    /-- R123: An initiator sends its 1 ms wake-tone burst every 10 ms until it detects a tone. -/
  | wakeToneBurst (t : Fin 8)
    /-- R123: No training frames arrive 2 ms after the initiator detects a tone, and it enters RESUME. -/
  | wakeJoinTimeout (t : Fin 8)
    /-- R123: An initiator detects no tone within 1 s and goes to AN. -/
  | wakeNoAnswer (t : Fin 8)
    /-- R21: A trunk slice or drop engine finishes sending a frame from bank 4, freeing credit and stamping it where
  requested. -/
  | frameTransmitComplete (p : Fin 72) (stamp : Stamp)
    /-- R129: A Surveyor result in bank 5 replaces a trunk's reflection list, converted from picoseconds to whole
  symbols. -/
  | surveyResultList (t : Fin 8) (l : List PsReflection)
    /-- R130: A block of the residual search ends, reports its strongest qualifying delay as a finding, and at sweep
  end releases weak windows. -/
  | residualSearchBlock (t : Fin 8) (delay : Nat) (levelHdb : BitVec 8) (levels : List (BitVec 8))
    /-- R131: A target set of window starts is computed from the list and starts a re-placement, or is held pending.
  -/
  | placementCompute (t : Fin 8)
    /-- R132: Every 256 symbols a sliding window moves one symbol toward its target, or stops and turns outgoing if
  its dropped tap is too large. -/
  | windowSlideStep (t : Fin 8) (w : Fin 8)
    /-- R132: Every 16 symbols an outgoing window's coefficients are scaled down, and it parks when its level falls
  below −60 dB. -/
  | windowFadeStep (t : Fin 8) (w : Fin 8) (levelHdb : BitVec 8)
    /-- R132: An outgoing window has faded for 2^20 symbols and parks, freeing it for an incoming target. -/
  | windowFadeLimit (t : Fin 8) (w : Fin 8)
    /-- R132: An incoming window has adapted for 2^18 symbols and becomes active at the DATA step. -/
  | windowIncomingEnd (t : Fin 8) (w : Fin 8) (levelHdb : BitVec 8)
    /-- R133: A window's strongest coefficient has stood outside taps 12 to 20 for 2^16 symbols, and the window slides
  to recentre it. -/
  | windowRecentre (t : Fin 8) (w : Fin 8)
    /-- R135: A host write to EC_WIN[i].START moves the window at once with zero coefficients as incoming, or is
  treated as out of range. -/
  | ecWinStartWrite (p : Port) (t : Fin 8) (w : Fin 8) (start : BitVec 13)
    /-- R135: A write of 0 to EC_CTL.AUTO_PLACE ends re-placement where it stands and discards the pending set. -/
  | ecAutoPlaceOff (p : Port) (t : Fin 8)
    /-- R138: A write to EQ_CTL.CURSOR shifts the FFE coefficients by the change. -/
  | eqCursorWrite (p : Port) (t : Fin 8) (cursor : BitVec 6)
    /-- R144: A write of 0 to FFE_EN holds the FFE at a single tap of 1 at CURSOR at once. -/
  | eqFfeEnWrite (p : Port) (t : Fin 8) (v : Bool)
    /-- R144: A write of 0 to DFE_EN holds every DFE tap at 0 at once. -/
  | eqDfeEnWrite (p : Port) (t : Fin 8) (v : Bool)
    /-- R142: More than 16 of 256 symbols have large errors; adaptation stops for 4,096 symbols and IMPULSE_CNT
  counts. -/
  | impulseDetect (t : Fin 8)
    /-- R142: The 4,096 symbols of the impulse guard pass and adaptation resumes from retained coefficients. -/
  | impulseGuardEnd (t : Fin 8)
    /-- R140: Once per 1,024 or 65,536 symbols the gain loop steps 0.25 dB when slicer power stands more than 0.5 dB
  from target. -/
  | gainLoopCheck (t : Fin 8) (errQdb : Int)
    /-- R141: Once per 65,536 symbols in DATA the convergence flags of EQ_STAT are evaluated. -/
  | convergenceEval (t : Fin 8) (ec : Bool) (ffe : Bool) (dfe : Bool) (timing : Bool)
    /-- R148: Once per 2^22 symbols in DATA the three slicer margins are updated. -/
  | slicerMarginUpdate (t : Fin 8) (upper : BitVec 8) (middle : BitVec 8) (lower : BitVec 8)
    /-- R149: A second of the time base completes and FEC_SEC takes that second's UNC_1S and MAX_1S. -/
  | fecSecondTick (t : Fin 8)
    /-- R145: A write of 1 to TRK[t].COEF_SEL.SNAP copies the named coefficient bank into the readback buffer at one
  symbol instant. -/
  | coefSnap (p : Port) (t : Fin 8)
    /-- R145: A read of TRK[t].COEF_DATA returns the buffer entry at INDEX and advances INDEX. -/
  | coefDataRead (p : Port) (t : Fin 8)
    /-- R229: A twin codeword message from the host die arrives at a member's vale to await its launch instant. -/
  | twinMessageEgress (n : Fin 4) (b : Bool)
    /-- R230: A vale launches a twin position at its grid instant plus DELAY_NS, inverting parity for a message that
  arrived late. -/
  | twinPositionLaunch (n : Fin 4) (b : Bool)
    /-- R160: A member's decoded copy of a position arrives at the host die, is held for the other copy or selected,
  and updates skew once per AM. -/
  | twinCopyArrival (n : Fin 4) (b : Bool) (c : TwinCopy) (arrivalNs : Int)
    /-- R160: The hold for a position's second copy runs out and the position is selected from the copies at hand. -/
  | twinHoldExpiry (n : Fin 4)
    /-- R157: A received HELLO records PEER_ROLE and is checked against the twin's other member, setting WRONG_PEER on
  a mismatch. -/
  | hello (t : Fin 8) (m : HelloMsg)
    /-- R157: At the next index-0 position after the HELLO conditions hold, a SOLO member switches its transmit to the
  stream and enters VERIFY. -/
  | twinSoloSwitch (t : Fin 8)
    /-- R158: A member stays in VERIFY for 16 AM periods, and JOIN_FAIL is set with its cause. -/
  | twinVerifyTimeout (t : Fin 8)
    /-- R167: A write of 1 to QW_CTL.REQ requests a host quiet window, or is refused locally. -/
  | qwHostRequest (p : Port) (t : Fin 8)
    /-- R167: The Assayer, Surveyor or contact care requests a quiet or member window with its own duration and START.
  -/
  | qwDeviceRequest (t : Fin 8) (p : QwPurpose)
    /-- R168: A received QW_REQ is answered with QW_ACK or with QW_NAK and the first reason that applies, master
  winning a collision. -/
  | qwReq (t : Fin 8) (seq : BitVec 8) (payload : BitVec 48)
    /-- R169: A received QW_ACK commits the initiator to the window. -/
  | qwAck (t : Fin 8) (seq : BitVec 8) (payload : BitVec 48)
    /-- R437: A received QW_NAK ends the request, records its reason and schedules the requester's retry. -/
  | qwNak (t : Fin 8) (seq : BitVec 8) (payload : BitVec 48)
    /-- R169: A received QW_CANCEL makes the responder drop its grant. -/
  | qwCancel (t : Fin 8) (payload : BitVec 48)
    /-- R437: The retry time after a refused, timed-out or cancelled window passes and the requester asks again. -/
  | qwRetry (t : Fin 8)
    /-- R170: At the codeword after the AM named by START both ends stop sending codewords, suspend triggers and start
  their pending activities. -/
  | qwWindowOpen (t : Fin 8)
    /-- R170: The window's duration ends, transmission resumes on the grid, and a member window's member goes to
  VERIFY. -/
  | qwWindowClose (t : Fin 8)
    /-- R171: No AM has matched two periods after a window ends, and the triggers of R116 apply again. -/
  | qwAmResumeTimeout (t : Fin 8)
    /-- R176: A write of 1 to DRP[d].CTL.ENABLE takes the drop to SETTLE; a write of 0 takes it to DISABLED with the
  line quiet. -/
  | drpEnableWrite (p : Port) (d : Fin 64) (v : Bool)
    /-- R176: A keyed write that changes DRP[d].CTL.MODE restarts the drop and discards its bank 4 frames. -/
  | drpModeWrite (p : Port) (d : Fin 64) (v : Bool)
    /-- R176: A write of 1 to DRP[d].CTL.RESTART takes the drop through DISABLED to SETTLE. -/
  | drpRestart (p : Port) (d : Fin 64)
    /-- R177: A keyed write of DRP[d].CTL.TEST in MAINTENANCE takes the drop to TEST with the chosen pattern, or ends
  the test when written 0. -/
  | drpTestWrite (p : Port) (d : Fin 64) (v : BitVec 4)
    /-- R181: A write to CYC_CTL changes TO_TIMER, NODES or MIN_CYCLE_US at once, ending the cycle early where NODES
  falls below the running ID. -/
  | drpCycCtlWrite (p : Port) (d : Fin 64) (v : Word)
    /-- R176: 1 ms of SETTLE passes and the drop enters CYCLE. -/
  | dropSettleElapsed (d : Fin 64)
    /-- R179: A cycle starts with a BEACON and opportunity 0 follows, in which the device sends its frames. -/
  | dropBeacon (d : Fin 64)
    /-- R179: An unused opportunity ends after TO_TIMER bit times or TO_SYM symbols, and the next opportunity or the
  next beacon wait follows. -/
  | opportunityTimeout (d : Fin 64)
    /-- R185: A frame received in 10BASE-T1S mode is classified by source and opportunity, delivered to its ingress
  queue or discarded, and counted. -/
  | dropFrameReceive (d : Fin 64) (r : DropRx) (more : Bool)
    /-- R184: A collision on receive or on the device's own transmit is counted and handled, with resend or discard of
  the device's frame. -/
  | dropCollision (d : Fin 64)
    /-- R187: A reception runs 2 ms without an end; it is discarded, the slot is barred and a class U event is logged.
  -/
  | dropJabber (d : Fin 64)
    /-- R187: A barred slot is re-admitted 1 s after its cut-off, or cut off again if the reception continues. -/
  | slotReadmit (d : Fin 64) (slot : Fin 32) (still : Bool)
    /-- R188: Carrier stays on the line for JAM_MS, and the drop enters JAM. -/
  | dropJamEntry (d : Fin 64)
    /-- R188: The line is free of carrier for 1 ms, and the next cycle starts with a BEACON. -/
  | dropJamEnd (d : Fin 64)
    /-- R189: The drop's transmitter stays on 2 ms; the line is silenced, ENABLE is cleared and a class F event is
  logged with its fixed reaction. -/
  | dropTxStuck (d : Fin 64)
    /-- R183: After the last opportunity the beacon is held while a calibration or survey part uses the drop engine.
  -/
  | deferralStart (d : Fin 64)
    /-- R183: The deferral's activity ends and the held BEACON is sent. -/
  | deferralEnd (d : Fin 64)
    /-- R192: The armed energy detector of a sleeping drop fires; EVT.WAKE is set and a wake is raised. -/
  | dropEnergyWake (d : Fin 64)
    /-- R192: After it has fired, the drop energy detector re-arms once the line has been free of signal for 1 ms. -/
  | detectorRearm (d : Fin 64)
    /-- R213: The Long-Drop receiver detects carrier, starts from the slot's stored loops and searches for the sync
  word. -/
  | ldCarrierDetect (d : Fin 64)
    /-- R213: No sync is found within 160 symbols of carrier detect; NO_SYNC is counted and the receiver waits for
  loss of carrier. -/
  | ldSyncTimeout (d : Fin 64)
    /-- R214: The header after a sync is checked; a valid one starts reception, and a failing one falls back to the
  second correlator or a fresh search. -/
  | ldHeaderCheck (d : Fin 64) (sync : BitVec 48) (hdr : BitVec 64) (second : Option (BitVec 48))
    /-- R204: A Long-Drop burst ends; its codewords are decoded, frames delivered or discarded and slot statistics
  updated. -/
  | ldBurstEnd (d : Fin 64) (b : LdBurst)
    /-- R205: Carrier is lost on a Long-Drop segment, ending a burst or opportunity and starting the next opportunity.
  -/
  | ldLossOfCarrier (d : Fin 64)
    /-- R215: Received power rises more than CAPTURE_DB above the preamble's, and a capture search is armed for 160
  symbols. -/
  | ldCaptureArm (d : Fin 64)
    /-- R215: The capture search finds a sync; the weaker burst is aborted and the stronger one received. -/
  | ldCaptureSync (d : Fin 64) (sync : BitVec 48) (b : LdBurst)
    /-- R215: The capture search finds nothing; CAPTURE_MISS and COLL_CNT are counted and the weaker burst goes on. -/
  | ldCaptureSearchEnd (d : Fin 64)
    /-- R145: A write of 1 to LD_COEF_SEL.SNAP copies the coefficients of the last burst into the readback buffer. -/
  | ldCoefSnap (p : Port) (d : Fin 64)
    /-- R145: A read of LD_COEF_DATA returns tap INDEX and advances INDEX. -/
  | ldCoefDataRead (p : Port) (d : Fin 64)
    /-- R219: A data-lane block is received, destuffed, descrambled and decoded, and its segments, marker or
  uncorrectable result are handled. -/
  | passBlockReceive (v : Fin 4) (down : Bool) (lane : Fin 3) (blk : PassBlock)
    /-- R223: 64 consecutive valid headers at one position lock a data lane. -/
  | passLaneLock (v : Fin 4) (down : Bool) (lane : Fin 3)
    /-- R223: 16 of 64 headers are invalid; the lane loses lock and hunts again. -/
  | passLaneLockLoss (v : Fin 4) (down : Bool) (lane : Fin 3)
    /-- R225: At the next marker the sender changes its set of lanes to those reported locked, setting CAPACITY when
  fewer than three. -/
  | stripingSetChange (v : Fin 4) (down : Bool)
    /-- R223: A write of 1 to PASS[v].CTL.RETRAIN drops lock on every data lane of the vale to hunt again. -/
  | passRetrain (p : Port) (v : Fin 4)
    /-- R226: Each second with no lane in a direction, a class U event is logged against the vale. -/
  | passNoLaneTick (v : Fin 4)
    /-- R20: A frame from a vale arrives on the host die, is checked by MACsec and enqueued in its ingress queue, or
  discarded for want of space. -/
  | passIngressFrame (v : Fin 4) (bank : Fin 8) (clear : Option (List Byte))
    /-- R228: An egress frame from the host die arrives in bank 4 of its vale for its port. -/
  | passEgressFrame (v : Fin 4)
    /-- R241: A BEACON tally is received in beacon mode, showing the sender's rung and keeping the tally path alive.
  -/
  | beacon (v : Fin 4) (down : Bool)
    /-- R241: Every 62.5 ms in beacon mode each end sends a BEACON tally. -/
  | beaconSend (v : Fin 4) (down : Bool)
    /-- R234: An ACK tally acknowledges a request of the named TYPE. -/
  | ack (v : Fin 4) (down : Bool) (type : BitVec 8) (seq : BitVec 8)
    /-- R19: A vale executes a register read request in issue order and answers REG_RD_RSP. -/
  | regRdReq (v : Fin 4) (seq : BitVec 8)
    /-- R19: A vale executes a register write request with its arming result and answers REG_WR_RSP. -/
  | regWrReq (v : Fin 4) (seq : BitVec 8)
    /-- R19: The reply to a vale read arrives and completes the read on its management port. -/
  | regRdRsp (v : Fin 4) (seq : BitVec 8)
    /-- R19: The reply to a vale write arrives and completes the write. -/
  | regWrRsp (v : Fin 4) (seq : BitVec 8)
    /-- R21: A CREDIT tally returns cumulative credit per port, letting the Miller release further frames. -/
  | credit (v : Fin 4) (ls : List (Fin 18))
    /-- R238: A vale sends CREDIT for a port after 2 KiB has been returned or 10 µs after any return. -/
  | creditReport (v : Fin 4) (ls : List (Fin 18))
    /-- R225: A LANE tally reports which data lanes are locked at the sender's receiver. -/
  | lane (v : Fin 4) (down : Bool)
    /-- R238: An end sends LANE on every change of lock and every 1 ms. -/
  | laneReport (v : Fin 4) (down : Bool)
    /-- R243: Once per millisecond in Run, Hush and Still the host die sends TIME_SYNC to each vale. -/
  | timeExchangeTick (v : Fin 4) (t1 : Int)
    /-- R243: A vale receives TIME_SYNC, takes T2 and answers TIME_DREQ with T3. -/
  | timeSync (v : Fin 4) (t2 : Int) (t3 : Int)
    /-- R243: The host die receives TIME_DREQ, takes T4 and answers TIME_DRSP. -/
  | timeDreq (v : Fin 4) (seq : BitVec 8) (t4 : Int)
    /-- R243: A vale receives TIME_DRSP, computes delays and offset, and disciplines its copy of the time base. -/
  | timeDrsp (v : Fin 4)
    /-- R237: No TIME_DRSP arrives 12 µs after TIME_DREQ, and the vale abandons the exchange. -/
  | timeDreqAbandon (v : Fin 4)
    /-- R237: A FAULT tally from a vale reaches the host die and its error is recorded by the Watch under the named
  source. -/
  | fault (v : Fin 4) (seq : BitVec 8) (src : Fin 512) (cls : BitVec 2) (lost : Bool) (kind : BitVec 8) (detail : Word)
    /-- R396: An EVT tally reports newly set and enabled vale event bits, which feed the interrupt vectors. -/
  | evt (v : Fin 4) (seq : BitVec 8) (l : Fin 18)
    /-- R340: A CMD tally with AGENT Surveyor and OP pass makes the vale run a reflectometry pass on the port. -/
  | cmdSurveyPass (v : Fin 4) (seq : BitVec 8)
    /-- R335: A CMD tally with OP pulse makes the vale run a contact-care pulse. -/
  | cmdSurveyPulse (v : Fin 4) (seq : BitVec 8)
    /-- R329: A CMD tally with OP loop makes the vale run a loop measurement only. -/
  | cmdSurveyLoop (v : Fin 4) (seq : BitVec 8)
    /-- R340: A CMD tally with OP abort stops the pass or pulse in progress on the port. -/
  | cmdSurveyAbort (v : Fin 4) (seq : BitVec 8)
    /-- R341: A CMD tally with OP arm capture makes the next pass store its raw samples. -/
  | cmdSurveyArmCapture (v : Fin 4) (seq : BitVec 8)
    /-- R345: A CMD tally to the vale's Assayer agent starts or aborts a calibration in the vale. -/
  | cmdAssayerAgent (v : Fin 4) (seq : BitVec 8)
    /-- R48: A CMD tally starts a self-test of a vale block. -/
  | cmdSelfTest (v : Fin 4) (seq : BitVec 8)
    /-- R30: A CMD tally fences a vale port or the whole vale, quieting its lines. -/
  | cmdFence (v : Fin 4) (seq : BitVec 8)
    /-- R50: A CMD tally returns a fenced vale block to service. -/
  | cmdRelease (v : Fin 4) (seq : BitVec 8)
    /-- R234: A CMD_RSP reply reports a command accepted, refused or busy. -/
  | cmdRsp (v : Fin 4) (seq : BitVec 8)
    /-- R340: A CMD_DONE tally reports a vale command's result, updating Surveyor or Assayer status and sending any
  notice frame. -/
  | cmdDone (v : Fin 4) (seq : BitVec 8)
    /-- R407: A vale asks its clients about a rung, sends its shadow image before accepting Keep or Night, and answers
  accept, refuse or delay. -/
  | rungReq (v : Fin 4) (seq : BitVec 8)
    /-- R407: A vale's answer to a rung request reaches the power manager, which commits, abandons or waits. -/
  | rungRsp (v : Fin 4) (seq : BitVec 8)
    /-- R407: A vale's final answer after a delay reaches the power manager. -/
  | rungDone (v : Fin 4) (seq : BitVec 8)
    /-- R411: A WAKE tally carries a wake from a vale to the host die, or from the host die to a vale in beacon mode.
  -/
  | wake (v : Fin 4) (down : Bool) (seq : BitVec 8)
    /-- R236: A request from the host die has had no reply for 12 µs and is resent with the same SEQ. -/
  | tallyResend (v : Fin 4) (seq : BitVec 8)
    /-- R236: A host request is given up 48 µs after its first send; GIVEN_UP is counted and the fabric answers. -/
  | tallyGiveUp (v : Fin 4) (seq : BitVec 8)
    /-- R236: A SEQ gap stays open 40 µs; the missing SEQ is skipped and held requests execute in order. -/
  | tallyGapSkip (v : Fin 4) (down : Bool)
    /-- R237: A vale resends an unanswered FAULT, EVT, CMD_DONE, RUNG_DONE or WAKE every 12 µs. -/
  | valeTallyResend (v : Fin 4)
    /-- R239: A tally lane loses lock and tallies move to the data lanes while FALLBACK_EN is 1. -/
  | tallyLaneUnlock (v : Fin 4) (down : Bool)
    /-- R240: A tally lane stays unlocked beyond 10 ms, or no valid tally arrives for 1 s in beacon mode, and the vale
  is fenced. -/
  | tallyLaneLost (v : Fin 4)
    /-- R245: A vale load above 10.5 W for 1 ms or a bus below 4.50 V for 10 µs fences the vale and removes its power.
  -/
  | valePowerFault (v : Fin 4)
    /-- R249: A host-lane receiver reaches lock, its SEQ start is set and the lane becomes up. -/
  | hostLaneLock (n : Fin 6)
    /-- R250: A host lane's LOCK falls; a record in transmission is cut and the lane hunts again. -/
  | hostLaneLockLoss (n : Fin 6)
    /-- R250: A write of 1 to HLN[n].CTL.RELOCK clears LOCK, cuts any record and hunts again. -/
  | hlnRelock (p : Port) (n : Fin 6)
    /-- R250: A keyed write to HLN[n].CTL.RATE or PRECODE changes the coding, clears LOCK and hunts again. -/
  | hlnRateWrite (p : Port) (n : Fin 6) (rate : Bool) (precode : Bool)
    /-- R250: A write to HLN[n].CTL.ENABLE brings a lane into or out of use. -/
  | hlnEnableWrite (p : Port) (n : Fin 6) (v : Bool)
    /-- R257: An egress record from the host is checked in order, then enqueued or discarded with any DISC report. -/
  | hostRecordReceive (n : Fin 6) (waybill : BitVec 64) (frame : List Byte) (aborted : Bool)
    /-- R282: A host-lane transmitter that can take a record sends a due stamp report or the head record of the chosen
  ingress queue. -/
  | hostLaneSchedule (n : Fin 6) (errs : List PsErr)
    /-- R252: A host-lane transmitter with nothing to send for IDLE_US, or in Hush, enters electrical idle at a
  boundary. -/
  | hostLaneIdleEntry (n : Fin 6)
    /-- R274: A queue that must page writes its first whole bale that lies KEEP cells behind the head to a bale slot.
  -/
  | pageOutStart
    /-- R274: A bale's page-out write completes and its resident cells are freed. -/
  | pageOutDone (q : Fin 4608)
    /-- R275: A queue's next bale is requested once its head window is low and 32 cells are free. -/
  | baleFetchRequest (q : Fin 4608)
    /-- R275: A fetched bale arrives, joins the head window in order and frees its bale slot. -/
  | baleFetchDone (q : Fin 4608) (bad : List (Fin 128))
    /-- R280: The Miller releases frames to a drop, isochronous first, within the drop's share, pacing and shapers. -/
  | dropRelease (d : Fin 64) (errs : List PsErr)
    /-- R281: The Miller releases a trunk's frames by strict priority and deficit round-robin within its credit or
  stream-former space. -/
  | trunkRelease (t : Fin 8) (errs : List PsErr)
    /-- R277: Panic has been raised without a break for PANIC_MAX_US; PANIC_LONG is set and a class U event is logged
  against the granary controller. -/
  | panicLong
    /-- R278: A paced queue's release interval passes and its head frame becomes eligible. -/
  | paceDue (q : Fin 4608)
    /-- R285: An armed write of 1 to MILL_FLUSH.GO discards every frame of queue Q, or is refused for an internal
  queue. -/
  | millFlush (p : Port) (q : BitVec 13)
    /-- R289: A vale scrubber reads the next word of a bank, writing back a corrected word or fencing the master on an
  uncorrectable one. -/
  | valeBankScrub (v : Fin 4) (bank : Fin 8) (f : WordFind)
    /-- R291: The packet-store scrubber reads the next word, writes back corrections and poisons cells with
  uncorrectable words. -/
  | psScrubRead (f : Option PsErr) (forced : Bool)
    /-- R297: A one-burst request from a port is accepted into its channel and bank queue under the hazard rules,
  waking the granary from self-refresh. -/
  | granaryRequest (cls : Fin 5) (burst : Fin 29360128) (data : Option (List Byte))
    /-- R298: For each command slot a channel picks a refresh or a request by drain, starvation, panic, class, row hit
  and bank rotation. -/
  | granaryPick (ch : Fin 2) (f : BurstFind)
    /-- R301: A bank's refresh falls due at the interval reported by the die. -/
  | granaryRefreshDue (ch : Fin 2) (bank : Fin 16)
    /-- R301: Every 16 ms the refresh-rate mode register is read, and HOT is set with a class U event when it reports
  over limit. -/
  | granaryTempPoll (high : Bool)
    /-- R302: No request has been queued for AUTO_US without panic or training, and the granary enters self-refresh.
  -/
  | granarySelfRefreshEntry
    /-- R304: A segment's fill with zero data and valid check octets ends and its FILLED bit is set. -/
  | segmentFillDone (seg : Fin 8)
    /-- R307: A write of 1 to GRAN_FREQ.REQ requests a change to POINT, aborting any training in progress. -/
  | granFreqReq (p : Port) (point : BitVec 2)
    /-- R307: Panic clears, or 1 ms passes, and the frequency change proceeds to drain and self-refresh. -/
  | freqChangePanicWait
    /-- R307: The clock switch completes and the granary exits self-refresh at the new point, or training starts for
  an untrained point. -/
  | freqChangeDone
    /-- R305: Training of a frequency point passes and TRAINED is set, or fails and fences the granary. -/
  | granaryTrainingDone (ok : Bool)
    /-- R306: A write of 1 to GRAN_TRN_CTL.GO runs the pattern generator and compare unit over the named range. -/
  | granTrnGo (p : Port) (v : Word)
    /-- R306: A training run ends and GRAN_TRN_ERR records the failing bits and beats. -/
  | granTrnRunDone (beats : Nat) (dq : BitVec 16)
    /-- R294: A keyed write to GRAN_CTL.ORDER takes effect at once, or is treated as reserved while live data is held.
  -/
  | granOrderWrite (p : Port) (v : Word)
    /-- R296: A read of the granary aperture fetches the burst and returns the addressed word. -/
  | apertureRead (p : Port) (word : Fin 2097152) (f : BurstFind)
    /-- R296: A write to the granary aperture merges the word into its burst, or is dropped for bale slots, staging or
  fence. -/
  | apertureWrite (p : Port) (word : Fin 2097152) (v : Word) (f : BurstFind)
    /-- R310: The granary scrubber reads the next burst, correcting it, poisoning it or recording a weak row. -/
  | granaryScrubRead (f : BurstFind) (owner : Option (Fin 4608 × Nat))
    /-- R312: REFCLK is absent for 1 µs; the device moves to the resonator without a phase step and logs a class U
  event. -/
  | refclkLoss
    /-- R312: A write of 1 to TIME_CTL.REF_RESTORE returns the time base to REFCLK while it is present. -/
  | timeRefRestore (p : Port) (present : Bool)
    /-- R313: An armed write of 1 to TIME_STEP.GO loads TIME_SET into the time base and cancels any slew. -/
  | timeStep (p : Port)
    /-- R313: A write to TIME_ADJ_FREQ changes the rate from the next host-reference cycle. -/
  | timeAdjFreqWrite (p : Port) (v : Word)
    /-- R313: A write to TIME_ADJ_PHASE starts a slew of the offset at no more than 50 ppm. -/
  | timeAdjPhaseWrite (p : Port) (v : Word)
    /-- R319: A rising edge on PPS_IN is stamped and accepted, or ignored when it comes within 0.5 s of the last
  accepted edge. -/
  | ppsInEdge (ps : Int)
    /-- R319: No PPS_IN edge has been accepted for 1.5 s and PPS_LOST is set. -/
  | ppsLost
    /-- R321: The nanoseconds of the time base wrap and PPS_OUT rises, unless within 0.5 s of its last rise. -/
  | ppsOutRise
    /-- R321: PPS_OUT falls after WIDTH_NS. -/
  | ppsOutFall
    /-- R340: A port's survey period passes and the scheduler seeks a window or runs the pass, taking the line
  estimates from a snapshot. -/
  | surveyPassDue (p : Fin 72) (est : Option (BitVec 16 × BitVec 16))
    /-- R340: A write of 1 to SURV_TRK[t].CTL.START or SURV_DRP[d].CTL.START makes a pass due at once. -/
  | survStart (pt : Port) (p : Fin 72) (est : Option (BitVec 16 × BitVec 16))
    /-- R327: A TDR pass completes and reports its peaks and any capture, or a cut-short pass reports nothing. -/
  | surveyPassDone (p : Fin 72) (peaks : List PsReflection) (cutShort : Bool) (capture : List (BitVec 16))
    /-- R332: At OFFSET_US after the window opens the responder closes its loop switch. -/
  | loopClosureStart (t : Fin 8)
    /-- R332: At OFFSET_US + HOLD_US the responder opens its loop switch. -/
  | loopClosureEnd (t : Fin 8)
    /-- R329: A loop measurement yields LOOP and CONTACT, sends LOOP_RESULT and may start or end a contact-care
  treatment. -/
  | loopMeasurementDone (t : Fin 8) (loop : BitVec 16)
    /-- R332: A received LOOP_REQ is answered LOOP_ACK or LOOP_NAK, arranging a closure interval in the window. -/
  | loopReq (t : Fin 8) (seq : BitVec 8) (payload : BitVec 48)
    /-- R332: A received LOOP_ACK lets the requester drive current inside the interval. -/
  | loopAck (t : Fin 8) (seq : BitVec 8) (payload : BitVec 48)
    /-- R332: A received LOOP_NAK makes the requester skip the loop measurement and pulse and count NO_LOOP. -/
  | loopNak (t : Fin 8) (seq : BitVec 8) (payload : BitVec 48)
    /-- R331: A received LOOP_RESULT records the peer's LOOP in PEER_MOHM. -/
  | loopResult (t : Fin 8) (payload : BitVec 48)
    /-- R335: 30 µs after a contact-care window opens the wetting current ramps up to CC_MA. -/
  | contactCarePulseStart (t : Fin 8)
    /-- R336: The pulse ramps down, the loop is measured and the treatment ends in success, failure or a further
  window. -/
  | contactCarePulseEnd (t : Fin 8) (loop : BitVec 16)
    /-- R335: The loop driver stands at its 6 V compliance for 20 µs; current ramps down and LOOP_OPEN is set. -/
  | loopCompliance (t : Fin 8)
    /-- R336: A write of 1 to CC_CTL.CLEAR clears CC_STAT.FAIL. -/
  | survCcClear (p : Port) (t : Fin 8)
    /-- R341: A write of 1 to SURV_CAP_CTL.FREE releases capture IDX. -/
  | survCapFree (p : Port) (idx : Fin 8)
    /-- R338: A 1 ms window of shield current is measured, and 100 windows above SHIELD_LIM set SHIELD with a class C
  event. -/
  | shieldSample (t : Fin 8) (dc : Int) (ac : Nat)
    /-- R339: Temperatures and voltages are sampled, setting ENV, HOT or a class U event when limits are exceeded. -/
  | sensorSample (host : List (BitVec 16)) (vale : List (List (BitVec 16))) (power : Word)
    /-- R414: A vale temperature reads 130 °C or more for 1 ms and the vale's power is removed under an over-
  temperature fence. -/
  | valeOvertempCut (v : Fin 4)
    /-- R344: An item's period passes, its temperature moves by TEMP_DC, or 60 s pass after a rejection, and the item
  falls due. -/
  | assayItemDue (n : Fin 113)
    /-- R344: An armed write of 1 to ASSAY_RUN.GO makes ITEM due at once and forces a trunk calibration. -/
  | assayRunGo (p : Port) (item : BitVec 8)
    /-- R350: An armed write of 1 to ASSAY_ACCEPT.GO skips the repeat test for ITEM's next result. -/
  | assayAcceptGo (p : Port) (item : BitVec 8)
    /-- R345: A due item whose place is available starts calibrating after CALREF is checked. -/
  | calibrationStart (n : Fin 113) (calref : BitVec 16)
    /-- R346: Once per second while CALREF is out of range it is measured again. -/
  | calrefRecheck (calref : BitVec 16)
    /-- R350: A calibration ends and its result is accepted and written, or rejected and counted. -/
  | calibrationDone (n : Fin 113) (res : List CalVal) (temp : Int)
    /-- R353: The accepted result's flash record is written and the correction starts to slew, or a failed write
  counts as a rejection. -/
  | calRecordWritten (n : Fin 113) (ok : Bool)
    /-- R355: Every 10 µs the correction moves one of 256 steps toward its new value. -/
  | calSlewStep (n : Fin 113)
    /-- R358: An armed write of 1 to SEC_LC_REQ.GO requests a life-cycle change, which the Steward makes under R359 or
  refuses. -/
  | secLcReq (p : Port) (target : BitVec 3) (confirm : BitVec 8)
    /-- R364: A tamper source fires; LATCH and SRC are set, the strongroom is wiped, and the device enters QUARANTINE
  with a class F event. -/
  | tamperDetect (src : Fin 5) (active : Bool)
    /-- R367: An armed write of 1 to SEC_PROV_CTL.GENKEY in BLANK and PROVISION starts identity-key generation. -/
  | secGenkey (p : Port)
    /-- R367: Key generation completes and the public key appears in SEC_ID_PUB. -/
  | genkeyDone (pub : BitVec 768)
    /-- R370: A write of 1 to SEC_LOAD_CTL.BEGIN opens staging of a bundle or firmware image. -/
  | secLoadBegin (p : Port) (target : BitVec 2)
    /-- R370: A write to SEC_LOAD_DATA stages the next 4 octets. -/
  | secLoadData (p : Port) (v : Word)
    /-- R370: An armed write of 1 to SEC_LOAD_CTL.COMMIT submits the staged bundle or firmware for checking. -/
  | secLoadCommit (p : Port)
    /-- R370: A write of 1 to SEC_LOAD_CTL.ABORT discards the staged data. -/
  | secLoadAbort (p : Port)
    /-- R370: Staging receives no data for 10 s and is discarded. -/
  | secLoadTimeout
    /-- R369: A bundle is accepted whole, raising the bundle floor and loading its keys, or refused with a reason. -/
  | bundleCommitDone (v : Verdict)
    /-- R372: A firmware slot is verified and, for slot 2, slot 1 is retired, or the image is refused. -/
  | firmwareCommitDone (sig : Bool) (ok : Bool)
    /-- R373: An armed write of 1 to SEC_FW_CTL.ROLL_FWD raises the anti-rollback count, or is refused. -/
  | secRollFwd (p : Port)
    /-- R375: A write of 1 to SEC_ATT_CTL.GO requests an attestation report, or is refused. -/
  | secAttGo (p : Port)
    /-- R375: The signed report is ready in SEC_ATT_REPORT and DONE is set. -/
  | attestationDone
    /-- R381: An MKA frame for a CA reaches the Steward, which acts as key server. -/
  | mkaFrameReceive (e : Fin 2056) (peer : BitVec 96) (installed : Bool) (used : Bool)
    /-- R381: Every 2 s the Steward sends MKA hellos for each CA in use. -/
  | mkaHelloTick
    /-- R381: A peer is not heard for the 6 s life time and leaves the CA. -/
  | mkaLifeExpiry (e : Fin 2056) (peer : BitVec 96)
    /-- R382: A write of 1 to MSEC[e].CTL.ROTATE requests a SAK rotation. -/
  | msecRotate (p : Port) (e : Fin 2056)
    /-- R382: LIFE_H hours pass since the SAK was installed and a rotation starts. -/
  | sakLifetimeExpiry (e : Fin 2056)
    /-- R382: Every live peer has installed the new SAK; transmit changes AN and SEC_CNT[5] counts. -/
  | sakRotationDone (e : Fin 2056)
    /-- R382: The old receive SA is removed after each peer sends under the new AN, or after 10 s. -/
  | oldSaRetire (e : Fin 2056)
    /-- R387: An error is recorded in its source's slot with a log entry, pins and the reaction, or lost when the slot
  is held. -/
  | watchErrorRecord (src : Fin 512) (kind : BitVec 8) (detail : Word)
    /-- R391: A grace timer expires and LATER is applied with a kind 0xF0 entry, or only logged in QUARANTINE. -/
  | graceExpiry (src : Fin 512)
    /-- R387: A write of 1 to WATCH_SLOT[src].HDR.VALID releases the slot and stops its grace timer. -/
  | watchSlotRelease (p : Port) (src : Fin 512)
    /-- R395: The minimum width of FLT_HOST_N ends, and the pin rises unless the latch is set. -/
  | fltHostWidthEnd
    /-- R395: A write of 1 to WATCH_PIN.HOST_CLR clears the latch holding FLT_HOST_N low. -/
  | watchHostClr (p : Port)
    /-- R396: A write of 1 to a WATCH_IRQ.REARM bit resends that vector while its condition holds. -/
  | watchIrqRearm (p : Port) (bits : BitVec 16)
    /-- R398: A write of a SEQ to WATCH_LOG_SEL selects a ring entry for WATCH_LOG_DATA. -/
  | watchLogSelect (p : Port) (seq : Word)
    /-- R399: A write to WATCH_LOG_CTL.INDEX with ARCH 1 selects an archive entry and clears READY. -/
  | archiveSelect (p : Port) (index : BitVec 12)
    /-- R399: The selected archive entry has been fetched from flash and READY rises. -/
  | archiveReady
    /-- R399: The Steward copies a class F entry to the flash archive, overwriting the oldest. -/
  | archiveCopy
    /-- R405: A write to PWR_LOWEST[c] changes a client's vote and recomputes the domain targets. -/
  | pwrLowestWrite (p : Port) (c : Fin 75) (rung : BitVec 3)
    /-- R405: A write to PWR_CTL.NIGHT_EN makes Night votes count or count as Keep, recomputing targets. -/
  | pwrNightEnWrite (p : Port) (v : Bool)
    /-- R407: The power manager asks every client of a domain about entry to its deeper target. -/
  | rungEntryAttempt (dom : Fin 5)
    /-- R402: A committed entry completes its entry time and the domain is at the new rung, applying any pending
  request. -/
  | rungEntryDone (dom : Fin 5)
    /-- R407: An entry has not committed DELAY_MS after it was asked and is refused with reason 0x0D. -/
  | rungDelayTimeout (dom : Fin 5)
    /-- R407: RETRY_MS after a refusal the power manager attempts the entry again. -/
  | rungRetry (dom : Fin 5)
    /-- R406: A climb to a shallower target ends after the exit time and the domain serves at its new rung, drops
  resuming their beacons. -/
  | rungClimbDone (dom : Fin 5)
    /-- R410: An enabled wake source is detected; all domains climb to Run, LAST is recorded and the hold starts. -/
  | wakeSourceDetect (code : Fin 8)
    /-- R410: WAKE_N is held low for 1 µs and, while armed, counts and raises a wake. -/
  | wakeNAssert
    /-- R410: WAKE_N has been high for 1 ms after a wake and its detector re-arms. -/
  | wakeNRearm
    /-- R410: A write of 1 to PWR_TIMER_CTL.EN loads LEFT from TICKS and starts the always-on timer. -/
  | pwrTimerStart (p : Port) (periodic : Bool)
    /-- R410: PWR_TIMER_LEFT reaches 0; EXPIRED is set, the timer reloads or stops, and a wake is raised. -/
  | pwrTimerExpiry
    /-- R411: HOLD_MS passes after a wake and entries may be attempted again. -/
  | wakeHoldEnd
    /-- R416: VIN falls below 10.8 V and VIN_LOW is set, with no rung change. -/
  | vinLow
    /-- R239: A tally lane gains synchronisation, whether at BOOT step 9 after the vale transformer is powered or
  after a loss, and tallies leave the data-lane fallback. -/
  | tallyLaneLock (v : Fin 4) (down : Bool)
    /-- R113: A valid Clause 98 page from the far end is received in AN, giving AN a peer and starting the 60 ms
  attempt limit. -/
  | anPageReceive (t : Fin 8)
    /-- R325: At 100 µs (master) or 5,100 µs (slave) after entry to SURVEY_QUIET, the vale's Surveyor starts its
  reflectometry pass. -/
  | surveyQuietPassStart (t : Fin 8)
    /-- R123: The responder's single 1 ms answering tone ends and it enters RESUME. -/
  | wakeToneAnswerEnd (t : Fin 8)
    /-- R263: The PCIe link completes training, or leaves L1, and LINK_UP in MGMT_PCIE_STAT changes. -/
  | pcieLinkUp (up : Bool) (speed : BitVec 4) (width : BitVec 2)
    /-- R154: The host die reaches the next instant of a twin's stream grid, forms that position's message and, with
  no JOINED member, delivers the position as MISSING. -/
  | twinGridPosition (n : Fin 4)
    /-- R436: A shaper's token bucket, filling at SHAPE_KBPS, returns to non-negative and its class becomes eligible
  again for release. -/
  | shaperBucketRefill (p : Fin 72) (c : Fin 8)
    /-- R299: An open granary row sees no access to its bank for ROW_IDLE_NS and is closed. -/
  | openRowIdleClose (ch : Fin 2) (bank : Fin 16)
    /-- R336: A pulse ages out of the last 24 h of the time base, the count falls below DAY_MAX, DAY_HELD clears and
  the waiting treatment requests its window. -/
  | contactCareDayHeldEnd (t : Fin 8)
    /-- R96: A trunk in a standard mode receives a frame, stamps it at the wire and writes it to its receive bank for
  the pass. -/
  | stdFrameReceive (t : Fin 8) (f : LineFrame)
  deriving DecidableEq, Repr

end Sys2Proof
end

