-- ==== Sys2Proof/Machine/Tbl.lean ====
section
/-! DEFINITION. Sparse tables: a sorted list of (key, value) pairs that lists no entry equal to the default. -/

namespace Sys2Proof.Machine

/-- A sparse table. Keys rise strictly and no value equals the table's default, so equal tables are equal data. -/
abbrev Tbl (α : Type) := List (Nat × α)

/-- The value at key `k`; an unlisted key holds the default `d`. -/
def tget {α : Type} (d : α) : Tbl α → Nat → α
  | [], _ => d
  | (i, v) :: l, k => if i = k then v else tget d l k

/-- Every entry but the one at key `k`. -/
def terase {α : Type} : Tbl α → Nat → Tbl α
  | [], _ => []
  | (i, v) :: l, k => if i = k then terase l k else (i, v) :: terase l k

/-- Put `(k, v)` before the first larger key. -/
def tinsert {α : Type} (k : Nat) (v : α) : Tbl α → Tbl α
  | [] => [(k, v)]
  | (i, w) :: l => if k < i then (k, v) :: (i, w) :: l else (i, w) :: tinsert k v l

/-- Write `v` at key `k`; writing the default removes the entry. -/
def tset {α : Type} [DecidableEq α] (d : α) (l : Tbl α) (k : Nat) (v : α) : Tbl α :=
  if v = d then terase l k else tinsert k v (terase l k)

/-- Keys rise strictly. -/
def tsorted {α : Type} : Tbl α → Bool
  | [] => true
  | [_] => true
  | (i, _) :: (j, w) :: l => decide (i < j) && tsorted ((j, w) :: l)

/-- The canonical form of a table with default `d`. -/
def twf {α : Type} [DecidableEq α] (d : α) (l : Tbl α) : Bool :=
  tsorted l && l.all fun e => decide (e.2 ≠ d)

/-- Replace element `i` of a list; a list without an element `i` is unchanged. -/
def lset {α : Type} : List α → Nat → α → List α
  | [], _, _ => []
  | _ :: l, 0, v => v :: l
  | a :: l, i + 1, v => a :: lset l i v

/-- Bit `i` of a number. -/
def tbit (n i : Nat) : Bool := n / 2 ^ i % 2 = 1

/-- Bits `[hi:lo]` of a number, as the spec writes a range. -/
def tbits (n hi lo : Nat) : Nat := n / 2 ^ lo % 2 ^ (hi + 1 - lo)

/-- A number from a truth value: 1 or 0. -/
def b2n (b : Bool) : Nat := if b then 1 else 0

/-- Write bit `i` of a number. -/
def setBit (n i : Nat) (b : Bool) : Nat := n - b2n (tbit n i) * 2 ^ i + b2n b * 2 ^ i

end Sys2Proof.Machine
end

