-- ==== Sys2Proof/Machine/Line.lean ====
section
/-! DEFINITION. The arithmetic of the line codes: CRC-16, CRC-32, the pseudo-random sequences, Gray mapping and
precoding, Reed-Solomon encoders, the InfoField and the alignment marker (05_trunk_signalling R99 to R111). -/

namespace Sys2Proof.Machine

/-! ## Cyclic checks -/

/-- The bits `[n-1:0]` of a number, most significant first. -/
def bitsMsb (v : Nat) : Nat → List Bool
  | 0 => []
  | n + 1 => tbit v n :: bitsMsb v n

/-- One bit of the CRC-16 of 05_trunk_signalling R102: polynomial x^16 + x^12 + x^5 + 1. -/
def crc16Step (c : Nat) (b : Bool) : Nat :=
  let fb := tbit c 15 != b
  let s := c * 2 % 65536
  if fb then Nat.xor s 0x1021 else s

/-- CRC-16 over `n` bits, most significant first, from 0xFFFF and without final inversion (R102). -/
def crc16 (v n : Nat) : Nat := (bitsMsb v n).foldl crc16Step 0xFFFF

/-- One octet of the IEEE 802.3 CRC-32, least significant bit first. -/
def crc32Octet (c o : Nat) : Nat :=
  (List.range 8).foldl (fun a i =>
    let s := a / 2
    if (tbit a 0 != tbit o i) then Nat.xor s 0xEDB88320 else s) c

/-- The IEEE 802.3 frame check sequence of a list of octets. -/
def crc32 (l : List Nat) : Nat := Nat.xor (l.foldl crc32Octet 0xFFFFFFFF) 0xFFFFFFFF

/-! ## Sequences -/

/-- One step of PRBS-15, x^15 + x^14 + 1 (R109): the next state and the bit sent. -/
def prbs15Step (s : Nat) : Nat × Bool :=
  let b := tbit s 14 != tbit s 13
  (s * 2 % 32768 + b2n b, b)

/-- `n` steps of PRBS-15. -/
def prbs15Run : Nat → Nat → Nat
  | s, 0 => s
  | s, n + 1 => prbs15Run (prbs15Step s).1 n

/-- The seed at entry to ECHO_M (R109). -/
def prbs15Seed (master : Bool) : Nat := if master then 0x7FFF else 0x1C6B

/-! ## PAM-4 (R104, R105) -/

/-- The Gray symbol of a 2-bit value. -/
def graySymbol (v : Nat) : Nat := if v = 0 then 0 else if v = 1 then 1 else if v = 3 then 2 else 3

/-- The 2-bit value of a Gray symbol. -/
def grayValue (g : Nat) : Nat := if g = 0 then 0 else if g = 1 then 1 else if g = 2 then 3 else 2

/-- The precoded symbol P(n) from G(n) and P(n − 1). -/
def precode (g p : Nat) : Nat := (g + 4 - p % 4) % 4

/-- The Gray symbol recovered from P(n) and P(n − 1). -/
def unprecode (p q : Nat) : Nat := (p + q) % 4

/-! ## Reed-Solomon encoding -/

/-- Multiply by x in GF(2^m) with primitive polynomial `poly` (its bit m included). -/
def gfX (m poly a : Nat) : Nat :=
  let b := a * 2
  if 2 ^ m ≤ b then Nat.xor b poly else b

/-- The product of two field elements: `n` bits of `b` are taken from the lowest. -/
def gfMulGo (m poly : Nat) : Nat → Nat → Nat → Nat → Nat
  | 0, _, _, acc => acc
  | n + 1, a, b, acc => gfMulGo m poly n (gfX m poly a) (b / 2) (if b % 2 = 1 then Nat.xor acc a else acc)

/-- The product in GF(2^m). -/
def gfMul (m poly a b : Nat) : Nat := gfMulGo m poly m a b 0

/-- The product of a polynomial (highest coefficient first) and (x − r). -/
def polyMulRoot (m poly r : Nat) (p : List Nat) : List Nat :=
  List.zipWith Nat.xor (p ++ [0]) (0 :: p.map (gfMul m poly r))

/-- The generator (x − α^0)…(x − α^(n−1)), highest coefficient first, without its leading 1. -/
def rsGen (m poly : Nat) : Nat → Nat → List Nat → List Nat
  | 0, _, p => p.drop 1
  | n + 1, r, p => rsGen m poly n (gfX m poly r) (polyMulRoot m poly r p)

/-- One message symbol through the systematic encoder's register. -/
def rsStep (m poly : Nat) (gen : List Nat) (reg : List Nat) (sym : Nat) : List Nat :=
  let fb := Nat.xor (reg.headD 0) sym
  List.zipWith Nat.xor (reg.drop 1 ++ [0]) (gen.map (gfMul m poly fb))

/-- The parity symbols of a message, the first message symbol at the highest power. -/
def rsParity (m poly n : Nat) (msg : List Nat) : List Nat :=
  let gen := rsGen m poly n 1 [1]
  msg.foldl (rsStep m poly gen) (List.replicate n 0)

/-- The 30 parity symbols of RS(544,514) over GF(2^10), x^10 + x^3 + 1 (R99). -/
def rs544Parity (msg : List Nat) : List Nat := rsParity 10 0x409 30 msg

/-- Message symbol `i` of a 5,140-bit message, bit 0 first (R99). -/
def messageSymbol (m i : Nat) : Nat := m / 2 ^ (10 * i) % 1024

/-- The 514 message symbols of a codeword. -/
def messageSymbols (m : Nat) : List Nat := (List.range 514).map (messageSymbol m)

/-- The codeword of a message: 514 message symbols, then p0 to p29 (R99). -/
def rs544Encode (m : Nat) : List Nat := messageSymbols m ++ rs544Parity (messageSymbols m)

/-! ## The InfoField (R110) -/

/-- A decoded InfoField. -/
structure Info where
  state : Nat
  countdown : Nat
  rxReady : Bool
  precodeRq : Bool
  cPre : Nat
  cAmp : Nat
  cPost : Nat
  snr : Nat
  deriving DecidableEq, Repr

/-- Bits [63:16] of an InfoField. -/
def infoHigh (f : Info) : Nat :=
  0xB4E * 2 ^ 36 + f.state % 16 * 2 ^ 32 + f.countdown % 256 * 2 ^ 24 + b2n f.rxReady * 2 ^ 23
    + b2n f.precodeRq * 2 ^ 22 + f.cPre % 4 * 2 ^ 20 + f.cAmp % 4 * 2 ^ 18 + f.cPost % 4 * 2 ^ 16
    + f.snr % 256 * 2 ^ 8

/-- The 64-bit InfoField as it is sent. -/
def infoEncode (f : Info) : BitVec 64 := BitVec.ofNat 64 (infoHigh f * 2 ^ 16 + crc16 (infoHigh f) 48)

/-- A received InfoField, where DELIM matches and the CRC checks. -/
def infoDecode (w : BitVec 64) : Option Info :=
  let n := w.toNat
  if tbits n 63 52 = 0xB4E ∧ crc16 (n / 2 ^ 16) 48 = n % 2 ^ 16 then
    some { state := tbits n 51 48, countdown := tbits n 47 40, rxReady := tbit n 39, precodeRq := tbit n 38,
           cPre := tbits n 37 36, cAmp := tbits n 35 34, cPost := tbits n 33 32, snr := tbits n 31 24 }
  else none

/-! ## The alignment marker (R100, R101) -/

/-- The fixed bits [132:5] of an alignment-marker block: the marker and its complement. -/
def amPattern : Nat := 0x9E37A1C45B2DF068 + (2 ^ 64 - 1 - 0x9E37A1C45B2DF068) * 2 ^ 64

/-- The alignment-marker block with its counter and link-channel message. -/
def amBlock (counter msg : Nat) : BitVec 257 :=
  let covered := msg % 2 ^ 64 * 2 ^ 8 + counter % 256
  BitVec.ofNat 257 (0b1111 * 2 + amPattern * 2 ^ 5 + counter % 256 * 2 ^ 133 + msg % 2 ^ 64 * 2 ^ 141
    + crc16 covered 72 * 2 ^ 205)

/-- The number of ones among the low `n` bits. -/
def popCount (v : Nat) : Nat → Nat
  | 0 => 0
  | n + 1 => popCount v n + b2n (tbit v n)

/-- The marker bits differ from the pattern in no more than 3 places, and the counter is one above `last` (R101). -/
def amMatches (blk : BitVec 257) (last : Nat) : Bool :=
  decide (popCount (Nat.xor (tbits blk.toNat 132 5) amPattern) 128 ≤ 3) &&
    decide (tbits blk.toNat 140 133 = (last + 1) % 256)

/-- The link-channel message of a block whose CRC checks. -/
def amMessage (blk : BitVec 257) : Option Nat :=
  let n := blk.toNat
  if crc16 (tbits n 204 133) 72 = tbits n 220 205 then some (tbits n 204 141) else none

/-- The CR ability word (R106). -/
def crAbility (cr25 cr10 twin qw eee : Bool) : Nat :=
  1 * 2 ^ 28 + b2n cr25 * 2 ^ 27 + b2n cr10 * 2 ^ 26 + 2 ^ 25 + b2n twin * 2 ^ 24 + b2n qw * 2 ^ 23 + 2 ^ 22
    + b2n eee * 2 ^ 21

/-- The priority of a mode (R95); a larger number ranks higher. -/
def modeRank (m : Nat) : Nat :=
  if m = 5 then 6 else if m = 3 then 5 else if m = 4 then 4 else if m = 2 then 3 else if m = 1 then 2
  else if m = 0 then 1 else 0

end Sys2Proof.Machine
end

