-- ==== Sys2Proof/Machine/LdLine.lean ====
section
/-! DEFINITION. The Long-Drop line: sequences, header, beacon extension, payload coding and the record stream
(09_long_drop_modem R197 to R205), and the frame check of the drops. -/

namespace Sys2Proof.Machine

/-! ## Frames -/

/-- The frame check sequence of a frame checks: its last four octets are the IEEE 802.3 CRC, least significant first. -/
def fcsOk (l : List Byte) : Bool :=
  let n := l.length - 4
  let f := (l.drop n).map BitVec.toNat
  decide (4 ≤ l.length) &&
    decide (crc32 ((l.take n).map BitVec.toNat) =
      f.getD 0 0 + f.getD 1 0 * 2 ^ 8 + f.getD 2 0 * 2 ^ 16 + f.getD 3 0 * 2 ^ 24)

/-- Octet `i` of a frame as a number. -/
def octet (l : List Byte) (i : Nat) : Nat := (l.getD i 0).toNat

/-- Octets 0 and 1 of the source address (08_drop_segments, MAC_HI). -/
def srcHi (l : List Byte) : Nat := octet l 6 * 2 ^ 8 + octet l 7

/-- Octets 2 to 5 of the source address (MAC_LO). -/
def srcLo (l : List Byte) : Nat := octet l 8 * 2 ^ 24 + octet l 9 * 2 ^ 16 + octet l 10 * 2 ^ 8 + octet l 11

/-- The EtherType or length at octet `i`. -/
def etherAt (l : List Byte) (i : Nat) : Nat := octet l i * 2 ^ 8 + octet l (i + 1)

/-- The frame carries an IEEE 802.1Q tag. -/
def tagged (l : List Byte) : Bool := etherAt l 12 = 0x8100

/-- The ingress class of a drop frame charged to a slot (08_drop_segments R186). -/
def dropClass (slot : Nat) (l : List Byte) : Nat :=
  if slot = 31 then 3
  else if etherAt l (if tagged l then 16 else 12) = 0x88F7 then 2
  else if tagged l && decide (128 ≤ octet l 14) then 1
  else 0

/-! ## Sequences (R197, R198) -/

/-- One step of the register of degree `n` with tap `m`. -/
def ldStep (n m r : Nat) : Nat × Bool :=
  let k := tbit r (n - 1) != tbit r (m - 1)
  (r * 2 % 2 ^ n + b2n k, k)

/-- The first `k` bits of a sequence. -/
def ldBits (n m : Nat) : Nat → Nat → List Bool
  | _, 0 => []
  | r, k + 1 => (ldStep n m r).2 :: ldBits n m (ldStep n m r).1 k

/-- Scramble a payload: each bit is sent xor the next scrambler output, in line order, bit 0 of an octet first. -/
def ldScramble : Nat → List Nat → List Nat
  | _, [] => []
  | r, o :: l =>
    let b := ldBits 17 14 r 8
    let m := maskOf8 b
    let r8 := (List.range 8).foldl (fun a _ => (ldStep 17 14 a).1) r
    Nat.xor o m :: ldScramble r8 l
where
  /-- Eight bits as an octet, the first at bit 0. -/
  maskOf8 : List Bool → Nat
    | [] => 0
    | x :: l => b2n x + 2 * maskOf8 l

/-! ## Header and extension (R201, R202) -/

/-- A decoded burst header. -/
structure LdHdr where
  type : Nat
  node : Nat
  cwQ : Nat
  cw16 : Nat
  nodeCount : Nat
  toSym : Nat
  deriving DecidableEq, Repr

/-- Bits [63:16] of a header. -/
def ldHdrHigh (h : LdHdr) : Nat :=
  h.type % 16 * 2 ^ 44 + h.node % 64 * 2 ^ 38 + h.cwQ % 256 * 2 ^ 30 + h.cw16 % 256 * 2 ^ 22
    + h.nodeCount % 64 * 2 ^ 16 + h.toSym % 256 * 2 ^ 8

/-- The 64-bit header as it is sent. -/
def ldHdrEncode (h : LdHdr) : BitVec 64 := BitVec.ofNat 64 (ldHdrHigh h * 2 ^ 16 + crc16 (ldHdrHigh h) 48)

/-- The data symbols of a burst (R199, R203). -/
def ldDataSymbols (beacon : Bool) (cwQ cw16 : Nat) : Nat := (if beacon then 128 else 64) + 1020 * cwQ + 510 * cw16

/-- The length of a burst in symbols (R199). -/
def ldBurstSymbols (beacon : Bool) (cwQ cw16 : Nat) : Nat :=
  let n := ldDataSymbols beacon cwQ cw16
  144 + n + (n + 15) / 16

/-- The fields of a header that passes every check of R201. -/
def ldHdrDecode (w : BitVec 64) : Option LdHdr :=
  let n := w.toNat
  let h : LdHdr :=
    { type := tbits n 63 60, node := tbits n 59 54, cwQ := tbits n 53 46, cw16 := tbits n 45 38,
      nodeCount := tbits n 37 32, toSym := tbits n 31 24 }
  if crc16 (n / 2 ^ 16) 48 = n % 2 ^ 16 ∧ (h.type = 1 ∨ h.type = 2) ∧ h.node ≤ 32
      ∧ ldBurstSymbols (h.type = 1) h.cwQ h.cw16 ≤ 24000 then some h else none

/-- The beacon extension (R202). -/
def ldExtEncode (rate cycle : Nat) : BitVec 64 :=
  let high := rate % 2 ^ 32 * 2 ^ 16 + cycle % 2 ^ 16
  BitVec.ofNat 64 (high * 2 ^ 16 + crc16 high 48)

/-- The sync word (R199). -/
def ldSync : Nat := 0xA5C396E15B27

/-- A window holds the sync word within the tolerance; true where its complement matched (R213). -/
def ldSyncMatch (tol : Nat) (w : BitVec 48) : Option Bool :=
  let e := popCount (Nat.xor w.toNat ldSync) 48
  if e ≤ tol then some false else if 48 - e ≤ tol then some true else none

/-! ## Payload (R203, R204) -/

/-- The 16 parity octets of RS(255,239) over GF(2^8), x^8 + x^4 + x^3 + x^2 + 1. -/
def rs255Parity (msg : List Nat) : List Nat := rsParity 8 0x11D 16 msg

/-- Cut a list into parts of `n`; `k` bounds the number of parts. -/
def chunks (n : Nat) : Nat → List Nat → List (List Nat)
  | 0, _ => []
  | k + 1, l => if l.isEmpty then [] else l.take n :: chunks n k (l.drop n)

/-- The codewords of a segment: 239 message octets, the last filled with zeros, and the parity. -/
def ldCodewords (cw : Nat) (stream : List Nat) : List (List Nat) :=
  (List.range cw).map fun i =>
    let m := (List.range 239).map fun k => stream.getD (239 * i + k) 0
    m ++ rs255Parity m

/-- Interleave one group of codewords: line octet m is octet m div g of codeword m mod g. -/
def ldInterleave (g : List (List Nat)) : List Nat :=
  (List.range (255 * g.length)).map fun m => (g.getD (m % g.length) []).getD (m / g.length) 0

/-- Groups of four codewords, the last with what remains. -/
def ldGroups : Nat → List (List Nat) → List Nat
  | 0, _ => []
  | k + 1, l => if l.isEmpty then [] else ldInterleave (l.take 4) ++ ldGroups k (l.drop 4)

/-- The record of one frame: LEN, most significant octet first, then the frame. -/
def ldRecord (f : List Byte) : List Nat := f.length / 256 :: f.length % 256 :: f.map BitVec.toNat

/-- The codewords that a record stream of some octets fills. -/
def ldCwCount (octets : Nat) : Nat := (octets + 238) / 239

/-- The scrambled line octets of a payload: the QPSK segment, then the 16-QAM segment. -/
def ldPayload (q h : List (List Byte)) : List Nat :=
  let a := (q.map ldRecord).flatten
  let b := (h.map ldRecord).flatten
  let ca := ldCodewords (ldCwCount a.length) a
  let cb := ldCodewords (ldCwCount b.length) b
  ldScramble 0x1ACE1 (ldGroups ca.length ca ++ ldGroups cb.length cb)

/-- What a received record stream holds: a good frame, a discarded one, or the rest of the segment discarded. -/
inductive LdRec
  | good (f : List Byte)
  | bad
  | rest
  deriving DecidableEq, Repr

/-- Read a record stream (R204); each octet comes with whether its codeword decoded. A LEN that runs past the segment is
read as a value outside its range. -/
def ldParse : Nat → List (Byte × Bool) → List LdRec
  | 0, _ => []
  | k + 1, (a, oa) :: (b, ob) :: l =>
    let n := a.toNat * 256 + b.toNat
    if !(oa && ob) then [.rest]
    else if n = 0 then []
    else if n < 64 ∨ 2000 < n ∨ l.length < n then [.rest]
    else
      let f := l.take n
      (if f.all (fun x => x.2) && fcsOk (f.map fun x => x.1) then .good (f.map fun x => x.1) else .bad)
        :: ldParse k (l.drop n)
  | _, _ => []

/-- The octets of a segment with the fate of their codewords. -/
def ldOctets (l : List LdCw) : List (Byte × Bool) :=
  (l.map fun c => c.msg.map fun o => (o, match c.status with | .corrected _ => true | .uncorrectable => false)).flatten

/-- The records of a received segment. -/
def ldSegment (l : List LdCw) : List LdRec := ldParse (ldOctets l).length (ldOctets l)

end Sys2Proof.Machine
end

