-- ==== Sys2Proof/Config.lean ====
section
/-! DEFINITION. What the spec leaves open as values: opaque constants that nothing can evaluate, and the figures that
every part shares. -/

namespace Sys2Proof.Config

/-- A free value of `w` bits: the spec gives the effect and not the value. Applied to the counter `State.freeCtr`,
which each use advances (log 2). -/
opaque freeBits : Nat → (w : Nat) → BitVec w

/-- The contents of a granary octet that no defined write has reached since its contents became undefined
(13_memory_granary R294, R303, R304): a function of the epoch of the loss and of the octet's address (log 24). -/
opaque freeGranaryByte : Nat → Nat → BitVec 8

/-- A PCIe configuration word whose content the spec leaves to the PCI Express specification (11_host_interfaces R261):
a function of its offset (log 31). -/
opaque pcieConfigWord : Nat → BitVec 32

/-- What the keys decide about an image that a port has staged word by word (03_warp R56, R57; 11_host_interfaces R268):
a function of its words (log 1). -/
opaque imageVerdict : List Word → Verdict

end Sys2Proof.Config
end

