-- ==== Sys2Proof/Machine/State.lean ====
section
/-! DEFINITION. The state of the block: every register, queue, buffer, counter, mode and pin that the spec gives it.
The value after ":=" of a field is its value at reset (02_startup_modes_selftest R33). -/

namespace Sys2Proof.Machine

/-! ## Registers -/

/-- A register field: its number in the catalogue, its index, its width and its reset value. -/
structure Fld where
  id : Nat
  ix : Nat
  width : Nat
  rst : Nat
  deriving DecidableEq, Repr

/-- The basic access codes (00_scope R9; 04_register_interface R87). -/
inductive Acc | rw | ro | rc | w1c | w1s | wo
  deriving DecidableEq, Repr

/-- How the Reset column of a field reads, where it depends on the index. -/
inductive RstKind
  | const (n : Nat) | sci | qIso | qPrio | kTemp | kPeriod | part | uAct | fAct
  deriving DecidableEq, Repr

/-- One row of a register table: lowest bit, width, access code, the second codes RWK, RWV, RWS and SAT, "Wake-safe",
reset value, and the valid encodings where not every value is one (00_scope R11, 04_register_interface R83). -/
structure FldDesc where
  id : Nat
  lo : Nat
  width : Nat
  acc : Acc
  keyed : Bool
  voted : Bool
  sticky : Bool
  sat : Bool
  wakeSafe : Bool
  rst : RstKind
  ranges : List (Nat × Nat)
  deriving DecidableEq, Repr

/-- One register: name, BAR0 offset of its first instance, width in bits, number of indices, and for each index its
first value, last value and stride. -/
structure RegDesc where
  name : String
  base : Nat
  width : Nat
  ndims : Nat
  dim1 : Nat × Nat × Nat
  dim2 : Nat × Nat × Nat
  fields : List FldDesc
  deriving DecidableEq, Repr

/-! ## The register fabric -/

/-- One port's snapshot of a wide counter (04_register_interface R81): the port, the block window, the counter's
lowest offset and its value. -/
structure Snap where
  port : Port
  window : Nat
  addr : Nat
  value : Nat
  deriving DecidableEq, Repr

/-- One access in flight to a vale (04_register_interface R80): the port, the address, the write data, and whether the
port was armed when the fabric issued it (R85). -/
structure ValeAcc where
  port : Port
  addr : Nat
  write : Option Nat
  armed : Bool
  deriving DecidableEq, Repr

/-- An access that waits at its port while the vale that it or an earlier one of the port addresses has 16 in flight
(R80): the offset, the byte enables and the write data. -/
structure PortAcc where
  addr : Nat
  be : Nat
  write : Option Nat
  deriving DecidableEq, Repr

/-- The register fabric: the arming of each port (age at which it lapses; 0 when not armed, R84), the snapshots (R81),
the accesses in flight to each vale and those stalled at each port (R80), the retained shadow of each vale's registers taken at
rung entry (R88), the scrubber's place (R86), and the answers read by the ports. -/
structure Fabric where
  arm : Tbl Nat := []
  snaps : List Snap := []
  flight : Tbl (List ValeAcc) := []
  stalled : Tbl (List PortAcc) := []
  shadow : Tbl (Tbl (Tbl Nat)) := []
  scrubAt : Nat := 0
  deriving DecidableEq, Repr

/-! ## Start-up and self-test -/

/-- A running self-test (02_startup_modes_selftest R48, R49): its target, whether the target was fenced before, and
whether a fixed reaction or QUARANTINE has aborted it. -/
structure SelfTest where
  block : Block
  wasFenced : Bool
  aborted : Bool
  deriving DecidableEq, Repr

/-- What BOOT and self-test hold. `step` is the step of the BOOT sequence that has ended, and `startAt` the age at the
reference; `bound` is set while BOOT is bound for QUARANTINE (R41, R43); `passes` are the unspent passes, `fences` the
blocks with a fence of their own (R50); `repairs` is the repair record in flash, with block, memory and whether the repair
waits for the next BOOT, and `unusable` the memories marked so (R40); `keyReadOff` is set when scan has been enabled
(R46). -/
structure Boot where
  step : Nat := 1
  startAt : Nat := 0
  bound : Bool := false
  reactionsLive : Bool := false
  fences : List Block := []
  passes : List Block := []
  repairs : List (Block × Nat × Bool) := []
  unusable : List (Block × Nat) := []
  selfTest : Option SelfTest := none
  keyReadOff : Bool := false
  deriving DecidableEq, Repr

/-! ## The warp -/

/-- One field entry of a record (03_warp R54). -/
structure WEntry where
  field : Nat
  elem : Nat
  value : Nat
  deriving DecidableEq, Repr

/-- One record of a warp (03_warp R54). -/
structure WRecord where
  type : Nat
  inst : Nat
  flags : Nat
  entries : List WEntry
  deriving DecidableEq, Repr

/-- One entry of the clamp report (03_warp R70): stage and position give its order, words 0 to 3 its content. -/
structure Clamp where
  type : Nat
  inst : Nat
  field : Nat
  elem : Nat
  action : Nat
  requested : Nat
  applied : Nat
  deriving DecidableEq, Repr

/-- A warp image chosen or staged: its slot (1 A, 2 B, 3 Golden), its words, and its records after decryption. -/
structure WImage where
  slot : Nat
  words : List Word
  recs : List WRecord
  deriving DecidableEq, Repr

/-- The warp (03_warp R60 to R75): the flash slots and the warp floor, the staged words with the slot, length and whether
a life-cycle change came meanwhile, the image that the Steward programs and whether it goes live, the image that BOOT has
selected, the records of the running warp as signed, the records that were not applied because their target was fenced,
the clamp report, and the live records that wait for their drop's cycle start or their port's scheduling round. -/
structure Warp where
  slots : Tbl (List Word) := []
  floor : Nat := 0
  stage : List Word := []
  stageOpen : Bool := false
  stageSlot : Nat := 0
  stageLen : Nat := 0
  committing : Option (WImage × Bool) := none
  selected : Option WImage := none
  running : List WRecord := []
  runSeq : Nat := 0
  skipped : List (Nat × Nat) := []
  clamps : List Clamp := []
  pendStn : List (Nat × WRecord) := []
  pendSched : List (Nat × WRecord) := []
  deriving DecidableEq, Repr

/-! ## The Watch -/

/-- One entry of the event log (18_watch R397). -/
structure LogEntry where
  seq : Nat
  src : Nat
  cls : Nat
  fixed : Bool
  kind : Nat
  action : Nat
  grace : Bool
  mode : Nat
  detail : Nat
  secs : Nat
  ns : Nat
  deriving DecidableEq, Repr

/-- The Watch beside its registers: grace timers (age at expiry and LATER action, by source; R391), the log ring of
2,048 entries by SEQ mod 2,048 (R397), class F entries that wait for the archive and the archive entry fetched (R399), the
SEQ selected in the ring (R398), and FLT_HOST_N's latch and the
age at which its width ends (R395). -/
structure Watch where
  grace : Tbl (Option (Nat × Nat)) := []
  ring : Tbl (Option LogEntry) := []
  toArchive : List LogEntry := []
  archSel : Option LogEntry := none
  ringSel : Nat := 0
  latch : Bool := false
  widthRuns : Bool := false
  deriving DecidableEq, Repr

/-! ## Time -/

/-- The time base (14_time R311): 48-bit seconds, 32-bit nanoseconds, 16-bit fraction, and the residue below it in units
of 2^-16 / (5 × 2^40) ns. -/
structure TimeBase where
  sec : Nat := 0
  ns : Nat := 0
  frac : Nat := 0
  sub : Nat := 0
  deriving DecidableEq, Repr

/-- A vale's copy of the time base (14_time R315): the sum of the phase corrections made to it in picoseconds, its
frequency correction in units of 1/64 ppb, and the runs of exchanges under 100 ps and above 1 ns. -/
structure ValeTime where
  phase : Int := 0
  freq : Int := 0
  good : Nat := 0
  bad : Nat := 0
  deriving DecidableEq, Repr

/-- What the time base holds beside its registers (R313, R314, R319 to R321): the slew that remains in units of `TimeBase.sub`, the ages of the last accepted PPS_IN edge and of the last rise of PPS_OUT, the run of
edges under 1 µs, PPS_OUT's level, and whether the always-on clock carries the time. -/
structure Clock where
  slew : Int := 0
  ppsAt : Option Nat := none
  ppsRun : Nat := 0
  outAt : Option Nat := none
  out : Bool := false
  coarse : Bool := false
  deriving DecidableEq, Repr

/-! ## Frames -/

/-- A frame on its way to a line: its logical egress queue, octets, whether a transmit stamp is asked for, the waybill
SEQ and the host lane of its report, the station slot and class on a drop, and the collisions it has met. -/
structure TxFrame where
  queue : Nat
  octets : List Byte
  tsreq : Bool
  tag : Nat
  lane : Nat
  slot : Nat
  iso : Bool
  collisions : Nat
  deriving DecidableEq, Repr

/-- A received frame in a receive bank or crossing the pass: the port index (trunk t, or 8 + drop), its class, octets,
wire stamp, station slot, and whether it is marked errored. -/
structure RxFrame where
  port : Nat
  cls : Nat
  octets : List Byte
  stamp : Stamp
  slot : Nat
  bad : Bool
  deriving DecidableEq, Repr

/-! ## Trunks -/

/-- A link-channel request awaiting its reply (05_trunk_signalling R103): TYPE, SEQ, PAYLOAD, the AMs left in which it
is sent, and the purpose of a quiet-window request. -/
structure LchReq where
  type : Nat
  seq : Nat
  payload : Nat
  left : Nat
  purpose : Option QwPurpose
  deriving DecidableEq, Repr

/-- A quiet window granted or in force (07_twinning_quiet_windows R166 to R170). -/
structure QwGrant where
  isLocal : Bool
  scope : Nat
  purpose : Nat
  start : Nat
  durUs : Nat
  seq : Nat
  opened : Bool
  openAge : Nat
  deriving DecidableEq, Repr

/-- The quiet-window business of a trunk: requests that wait (R167), the grant, the age at which the last window ended
(MIN_GAP), retries with the age before which they are not made (R437), the suspension of triggers after a window
(R171), and a running QW_CANCEL with its START (R169). -/
structure Qw where
  waiting : List QwPurpose := []
  grant : Option QwGrant := none
  lastEnd : Option Nat := none
  retry : List (QwPurpose × Nat) := []
  suspended : Bool := false
  cancelling : Option (Nat × Nat) := none
  deriving DecidableEq, Repr

/-- One reflection of a trunk's list (06_trunk_equalisation R129): delay in symbols, level in units of 0.5 dB below
launch, and whether the residual search found it. -/
structure Reflection where
  delay : Nat
  levelHdb : Nat
  search : Bool
  deriving DecidableEq, Repr

/-- A target of a re-placement (R131): window start, level, origin. -/
structure EcTarget where
  start : Nat
  levelHdb : Nat
  search : Bool
  deriving DecidableEq, Repr

/-- The equaliser of a trunk: reflection list, running and pending target sets, slides in progress (window to target
start), windows whose level stayed weak since the sweep began, block of the residual search, coefficients, and the
readback buffer with the length of its bank; `fade` counts the fading steps of an outgoing window, whose coefficients
are the stored ones times (1 − 2^-12) to that power (06_trunk_equalisation R127 to R145). A Surveyor list that waits for the
end of a window stands in `held` (R136). -/
structure Eq where
  refl : List Reflection := []
  held : Option (List Reflection) := none
  targets : List EcTarget := []
  pend : Option (List EcTarget) := none
  slides : Tbl (Option Nat) := []
  fade : Tbl Nat := []
  strongSeen : Tbl Bool := []
  block : Nat := 0
  dense : Tbl Int := []
  sparse : Tbl Int := []
  ffe : Tbl Int := [(16, 16384)]
  dfe : Tbl Int := []
  snap : List Int := []
  deriving DecidableEq, Repr

/-- The Surveyor's part of a trunk (15_surveyor): the SURVEY settings of the warp, a pass or a loop measurement that is
due, a pass that runs on the line, an interval agreed for this end's own loop measurement (from LOOP_ACK) and one
requested, the interval agreed for the peer and the loop switch, a loop measurement that the open window holds, a pulse
that is pending or runs, the polarity of the next pulse, the instants of the pulses of the last 24 h of the time base,
whether a full training has passed since a baseline was learned, the run of windows above the shield limit, and a capture
that is armed. -/
structure TrkSurv where
  periodS : Nat := 3600
  ccEn : Bool := false
  ccMohm : Nat := 50
  ccMa : Nat := 20
  ccMs : Nat := 5
  passDue : Bool := false
  loopOnly : Bool := false
  passRuns : Bool := false
  loopMine : Option (Nat × Nat) := none
  loopOk : Bool := false
  closure : Option (Nat × Nat) := none
  closed : Bool := false
  loopWait : Bool := false
  pulsePend : Bool := false
  pulseRuns : Bool := false
  negative : Bool := false
  dayPulses : List Nat := []
  trained : Bool := false
  shieldRun : Nat := 0
  capArm : Bool := false
  deriving DecidableEq, Repr

/-- What a trunk holds beside its registers: the attempt of AN and its age (05_trunk_signalling R113, R115), the runs of
ready frames, the phase of a fast retrain and the countdown (R112, R113, R117), the PRBS-15 steps since its seed
(R109), recent triggers (R118), AM counters and place in the AM period (R100, R101), the link channel (R103), the sleep
and wake exchanges (R122, R123; `wake` 1 initiator, 2 initiator that has detected a tone, 3 responder), the frames in
bank 4, and the current second's FEC figures (06_trunk_equalisation R149). -/
structure Trunk where
  anPeer : Bool := false
  anAge : Nat := 0
  selfRun : Nat := 0
  shown : Nat := 0
  peerRun : Nat := 0
  phase : Nat := 0
  phaseFrames : Nat := 0
  cdTx : Nat := 255
  cdSent : Bool := false
  cdGot : Bool := false
  alignWait : Bool := false
  prbs : Nat := 0
  wantPrecode : Bool := false
  peerPrecode : Bool := false
  rtRun : Nat := 0
  triggers : List Nat := []
  amTx : Nat := 0
  amRx : Option Nat := none
  cwPos : Nat := 0
  missRun : Nat := 0
  uncPeriod : Nat := 0
  lowRun : Nat := 0
  lch : Option LchReq := none
  lchSeq : Nat := 0
  lchDone : Option (Nat × Nat × Nat) := none
  lchOut : List Nat := []
  lchIn : Option Nat := none
  sleepSeq : Option Nat := none
  sleepNext : Bool := false
  rungAsk : Option Nat := none
  wake : Nat := 0
  refreshLeft : Nat := 0
  bank4 : List TxFrame := []
  rxPart : Bool := false
  secUnc : Nat := 0
  secMax : Nat := 0
  calibrating : Bool := false
  qw : Qw := {}
  eq : Eq := {}
  surv : TrkSurv := {}
  deriving DecidableEq, Repr

/-! ## Twins -/

/-- What a twin member holds: HELLOs sent with SEEN 1, whether a HELLO was received and whether one with SEEN, the run
of valid AMs without HELLO, the peer's TWIN and TAG, AM periods spent in VERIFY, positions matched in a run, and the
run of valid AMs of the peer's stream (07_twinning_quiet_windows R157 to R159). -/
structure Member where
  helloSeenSent : Nat := 0
  helloGot : Bool := false
  helloGotSeen : Bool := false
  wrong : Bool := false
  nonHelloRun : Nat := 0
  peerTwin : Nat := 0
  peerTag : Nat := 0
  verifyAms : Nat := 0
  matchRun : Nat := 0
  amRun : Nat := 0
  flight : List Nat := []
  await : List (Nat × Bool) := []
  deriving DecidableEq, Repr

/-- What a twin holds: the position of its stream grid, the messages that await their launch, the copy held for its
partner, and the last position selected (R154, R160, R230). -/
structure Twin where
  gridAm : Nat := 0
  gridIndex : Nat := 0
  copyHeld : Option (Nat × TwinCopy) := none
  lastSel : Option Nat := none
  a : Member := {}
  b : Member := {}
  egress : List TxFrame := []
  deriving DecidableEq, Repr

/-! ## Drops -/

/-- Where a Long-Drop receiver stands (09_long_drop_modem R213 to R215): no carrier, searching for the sync word,
waiting for loss of carrier, awaiting the header of a lock taken from the second correlator or from a capture, or
receiving a burst of so many QPSK and 16-QAM codewords. -/
inductive LdStage
  | idle | search | waitLoss | header | burst (cwQ cw16 : Nat)
  deriving DecidableEq, Repr

/-- The loops that ended a slot's last burst (R212): FFE and DFE coefficients in units of 2^-13. -/
structure LdLoops where
  ffe : List (Int × Int) := (List.replicate 8 (0, 0)) ++ ((8192, 0) :: List.replicate 15 (0, 0))
  dfe : List (Int × Int) := List.replicate 8 (0, 0)
  deriving DecidableEq, Repr

/-- What a drop holds beside its registers: the running opportunity, the frames of its share of bank 4 in order of
arrival, the frames on the line, a frame to resend, the counts of R182, the collisions of the last second by node
ID (R184), barred slots (R187), the deferral (R183; true for a calibration), the energy detector (R192), the age of the
last frame (R191), and the Long-Drop receiver (09_long_drop_modem R208, R212 to R215). -/
structure Drop where
  lengthM : Nat := 25
  opp : Option Nat := none
  lists : List TxFrame := []
  line : List TxFrame := []
  resend : Option TxFrame := none
  start : Nat := 0
  lastFirst : Nat := 31
  sent : Nat := 0
  slotSent : Tbl Nat := []
  coll : Tbl (List Nat) := []
  bars : Tbl Bool := []
  deferred : Bool := false
  defer : Option Bool := none
  detector : Bool := true
  lastFrame : Option Nat := none
  stage : LdStage := .idle
  rotated : Bool := false
  rxOpp : Option Nat := none
  fell : Tbl (Option Nat) := []
  loops : Tbl LdLoops := []
  lastSlot : Nat := 0
  last : LdLoops := {}
  snap : List (Int × Int) := []
  deriving DecidableEq, Repr

/-! ## The pass -/

/-- A command to a vale (10_pass R234, CMD): the Surveyor (OP, local index, argument), the Assayer agent (item, start or
abort), self-test, fence and release of a block. -/
inductive ValeCmd
  | surv (op l arg : Nat)
  | assay (item : Nat) (start : Bool)
  | selfTest (b : Block)
  | fence (b : Block)
  | release (b : Block)
  deriving DecidableEq, Repr

/-- The body of a request from the host die (R234). -/
inductive HostBody
  | reg (a : ValeAcc)
  | cmd (c : ValeCmd)
  | rung (r : Nat)
  | wake
  deriving DecidableEq, Repr

/-- A request of the host die that is outstanding, with the number of times it has been sent; 0 waits for the window
(R236). -/
structure HostReq where
  seq : Nat
  body : HostBody
  sends : Nat
  deriving DecidableEq, Repr

/-- A vale's reply, kept in its cache (R236): register data and STATUS, the answer to a command, a rung answer (code,
refusing local index, reason), or an ACK. -/
inductive Reply
  | reg (data status : Nat)
  | cmd (code : Nat)
  | rung (rung code l reason : Nat)
  | ack
  deriving DecidableEq, Repr

/-- The body of a request from a vale (R234, R237). -/
inductive UpBody
  | fault (src cls : Nat) (lost : Bool) (kind detail : Nat)
  | evt (offset : Nat)
  | done
  | rungDone
  | wake (code l : Nat)
  | dreq
  deriving DecidableEq, Repr

/-- A vale command that has ended and waits in the vale until the host die acknowledges it (R237, CMD_DONE): its
command, 0 done, 1 failed or 2 aborted, and its result words. -/
structure CmdDone where
  cmd : ValeCmd
  code : Nat
  result : List Int
  taken : Bool
  deriving DecidableEq, Repr

/-- What the pass of one vale holds: the host die's SEQ counter and requests, the SEQ that the vale executes next with
the requests held behind a gap and its reply cache, the same for the other direction (R236), what the vale holds until
it is answered (R237), locked lanes, the lanes last reported and the lanes in use in each direction (R225), the count of
the last marker of each direction (R224), the frames crossing to bank 4, the times of an exchange (R243), the vale's
power (R245, R30), the rung last shown by a BEACON of each end (R241), and the spoiled copies of the shadow image
(R242). -/
structure Pass where
  seq : Nat := 0
  out : List HostReq := []
  rx : Nat := 0
  held : List (Nat × HostBody) := []
  cache : List (Nat × Reply) := []
  upRx : Nat := 0
  upHeld : List (Nat × UpBody) := []
  upCache : List Nat := []
  dones : List CmdDone := []
  rungAns : Option (Nat × Nat × Nat × Nat) := none
  rungDelay : Option Nat := none
  wakes : List Nat := []
  dnLock : Nat := 0
  upRep : Nat := 0
  dnUse : Nat := 0
  upUse : Nat := 0
  markDn : Nat := 0
  markUp : Nat := 0
  down : List TxFrame := []
  spoiled : List Nat := []
  t1 : Option Int := none
  t2 : Option Int := none
  t3 : Option Int := none
  t4 : Option Int := none
  powered : Bool := false
  powerCut : Bool := false
  rungDn : Nat := 0
  rungUp : Nat := 0
  shadowSent : Bool := false
  shadowBad : Nat := 0
  deriving DecidableEq, Repr

/-- The credit of one port in units of 64 octets (01_architecture R21, 10_pass R234, R238): what its vale has returned in
all, what the last CREDIT reported, and what the Miller has released in all. -/
structure Credit where
  returned : Nat := 0
  reported : Nat := 0
  released : Nat := 0
  deriving DecidableEq, Repr

/-! ## The Miller -/

/-- A frame held in a queue (12_miller_queues R271): its logical queue, octets, ingress port and slot or egress slot, its
wire stamp, the transmit-stamp request with tag and lane, whether MACsec verified it, and whether a cell of it is
poisoned. -/
structure MFrame where
  queue : Nat
  octets : List Byte
  port : Nat
  slot : Nat
  stamp : Stamp
  tsreq : Bool
  tag : Nat
  lane : Nat
  sec : Bool
  poison : Bool
  deriving DecidableEq, Repr

/-- A physical queue (R274 to R282): its frames, the cells from the head to its first paged bale (to its first bale in
write while none is paged), bales paged, in write, in fetch, and in fetch when the queue was flushed, the deficit, whether its release interval runs (R278),
panic, starvation, and the host lane that carries its head frame. -/
structure MQueue where
  frames : List MFrame := []
  front : Nat := 0
  paged : Nat := 0
  writing : Nat := 0
  fetching : Nat := 0
  orphans : Nat := 0
  deficit : Nat := 0
  pacing : Bool := false
  panic : Bool := false
  starved : Bool := false
  lane : Option Nat := none
  deriving DecidableEq, Repr

/-- A deficit round-robin: the queue or class whose turn it is, and whether that turn has begun. -/
structure Drr where
  cur : Nat := 0
  turn : Bool := false
  deriving DecidableEq, Repr

/-- A shaper's bucket (R436): the tokens missing from 16 KiB in units of 1/64,000,000,000 octet, and the age at which
that figure stood. -/
structure Bucket where
  debt : Nat := 0
  stamp : Nat := 0
  deriving DecidableEq, Repr

/-- What the Miller holds beside its registers: the queues, the queue map (R269), weights and shapes by port × 8 + class,
buckets, the round-robins of drops, trunks and host lanes (by lane × 4 + priority), the slot last served on each drop's
isochronous round, the cells lent to each range by the shared pool, the round-robin of page-outs, the pause of R286, and
whether a bale has been written since the bale segments were filled. -/
structure Mill where
  queues : Tbl MQueue := []
  map : Tbl (Option Nat) := []
  weight : Tbl Nat := []
  shape : Tbl Nat := []
  buckets : Tbl Bucket := []
  drr : Tbl Drr := []
  isoAt : Tbl Nat := []
  lent : Tbl Nat := []
  pageAt : Nat := 0
  paused : Bool := false
  written : Bool := false
  deriving DecidableEq, Repr

/-! ## Host lanes -/

/-- A stamp report that is due (11_host_interfaces R259): the lane of its record, the egress queue, the tag, and the
stamp, none for a frame not sent whole. -/
structure Report where
  lane : Nat
  queue : Nat
  tag : Nat
  stamp : Option Stamp
  deriving DecidableEq, Repr

/-- What a host lane is sending: the head frame of a queue, or a report. -/
inductive HRec
  | frame (q : Nat)
  | report (r : Report)
  deriving DecidableEq, Repr

/-- What a host lane holds beside its registers: the next SEQ it sends, whether it has taken a SEQ since LOCK rose
(R258), and the record in transmission. -/
structure HLane where
  txSeq : Nat := 0
  seqSet : Bool := false
  busy : Option HRec := none
  deriving DecidableEq, Repr

/-! ## MACsec and MKA -/

/-- A live peer of a CA (17_security R381, R382): its identity, and whether it has installed the new SAK and has sent
under it. -/
structure MkaPeer where
  id : Nat
  installed : Bool
  used : Bool
  deriving DecidableEq, Repr

/-- What a CA holds beside its MSEC entry: its peers, its receive SAs as AN and next expected PN, and the AN being
rotated in (R376, R381, R382). -/
structure Ca where
  peers : List MkaPeer := []
  rx : List (Nat × Nat) := []
  newAn : Option Nat := none
  oldAn : Option Nat := none
  txReady : Bool := false
  deriving DecidableEq, Repr

/-! ## The granary and the memories -/

/-- A one-burst request in a queue of a granary channel (13_memory_granary R297, R298): its order of acceptance, class,
whether it writes, its burst (GA div 64), its data where it writes, and the picks it has lost. -/
structure GReq where
  seq : Nat
  cls : Nat
  wr : Bool
  burst : Nat
  data : List Byte
  lost : Nat
  deriving DecidableEq, Repr

/-- A bank of a granary channel (R299, R301): its open row, its 2-bit history counter, whether a refresh is due and how
many are postponed. -/
structure GBank where
  row : Option Nat := none
  hist : Nat := 2
  due : Bool := false
  postponed : Nat := 0
  deriving DecidableEq, Repr

/-- A channel of the granary: reads and writes queued, the drain flag and the rotating pointer (R298), its banks, the
check column cached by each bank (R300). -/
structure GChan where
  reads : List GReq := []
  writes : List GReq := []
  drain : Bool := false
  ptr : Nat := 0
  banks : Tbl GBank := []
  cols : Tbl (Option Nat) := []
  deriving DecidableEq, Repr

/-- The granary (R293 to R310): its contents as cells by granary address (an address that is not listed reads as zero in
a segment whose bit of `defd` is set and is undefined elsewhere), the epoch of the last loss of contents, the segments
whose contents are defined, its channels, the next acceptance number, the requests served that wait for an earlier one of
their port (R300), the poison list, corrections per row in this scrub pass, the scrubber's burst and the age at which its
pass began, the point in training, a frequency request held and one in progress (its step, 1 while it waits for panic,
and its point). -/
structure Gran where
  mem : List Host.Cell := []
  epoch : Nat := 0
  defd : Nat := 0
  chans : Tbl GChan := []
  next : Nat := 0
  ready : List (GReq × Bool) := []
  poison : List Nat := []
  rowCorr : Tbl Nat := []
  scrubAt : Nat := 0
  scrubStart : Nat := 0
  training : Option Nat := none
  freqPend : Option Nat := none
  freqNow : Option (Nat × Nat) := none
  deriving DecidableEq, Repr

/-- What the memory scrubbers hold (R289, R291): the packet-store word and the word of each vale bank read next, and the
age at which the packet-store pass began. -/
structure MemScrub where
  psAt : Nat := 0
  psStart : Nat := 0
  valeAt : Tbl Nat := []
  deriving DecidableEq, Repr

/-! ## The Surveyor and the Assayer -/

/-- What the Surveyor holds of a drop (15_surveyor R325, R340): a pass is due or in parts, the parts done, and a capture
that is armed. -/
structure DrpSurv where
  due : Bool := false
  parts : Nat := 0
  capArm : Bool := false
  deriving DecidableEq, Repr

/-- What the Assayer holds of an item (16_assayer R344 to R355): when it fell due, whether host software forced it, the
stored values with the temperature and the CALREF reading at their calibration, the values in force, those that a slew
leaves with the steps made, a result in writing with its temperature, and whether copy B holds the higher COUNT. -/
structure Item where
  dueAge : Nat := 0
  forced : Bool := false
  temp : Int := 0
  calref : Nat := 0
  stored : List CalVal := []
  inForce : List CalVal := []
  slewFrom : List CalVal := []
  steps : Nat := 0
  writing : Option (List CalVal × Int) := none
  copyB : Bool := false
  deriving DecidableEq, Repr

/-! ## Security -/

/-- A key of the key store or the strongroom: its entry type and index (17_security R368), and its value. -/
structure Key where
  type : Nat
  index : Nat
  value : List Byte
  deriving DecidableEq, Repr

/-- What the security part holds beside its registers (17_security): the device tag; the life-cycle state that governs
since the last BOOT (R359); whether a storage key is fused, and whether its row is destroyed; the key store in flash and
the strongroom; the bundle floor; the words of the two firmware slots; a load in staging and whether the Steward checks or
programs it; the target of a staged life-cycle token, true for one of Kamior's return key; the nonce of a
report being built. -/
structure Sec where
  devTag : Nat := 0
  lcNow : Nat := 0
  storageKey : Bool := false
  storageDead : Bool := false
  store : List Key := []
  room : List Key := []
  floor : Nat := 0
  fw : Tbl (List Word) := []
  loadOpen : Bool := false
  loadTarget : Nat := 0
  loadLen : Nat := 0
  loadWords : List Word := []
  loadBusy : Bool := false
  token : Option (Nat × Bool) := none
  attNonce : List Word := []
  deriving DecidableEq, Repr

/-! ## The management ports -/

/-- The word that the MDIO port reads ahead (11_host_interfaces R265): trunk, device address and MMD address, and the word
once the read has completed. -/
structure Prefetch where
  trunk : Nat
  dev : Nat
  addr : Nat
  word : Option Nat
  deriving DecidableEq, Repr

/-- What the management ports hold (11_host_interfaces R261 to R268, 04_register_interface R90): the MMD addresses (by
trunk × 32 + device address), the prefetch, the upper half held from a read (trunk, device address, MMD address, bits) and
the lower half held for a write; the endpoint's command register, BAR0, D-state and MSI-X table; and the recovery image in
staging with its length and slot. -/
structure Mgmt where
  mmd : Tbl Nat := []
  pre : Option Prefetch := none
  rdHeld : Option (Nat × Nat × Nat × Nat) := none
  wrHeld : Option (Nat × Nat × Nat × Nat) := none
  cmd : Nat := 0
  bar0 : Nat := 0
  d3 : Bool := false
  devCtl : Nat := 0
  table : Tbl Nat := []
  recov : List Word := []
  recLen : Nat := 0
  recSlot : Nat := 0
  deriving DecidableEq, Repr

/-! ## Power -/

/-- What a domain of the power ladder does (19_power R406, R407): nothing, an entry asked for a rung with the clients
that delay, a committed entry, or a climb. -/
inductive Ladder
  | idle
  | asked (rung : Nat) (delaying : List Nat)
  | committed (rung : Nat)
  | climbing (rung : Nat)
  deriving DecidableEq, Repr

/-- The power manager beside its registers: each domain (0 the host die, 1 + v vale v), whether a refusal holds back its
next attempt, whether a wake is held until its transition ends (R409), WAKE_N's arming, and the age at which the
always-on timer reaches 0 (R410). -/
structure Power where
  dom : Tbl Ladder := []
  barred : Tbl Bool := []
  wakeHeld : Tbl Bool := []
  wakeNOff : Bool := false
  timerEnd : Option Nat := none
  deriving DecidableEq, Repr

/-! ## What leaves the block -/

/-- What the block sends: the newest stands first in `State.out`. -/
inductive Out
  | msix (vector : Nat)
  | answer (port : Port) (addr : Nat) (data : Nat)
  | mdio (data : Nat)
  | config (dw data : Nat)
  | unsupported
  | trkFrame (t : Nat) (info : BitVec 64)
  | trkNotice (t : Nat) (state : Nat)
  | trkAm (t : Nat) (blk : BitVec 257)
  | trkTone (t : Nat)
  | trkRefresh (t : Nat)
  | trkTest (t pattern : Nat)
  | drpBeacon (d : Nat) (hdr ext : BitVec 64)
  | drpFrame (d : Nat) (octets : List Byte)
  | drpBurst (d : Nat) (hdr : BitVec 64) (payload : List Nat)
  | drpTest (d pattern : Nat)
  | twinWord (t pos : Nat) (spoiled : Bool)
  | tally (v : Nat) (type seq : Nat)
  | hostRecord (lane : Nat) (waybill : BitVec 64) (ext : Option Stamp) (octets : List Byte)
  | hostIdle (lane : Nat)
  | hostBurst (lane : Nat)
  | granRead (cls burst : Nat) (data : Option (List Byte))
  | granWrite (burst : Nat)
  | granRefresh (chan bank : Nat)
  | ppsOut (high : Bool)
  | loopSwitch (t : Nat) (closed : Bool)
  | pulse (t : Nat) (milliamps : Int)
  | calibrate (i : Nat)
  deriving DecidableEq, Repr

/-- What a step still owes: actions of the Watch that run when the command's own effect is complete. -/
inductive Todo
  | fence (b : Block) | quarantine | wake (code : Nat) | record (src cls kind detail : Nat)
  | answer (client : Nat) (ok : Bool) (reason : Nat) | valeWake (v code : Nat) | window (t purpose : Nat) (isLocal : Bool)
  | abortAct (t : Nat) | fenceAct (t : Nat) | granLost
  deriving DecidableEq, Repr

/-- The whole state. -/
structure State where
  regs : Tbl (Tbl Nat) := []
  regsB : Tbl (Tbl Nat) := []
  regsC : Tbl (Tbl Nat) := []
  regsW : Tbl (Tbl Nat) := []
  fabric : Fabric := {}
  boot : Boot := {}
  warp : Warp := {}
  watch : Watch := {}
  time : TimeBase := {}
  trunks : Tbl Trunk := []
  twins : Tbl Twin := []
  drops : Tbl Drop := []
  passes : Tbl Pass := []
  credits : Tbl Credit := []
  mill : Mill := {}
  hlanes : Tbl HLane := []
  reports : List Report := []
  cas : Tbl Ca := []
  macConf : Tbl Nat := []
  macReplay : Tbl Nat := []
  macPort : Tbl Bool := []
  macReqDrp : Nat := 0
  clock : Clock := {}
  valeTimes : Tbl ValeTime := []
  gran : Gran := {}
  memScrub : MemScrub := {}
  dsurv : Tbl DrpSurv := []
  survTurn : Tbl Nat := []
  sensorHot : Tbl Bool := []
  caps : Tbl (Option Bool) := []
  items : Tbl Item := []
  sec : Sec := {}
  mgmt : Mgmt := {}
  power : Power := {}
  archive : List LogEntry := []
  evtRep : Tbl Nat := []
  rxBank : Tbl (List RxFrame) := []
  age : Nat := 0
  freeCtr : Nat := 0
  todo : List Todo := []
  irq : Nat := 0
  msixOff : Bool := true
  msixMask : Tbl Bool := []
  msixPend : Tbl Bool := []
  out : List Out := []
  pending : List Instr := []
  deriving DecidableEq, Repr

/-- The state after a cold reset: every field at the value that stands after its ":=". -/
def State.reset : State := {}

/-- Why the machine stops with a fault. No meaning raises one: the block has no exception entry and the spec stops no
command so. -/
inductive Fault
  /-- Raised by no one; safe. -/
  | none
  deriving DecidableEq, Repr

/-- Why a command is refused. -/
inductive Refusal
  /-- Raised by `exec` for a command without a meaning yet; safe. -/
  | notModelled (mnemonic : String)
  deriving DecidableEq, Repr

end Sys2Proof.Machine
end

