-- ==== Sys2Proof/Machine/RegMap.lean ====
section
/-! DEFINITION. The register catalogue of the BAR0 map (spec/04_register_interface.md R76, R81 and the register
tables of every chapter): one descriptor per register, one named field per table row that is not Reserved. -/

namespace Sys2Proof.Machine

/-- 12_miller_queues R277: drop-egress queues of class 1 are isochronous. -/
def qIsoRst (q : Nat) : Nat := if q < 4096 then q % 2 else 0

/-- 12_miller_queues R282: the PRIO resets of the ingress queues; other queues read 0. -/
def qPrioRst (q : Nat) : Nat :=
  if 4160 ≤ q ∧ q < 4416 then (if q % 4 = 2 then 3 else if q % 4 = 1 then 2 else if q % 4 = 0 then 1 else 0)
  else if 4416 ≤ q ∧ q < 4480 then (if q % 8 ≥ 6 then 3 else if q % 8 ≥ 4 then 2 else 1)
  else if 4480 ≤ q ∧ q < 4544 then 1 else 0

/-- 17_security SEC_SCI: the address of a device whose tag is zero. -/
def sciRst (i : Nat) : Nat := if i = 0 then 0x02000000 else 0

/-- 16_assayer ASSAY_PERIOD: temperature resets of kinds 0 to 4. -/
def kTempRst (k : Nat) : Nat := if k < 3 then 8 else if k = 3 then 10 else 0

/-- 16_assayer ASSAY_PERIOD: period resets of kinds 0 to 4. -/
def kPeriodRst (k : Nat) : Nat := if k < 2 then 3600 else if k = 2 then 1800 else 86400

/-- 03_warp R69: the PKT_PART reserves by default. -/
def partRst (r : Nat) : Nat :=
  if r = 0 then 49152 else if r = 1 then 16384 else if r = 2 then 8192 else if r = 3 then 16384 else if r = 4 then 4096 else 0

/-- 18_watch R385: the default class U action byte of a source; `0x29` is INTERRUPT, grace, then FENCE (R389). -/
def uActRst (src : Nat) : Nat :=
  if src = 7 ∨ src = 9 ∨ src = 12 ∨ (32 ≤ src ∧ src < 36) then 0x29
  else if src < 13 ∨ (16 ≤ src ∧ src < 22) ∨ (36 ≤ src ∧ src < 48) ∨ (64 ≤ src ∧ src < 72) ∨ (128 ≤ src ∧ src < 192) then 1
  else 0

/-- 18_watch R385: the default class F action byte of a source. -/
def fActRst (src : Nat) : Nat :=
  if src < 7 ∨ src = 8 ∨ src = 10 then 4
  else if 36 ≤ src ∧ src < 40 then 3
  else if src < 13 ∨ (16 ≤ src ∧ src < 22) ∨ (32 ≤ src ∧ src < 48) ∨ (64 ≤ src ∧ src < 72) ∨ (128 ≤ src ∧ src < 192) then 2
  else 0

/-- The Reset column of a field, by index where the spec gives it so. -/
def RstKind.value (k : RstKind) (ix : Nat) : Nat :=
  match k with
  | .const n => n
  | .sci => sciRst ix
  | .qIso => qIsoRst ix
  | .qPrio => qPrioRst ix
  | .kTemp => kTempRst ix
  | .kPeriod => kPeriodRst ix
  | .part => partRst ix
  | .uAct => uActRst ix
  | .fAct => fActRst ix

namespace R

/-! STW_BOOT_STAT (02_startup_modes_selftest.md) -/
abbrev STW_BOOT_STAT_BOOT_MS : Fld := ⟨0, 0, 16, 0⟩
abbrev STW_BOOT_STAT_REPAIRS : Fld := ⟨1, 0, 4, 0⟩
abbrev STW_BOOT_STAT_BIST_FAIL : Fld := ⟨2, 0, 1, 0⟩
abbrev STW_BOOT_STAT_FW_SLOT : Fld := ⟨3, 0, 2, 0⟩
abbrev STW_BOOT_STAT_STAGE : Fld := ⟨4, 0, 4, 0⟩
/-! STW_RESET_CTL (02_startup_modes_selftest.md) -/
abbrev STW_RESET_CTL_WARM : Fld := ⟨5, 0, 1, 0⟩
/-! STW_RESET_CAUSE (02_startup_modes_selftest.md) -/
abbrev STW_RESET_CAUSE_QUAR_EXIT : Fld := ⟨6, 0, 1, 0⟩
abbrev STW_RESET_CAUSE_MAINT_EXIT : Fld := ⟨7, 0, 1, 0⟩
abbrev STW_RESET_CAUSE_WARP_ACCEPT : Fld := ⟨8, 0, 1, 0⟩
abbrev STW_RESET_CAUSE_WATCHDOG : Fld := ⟨9, 0, 1, 0⟩
abbrev STW_RESET_CAUSE_HOST_WARM : Fld := ⟨10, 0, 1, 0⟩
abbrev STW_RESET_CAUSE_PIN : Fld := ⟨11, 0, 1, 0⟩
abbrev STW_RESET_CAUSE_POWER : Fld := ⟨12, 0, 1, 1⟩
/-! STW_MODE_REQ (02_startup_modes_selftest.md) -/
abbrev STW_MODE_REQ_REFUSED : Fld := ⟨13, 0, 1, 0⟩
abbrev STW_MODE_REQ_EXIT_MAINT : Fld := ⟨14, 0, 1, 0⟩
abbrev STW_MODE_REQ_MAINT : Fld := ⟨15, 0, 1, 0⟩
/-! STW_SCAN_CTL (02_startup_modes_selftest.md) -/
abbrev STW_SCAN_CTL_REFUSED : Fld := ⟨16, 0, 1, 0⟩
abbrev STW_SCAN_CTL_SCAN_EN : Fld := ⟨17, 0, 1, 0⟩
abbrev STW_SCAN_CTL_WIPED : Fld := ⟨18, 0, 1, 0⟩
abbrev STW_SCAN_CTL_REQ : Fld := ⟨19, 0, 1, 0⟩
/-! STW_SELFTEST_CTL (02_startup_modes_selftest.md) -/
abbrev STW_SELFTEST_CTL_START : Fld := ⟨20, 0, 1, 0⟩
abbrev STW_SELFTEST_CTL_KIND : Fld := ⟨21, 0, 4, 0⟩
abbrev STW_SELFTEST_CTL_INDEX : Fld := ⟨22, 0, 8, 0⟩
/-! STW_SELFTEST_STAT (02_startup_modes_selftest.md) -/
abbrev STW_SELFTEST_STAT_MEM_ID : Fld := ⟨23, 0, 8, 0⟩
abbrev STW_SELFTEST_STAT_REL_REFUSE : Fld := ⟨24, 0, 3, 0⟩
abbrev STW_SELFTEST_STAT_REFUSE : Fld := ⟨25, 0, 3, 0⟩
abbrev STW_SELFTEST_STAT_STATE : Fld := ⟨26, 0, 2, 0⟩
/-! STW_SELFTEST_FAIL (02_startup_modes_selftest.md) -/
abbrev STW_SELFTEST_FAIL_BIT : Fld := ⟨27, 0, 10, 0⟩
abbrev STW_SELFTEST_FAIL_ADDR : Fld := ⟨28, 0, 22, 0⟩
/-! STW_RELEASE (02_startup_modes_selftest.md) -/
abbrev STW_RELEASE_GO : Fld := ⟨29, 0, 1, 0⟩
abbrev STW_RELEASE_KIND : Fld := ⟨30, 0, 4, 0⟩
abbrev STW_RELEASE_INDEX : Fld := ⟨31, 0, 8, 0⟩
/-! WARP_STAT (03_warp.md) -/
abbrev WARP_STAT_SLOT : Fld := ⟨32, 0, 2, 0⟩
abbrev WARP_STAT_REASON_G : Fld := ⟨33, 0, 4, 15⟩
abbrev WARP_STAT_REASON_B : Fld := ⟨34, 0, 4, 15⟩
abbrev WARP_STAT_REASON_A : Fld := ⟨35, 0, 4, 15⟩
abbrev WARP_STAT_LIVE_BUSY : Fld := ⟨36, 0, 1, 0⟩
abbrev WARP_STAT_LOAD_BUSY : Fld := ⟨37, 0, 1, 0⟩
abbrev WARP_STAT_APPLIED : Fld := ⟨38, 0, 1, 0⟩
/-! WARP_SEQ (03_warp.md) -/
abbrev WARP_SEQ_SEQ : Fld := ⟨39, 0, 32, 0⟩
/-! WARP_FLOOR (03_warp.md) -/
abbrev WARP_FLOOR_FLOOR : Fld := ⟨40, 0, 32, 0⟩
/-! WARP_BOOT_PREF (03_warp.md) -/
abbrev WARP_BOOT_PREF_ONCE : Fld := ⟨41, 0, 2, 0⟩
/-! WARP_HASH[i] (03_warp.md) -/
abbrev WARP_HASH_HASH (i : Nat) : Fld := ⟨42, i, 32, 0⟩
/-! WARP_LOAD_CTL (03_warp.md) -/
abbrev WARP_LOAD_CTL_COMMIT : Fld := ⟨43, 0, 1, 0⟩
abbrev WARP_LOAD_CTL_ABORT : Fld := ⟨44, 0, 1, 0⟩
abbrev WARP_LOAD_CTL_BEGIN : Fld := ⟨45, 0, 1, 0⟩
abbrev WARP_LOAD_CTL_LIVE : Fld := ⟨46, 0, 1, 0⟩
abbrev WARP_LOAD_CTL_SLOT : Fld := ⟨47, 0, 2, 1⟩
/-! WARP_LOAD_LEN (03_warp.md) -/
abbrev WARP_LOAD_LEN_LENGTH : Fld := ⟨48, 0, 32, 0⟩
/-! WARP_LOAD_DATA (03_warp.md) -/
abbrev WARP_LOAD_DATA_DATA : Fld := ⟨49, 0, 32, 0⟩
/-! WARP_LOAD_STAT (03_warp.md) -/
abbrev WARP_LOAD_STAT_REASON : Fld := ⟨50, 0, 4, 0⟩
abbrev WARP_LOAD_STAT_STATE : Fld := ⟨51, 0, 2, 0⟩
abbrev WARP_LOAD_STAT_WORDS : Fld := ⟨52, 0, 21, 0⟩
/-! WARP_CLAMP_CNT (03_warp.md) -/
abbrev WARP_CLAMP_CNT_OVERFLOW : Fld := ⟨53, 0, 1, 0⟩
abbrev WARP_CLAMP_CNT_STORED : Fld := ⟨54, 0, 10, 0⟩
abbrev WARP_CLAMP_CNT_COUNT : Fld := ⟨55, 0, 16, 0⟩
/-! WARP_CLAMP_IDX (03_warp.md) -/
abbrev WARP_CLAMP_IDX_IDX : Fld := ⟨56, 0, 9, 0⟩
/-! WARP_CLAMP_DATA[i] (03_warp.md) -/
abbrev WARP_CLAMP_DATA_WORD (i : Nat) : Fld := ⟨57, i, 32, 0⟩
/-! WARP_CLAMP_HASH[i] (03_warp.md) -/
abbrev WARP_CLAMP_HASH_HASH (i : Nat) : Fld := ⟨58, i, 32, 0⟩
/-! GLB_ID (04_register_interface.md) -/
abbrev GLB_ID_PART : Fld := ⟨59, 0, 16, 33380⟩
abbrev GLB_ID_REV : Fld := ⟨60, 0, 8, 176⟩
/-! GLB_MODE (04_register_interface.md) -/
abbrev GLB_MODE_PREV : Fld := ⟨61, 0, 3, 0⟩
abbrev GLB_MODE_MODE : Fld := ⟨62, 0, 3, 0⟩
/-! GLB_KEYGATE (04_register_interface.md) -/
abbrev GLB_KEYGATE_KEY : Fld := ⟨63, 0, 32, 0⟩
/-! GLB_KEY_STAT (04_register_interface.md) -/
abbrev GLB_KEY_STAT_REMAIN_US : Fld := ⟨64, 0, 10, 0⟩
abbrev GLB_KEY_STAT_ARMED : Fld := ⟨65, 0, 1, 0⟩
/-! GLB_ACC_STAT (04_register_interface.md) -/
abbrev GLB_ACC_STAT_KIND : Fld := ⟨66, 0, 4, 0⟩
abbrev GLB_ACC_STAT_PORT : Fld := ⟨67, 0, 2, 0⟩
abbrev GLB_ACC_STAT_WRITE : Fld := ⟨68, 0, 1, 0⟩
abbrev GLB_ACC_STAT_ADDR : Fld := ⟨69, 0, 24, 0⟩
/-! GLB_ACC_CNT (04_register_interface.md) -/
abbrev GLB_ACC_CNT_COUNT : Fld := ⟨70, 0, 32, 0⟩
/-! GLB_FENCE_TRK (04_register_interface.md) -/
abbrev GLB_FENCE_TRK_SURV : Fld := ⟨71, 0, 4, 0⟩
abbrev GLB_FENCE_TRK_VALE : Fld := ⟨72, 0, 4, 0⟩
abbrev GLB_FENCE_TRK_TRK : Fld := ⟨73, 0, 8, 0⟩
/-! GLB_FENCE_DRP[i] (04_register_interface.md) -/
abbrev GLB_FENCE_DRP_DRP (i : Nat) : Fld := ⟨74, i, 32, 0⟩
/-! GLB_FENCE_HOST (04_register_interface.md) -/
abbrev GLB_FENCE_HOST_MACSEC : Fld := ⟨75, 0, 1, 0⟩
abbrev GLB_FENCE_HOST_ASSAY : Fld := ⟨76, 0, 1, 0⟩
abbrev GLB_FENCE_HOST_GRAN : Fld := ⟨77, 0, 1, 0⟩
abbrev GLB_FENCE_HOST_PCIE : Fld := ⟨78, 0, 1, 0⟩
abbrev GLB_FENCE_HOST_HL : Fld := ⟨79, 0, 6, 0⟩
/-! TRK[t].CTL (05_trunk_signalling.md) -/
abbrev TRK_CTL_RESTART_AN (i : Nat) : Fld := ⟨80, i, 1, 0⟩
abbrev TRK_CTL_RETRAIN (i : Nat) : Fld := ⟨81, i, 1, 0⟩
abbrev TRK_CTL_TEST (i : Nat) : Fld := ⟨82, i, 4, 0⟩
abbrev TRK_CTL_ADV_MASK (i : Nat) : Fld := ⟨83, i, 6, 63⟩
abbrev TRK_CTL_MODE (i : Nat) : Fld := ⟨84, i, 3, 5⟩
abbrev TRK_CTL_MS_CFG (i : Nat) : Fld := ⟨85, i, 2, 0⟩
abbrev TRK_CTL_PRECODE (i : Nat) : Fld := ⟨86, i, 2, 0⟩
abbrev TRK_CTL_EEE_EN (i : Nat) : Fld := ⟨87, i, 1, 1⟩
abbrev TRK_CTL_ENABLE (i : Nat) : Fld := ⟨88, i, 1, 0⟩
/-! TRK[t].STAT (05_trunk_signalling.md) -/
abbrev TRK_STAT_STATE (i : Nat) : Fld := ⟨89, i, 4, 0⟩
abbrev TRK_STAT_RESOLVED (i : Nat) : Fld := ⟨90, i, 3, 0⟩
abbrev TRK_STAT_VALID (i : Nat) : Fld := ⟨91, i, 1, 0⟩
abbrev TRK_STAT_MASTER (i : Nat) : Fld := ⟨92, i, 1, 0⟩
abbrev TRK_STAT_PRECODE_TX (i : Nat) : Fld := ⟨93, i, 1, 0⟩
abbrev TRK_STAT_PRECODE_RX (i : Nat) : Fld := ⟨94, i, 1, 0⟩
abbrev TRK_STAT_AM_LOCK (i : Nat) : Fld := ⟨95, i, 1, 0⟩
abbrev TRK_STAT_LPI_TX (i : Nat) : Fld := ⟨96, i, 1, 0⟩
abbrev TRK_STAT_LPI_RX (i : Nat) : Fld := ⟨97, i, 1, 0⟩
abbrev TRK_STAT_PEER_CR (i : Nat) : Fld := ⟨98, i, 1, 0⟩
abbrev TRK_STAT_TWIN_PEER (i : Nat) : Fld := ⟨99, i, 1, 0⟩
abbrev TRK_STAT_LINK_UP (i : Nat) : Fld := ⟨100, i, 1, 0⟩
/-! TRK[t].LINK_EVT (05_trunk_signalling.md) -/
abbrev TRK_LINK_EVT_TONE_SEEN (i : Nat) : Fld := ⟨101, i, 1, 0⟩
abbrev TRK_LINK_EVT_LCH_TIMEOUT (i : Nat) : Fld := ⟨102, i, 1, 0⟩
abbrev TRK_LINK_EVT_SLEEP_NAK (i : Nat) : Fld := ⟨103, i, 1, 0⟩
abbrev TRK_LINK_EVT_TRAIN_FAIL (i : Nat) : Fld := ⟨104, i, 1, 0⟩
abbrev TRK_LINK_EVT_RETRAIN_FAIL (i : Nat) : Fld := ⟨105, i, 1, 0⟩
abbrev TRK_LINK_EVT_RETRAIN_DONE (i : Nat) : Fld := ⟨106, i, 1, 0⟩
abbrev TRK_LINK_EVT_RETRAIN_START (i : Nat) : Fld := ⟨107, i, 1, 0⟩
abbrev TRK_LINK_EVT_LINK_DOWN (i : Nat) : Fld := ⟨108, i, 1, 0⟩
abbrev TRK_LINK_EVT_LINK_UP (i : Nat) : Fld := ⟨109, i, 1, 0⟩
/-! TRK[t].LINK_EVT_EN (05_trunk_signalling.md) -/
abbrev TRK_LINK_EVT_EN_EN (i : Nat) : Fld := ⟨110, i, 9, 0⟩
/-! TRK[t].TRAIN_STAT (05_trunk_signalling.md) -/
abbrev TRK_TRAIN_STAT_FAIL_STATE (i : Nat) : Fld := ⟨111, i, 4, 0⟩
abbrev TRK_TRAIN_STAT_FAIL_CAUSE (i : Nat) : Fld := ⟨112, i, 4, 0⟩
abbrev TRK_TRAIN_STAT_LAST_MS (i : Nat) : Fld := ⟨113, i, 16, 0⟩
/-! TRK[t].RETRAIN_CTL (05_trunk_signalling.md) -/
abbrev TRK_RETRAIN_CTL_FR_EN (i : Nat) : Fld := ⟨114, i, 1, 1⟩
abbrev TRK_RETRAIN_CTL_MARGIN_QDB (i : Nat) : Fld := ⟨115, i, 8, 4⟩
abbrev TRK_RETRAIN_CTL_UNC_LIM (i : Nat) : Fld := ⟨116, i, 12, 16⟩
/-! TRK[t].EEE_CTL (05_trunk_signalling.md) -/
abbrev TRK_EEE_CTL_IDLE_US (i : Nat) : Fld := ⟨117, i, 16, 20⟩
/-! TRK[t].RETRAIN_CNT (05_trunk_signalling.md) -/
abbrev TRK_RETRAIN_CNT_COUNT (i : Nat) : Fld := ⟨118, i, 32, 0⟩
/-! TRK[t].LINK_DOWN_CNT (05_trunk_signalling.md) -/
abbrev TRK_LINK_DOWN_CNT_COUNT (i : Nat) : Fld := ⟨119, i, 32, 0⟩
/-! TRK[t].AM_MISS_CNT (05_trunk_signalling.md) -/
abbrev TRK_AM_MISS_CNT_COUNT (i : Nat) : Fld := ⟨120, i, 32, 0⟩
/-! TRK[t].LCH_ERR (05_trunk_signalling.md) -/
abbrev TRK_LCH_ERR_CRC_ERR (i : Nat) : Fld := ⟨121, i, 16, 0⟩
abbrev TRK_LCH_ERR_UNKNOWN (i : Nat) : Fld := ⟨122, i, 16, 0⟩
/-! TRK[t].AN_CR_ID (05_trunk_signalling.md) -/
abbrev TRK_AN_CR_ID_ORG (i : Nat) : Fld := ⟨123, i, 24, 4948580⟩
/-! TRK[t].AN_CR_LOC (05_trunk_signalling.md) -/
abbrev TRK_AN_CR_LOC_WORD (i : Nat) : Fld := ⟨124, i, 32, 0⟩
/-! TRK[t].AN_CR_LP (05_trunk_signalling.md) -/
abbrev TRK_AN_CR_LP_WORD (i : Nat) : Fld := ⟨125, i, 32, 0⟩
/-! TRK[t].AN_STAT (05_trunk_signalling.md) -/
abbrev TRK_AN_STAT_DONE (i : Nat) : Fld := ⟨126, i, 1, 0⟩
abbrev TRK_AN_STAT_LOC_MODES (i : Nat) : Fld := ⟨127, i, 6, 0⟩
abbrev TRK_AN_STAT_LP_MODES (i : Nat) : Fld := ⟨128, i, 6, 0⟩
/-! TRK[t].TX_FIR (05_trunk_signalling.md) -/
abbrev TRK_TX_FIR_AMP_HDB (i : Nat) : Fld := ⟨129, i, 8, 0⟩
abbrev TRK_TX_FIR_POST (i : Nat) : Fld := ⟨130, i, 8, 252⟩
abbrev TRK_TX_FIR_PRE (i : Nat) : Fld := ⟨131, i, 8, 0⟩
/-! TRK[t].TX_ABORT_CNT (05_trunk_signalling.md) -/
abbrev TRK_TX_ABORT_CNT_COUNT (i : Nat) : Fld := ⟨132, i, 32, 0⟩
/-! TRK[t].BANK_DISC_CNT (05_trunk_signalling.md) -/
abbrev TRK_BANK_DISC_CNT_COUNT (i : Nat) : Fld := ⟨133, i, 32, 0⟩
/-! TRK[t].RX_ABORT_CNT (05_trunk_signalling.md) -/
abbrev TRK_RX_ABORT_CNT_COUNT (i : Nat) : Fld := ⟨134, i, 32, 0⟩
/-! TRK[t].EC_CTL (06_trunk_equalisation.md) -/
abbrev TRK_EC_CTL_DENSE_EN (i : Nat) : Fld := ⟨135, i, 1, 1⟩
abbrev TRK_EC_CTL_SPARSE_EN (i : Nat) : Fld := ⟨136, i, 1, 1⟩
abbrev TRK_EC_CTL_AUTO_PLACE (i : Nat) : Fld := ⟨137, i, 1, 1⟩
abbrev TRK_EC_CTL_EXTEND (i : Nat) : Fld := ⟨138, i, 1, 0⟩
abbrev TRK_EC_CTL_SEARCH_EN (i : Nat) : Fld := ⟨139, i, 1, 1⟩
abbrev TRK_EC_CTL_MU_TRK (i : Nat) : Fld := ⟨140, i, 5, 16⟩
abbrev TRK_EC_CTL_PLACE_DB (i : Nat) : Fld := ⟨141, i, 8, 45⟩
/-! TRK[t].EC_STAT (06_trunk_equalisation.md) -/
abbrev TRK_EC_STAT_ACTIVE (i : Nat) : Fld := ⟨142, i, 8, 0⟩
abbrev TRK_EC_STAT_REPLACING (i : Nat) : Fld := ⟨143, i, 1, 0⟩
abbrev TRK_EC_STAT_PENDING (i : Nat) : Fld := ⟨144, i, 1, 0⟩
/-! TRK[t].EC_WIN[i] (06_trunk_equalisation.md) -/
abbrev TRK_EC_WIN_STATE (i j : Nat) : Fld := ⟨145, (64 * i + j), 2, 0⟩
abbrev TRK_EC_WIN_PIN (i j : Nat) : Fld := ⟨146, (64 * i + j), 1, 0⟩
abbrev TRK_EC_WIN_SOURCE (i j : Nat) : Fld := ⟨147, (64 * i + j), 1, 0⟩
abbrev TRK_EC_WIN_LEVEL_HDB (i j : Nat) : Fld := ⟨148, (64 * i + j), 8, 0⟩
abbrev TRK_EC_WIN_START (i j : Nat) : Fld := ⟨149, (64 * i + j), 13, 0⟩
/-! TRK[t].EC_MOVE_CNT (06_trunk_equalisation.md) -/
abbrev TRK_EC_MOVE_CNT_OPENED (i : Nat) : Fld := ⟨150, i, 16, 0⟩
abbrev TRK_EC_MOVE_CNT_RELEASED (i : Nat) : Fld := ⟨151, i, 16, 0⟩
/-! TRK[t].EC_SEARCH (06_trunk_equalisation.md) -/
abbrev TRK_EC_SEARCH_NEW (i : Nat) : Fld := ⟨152, i, 1, 0⟩
abbrev TRK_EC_SEARCH_DELAY (i : Nat) : Fld := ⟨153, i, 13, 0⟩
abbrev TRK_EC_SEARCH_LEVEL_HDB (i : Nat) : Fld := ⟨154, i, 8, 0⟩
/-! TRK[t].EQ_CTL (06_trunk_equalisation.md) -/
abbrev TRK_EQ_CTL_ADAPT_HOLD (i : Nat) : Fld := ⟨155, i, 1, 0⟩
abbrev TRK_EQ_CTL_DFE_EN (i : Nat) : Fld := ⟨156, i, 1, 1⟩
abbrev TRK_EQ_CTL_FFE_EN (i : Nat) : Fld := ⟨157, i, 1, 1⟩
abbrev TRK_EQ_CTL_CURSOR (i : Nat) : Fld := ⟨158, i, 6, 16⟩
abbrev TRK_EQ_CTL_MU_FFE (i : Nat) : Fld := ⟨159, i, 5, 15⟩
abbrev TRK_EQ_CTL_MU_DFE (i : Nat) : Fld := ⟨160, i, 5, 15⟩
/-! TRK[t].EQ_STAT (06_trunk_equalisation.md) -/
abbrev TRK_EQ_STAT_EC_CONV (i : Nat) : Fld := ⟨161, i, 1, 0⟩
abbrev TRK_EQ_STAT_FFE_CONV (i : Nat) : Fld := ⟨162, i, 1, 0⟩
abbrev TRK_EQ_STAT_DFE_CONV (i : Nat) : Fld := ⟨163, i, 1, 0⟩
abbrev TRK_EQ_STAT_TIMING_LOCK (i : Nat) : Fld := ⟨164, i, 1, 0⟩
abbrev TRK_EQ_STAT_IMPULSE (i : Nat) : Fld := ⟨165, i, 1, 0⟩
abbrev TRK_EQ_STAT_IMPULSE_CNT (i : Nat) : Fld := ⟨166, i, 16, 0⟩
/-! TRK[t].COEF_SEL (06_trunk_equalisation.md) -/
abbrev TRK_COEF_SEL_SNAP (i : Nat) : Fld := ⟨167, i, 1, 0⟩
abbrev TRK_COEF_SEL_BANK (i : Nat) : Fld := ⟨168, i, 2, 0⟩
abbrev TRK_COEF_SEL_WIN (i : Nat) : Fld := ⟨169, i, 3, 0⟩
abbrev TRK_COEF_SEL_INDEX (i : Nat) : Fld := ⟨170, i, 8, 0⟩
/-! TRK[t].COEF_DATA (06_trunk_equalisation.md) -/
abbrev TRK_COEF_DATA_COEF (i : Nat) : Fld := ⟨171, i, 16, 0⟩
/-! TRK[t].EQ_RX (06_trunk_equalisation.md) -/
abbrev TRK_EQ_RX_FREQ (i : Nat) : Fld := ⟨172, i, 16, 0⟩
abbrev TRK_EQ_RX_PHASE (i : Nat) : Fld := ⟨173, i, 8, 0⟩
abbrev TRK_EQ_RX_GAIN_QDB (i : Nat) : Fld := ⟨174, i, 8, 0⟩
/-! TRK[t].SNR (06_trunk_equalisation.md) -/
abbrev TRK_SNR_SNR_QDB (i : Nat) : Fld := ⟨175, i, 8, 0⟩
abbrev TRK_SNR_MARGIN_QDB (i : Nat) : Fld := ⟨176, i, 8, 0⟩
abbrev TRK_SNR_MIN_MARGIN (i : Nat) : Fld := ⟨177, i, 8, 127⟩
abbrev TRK_SNR_REF_QDB (i : Nat) : Fld := ⟨178, i, 8, 72⟩
/-! TRK[t].SLICER (06_trunk_equalisation.md) -/
abbrev TRK_SLICER_UPPER (i : Nat) : Fld := ⟨179, i, 8, 0⟩
abbrev TRK_SLICER_MIDDLE (i : Nat) : Fld := ⟨180, i, 8, 0⟩
abbrev TRK_SLICER_LOWER (i : Nat) : Fld := ⟨181, i, 8, 0⟩
/-! TRK[t].FEC_CW_CNT (06_trunk_equalisation.md) -/
abbrev TRK_FEC_CW_CNT_COUNT (i : Nat) : Fld := ⟨182, i, 48, 0⟩
/-! TRK[t].FEC_CORR_SYM_CNT (06_trunk_equalisation.md) -/
abbrev TRK_FEC_CORR_SYM_CNT_COUNT (i : Nat) : Fld := ⟨183, i, 48, 0⟩
/-! TRK[t].FEC_CORR_CW_CNT (06_trunk_equalisation.md) -/
abbrev TRK_FEC_CORR_CW_CNT_COUNT (i : Nat) : Fld := ⟨184, i, 48, 0⟩
/-! TRK[t].FEC_UNC_CNT (06_trunk_equalisation.md) -/
abbrev TRK_FEC_UNC_CNT_COUNT (i : Nat) : Fld := ⟨185, i, 48, 0⟩
/-! TRK[t].FEC_SEC (06_trunk_equalisation.md) -/
abbrev TRK_FEC_SEC_UNC_1S (i : Nat) : Fld := ⟨186, i, 16, 0⟩
abbrev TRK_FEC_SEC_MAX_1S (i : Nat) : Fld := ⟨187, i, 5, 0⟩
/-! TRK[t].FEC_HIST[i] (06_trunk_equalisation.md) -/
abbrev TRK_FEC_HIST_COUNT (i j : Nat) : Fld := ⟨188, (64 * i + j), 32, 0⟩
/-! TWIN[i].CFG (07_twinning_quiet_windows.md) -/
abbrev TWIN_CFG_FORMED (i : Nat) : Fld := ⟨189, i, 1, 0⟩
abbrev TWIN_CFG_MEMBER_B (i : Nat) : Fld := ⟨190, i, 3, 0⟩
abbrev TWIN_CFG_MEMBER_A (i : Nat) : Fld := ⟨191, i, 3, 0⟩
abbrev TWIN_CFG_HOLD_GUARD_NS (i : Nat) : Fld := ⟨192, i, 10, 100⟩
/-! TWIN[i].STAT (07_twinning_quiet_windows.md) -/
abbrev TWIN_STAT_TWIN_STATE (i : Nat) : Fld := ⟨193, i, 2, 0⟩
abbrev TWIN_STAT_PREF (i : Nat) : Fld := ⟨194, i, 2, 1⟩
abbrev TWIN_STAT_STATE_B (i : Nat) : Fld := ⟨195, i, 3, 0⟩
abbrev TWIN_STAT_STATE_A (i : Nat) : Fld := ⟨196, i, 3, 0⟩
abbrev TWIN_STAT_PEER_ROLE_B (i : Nat) : Fld := ⟨197, i, 2, 0⟩
abbrev TWIN_STAT_PEER_ROLE_A (i : Nat) : Fld := ⟨198, i, 2, 0⟩
/-! TWIN[i].SKEW (07_twinning_quiet_windows.md) -/
abbrev TWIN_SKEW_SKEW_PS (i : Nat) : Fld := ⟨199, i, 32, 0⟩
/-! TWIN[i].ARRIVAL (07_twinning_quiet_windows.md) -/
abbrev TWIN_ARRIVAL_OFFSET_NS (i : Nat) : Fld := ⟨200, i, 16, 0⟩
/-! TWIN[i].EVT (07_twinning_quiet_windows.md) -/
abbrev TWIN_EVT_WRONG_PEER (i : Nat) : Fld := ⟨201, i, 1, 0⟩
abbrev TWIN_EVT_JOIN_FAIL (i : Nat) : Fld := ⟨202, i, 1, 0⟩
abbrev TWIN_EVT_BOTH_BAD (i : Nat) : Fld := ⟨203, i, 1, 0⟩
abbrev TWIN_EVT_DOWN (i : Nat) : Fld := ⟨204, i, 1, 0⟩
abbrev TWIN_EVT_EXPOSED (i : Nat) : Fld := ⟨205, i, 1, 0⟩
abbrev TWIN_EVT_PROTECTED (i : Nat) : Fld := ⟨206, i, 1, 0⟩
/-! TWIN[i].EVT_EN (07_twinning_quiet_windows.md) -/
abbrev TWIN_EVT_EN_EN (i : Nat) : Fld := ⟨207, i, 6, 0⟩
/-! TWIN[i].JOIN_STAT (07_twinning_quiet_windows.md) -/
abbrev TWIN_JOIN_STAT_CAUSE_B (i : Nat) : Fld := ⟨208, i, 4, 0⟩
abbrev TWIN_JOIN_STAT_CAUSE_A (i : Nat) : Fld := ⟨209, i, 4, 0⟩
abbrev TWIN_JOIN_STAT_JOIN_CNT (i : Nat) : Fld := ⟨210, i, 16, 0⟩
/-! TWIN[i].CNT[k] (07_twinning_quiet_windows.md) -/
abbrev TWIN_CNT_COUNT (i j : Nat) : Fld := ⟨211, (64 * i + j), 48, 0⟩
/-! TRK[t].QW_CTL (07_twinning_quiet_windows.md) -/
abbrev TRK_QW_CTL_REQ (i : Nat) : Fld := ⟨212, i, 1, 0⟩
abbrev TRK_QW_CTL_REFUSE (i : Nat) : Fld := ⟨213, i, 1, 0⟩
abbrev TRK_QW_CTL_LEAD_AM (i : Nat) : Fld := ⟨214, i, 5, 12⟩
abbrev TRK_QW_CTL_MIN_GAP_MS (i : Nat) : Fld := ⟨215, i, 8, 100⟩
abbrev TRK_QW_CTL_HOST_US (i : Nat) : Fld := ⟨216, i, 16, 1000⟩
/-! TRK[t].QW_LIM (07_twinning_quiet_windows.md) -/
abbrev TRK_QW_LIM_QW_EN (i : Nat) : Fld := ⟨217, i, 1, 0⟩
abbrev TRK_QW_LIM_MAX_US (i : Nat) : Fld := ⟨218, i, 16, 1000⟩
/-! TRK[t].QW_STAT (07_twinning_quiet_windows.md) -/
abbrev TRK_QW_STAT_STATE (i : Nat) : Fld := ⟨219, i, 2, 0⟩
abbrev TRK_QW_STAT_LOCAL (i : Nat) : Fld := ⟨220, i, 1, 0⟩
abbrev TRK_QW_STAT_SCOPE (i : Nat) : Fld := ⟨221, i, 2, 0⟩
abbrev TRK_QW_STAT_PURPOSE (i : Nat) : Fld := ⟨222, i, 2, 0⟩
abbrev TRK_QW_STAT_NAK_RX (i : Nat) : Fld := ⟨223, i, 4, 0⟩
abbrev TRK_QW_STAT_NAK_TX (i : Nat) : Fld := ⟨224, i, 4, 0⟩
abbrev TRK_QW_STAT_START (i : Nat) : Fld := ⟨225, i, 8, 0⟩
/-! TRK[t].QW_CNT (07_twinning_quiet_windows.md) -/
abbrev TRK_QW_CNT_GRANTED (i : Nat) : Fld := ⟨226, i, 16, 0⟩
abbrev TRK_QW_CNT_FAILED (i : Nat) : Fld := ⟨227, i, 16, 0⟩
/-! TRK[t].QW_TIME (07_twinning_quiet_windows.md) -/
abbrev TRK_QW_TIME_TOTAL_US (i : Nat) : Fld := ⟨228, i, 32, 0⟩
/-! DRP[d].CTL (08_drop_segments.md) -/
abbrev DRP_CTL_RESTART (i : Nat) : Fld := ⟨229, i, 1, 0⟩
abbrev DRP_CTL_TEST (i : Nat) : Fld := ⟨230, i, 4, 0⟩
abbrev DRP_CTL_MODE (i : Nat) : Fld := ⟨231, i, 1, 0⟩
abbrev DRP_CTL_STRICT_ID (i : Nat) : Fld := ⟨232, i, 1, 0⟩
abbrev DRP_CTL_STRANGER (i : Nat) : Fld := ⟨233, i, 1, 1⟩
abbrev DRP_CTL_TERM (i : Nat) : Fld := ⟨234, i, 1, 1⟩
abbrev DRP_CTL_ENABLE (i : Nat) : Fld := ⟨235, i, 1, 0⟩
/-! DRP[d].STAT (08_drop_segments.md) -/
abbrev DRP_STAT_STATE (i : Nat) : Fld := ⟨236, i, 3, 0⟩
abbrev DRP_STAT_MODE_ACT (i : Nat) : Fld := ⟨237, i, 1, 0⟩
abbrev DRP_STAT_BEACON_ON (i : Nat) : Fld := ⟨238, i, 1, 0⟩
abbrev DRP_STAT_NODE_COUNT (i : Nat) : Fld := ⟨239, i, 6, 0⟩
abbrev DRP_STAT_DUP_ID (i : Nat) : Fld := ⟨240, i, 8, 0⟩
/-! DRP[d].EVT (08_drop_segments.md) -/
abbrev DRP_EVT_WAKE (i : Nat) : Fld := ⟨241, i, 1, 0⟩
abbrev DRP_EVT_DUP_COORD (i : Nat) : Fld := ⟨242, i, 1, 0⟩
abbrev DRP_EVT_DUP_ID (i : Nat) : Fld := ⟨243, i, 1, 0⟩
abbrev DRP_EVT_JAM (i : Nat) : Fld := ⟨244, i, 1, 0⟩
abbrev DRP_EVT_JABBER (i : Nat) : Fld := ⟨245, i, 1, 0⟩
abbrev DRP_EVT_MISPLACED (i : Nat) : Fld := ⟨246, i, 1, 0⟩
abbrev DRP_EVT_STRANGER (i : Nat) : Fld := ⟨247, i, 1, 0⟩
/-! DRP[d].EVT_EN (08_drop_segments.md) -/
abbrev DRP_EVT_EN_EN (i : Nat) : Fld := ⟨248, i, 7, 0⟩
/-! DRP[d].CYC_CTL (08_drop_segments.md) -/
abbrev DRP_CYC_CTL_TO_TIMER (i : Nat) : Fld := ⟨249, i, 8, 32⟩
abbrev DRP_CYC_CTL_NODES (i : Nat) : Fld := ⟨250, i, 6, 8⟩
abbrev DRP_CYC_CTL_MIN_CYCLE_US (i : Nat) : Fld := ⟨251, i, 10, 80⟩
/-! DRP[d].BURST_CTL (08_drop_segments.md) -/
abbrev DRP_BURST_CTL_CATCH_BURST (i : Nat) : Fld := ⟨252, i, 4, 1⟩
abbrev DRP_BURST_CTL_BURST_TMR (i : Nat) : Fld := ⟨253, i, 8, 128⟩
abbrev DRP_BURST_CTL_MAX_BC (i : Nat) : Fld := ⟨254, i, 8, 7⟩
/-! DRP[d].CYCLE_CNT (08_drop_segments.md) -/
abbrev DRP_CYCLE_CNT_COUNT (i : Nat) : Fld := ⟨255, i, 32, 0⟩
/-! DRP[d].LINE_CTL (08_drop_segments.md) -/
abbrev DRP_LINE_CTL_JAM_MS (i : Nat) : Fld := ⟨256, i, 16, 100⟩
/-! DRP[d].PWR (08_drop_segments.md) -/
abbrev DRP_PWR_WAKE_EN (i : Nat) : Fld := ⟨257, i, 1, 1⟩
abbrev DRP_PWR_IDLE_MS (i : Nat) : Fld := ⟨258, i, 16, 1000⟩
/-! DRP[d].RX_FRAMES (08_drop_segments.md) -/
abbrev DRP_RX_FRAMES_COUNT (i : Nat) : Fld := ⟨259, i, 48, 0⟩
/-! DRP[d].RX_OCTETS (08_drop_segments.md) -/
abbrev DRP_RX_OCTETS_COUNT (i : Nat) : Fld := ⟨260, i, 64, 0⟩
/-! DRP[d].TX_FRAMES (08_drop_segments.md) -/
abbrev DRP_TX_FRAMES_COUNT (i : Nat) : Fld := ⟨261, i, 48, 0⟩
/-! DRP[d].TX_OCTETS (08_drop_segments.md) -/
abbrev DRP_TX_OCTETS_COUNT (i : Nat) : Fld := ⟨262, i, 64, 0⟩
/-! DRP[d].ERR_CNT[k] (08_drop_segments.md) -/
abbrev DRP_ERR_CNT_COUNT (i j : Nat) : Fld := ⟨263, (64 * i + j), 32, 0⟩
/-! DRP[d].STRANGER_LO (08_drop_segments.md) -/
abbrev DRP_STRANGER_LO_MAC_LO (i : Nat) : Fld := ⟨264, i, 32, 0⟩
/-! DRP[d].STRANGER_HI (08_drop_segments.md) -/
abbrev DRP_STRANGER_HI_OPP (i : Nat) : Fld := ⟨265, i, 8, 0⟩
abbrev DRP_STRANGER_HI_MAC_HI (i : Nat) : Fld := ⟨266, i, 16, 0⟩
/-! DRP[d].STN_LO[s] (08_drop_segments.md) -/
abbrev DRP_STN_LO_MAC_LO (i j : Nat) : Fld := ⟨267, (64 * i + j), 32, 0⟩
/-! DRP[d].STN_HI[s] (08_drop_segments.md) -/
abbrev DRP_STN_HI_VALID (i j : Nat) : Fld := ⟨268, (64 * i + j), 1, 0⟩
abbrev DRP_STN_HI_ISO (i j : Nat) : Fld := ⟨269, (64 * i + j), 1, 0⟩
abbrev DRP_STN_HI_MACSEC (i j : Nat) : Fld := ⟨270, (64 * i + j), 1, 0⟩
abbrev DRP_STN_HI_BARRED (i j : Nat) : Fld := ⟨271, (64 * i + j), 1, 0⟩
abbrev DRP_STN_HI_MAX_BURST (i j : Nat) : Fld := ⟨272, (64 * i + j), 4, 1⟩
abbrev DRP_STN_HI_MAC_HI (i j : Nat) : Fld := ⟨273, (64 * i + j), 16, 0⟩
/-! DRP[d].SLOT_RX[s] (08_drop_segments.md) -/
abbrev DRP_SLOT_RX_COUNT (i j : Nat) : Fld := ⟨274, (64 * i + j), 32, 0⟩
/-! DRP[d].SLOT_ERR[s] (08_drop_segments.md) -/
abbrev DRP_SLOT_ERR_COLL (i j : Nat) : Fld := ⟨275, (64 * i + j), 16, 0⟩
abbrev DRP_SLOT_ERR_JABBER (i j : Nat) : Fld := ⟨276, (64 * i + j), 8, 0⟩
abbrev DRP_SLOT_ERR_DISC (i j : Nat) : Fld := ⟨277, (64 * i + j), 8, 0⟩
/-! DRP[d].LD_CTL (09_long_drop_modem.md) -/
abbrev DRP_LD_CTL_TEST_PAT (i : Nat) : Fld := ⟨278, i, 2, 0⟩
abbrev DRP_LD_CTL_CAP_EN (i : Nat) : Fld := ⟨279, i, 1, 1⟩
abbrev DRP_LD_CTL_SHADOW_EN (i : Nat) : Fld := ⟨280, i, 1, 1⟩
abbrev DRP_LD_CTL_CAPTURE_DB (i : Nat) : Fld := ⟨281, i, 4, 6⟩
abbrev DRP_LD_CTL_SYNC_TOL (i : Nat) : Fld := ⟨282, i, 3, 3⟩
abbrev DRP_LD_CTL_LD_MOD (i : Nat) : Fld := ⟨283, i, 2, 2⟩
abbrev DRP_LD_CTL_TO_SYM (i : Nat) : Fld := ⟨284, i, 8, 48⟩
/-! DRP[d].LD_RATE (09_long_drop_modem.md) -/
abbrev DRP_LD_RATE_UP_QDB (i : Nat) : Fld := ⟨285, i, 8, 92⟩
abbrev DRP_LD_RATE_DOWN_QDB (i : Nat) : Fld := ⟨286, i, 8, 80⟩
abbrev DRP_LD_RATE_UP_RUN (i : Nat) : Fld := ⟨287, i, 7, 8⟩
abbrev DRP_LD_RATE_HOLD_100MS (i : Nat) : Fld := ⟨288, i, 8, 10⟩
/-! DRP[d].LD_RATE_MASK (09_long_drop_modem.md) -/
abbrev DRP_LD_RATE_MASK_RATE (i : Nat) : Fld := ⟨289, i, 32, 0⟩
/-! DRP[d].LD_STAT (09_long_drop_modem.md) -/
abbrev DRP_LD_STAT_CARRIER (i : Nat) : Fld := ⟨290, i, 1, 0⟩
abbrev DRP_LD_STAT_RX_BUSY (i : Nat) : Fld := ⟨291, i, 1, 0⟩
abbrev DRP_LD_STAT_CAP_ARMED (i : Nat) : Fld := ⟨292, i, 1, 0⟩
abbrev DRP_LD_STAT_LAST_ID (i : Nat) : Fld := ⟨293, i, 6, 0⟩
abbrev DRP_LD_STAT_TO_ACT (i : Nat) : Fld := ⟨294, i, 8, 48⟩
abbrev DRP_LD_STAT_LAST_SNR_QDB (i : Nat) : Fld := ⟨295, i, 8, 0⟩
/-! DRP[d].LD_ACQ_CNT[k] (09_long_drop_modem.md) -/
abbrev DRP_LD_ACQ_CNT_COUNT (i j : Nat) : Fld := ⟨296, (64 * i + j), 32, 0⟩
/-! DRP[d].LD_CW_CNT (09_long_drop_modem.md) -/
abbrev DRP_LD_CW_CNT_COUNT (i : Nat) : Fld := ⟨297, i, 48, 0⟩
/-! DRP[d].LD_CORR_SYM_CNT (09_long_drop_modem.md) -/
abbrev DRP_LD_CORR_SYM_CNT_COUNT (i : Nat) : Fld := ⟨298, i, 48, 0⟩
/-! DRP[d].LD_UNC_CNT (09_long_drop_modem.md) -/
abbrev DRP_LD_UNC_CNT_COUNT (i : Nat) : Fld := ⟨299, i, 48, 0⟩
/-! DRP[d].LD_SLOT[s] (09_long_drop_modem.md) -/
abbrev DRP_LD_SLOT_SNR_QDB (i j : Nat) : Fld := ⟨300, (64 * i + j), 8, 0⟩
abbrev DRP_LD_SLOT_RATE16 (i j : Nat) : Fld := ⟨301, (64 * i + j), 1, 0⟩
abbrev DRP_LD_SLOT_RUN (i j : Nat) : Fld := ⟨302, (64 * i + j), 7, 0⟩
abbrev DRP_LD_SLOT_CFO_HZ (i j : Nat) : Fld := ⟨303, (64 * i + j), 16, 0⟩
/-! DRP[d].LD_COEF_SEL (09_long_drop_modem.md) -/
abbrev DRP_LD_COEF_SEL_SNAP (i : Nat) : Fld := ⟨304, i, 1, 0⟩
abbrev DRP_LD_COEF_SEL_BANK (i : Nat) : Fld := ⟨305, i, 2, 0⟩
abbrev DRP_LD_COEF_SEL_SNAP_SLOT (i : Nat) : Fld := ⟨306, i, 6, 0⟩
abbrev DRP_LD_COEF_SEL_INDEX (i : Nat) : Fld := ⟨307, i, 8, 0⟩
/-! DRP[d].LD_COEF_DATA (09_long_drop_modem.md) -/
abbrev DRP_LD_COEF_DATA_REAL (i : Nat) : Fld := ⟨308, i, 16, 0⟩
abbrev DRP_LD_COEF_DATA_IMAG (i : Nat) : Fld := ⟨309, i, 16, 0⟩
/-! PASS[v].CTL (10_pass.md) -/
abbrev PASS_CTL_RETRAIN (i : Nat) : Fld := ⟨310, i, 1, 0⟩
abbrev PASS_CTL_FALLBACK_EN (i : Nat) : Fld := ⟨311, i, 1, 1⟩
abbrev PASS_CTL_DN_EN (i : Nat) : Fld := ⟨312, i, 3, 7⟩
abbrev PASS_CTL_UP_EN (i : Nat) : Fld := ⟨313, i, 3, 7⟩
/-! PASS[v].STAT (10_pass.md) -/
abbrev PASS_STAT_TDN_LOCK (i : Nat) : Fld := ⟨314, i, 1, 0⟩
abbrev PASS_STAT_TUP_LOCK (i : Nat) : Fld := ⟨315, i, 1, 0⟩
abbrev PASS_STAT_BEACON (i : Nat) : Fld := ⟨316, i, 1, 0⟩
abbrev PASS_STAT_FALLBACK (i : Nat) : Fld := ⟨317, i, 1, 0⟩
abbrev PASS_STAT_DN_LOCK (i : Nat) : Fld := ⟨318, i, 3, 0⟩
abbrev PASS_STAT_UP_LOCK (i : Nat) : Fld := ⟨319, i, 3, 0⟩
abbrev PASS_STAT_OUTSTANDING (i : Nat) : Fld := ⟨320, i, 5, 0⟩
/-! PASS[v].EVT (10_pass.md) -/
abbrev PASS_EVT_LANE_LOSS (i : Nat) : Fld := ⟨321, i, 1, 0⟩
abbrev PASS_EVT_CAPACITY (i : Nat) : Fld := ⟨322, i, 1, 0⟩
abbrev PASS_EVT_GIVEN_UP (i : Nat) : Fld := ⟨323, i, 1, 0⟩
abbrev PASS_EVT_SKIPPED (i : Nat) : Fld := ⟨324, i, 1, 0⟩
abbrev PASS_EVT_TALLY_CRC (i : Nat) : Fld := ⟨325, i, 1, 0⟩
abbrev PASS_EVT_RS_UNC (i : Nat) : Fld := ⟨326, i, 1, 0⟩
abbrev PASS_EVT_FALLBACK (i : Nat) : Fld := ⟨327, i, 1, 0⟩
/-! PASS[v].EVT_EN (10_pass.md) -/
abbrev PASS_EVT_EN_EN (i : Nat) : Fld := ⟨328, i, 7, 0⟩
/-! PASS[v].LAT_TALLY (10_pass.md) -/
abbrev PASS_LAT_TALLY_DN (i : Nat) : Fld := ⟨329, i, 16, 0⟩
abbrev PASS_LAT_TALLY_UP (i : Nat) : Fld := ⟨330, i, 16, 0⟩
/-! PASS[v].OFFSET (10_pass.md) -/
abbrev PASS_OFFSET_OFFSET_PS (i : Nat) : Fld := ⟨331, i, 32, 0⟩
/-! PASS[v].LAT_DATA (10_pass.md) -/
abbrev PASS_LAT_DATA_DN_NS (i : Nat) : Fld := ⟨332, i, 16, 0⟩
abbrev PASS_LAT_DATA_UP_NS (i : Nat) : Fld := ⟨333, i, 16, 0⟩
/-! PASS[v].ASYM (10_pass.md) -/
abbrev PASS_ASYM_ASYM_PS (i : Nat) : Fld := ⟨334, i, 16, 0⟩
/-! PASS[v].TALLY_CNT[k] (10_pass.md) -/
abbrev PASS_TALLY_CNT_COUNT (i j : Nat) : Fld := ⟨335, (64 * i + j), 32, 0⟩
/-! PASS[v].RS_CORR_SYM (10_pass.md) -/
abbrev PASS_RS_CORR_SYM_COUNT (i : Nat) : Fld := ⟨336, i, 48, 0⟩
/-! PASS[v].RS_UNC (10_pass.md) -/
abbrev PASS_RS_UNC_COUNT (i : Nat) : Fld := ⟨337, i, 48, 0⟩
/-! PASS[v].DISC_CNT (10_pass.md) -/
abbrev PASS_DISC_CNT_CAP (i : Nat) : Fld := ⟨338, i, 16, 0⟩
abbrev PASS_DISC_CNT_LATE (i : Nat) : Fld := ⟨339, i, 16, 0⟩
/-! PASS[v].PWR (10_pass.md) -/
abbrev PASS_PWR_P_MW (i : Nat) : Fld := ⟨340, i, 16, 0⟩
abbrev PASS_PWR_V_10MV (i : Nat) : Fld := ⟨341, i, 12, 0⟩
/-! PASS_STREAM (10_pass.md) -/
abbrev PASS_STREAM_DELAY_NS : Fld := ⟨342, 0, 16, 2000⟩
/-! HLN[n].CTL (11_host_interfaces.md) -/
abbrev HLN_CTL_RELOCK (i : Nat) : Fld := ⟨343, i, 1, 0⟩
abbrev HLN_CTL_XS_MODE (i : Nat) : Fld := ⟨344, i, 2, 1⟩
abbrev HLN_CTL_PRECODE (i : Nat) : Fld := ⟨345, i, 1, 0⟩
abbrev HLN_CTL_RATE (i : Nat) : Fld := ⟨346, i, 1, 0⟩
abbrev HLN_CTL_ENABLE (i : Nat) : Fld := ⟨347, i, 1, 1⟩
abbrev HLN_CTL_IDLE_US (i : Nat) : Fld := ⟨348, i, 16, 0⟩
/-! HLN[n].STAT (11_host_interfaces.md) -/
abbrev HLN_STAT_LOCK (i : Nat) : Fld := ⟨349, i, 1, 0⟩
abbrev HLN_STAT_AM_LOCK (i : Nat) : Fld := ⟨350, i, 1, 0⟩
abbrev HLN_STAT_RX_IDLE (i : Nat) : Fld := ⟨351, i, 1, 0⟩
abbrev HLN_STAT_TX_IDLE (i : Nat) : Fld := ⟨352, i, 1, 0⟩
abbrev HLN_STAT_EXP_SEQ (i : Nat) : Fld := ⟨353, i, 16, 0⟩
/-! HLN[n].EVT (11_host_interfaces.md) -/
abbrev HLN_EVT_LOCK_LOSS (i : Nat) : Fld := ⟨354, i, 1, 0⟩
abbrev HLN_EVT_SEQ_GAP (i : Nat) : Fld := ⟨355, i, 1, 0⟩
abbrev HLN_EVT_CHK_ERR (i : Nat) : Fld := ⟨356, i, 1, 0⟩
abbrev HLN_EVT_RX_ABORT (i : Nat) : Fld := ⟨357, i, 1, 0⟩
abbrev HLN_EVT_LOCK_GAIN (i : Nat) : Fld := ⟨358, i, 1, 0⟩
/-! HLN[n].EVT_EN (11_host_interfaces.md) -/
abbrev HLN_EVT_EN_EN (i : Nat) : Fld := ⟨359, i, 5, 0⟩
/-! HLN[n].CNT[k] (11_host_interfaces.md) -/
abbrev HLN_CNT_COUNT (i j : Nat) : Fld := ⟨360, (64 * i + j), 32, 0⟩
/-! HLN[n].FEC_CORR_SYM (11_host_interfaces.md) -/
abbrev HLN_FEC_CORR_SYM_COUNT (i : Nat) : Fld := ⟨361, i, 48, 0⟩
/-! HLN[n].FEC_UNC (11_host_interfaces.md) -/
abbrev HLN_FEC_UNC_COUNT (i : Nat) : Fld := ⟨362, i, 48, 0⟩
/-! HLN[n].RX_RECORDS (11_host_interfaces.md) -/
abbrev HLN_RX_RECORDS_COUNT (i : Nat) : Fld := ⟨363, i, 48, 0⟩
/-! HLN[n].TX_RECORDS (11_host_interfaces.md) -/
abbrev HLN_TX_RECORDS_COUNT (i : Nat) : Fld := ⟨364, i, 48, 0⟩
/-! MGMT_PCIE_STAT (11_host_interfaces.md) -/
abbrev MGMT_PCIE_STAT_SPEED : Fld := ⟨365, 0, 4, 0⟩
abbrev MGMT_PCIE_STAT_WIDTH : Fld := ⟨366, 0, 2, 0⟩
abbrev MGMT_PCIE_STAT_DSTATE : Fld := ⟨367, 0, 2, 0⟩
abbrev MGMT_PCIE_STAT_LINK_UP : Fld := ⟨368, 0, 1, 0⟩
/-! MGMT_MDIO (11_host_interfaces.md) -/
abbrev MGMT_MDIO_LATE : Fld := ⟨369, 0, 1, 0⟩
abbrev MGMT_MDIO_PRTAD_BASE : Fld := ⟨370, 0, 5, 0⟩
/-! MGMT_SPI_STAT (11_host_interfaces.md) -/
abbrev MGMT_SPI_STAT_FRAME_ERR : Fld := ⟨371, 0, 16, 0⟩
/-! MGMT_RECOV_CTL (11_host_interfaces.md) -/
abbrev MGMT_RECOV_CTL_COMMIT : Fld := ⟨372, 0, 1, 0⟩
abbrev MGMT_RECOV_CTL_BEGIN : Fld := ⟨373, 0, 1, 0⟩
abbrev MGMT_RECOV_CTL_SLOT : Fld := ⟨374, 0, 2, 1⟩
/-! MGMT_RECOV_LEN (11_host_interfaces.md) -/
abbrev MGMT_RECOV_LEN_LEN : Fld := ⟨375, 0, 32, 0⟩
/-! MGMT_RECOV_DATA (11_host_interfaces.md) -/
abbrev MGMT_RECOV_DATA_DATA : Fld := ⟨376, 0, 32, 0⟩
/-! MGMT_RECOV_STAT (11_host_interfaces.md) -/
abbrev MGMT_RECOV_STAT_REASON : Fld := ⟨377, 0, 3, 0⟩
abbrev MGMT_RECOV_STAT_STATE : Fld := ⟨378, 0, 2, 0⟩
abbrev MGMT_RECOV_STAT_DONE : Fld := ⟨379, 0, 1, 0⟩
abbrev MGMT_RECOV_STAT_WORDS : Fld := ⟨380, 0, 21, 0⟩
/-! MILL_CTL (12_miller_queues.md) -/
abbrev MILL_CTL_PAGE_EN : Fld := ⟨381, 0, 1, 1⟩
/-! MILL_STAT (12_miller_queues.md) -/
abbrev MILL_STAT_WITHDRAWN : Fld := ⟨382, 0, 14, 0⟩
abbrev MILL_STAT_FREE : Fld := ⟨383, 0, 18, 65536⟩
/-! MILL_PART_RES[r] (12_miller_queues.md) -/
abbrev MILL_PART_RES_RESERVE (i : Nat) : Fld := ⟨384, i, 17, (partRst i)⟩
/-! MILL_PART_USED[r] (12_miller_queues.md) -/
abbrev MILL_PART_USED_USED (i : Nat) : Fld := ⟨385, i, 18, 0⟩
/-! MILL_PAGE_CTL (12_miller_queues.md) -/
abbrev MILL_PAGE_CTL_LOW_FREE : Fld := ⟨386, 0, 18, 8192⟩
/-! MILL_PAGE_STAT (12_miller_queues.md) -/
abbrev MILL_PAGE_STAT_BALES_USED : Fld := ⟨387, 0, 18, 0⟩
/-! MILL_ISO_CTL (12_miller_queues.md) -/
abbrev MILL_ISO_CTL_PANIC_NOW : Fld := ⟨388, 0, 16, 0⟩
abbrev MILL_ISO_CTL_PANIC_MAX_US : Fld := ⟨389, 0, 16, 2000⟩
/-! MILL_ISO_TH (12_miller_queues.md) -/
abbrev MILL_ISO_TH_REFILL_CELLS : Fld := ⟨390, 0, 8, 16⟩
abbrev MILL_ISO_TH_PANIC_CELLS : Fld := ⟨391, 0, 8, 8⟩
/-! MILL_EVT (12_miller_queues.md) -/
abbrev MILL_EVT_DESC_ERR : Fld := ⟨392, 0, 1, 0⟩
abbrev MILL_EVT_GRAN_FULL : Fld := ⟨393, 0, 1, 0⟩
abbrev MILL_EVT_PAGE_LOST : Fld := ⟨394, 0, 1, 0⟩
abbrev MILL_EVT_PANIC_LONG : Fld := ⟨395, 0, 1, 0⟩
abbrev MILL_EVT_ISO_STARVE : Fld := ⟨396, 0, 1, 0⟩
abbrev MILL_EVT_PANIC : Fld := ⟨397, 0, 1, 0⟩
abbrev MILL_EVT_NO_CELL : Fld := ⟨398, 0, 1, 0⟩
/-! MILL_EVT_EN (12_miller_queues.md) -/
abbrev MILL_EVT_EN_EN : Fld := ⟨399, 0, 7, 0⟩
/-! MILL_FLUSH (12_miller_queues.md) -/
abbrev MILL_FLUSH_GO : Fld := ⟨400, 0, 1, 0⟩
abbrev MILL_FLUSH_Q : Fld := ⟨401, 0, 13, 0⟩
/-! MILL_DROP_CTL (12_miller_queues.md) -/
abbrev MILL_DROP_CTL_BULK_SHARE : Fld := ⟨402, 0, 14, 6144⟩
/-! MILL_TRK_SP[t] (12_miller_queues.md) -/
abbrev MILL_TRK_SP_SP (i : Nat) : Fld := ⟨403, i, 8, 192⟩
/-! MILL_CNT[k] (12_miller_queues.md) -/
abbrev MILL_CNT_COUNT (i : Nat) : Fld := ⟨404, i, 48, 0⟩
/-! MILLQ[q].CFG (12_miller_queues.md) -/
abbrev MILLQ_CFG_ISO (i : Nat) : Fld := ⟨405, i, 1, (qIsoRst i)⟩
abbrev MILLQ_CFG_PIN (i : Nat) : Fld := ⟨406, i, 1, 0⟩
abbrev MILLQ_CFG_LANE_MASK (i : Nat) : Fld := ⟨407, i, 6, 63⟩
abbrev MILLQ_CFG_PRIO (i : Nat) : Fld := ⟨408, i, 2, (qPrioRst i)⟩
abbrev MILLQ_CFG_PACE_US (i : Nat) : Fld := ⟨409, i, 16, 0⟩
/-! MILLQ[q].LIMIT (12_miller_queues.md) -/
abbrev MILLQ_LIMIT_LIMIT (i : Nat) : Fld := ⟨410, i, 20, 65536⟩
/-! MILLQ[q].PAGE (12_miller_queues.md) -/
abbrev MILLQ_PAGE_RES_MAX (i : Nat) : Fld := ⟨411, i, 16, 256⟩
abbrev MILLQ_PAGE_HEAD_KEEP (i : Nat) : Fld := ⟨412, i, 8, 64⟩
abbrev MILLQ_PAGE_PREFETCH (i : Nat) : Fld := ⟨413, i, 8, 32⟩
/-! MILLQ[q].QUANTUM (12_miller_queues.md) -/
abbrev MILLQ_QUANTUM_QUANTUM (i : Nat) : Fld := ⟨414, i, 16, 2048⟩
/-! MILLQ[q].STAT (12_miller_queues.md) -/
abbrev MILLQ_STAT_STATE (i : Nat) : Fld := ⟨415, i, 3, 0⟩
abbrev MILLQ_STAT_BUSY (i : Nat) : Fld := ⟨416, i, 1, 0⟩
abbrev MILLQ_STAT_RESIDENT (i : Nat) : Fld := ⟨417, i, 18, 0⟩
/-! MILLQ[q].HEAD (12_miller_queues.md) -/
abbrev MILLQ_HEAD_HEAD_WIN (i : Nat) : Fld := ⟨418, i, 16, 0⟩
abbrev MILLQ_HEAD_PAGED (i : Nat) : Fld := ⟨419, i, 16, 0⟩
/-! MILLQ[q].DEPTH (12_miller_queues.md) -/
abbrev MILLQ_DEPTH_FRAMES (i : Nat) : Fld := ⟨420, i, 20, 0⟩
/-! MILLQ[q].ENQ_FRAMES (12_miller_queues.md) -/
abbrev MILLQ_ENQ_FRAMES_COUNT (i : Nat) : Fld := ⟨421, i, 48, 0⟩
/-! MILLQ[q].DEQ_FRAMES (12_miller_queues.md) -/
abbrev MILLQ_DEQ_FRAMES_COUNT (i : Nat) : Fld := ⟨422, i, 48, 0⟩
/-! MILLQ[q].DEQ_OCTETS (12_miller_queues.md) -/
abbrev MILLQ_DEQ_OCTETS_COUNT (i : Nat) : Fld := ⟨423, i, 64, 0⟩
/-! MILLQ[q].DISC[k] (12_miller_queues.md) -/
abbrev MILLQ_DISC_COUNT (i j : Nat) : Fld := ⟨424, (64 * i + j), 32, 0⟩
/-! MILLQ[q].ISO_CNT (12_miller_queues.md) -/
abbrev MILLQ_ISO_CNT_STARVE (i : Nat) : Fld := ⟨425, i, 16, 0⟩
abbrev MILLQ_ISO_CNT_PANIC (i : Nat) : Fld := ⟨426, i, 16, 0⟩
/-! GRAN_CTL (13_memory_granary.md) -/
abbrev GRAN_CTL_SCRUB_EN : Fld := ⟨427, 0, 1, 1⟩
abbrev GRAN_CTL_ORDER : Fld := ⟨428, 0, 2, 0⟩
/-! GRAN_STAT (13_memory_granary.md) -/
abbrev GRAN_STAT_STATE : Fld := ⟨429, 0, 3, 0⟩
abbrev GRAN_STAT_PANIC : Fld := ⟨430, 0, 1, 0⟩
abbrev GRAN_STAT_POINT_ACT : Fld := ⟨431, 0, 2, 0⟩
abbrev GRAN_STAT_FILLED : Fld := ⟨432, 0, 8, 0⟩
abbrev GRAN_STAT_STAGE_SEG : Fld := ⟨433, 0, 8, 0⟩
/-! GRAN_FREQ (13_memory_granary.md) -/
abbrev GRAN_FREQ_REQ : Fld := ⟨434, 0, 1, 0⟩
abbrev GRAN_FREQ_PENDING : Fld := ⟨435, 0, 1, 0⟩
abbrev GRAN_FREQ_TRAINED : Fld := ⟨436, 0, 3, 0⟩
abbrev GRAN_FREQ_POINT : Fld := ⟨437, 0, 2, 0⟩
/-! GRAN_SR_CTL (13_memory_granary.md) -/
abbrev GRAN_SR_CTL_AUTO_EN : Fld := ⟨438, 0, 1, 1⟩
abbrev GRAN_SR_CTL_AUTO_US : Fld := ⟨439, 0, 16, 64⟩
/-! GRAN_PAGE_CTL (13_memory_granary.md) -/
abbrev GRAN_PAGE_CTL_POLICY : Fld := ⟨440, 0, 2, 0⟩
abbrev GRAN_PAGE_CTL_REFRESH_POSTPONE : Fld := ⟨441, 0, 4, 8⟩
abbrev GRAN_PAGE_CTL_ROW_IDLE_NS : Fld := ⟨442, 0, 16, 200⟩
/-! GRAN_WQ_CTL (13_memory_granary.md) -/
abbrev GRAN_WQ_CTL_WQ_HIGH : Fld := ⟨443, 0, 6, 24⟩
abbrev GRAN_WQ_CTL_WQ_LOW : Fld := ⟨444, 0, 6, 8⟩
/-! GRAN_APER (13_memory_granary.md) -/
abbrev GRAN_APER_BASE : Fld := ⟨445, 0, 8, 0⟩
/-! GRAN_SEG (13_memory_granary.md) -/
abbrev GRAN_SEG_NIGHT_SEG : Fld := ⟨446, 0, 8, 128⟩
abbrev GRAN_SEG_PAGE_SEG : Fld := ⟨447, 0, 8, 127⟩
/-! GRAN_SCRUB (13_memory_granary.md) -/
abbrev GRAN_SCRUB_PASSES : Fld := ⟨448, 0, 16, 0⟩
abbrev GRAN_SCRUB_PERIOD_H : Fld := ⟨449, 0, 8, 24⟩
/-! GRAN_EVT (13_memory_granary.md) -/
abbrev GRAN_EVT_TRN_FAIL : Fld := ⟨450, 0, 1, 0⟩
abbrev GRAN_EVT_HOT : Fld := ⟨451, 0, 1, 0⟩
abbrev GRAN_EVT_SCRUB_SLOW : Fld := ⟨452, 0, 1, 0⟩
abbrev GRAN_EVT_ROW_WEAK : Fld := ⟨453, 0, 1, 0⟩
abbrev GRAN_EVT_UNC : Fld := ⟨454, 0, 1, 0⟩
abbrev GRAN_EVT_CORR : Fld := ⟨455, 0, 1, 0⟩
/-! GRAN_EVT_EN (13_memory_granary.md) -/
abbrev GRAN_EVT_EN_EN : Fld := ⟨456, 0, 6, 0⟩
/-! GRAN_ERR_LOG (13_memory_granary.md) -/
abbrev GRAN_ERR_LOG_VALID : Fld := ⟨457, 0, 1, 0⟩
abbrev GRAN_ERR_LOG_UNC : Fld := ⟨458, 0, 1, 0⟩
abbrev GRAN_ERR_LOG_CLASS : Fld := ⟨459, 0, 3, 0⟩
abbrev GRAN_ERR_LOG_CH : Fld := ⟨460, 0, 1, 0⟩
abbrev GRAN_ERR_LOG_BANK : Fld := ⟨461, 0, 4, 0⟩
abbrev GRAN_ERR_LOG_ROW : Fld := ⟨462, 0, 15, 0⟩
abbrev GRAN_ERR_LOG_COLUMN : Fld := ⟨463, 0, 5, 0⟩
abbrev GRAN_ERR_LOG_SYMBOLS : Fld := ⟨464, 0, 2, 0⟩
/-! GRAN_CNT[k] (13_memory_granary.md) -/
abbrev GRAN_CNT_COUNT (i : Nat) : Fld := ⟨465, i, 48, 0⟩
/-! GRAN_TRN_CTL (13_memory_granary.md) -/
abbrev GRAN_TRN_CTL_GO : Fld := ⟨466, 0, 1, 0⟩
abbrev GRAN_TRN_CTL_BUSY : Fld := ⟨467, 0, 1, 0⟩
abbrev GRAN_TRN_CTL_PAT : Fld := ⟨468, 0, 2, 0⟩
abbrev GRAN_TRN_CTL_CH : Fld := ⟨469, 0, 1, 0⟩
abbrev GRAN_TRN_CTL_TRN_LEN : Fld := ⟨470, 0, 24, 2048⟩
/-! GRAN_TRN_ADDR (13_memory_granary.md) -/
abbrev GRAN_TRN_ADDR_ADDR : Fld := ⟨471, 0, 32, 0⟩
/-! GRAN_TRN_PAT[i] (13_memory_granary.md) -/
abbrev GRAN_TRN_PAT_PAT (i : Nat) : Fld := ⟨472, i, 32, 0⟩
/-! GRAN_TRN_ERR (13_memory_granary.md) -/
abbrev GRAN_TRN_ERR_BEATS : Fld := ⟨473, 0, 16, 0⟩
abbrev GRAN_TRN_ERR_DQ : Fld := ⟨474, 0, 16, 0⟩
/-! GRAN_TRN_CNT (13_memory_granary.md) -/
abbrev GRAN_TRN_CNT_TRAININGS : Fld := ⟨475, 0, 16, 0⟩
abbrev GRAN_TRN_CNT_ABORTS : Fld := ⟨476, 0, 16, 0⟩
/-! GRAN_DLY[c][i] (13_memory_granary.md) -/
abbrev GRAN_DLY_TAP (i j : Nat) : Fld := ⟨477, (64 * i + j), 8, 0⟩
/-! MEM_SCRUB_CTL (13_memory_granary.md) -/
abbrev MEM_SCRUB_CTL_PS_EN : Fld := ⟨478, 0, 1, 1⟩
abbrev MEM_SCRUB_CTL_PERIOD_MS : Fld := ⟨479, 0, 14, 100⟩
/-! MEM_PS_STAT (13_memory_granary.md) -/
abbrev MEM_PS_STAT_PASSES : Fld := ⟨480, 0, 16, 0⟩
abbrev MEM_PS_STAT_LAST_MS : Fld := ⟨481, 0, 16, 0⟩
/-! MEM_PS_CNT[k] (13_memory_granary.md) -/
abbrev MEM_PS_CNT_COUNT (i : Nat) : Fld := ⟨482, i, 48, 0⟩
/-! MEM_PS_ERR_LOG (13_memory_granary.md) -/
abbrev MEM_PS_ERR_LOG_VALID : Fld := ⟨483, 0, 1, 0⟩
abbrev MEM_PS_ERR_LOG_UNC : Fld := ⟨484, 0, 1, 0⟩
abbrev MEM_PS_ERR_LOG_WORD : Fld := ⟨485, 0, 21, 0⟩
/-! MEM_VALE[v].BANK_CNT[b] (13_memory_granary.md) -/
abbrev MEM_VALE_BANK_CNT_UNC (i j : Nat) : Fld := ⟨486, (64 * i + j), 16, 0⟩
abbrev MEM_VALE_BANK_CNT_CORR (i j : Nat) : Fld := ⟨487, (64 * i + j), 16, 0⟩
/-! TIME_CTL (14_time.md) -/
abbrev TIME_CTL_REF_RESTORE : Fld := ⟨488, 0, 1, 0⟩
abbrev TIME_CTL_PPS_OUT_EN : Fld := ⟨489, 0, 1, 1⟩
abbrev TIME_CTL_PPS_IN_EN : Fld := ⟨490, 0, 1, 0⟩
abbrev TIME_CTL_SRC : Fld := ⟨491, 0, 2, 0⟩
/-! TIME_STAT (14_time.md) -/
abbrev TIME_STAT_REF_ACT : Fld := ⟨492, 0, 1, 0⟩
abbrev TIME_STAT_COARSE : Fld := ⟨493, 0, 1, 0⟩
abbrev TIME_STAT_PPS_LOCK : Fld := ⟨494, 0, 1, 0⟩
abbrev TIME_STAT_SLEWING : Fld := ⟨495, 0, 1, 0⟩
abbrev TIME_STAT_VALE_LOCK : Fld := ⟨496, 0, 4, 0⟩
/-! TIME_EVT (14_time.md) -/
abbrev TIME_EVT_VALE_UNLOCK : Fld := ⟨497, 0, 1, 0⟩
abbrev TIME_EVT_PPS_LOST : Fld := ⟨498, 0, 1, 0⟩
abbrev TIME_EVT_STEP : Fld := ⟨499, 0, 1, 0⟩
abbrev TIME_EVT_REF_LOSS : Fld := ⟨500, 0, 1, 0⟩
/-! TIME_EVT_EN (14_time.md) -/
abbrev TIME_EVT_EN_EN : Fld := ⟨501, 0, 4, 0⟩
/-! TIME_NOW (14_time.md) -/
abbrev TIME_NOW_SEC : Fld := ⟨502, 0, 48, 0⟩
abbrev TIME_NOW_NS : Fld := ⟨503, 0, 32, 0⟩
abbrev TIME_NOW_FRAC : Fld := ⟨504, 0, 16, 0⟩
/-! TIME_SET (14_time.md) -/
abbrev TIME_SET_SEC : Fld := ⟨505, 0, 48, 0⟩
abbrev TIME_SET_NS : Fld := ⟨506, 0, 32, 0⟩
abbrev TIME_SET_FRAC : Fld := ⟨507, 0, 16, 0⟩
/-! TIME_STEP (14_time.md) -/
abbrev TIME_STEP_GO : Fld := ⟨508, 0, 1, 0⟩
abbrev TIME_STEP_STEP_CNT : Fld := ⟨509, 0, 16, 0⟩
/-! TIME_ADJ_FREQ (14_time.md) -/
abbrev TIME_ADJ_FREQ_FREQ : Fld := ⟨510, 0, 32, 0⟩
/-! TIME_ADJ_PHASE (14_time.md) -/
abbrev TIME_ADJ_PHASE_PHASE_NS : Fld := ⟨511, 0, 32, 0⟩
/-! TIME_PPS_IN (14_time.md) -/
abbrev TIME_PPS_IN_STAMP : Fld := ⟨512, 0, 128, 0⟩
/-! TIME_PPS_CNT (14_time.md) -/
abbrev TIME_PPS_CNT_ACCEPTED : Fld := ⟨513, 0, 16, 0⟩
abbrev TIME_PPS_CNT_IGNORED : Fld := ⟨514, 0, 16, 0⟩
/-! TIME_PPS_OUT (14_time.md) -/
abbrev TIME_PPS_OUT_WIDTH_NS : Fld := ⟨515, 0, 29, 100000000⟩
/-! TIME_CFG (14_time.md) -/
abbrev TIME_CFG_REFCLK_SEL : Fld := ⟨516, 0, 1, 0⟩
abbrev TIME_CFG_DOMAIN : Fld := ⟨517, 0, 8, 0⟩
/-! TIME_VALE[v] (14_time.md) -/
abbrev TIME_VALE_UNLOCK_CNT (i : Nat) : Fld := ⟨518, i, 16, 0⟩
abbrev TIME_VALE_FREQ_PPB (i : Nat) : Fld := ⟨519, i, 16, 0⟩
/-! TIME_PORT_DLY[p] (14_time.md) -/
abbrev TIME_PORT_DLY_TX_10PS (i : Nat) : Fld := ⟨520, i, 16, 0⟩
abbrev TIME_PORT_DLY_RX_10PS (i : Nat) : Fld := ⟨521, i, 16, 0⟩
/-! SURV_CTL (15_surveyor.md) -/
abbrev SURV_CTL_NOTICE_EN : Fld := ⟨522, 0, 1, 1⟩
/-! SURV_EVT (15_surveyor.md) -/
abbrev SURV_EVT_CAP_DONE : Fld := ⟨523, 0, 1, 0⟩
abbrev SURV_EVT_LOOP_OPEN : Fld := ⟨524, 0, 1, 0⟩
abbrev SURV_EVT_ENV : Fld := ⟨525, 0, 1, 0⟩
abbrev SURV_EVT_SHIELD : Fld := ⟨526, 0, 1, 0⟩
abbrev SURV_EVT_CC_FAIL : Fld := ⟨527, 0, 1, 0⟩
abbrev SURV_EVT_CONTACT : Fld := ⟨528, 0, 1, 0⟩
/-! SURV_EVT_EN (15_surveyor.md) -/
abbrev SURV_EVT_EN_EN : Fld := ⟨529, 0, 6, 0⟩
/-! SURV_ENV[i] (15_surveyor.md) -/
abbrev SURV_ENV_LIMIT (i : Nat) : Fld := ⟨530, i, 16, 0⟩
abbrev SURV_ENV_VALUE (i : Nat) : Fld := ⟨531, i, 16, 0⟩
/-! SURV_CAP_CTL (15_surveyor.md) -/
abbrev SURV_CAP_CTL_FREE : Fld := ⟨532, 0, 1, 0⟩
abbrev SURV_CAP_CTL_IDX : Fld := ⟨533, 0, 3, 0⟩
/-! SURV_CAP_STAT (15_surveyor.md) -/
abbrev SURV_CAP_STAT_HELD : Fld := ⟨534, 0, 8, 0⟩
abbrev SURV_CAP_STAT_REFUSED : Fld := ⟨535, 0, 1, 0⟩
abbrev SURV_CAP_STAT_GA_8K : Fld := ⟨536, 0, 23, 0⟩
/-! SURV_TRK[t].CTL (15_surveyor.md) -/
abbrev SURV_TRK_CTL_START (i : Nat) : Fld := ⟨537, i, 1, 0⟩
abbrev SURV_TRK_CTL_CAPTURE (i : Nat) : Fld := ⟨538, i, 1, 0⟩
/-! SURV_TRK[t].STAT (15_surveyor.md) -/
abbrev SURV_TRK_STAT_OUTCOME (i : Nat) : Fld := ⟨539, i, 3, 0⟩
abbrev SURV_TRK_STAT_BUSY (i : Nat) : Fld := ⟨540, i, 1, 0⟩
abbrev SURV_TRK_STAT_PEAKS (i : Nat) : Fld := ⟨541, i, 5, 0⟩
abbrev SURV_TRK_STAT_IL_QDB (i : Nat) : Fld := ⟨542, i, 16, 0⟩
/-! SURV_TRK[t].LOOP (15_surveyor.md) -/
abbrev SURV_TRK_LOOP_LOOP_MOHM (i : Nat) : Fld := ⟨543, i, 16, 65535⟩
abbrev SURV_TRK_LOOP_PEER_MOHM (i : Nat) : Fld := ⟨544, i, 16, 65535⟩
/-! SURV_TRK[t].BASE (15_surveyor.md) -/
abbrev SURV_TRK_BASE_CONTACT_MOHM (i : Nat) : Fld := ⟨545, i, 16, 0⟩
abbrev SURV_TRK_BASE_BASE_MOHM (i : Nat) : Fld := ⟨546, i, 16, 0⟩
/-! SURV_TRK[t].CC_CTL (15_surveyor.md) -/
abbrev SURV_TRK_CC_CTL_CLEAR (i : Nat) : Fld := ⟨547, i, 1, 0⟩
abbrev SURV_TRK_CC_CTL_DAY_MAX (i : Nat) : Fld := ⟨548, i, 8, 32⟩
abbrev SURV_TRK_CC_CTL_MAX_PULSES (i : Nat) : Fld := ⟨549, i, 4, 4⟩
/-! SURV_TRK[t].CC_STAT (15_surveyor.md) -/
abbrev SURV_TRK_CC_STAT_FAIL (i : Nat) : Fld := ⟨550, i, 1, 0⟩
abbrev SURV_TRK_CC_STAT_ACTIVE (i : Nat) : Fld := ⟨551, i, 1, 0⟩
abbrev SURV_TRK_CC_STAT_DAY_HELD (i : Nat) : Fld := ⟨552, i, 1, 0⟩
abbrev SURV_TRK_CC_STAT_DAY_CNT (i : Nat) : Fld := ⟨553, i, 8, 0⟩
abbrev SURV_TRK_CC_STAT_PULSES (i : Nat) : Fld := ⟨554, i, 4, 0⟩
/-! SURV_TRK[t].SHIELD (15_surveyor.md) -/
abbrev SURV_TRK_SHIELD_DC_MA (i : Nat) : Fld := ⟨555, i, 16, 0⟩
abbrev SURV_TRK_SHIELD_AC_MA (i : Nat) : Fld := ⟨556, i, 16, 0⟩
/-! SURV_TRK[t].SHIELD_LIM (15_surveyor.md) -/
abbrev SURV_TRK_SHIELD_LIM_RL_QDB (i : Nat) : Fld := ⟨557, i, 16, 0⟩
abbrev SURV_TRK_SHIELD_LIM_LIM_MA (i : Nat) : Fld := ⟨558, i, 16, 500⟩
/-! SURV_TRK[t].CNT (15_surveyor.md) -/
abbrev SURV_TRK_CNT_PASSES (i : Nat) : Fld := ⟨559, i, 12, 0⟩
abbrev SURV_TRK_CNT_CC_PULSE_CNT (i : Nat) : Fld := ⟨560, i, 12, 0⟩
abbrev SURV_TRK_CNT_NO_LOOP (i : Nat) : Fld := ⟨561, i, 8, 0⟩
/-! SURV_TRK[t].REFL[i] (15_surveyor.md) -/
abbrev SURV_TRK_REFL_LEVEL_HDB (i j : Nat) : Fld := ⟨562, (64 * i + j), 8, 0⟩
abbrev SURV_TRK_REFL_DELAY_PS (i j : Nat) : Fld := ⟨563, (64 * i + j), 22, 0⟩
/-! SURV_DRP[d].CTL (15_surveyor.md) -/
abbrev SURV_DRP_CTL_START (i : Nat) : Fld := ⟨564, i, 1, 0⟩
abbrev SURV_DRP_CTL_CAPTURE (i : Nat) : Fld := ⟨565, i, 1, 0⟩
abbrev SURV_DRP_CTL_OUTCOME (i : Nat) : Fld := ⟨566, i, 3, 0⟩
abbrev SURV_DRP_CTL_PERIOD_S (i : Nat) : Fld := ⟨567, i, 17, 0⟩
/-! SURV_DRP[d].REFL[i] (15_surveyor.md) -/
abbrev SURV_DRP_REFL_LEVEL_HDB (i j : Nat) : Fld := ⟨568, (64 * i + j), 8, 0⟩
abbrev SURV_DRP_REFL_DELAY_PS (i j : Nat) : Fld := ⟨569, (64 * i + j), 22, 0⟩
/-! SURV_VALE[v].ENV[k] (15_surveyor.md) -/
abbrev SURV_VALE_ENV_LIMIT (i j : Nat) : Fld := ⟨570, (64 * i + j), 16, 0⟩
abbrev SURV_VALE_ENV_VALUE (i j : Nat) : Fld := ⟨571, (64 * i + j), 16, 0⟩
/-! ASSAY_CTL (16_assayer_calibration.md) -/
abbrev ASSAY_CTL_EN : Fld := ⟨572, 0, 1, 1⟩
abbrev ASSAY_CTL_REJ_LIM : Fld := ⟨573, 0, 8, 3⟩
/-! ASSAY_RUN (16_assayer_calibration.md) -/
abbrev ASSAY_RUN_GO : Fld := ⟨574, 0, 1, 0⟩
abbrev ASSAY_RUN_ITEM : Fld := ⟨575, 0, 8, 0⟩
/-! ASSAY_ACCEPT (16_assayer_calibration.md) -/
abbrev ASSAY_ACCEPT_GO : Fld := ⟨576, 0, 1, 0⟩
abbrev ASSAY_ACCEPT_ITEM : Fld := ⟨577, 0, 8, 0⟩
/-! ASSAY_STAT (16_assayer_calibration.md) -/
abbrev ASSAY_STAT_BUSY_HOST : Fld := ⟨578, 0, 1, 0⟩
abbrev ASSAY_STAT_BUSY_VALE : Fld := ⟨579, 0, 4, 0⟩
abbrev ASSAY_STAT_REF_OK : Fld := ⟨580, 0, 1, 0⟩
abbrev ASSAY_STAT_TREF : Fld := ⟨581, 0, 2, 0⟩
abbrev ASSAY_STAT_LAST_ITEM : Fld := ⟨582, 0, 8, 0⟩
/-! ASSAY_REF (16_assayer_calibration.md) -/
abbrev ASSAY_REF_CALREF : Fld := ⟨583, 0, 16, 0⟩
/-! ASSAY_EVT (16_assayer_calibration.md) -/
abbrev ASSAY_EVT_REJECT_LIM : Fld := ⟨584, 0, 1, 0⟩
abbrev ASSAY_EVT_REF_BAD : Fld := ⟨585, 0, 1, 0⟩
abbrev ASSAY_EVT_REJECT : Fld := ⟨586, 0, 1, 0⟩
abbrev ASSAY_EVT_DONE : Fld := ⟨587, 0, 1, 0⟩
/-! ASSAY_EVT_EN (16_assayer_calibration.md) -/
abbrev ASSAY_EVT_EN_EN : Fld := ⟨588, 0, 4, 0⟩
/-! ASSAY_PERIOD[k] (16_assayer_calibration.md) -/
abbrev ASSAY_PERIOD_TEMP_DC (i : Nat) : Fld := ⟨589, i, 8, (kTempRst i)⟩
abbrev ASSAY_PERIOD_PERIOD_S (i : Nat) : Fld := ⟨590, i, 20, (kPeriodRst i)⟩
/-! ASSAY_ITEM[i].STAT (16_assayer_calibration.md) -/
abbrev ASSAY_ITEM_STAT_STATE (i : Nat) : Fld := ⟨591, i, 3, 0⟩
abbrev ASSAY_ITEM_STAT_NOREC (i : Nat) : Fld := ⟨592, i, 1, 0⟩
abbrev ASSAY_ITEM_STAT_LAST_REJ (i : Nat) : Fld := ⟨593, i, 1, 0⟩
abbrev ASSAY_ITEM_STAT_ACCEPT_ARMED (i : Nat) : Fld := ⟨594, i, 1, 0⟩
abbrev ASSAY_ITEM_STAT_CONSEC_REJ (i : Nat) : Fld := ⟨595, i, 8, 0⟩
abbrev ASSAY_ITEM_STAT_REJ_CNT (i : Nat) : Fld := ⟨596, i, 16, 0⟩
/-! ASSAY_ITEM[i].COUNT (16_assayer_calibration.md) -/
abbrev ASSAY_ITEM_COUNT_COUNT (i : Nat) : Fld := ⟨597, i, 32, 0⟩
/-! ASSAY_ITEM[i].LAST (16_assayer_calibration.md) -/
abbrev ASSAY_ITEM_LAST_SEC (i : Nat) : Fld := ⟨598, i, 48, 0⟩
/-! SEC_LC (17_security.md) -/
abbrev SEC_LC_STATE : Fld := ⟨599, 0, 3, 0⟩
/-! SEC_LC_REQ (17_security.md) -/
abbrev SEC_LC_REQ_GO : Fld := ⟨600, 0, 1, 0⟩
abbrev SEC_LC_REQ_CONFIRM : Fld := ⟨601, 0, 8, 0⟩
abbrev SEC_LC_REQ_TARGET : Fld := ⟨602, 0, 3, 0⟩
/-! SEC_STAT (17_security.md) -/
abbrev SEC_STAT_ID_VALID : Fld := ⟨603, 0, 1, 0⟩
abbrev SEC_STAT_AUTH_FUSED : Fld := ⟨604, 0, 1, 0⟩
abbrev SEC_STAT_KEYSTORE_OK : Fld := ⟨605, 0, 1, 0⟩
abbrev SEC_STAT_FW_VER_RUN : Fld := ⟨606, 0, 7, 0⟩
abbrev SEC_STAT_FW_VER_FUSE : Fld := ⟨607, 0, 7, 0⟩
/-! SEC_CTL (17_security.md) -/
abbrev SEC_CTL_NOTICE_EN : Fld := ⟨608, 0, 1, 1⟩
/-! SEC_TAMPER (17_security.md) -/
abbrev SEC_TAMPER_LATCH : Fld := ⟨609, 0, 1, 0⟩
abbrev SEC_TAMPER_SRC : Fld := ⟨610, 0, 5, 0⟩
abbrev SEC_TAMPER_ACTIVE : Fld := ⟨611, 0, 5, 0⟩
abbrev SEC_TAMPER_EN : Fld := ⟨612, 0, 5, 31⟩
/-! SEC_EVT (17_security.md) -/
abbrev SEC_EVT_LOAD : Fld := ⟨613, 0, 1, 0⟩
abbrev SEC_EVT_ATT : Fld := ⟨614, 0, 1, 0⟩
abbrev SEC_EVT_CA : Fld := ⟨615, 0, 1, 0⟩
abbrev SEC_EVT_LC : Fld := ⟨616, 0, 1, 0⟩
/-! SEC_EVT_EN (17_security.md) -/
abbrev SEC_EVT_EN_EN : Fld := ⟨617, 0, 4, 0⟩
/-! SEC_PROV_CTL (17_security.md) -/
abbrev SEC_PROV_CTL_GENKEY : Fld := ⟨618, 0, 1, 0⟩
abbrev SEC_PROV_CTL_BUSY : Fld := ⟨619, 0, 1, 0⟩
/-! SEC_ID_PUB[i] (17_security.md) -/
abbrev SEC_ID_PUB_KEY (i : Nat) : Fld := ⟨620, i, 32, 0⟩
/-! SEC_SCI[i] (17_security.md) -/
abbrev SEC_SCI_MAC (i : Nat) : Fld := ⟨621, i, 32, (sciRst i)⟩
/-! SEC_LOAD_CTL (17_security.md) -/
abbrev SEC_LOAD_CTL_COMMIT : Fld := ⟨622, 0, 1, 0⟩
abbrev SEC_LOAD_CTL_ABORT : Fld := ⟨623, 0, 1, 0⟩
abbrev SEC_LOAD_CTL_BEGIN : Fld := ⟨624, 0, 1, 0⟩
abbrev SEC_LOAD_CTL_TARGET : Fld := ⟨625, 0, 2, 0⟩
/-! SEC_LOAD_LEN (17_security.md) -/
abbrev SEC_LOAD_LEN_LENGTH : Fld := ⟨626, 0, 32, 0⟩
/-! SEC_LOAD_DATA (17_security.md) -/
abbrev SEC_LOAD_DATA_DATA : Fld := ⟨627, 0, 32, 0⟩
/-! SEC_LOAD_STAT (17_security.md) -/
abbrev SEC_LOAD_STAT_REASON : Fld := ⟨628, 0, 4, 15⟩
abbrev SEC_LOAD_STAT_STATE : Fld := ⟨629, 0, 2, 0⟩
abbrev SEC_LOAD_STAT_WORDS : Fld := ⟨630, 0, 21, 0⟩
/-! SEC_FW_CTL (17_security.md) -/
abbrev SEC_FW_CTL_ROLL_FWD : Fld := ⟨631, 0, 1, 0⟩
abbrev SEC_FW_CTL_REFUSED : Fld := ⟨632, 0, 1, 0⟩
/-! SEC_ATT_CTL (17_security.md) -/
abbrev SEC_ATT_CTL_GO : Fld := ⟨633, 0, 1, 0⟩
abbrev SEC_ATT_CTL_BUSY : Fld := ⟨634, 0, 1, 0⟩
abbrev SEC_ATT_CTL_DONE : Fld := ⟨635, 0, 1, 0⟩
abbrev SEC_ATT_CTL_REFUSED : Fld := ⟨636, 0, 1, 0⟩
/-! SEC_ATT_NONCE[i] (17_security.md) -/
abbrev SEC_ATT_NONCE_NONCE (i : Nat) : Fld := ⟨637, i, 32, 0⟩
/-! SEC_ATT_REPORT[i] (17_security.md) -/
abbrev SEC_ATT_REPORT_DATA (i : Nat) : Fld := ⟨638, i, 32, 0⟩
/-! SEC_CNT[k] (17_security.md) -/
abbrev SEC_CNT_COUNT (i : Nat) : Fld := ⟨639, i, 32, 0⟩
/-! MSEC[e].CTL (17_security.md) -/
abbrev MSEC_CTL_ROTATE (i : Nat) : Fld := ⟨640, i, 1, 0⟩
abbrev MSEC_CTL_LIFE_H (i : Nat) : Fld := ⟨641, i, 14, 24⟩
/-! MSEC[e].STAT (17_security.md) -/
abbrev MSEC_STAT_STATE (i : Nat) : Fld := ⟨642, i, 2, 0⟩
abbrev MSEC_STAT_TX_AN (i : Nat) : Fld := ⟨643, i, 2, 0⟩
abbrev MSEC_STAT_RX_AN (i : Nat) : Fld := ⟨644, i, 2, 0⟩
abbrev MSEC_STAT_PEERS (i : Nat) : Fld := ⟨645, i, 6, 0⟩
/-! MSEC[e].KI[i] (17_security.md) -/
abbrev MSEC_KI_KI (i j : Nat) : Fld := ⟨646, (64 * i + j), 32, 0⟩
/-! MSEC[e].TX_PN (17_security.md) -/
abbrev MSEC_TX_PN_PN (i : Nat) : Fld := ⟨647, i, 64, 0⟩
/-! MSEC[e].CNT[k] (17_security.md) -/
abbrev MSEC_CNT_COUNT (i j : Nat) : Fld := ⟨648, (64 * i + j), 48, 0⟩
/-! WATCH_CTL (18_watch_faults.md) -/
abbrev WATCH_CTL_AUTO_C : Fld := ⟨649, 0, 1, 1⟩
/-! WATCH_STAT (18_watch_faults.md) -/
abbrev WATCH_STAT_FIELD : Fld := ⟨650, 0, 1, 0⟩
abbrev WATCH_STAT_HOST : Fld := ⟨651, 0, 1, 0⟩
abbrev WATCH_STAT_HELD_UF : Fld := ⟨652, 0, 10, 0⟩
abbrev WATCH_STAT_GRACE_RUN : Fld := ⟨653, 0, 10, 0⟩
/-! WATCH_PIN (18_watch_faults.md) -/
abbrev WATCH_PIN_HOST_CLR : Fld := ⟨654, 0, 1, 0⟩
abbrev WATCH_PIN_WIDTH_US : Fld := ⟨655, 0, 10, 100⟩
/-! WATCH_IRQ (18_watch_faults.md) -/
abbrev WATCH_IRQ_PEND : Fld := ⟨656, 0, 16, 0⟩
abbrev WATCH_IRQ_REARM : Fld := ⟨657, 0, 16, 0⟩
/-! WATCH_CNT[k] (18_watch_faults.md) -/
abbrev WATCH_CNT_COUNT (i : Nat) : Fld := ⟨658, i, 32, 0⟩
/-! WATCH_HELD[i] (18_watch_faults.md) -/
abbrev WATCH_HELD_HELD (i : Nat) : Fld := ⟨659, i, 32, 0⟩
/-! WATCH_LOST[i] (18_watch_faults.md) -/
abbrev WATCH_LOST_LOST (i : Nat) : Fld := ⟨660, i, 32, 0⟩
/-! WATCH_LOG_HEAD (18_watch_faults.md) -/
abbrev WATCH_LOG_HEAD_SEQ : Fld := ⟨661, 0, 32, 0⟩
/-! WATCH_LOG_CTL (18_watch_faults.md) -/
abbrev WATCH_LOG_CTL_ARCH : Fld := ⟨662, 0, 1, 0⟩
abbrev WATCH_LOG_CTL_READY : Fld := ⟨663, 0, 1, 1⟩
abbrev WATCH_LOG_CTL_INDEX : Fld := ⟨664, 0, 12, 0⟩
/-! WATCH_LOG_SEL (18_watch_faults.md) -/
abbrev WATCH_LOG_SEL_SEQ : Fld := ⟨665, 0, 32, 0⟩
/-! WATCH_LOG_DATA[i] (18_watch_faults.md) -/
abbrev WATCH_LOG_DATA_WORD (i : Nat) : Fld := ⟨666, i, 32, 0⟩
/-! WATCH_SLOT[src].HDR (18_watch_faults.md) -/
abbrev WATCH_SLOT_HDR_VALID (i : Nat) : Fld := ⟨667, i, 1, 0⟩
abbrev WATCH_SLOT_HDR_CLASS (i : Nat) : Fld := ⟨668, i, 2, 0⟩
abbrev WATCH_SLOT_HDR_GRACE (i : Nat) : Fld := ⟨669, i, 1, 0⟩
abbrev WATCH_SLOT_HDR_APPLIED (i : Nat) : Fld := ⟨670, i, 3, 0⟩
abbrev WATCH_SLOT_HDR_KIND (i : Nat) : Fld := ⟨671, i, 8, 0⟩
abbrev WATCH_SLOT_HDR_GRACE_LEFT_MS (i : Nat) : Fld := ⟨672, i, 16, 0⟩
/-! WATCH_SLOT[src].DETAIL (18_watch_faults.md) -/
abbrev WATCH_SLOT_DETAIL_DETAIL (i : Nat) : Fld := ⟨673, i, 32, 0⟩
/-! WATCH_SLOT[src].SEQ (18_watch_faults.md) -/
abbrev WATCH_SLOT_SEQ_SEQ (i : Nat) : Fld := ⟨674, i, 32, 0⟩
/-! WATCH_REACT[src] (18_watch_faults.md) -/
abbrev WATCH_REACT_GRACE_MS (i : Nat) : Fld := ⟨675, i, 14, 100⟩
abbrev WATCH_REACT_F_ACTION (i : Nat) : Fld := ⟨676, i, 8, (fActRst i)⟩
abbrev WATCH_REACT_U_ACTION (i : Nat) : Fld := ⟨677, i, 8, (uActRst i)⟩
/-! PWR_CTL (19_power.md) -/
abbrev PWR_CTL_NIGHT_EN : Fld := ⟨678, 0, 1, 0⟩
abbrev PWR_CTL_DELAY_MS : Fld := ⟨679, 0, 10, 50⟩
abbrev PWR_CTL_HOLD_MS : Fld := ⟨680, 0, 16, 1000⟩
/-! PWR_TIMING (19_power.md) -/
abbrev PWR_TIMING_RETRY_MS : Fld := ⟨681, 0, 16, 1000⟩
/-! PWR_STAT (19_power.md) -/
abbrev PWR_STAT_HOST_RUNG : Fld := ⟨682, 0, 3, 0⟩
abbrev PWR_STAT_TARGET : Fld := ⟨683, 0, 3, 0⟩
abbrev PWR_STAT_BUSY : Fld := ⟨684, 0, 1, 0⟩
abbrev PWR_STAT_PENDING : Fld := ⟨685, 0, 1, 0⟩
abbrev PWR_STAT_VALE_RUNG : Fld := ⟨686, 0, 12, 0⟩
abbrev PWR_STAT_HOLD : Fld := ⟨687, 0, 1, 0⟩
/-! PWR_EVT (19_power.md) -/
abbrev PWR_EVT_VIN_LOW : Fld := ⟨688, 0, 1, 0⟩
abbrev PWR_EVT_HOT : Fld := ⟨689, 0, 1, 0⟩
abbrev PWR_EVT_ENTERED : Fld := ⟨690, 0, 1, 0⟩
abbrev PWR_EVT_WAKE : Fld := ⟨691, 0, 1, 0⟩
abbrev PWR_EVT_REFUSED : Fld := ⟨692, 0, 1, 0⟩
/-! PWR_EVT_EN (19_power.md) -/
abbrev PWR_EVT_EN_EN : Fld := ⟨693, 0, 5, 0⟩
/-! PWR_REFUSE (19_power.md) -/
abbrev PWR_REFUSE_RUNG : Fld := ⟨694, 0, 3, 0⟩
abbrev PWR_REFUSE_DOMAIN : Fld := ⟨695, 0, 3, 0⟩
abbrev PWR_REFUSE_CLIENT : Fld := ⟨696, 0, 7, 0⟩
abbrev PWR_REFUSE_REASON : Fld := ⟨697, 0, 8, 0⟩
/-! PWR_REFUSE_CNT (19_power.md) -/
abbrev PWR_REFUSE_CNT_COUNT : Fld := ⟨698, 0, 32, 0⟩
/-! PWR_WAKE (19_power.md) -/
abbrev PWR_WAKE_LAST : Fld := ⟨699, 0, 4, 0⟩
abbrev PWR_WAKE_MASK : Fld := ⟨700, 0, 6, 63⟩
/-! PWR_TIMER_CTL (19_power.md) -/
abbrev PWR_TIMER_CTL_EN : Fld := ⟨701, 0, 1, 0⟩
abbrev PWR_TIMER_CTL_PERIODIC : Fld := ⟨702, 0, 1, 0⟩
abbrev PWR_TIMER_CTL_EXPIRED : Fld := ⟨703, 0, 1, 0⟩
/-! PWR_TIMER_TICKS (19_power.md) -/
abbrev PWR_TIMER_TICKS_TICKS : Fld := ⟨704, 0, 32, 32768⟩
/-! PWR_TIMER_LEFT (19_power.md) -/
abbrev PWR_TIMER_LEFT_LEFT : Fld := ⟨705, 0, 32, 0⟩
/-! PWR_INPUT (19_power.md) -/
abbrev PWR_INPUT_P_MW : Fld := ⟨706, 0, 16, 0⟩
abbrev PWR_INPUT_I_MA : Fld := ⟨707, 0, 16, 0⟩
/-! PWR_THERM (19_power.md) -/
abbrev PWR_THERM_CUT_C : Fld := ⟨708, 0, 8, 130⟩
abbrev PWR_THERM_WARN_C : Fld := ⟨709, 0, 8, 115⟩
/-! PWR_WAKE_CNT[k] (19_power.md) -/
abbrev PWR_WAKE_CNT_COUNT (i : Nat) : Fld := ⟨710, i, 32, 0⟩
/-! PWR_RUNG_CNT[r] (19_power.md) -/
abbrev PWR_RUNG_CNT_COUNT (i : Nat) : Fld := ⟨711, i, 32, 0⟩
/-! PWR_LOWEST[c] (19_power.md) -/
abbrev PWR_LOWEST_LOWEST (i : Nat) : Fld := ⟨712, i, 3, 3⟩

end R

/-- Part 0 of the catalogue. -/
def regCat0 : List RegDesc := [
  ⟨"STW_BOOT_STAT", 262144, 32, 0, (0, 0, 0), (0, 0, 0),
    [⟨0, 16, 16, .ro, false, false, false, true, false, .const 0, []⟩, ⟨1, 8, 4, .ro, false, false, false, true, false, .const 0, []⟩, ⟨2, 7, 1, .ro, false, false, false, false, false, .const 0, []⟩, ⟨3, 4, 2, .ro, false, false, false, false, false, .const 0, []⟩, ⟨4, 0, 4, .ro, false, false, false, false, false, .const 0, []⟩]⟩,
  ⟨"STW_RESET_CTL", 262160, 32, 0, (0, 0, 0), (0, 0, 0),
    [⟨5, 0, 1, .w1s, true, false, false, false, false, .const 0, []⟩]⟩,
  ⟨"STW_RESET_CAUSE", 262164, 32, 0, (0, 0, 0), (0, 0, 0),
    [⟨6, 6, 1, .w1c, false, false, true, false, false, .const 0, []⟩, ⟨7, 5, 1, .w1c, false, false, true, false, false, .const 0, []⟩, ⟨8, 4, 1, .w1c, false, false, true, false, false, .const 0, []⟩, ⟨9, 3, 1, .w1c, false, false, true, false, false, .const 0, []⟩, ⟨10, 2, 1, .w1c, false, false, true, false, false, .const 0, []⟩, ⟨11, 1, 1, .w1c, false, false, true, false, false, .const 0, []⟩, ⟨12, 0, 1, .w1c, false, false, true, false, false, .const 1, []⟩]⟩,
  ⟨"STW_MODE_REQ", 262176, 32, 0, (0, 0, 0), (0, 0, 0),
    [⟨13, 8, 1, .w1c, false, false, false, false, false, .const 0, []⟩, ⟨14, 1, 1, .w1s, true, false, false, false, false, .const 0, []⟩, ⟨15, 0, 1, .w1s, true, false, false, false, false, .const 0, []⟩]⟩,
  ⟨"STW_SCAN_CTL", 262192, 32, 0, (0, 0, 0), (0, 0, 0),
    [⟨16, 10, 1, .ro, false, false, false, false, false, .const 0, []⟩, ⟨17, 9, 1, .ro, false, false, false, false, false, .const 0, []⟩, ⟨18, 8, 1, .ro, false, false, false, false, false, .const 0, []⟩, ⟨19, 0, 1, .w1s, true, false, false, false, false, .const 0, []⟩]⟩,
  ⟨"STW_SELFTEST_CTL", 262208, 32, 0, (0, 0, 0), (0, 0, 0),
    [⟨20, 31, 1, .w1s, false, false, false, false, false, .const 0, []⟩, ⟨21, 12, 4, .rw, false, false, false, false, false, .const 0, []⟩, ⟨22, 0, 8, .rw, false, false, false, false, false, .const 0, []⟩]⟩,
  ⟨"STW_SELFTEST_STAT", 262212, 32, 0, (0, 0, 0), (0, 0, 0),
    [⟨23, 16, 8, .ro, false, false, false, false, false, .const 0, []⟩, ⟨24, 8, 3, .ro, false, false, false, false, false, .const 0, []⟩, ⟨25, 4, 3, .ro, false, false, false, false, false, .const 0, []⟩, ⟨26, 0, 2, .ro, false, false, false, false, false, .const 0, []⟩]⟩,
  ⟨"STW_SELFTEST_FAIL", 262216, 32, 0, (0, 0, 0), (0, 0, 0),
    [⟨27, 22, 10, .ro, false, false, false, false, false, .const 0, []⟩, ⟨28, 0, 22, .ro, false, false, false, false, false, .const 0, []⟩]⟩,
  ⟨"STW_RELEASE", 262220, 32, 0, (0, 0, 0), (0, 0, 0),
    [⟨29, 31, 1, .w1s, true, false, false, false, false, .const 0, []⟩, ⟨30, 12, 4, .rw, false, false, false, false, false, .const 0, []⟩, ⟨31, 0, 8, .rw, false, false, false, false, false, .const 0, []⟩]⟩,
  ⟨"WARP_STAT", 65536, 32, 0, (0, 0, 0), (0, 0, 0),
    [⟨32, 30, 2, .ro, false, false, false, false, false, .const 0, []⟩, ⟨33, 24, 4, .ro, false, false, false, false, false, .const 15, []⟩, ⟨34, 20, 4, .ro, false, false, false, false, false, .const 15, []⟩, ⟨35, 16, 4, .ro, false, false, false, false, false, .const 15, []⟩, ⟨36, 2, 1, .ro, false, false, false, false, false, .const 0, []⟩, ⟨37, 1, 1, .ro, false, false, false, false, false, .const 0, []⟩, ⟨38, 0, 1, .ro, false, false, false, false, false, .const 0, []⟩]⟩,
  ⟨"WARP_SEQ", 65540, 32, 0, (0, 0, 0), (0, 0, 0),
    [⟨39, 0, 32, .ro, false, false, false, false, false, .const 0, []⟩]⟩,
  ⟨"WARP_FLOOR", 65544, 32, 0, (0, 0, 0), (0, 0, 0),
    [⟨40, 0, 32, .ro, false, false, false, false, false, .const 0, []⟩]⟩,
  ⟨"WARP_BOOT_PREF", 65552, 32, 0, (0, 0, 0), (0, 0, 0),
    [⟨41, 0, 2, .rw, true, false, true, false, false, .const 0, []⟩]⟩,
  ⟨"WARP_HASH", 65568, 32, 1, (0, 11, 4), (0, 0, 0),
    [⟨42, 0, 32, .ro, false, false, false, false, false, .const 0, []⟩]⟩,
  ⟨"WARP_LOAD_CTL", 65792, 32, 0, (0, 0, 0), (0, 0, 0),
    [⟨43, 31, 1, .w1s, true, false, false, false, false, .const 0, []⟩, ⟨44, 30, 1, .w1s, false, false, false, false, false, .const 0, []⟩, ⟨45, 29, 1, .w1s, false, false, false, false, false, .const 0, []⟩, ⟨46, 4, 1, .rw, false, false, false, false, false, .const 0, []⟩, ⟨47, 0, 2, .rw, false, false, false, false, false, .const 1, [(1, 3)]⟩]⟩,
  ⟨"WARP_LOAD_LEN", 65796, 32, 0, (0, 0, 0), (0, 0, 0),
    [⟨48, 0, 32, .rw, false, false, false, false, false, .const 0, []⟩]⟩,
  ⟨"WARP_LOAD_DATA", 65800, 32, 0, (0, 0, 0), (0, 0, 0),
    [⟨49, 0, 32, .wo, false, false, false, false, false, .const 0, []⟩]⟩,
  ⟨"WARP_LOAD_STAT", 65804, 32, 0, (0, 0, 0), (0, 0, 0),
    [⟨50, 28, 4, .ro, false, false, false, false, false, .const 0, []⟩, ⟨51, 26, 2, .ro, false, false, false, false, false, .const 0, []⟩, ⟨52, 0, 21, .ro, false, false, false, false, false, .const 0, []⟩]⟩,
  ⟨"WARP_CLAMP_CNT", 66048, 32, 0, (0, 0, 0), (0, 0, 0),
    [⟨53, 31, 1, .ro, false, false, false, false, false, .const 0, []⟩, ⟨54, 16, 10, .ro, false, false, false, false, false, .const 0, []⟩, ⟨55, 0, 16, .ro, false, false, false, true, false, .const 0, []⟩]⟩,
  ⟨"WARP_CLAMP_IDX", 66052, 32, 0, (0, 0, 0), (0, 0, 0),
    [⟨56, 0, 9, .rw, false, false, false, false, false, .const 0, []⟩]⟩,
  ⟨"WARP_CLAMP_DATA", 66056, 32, 1, (0, 3, 4), (0, 0, 0),
    [⟨57, 0, 32, .ro, false, false, false, false, false, .const 0, []⟩]⟩,
  ⟨"WARP_CLAMP_HASH", 66080, 32, 1, (0, 11, 4), (0, 0, 0),
    [⟨58, 0, 32, .ro, false, false, false, false, false, .const 0, []⟩]⟩,
  ⟨"GLB_ID", 0, 32, 0, (0, 0, 0), (0, 0, 0),
    [⟨59, 16, 16, .ro, false, false, false, false, false, .const 33380, []⟩, ⟨60, 8, 8, .ro, false, false, false, false, true, .const 176, []⟩]⟩,
  ⟨"GLB_MODE", 4, 32, 0, (0, 0, 0), (0, 0, 0),
    [⟨61, 8, 3, .ro, false, false, false, false, false, .const 0, []⟩, ⟨62, 0, 3, .ro, false, false, false, false, true, .const 0, []⟩]⟩]

/-- Part 1 of the catalogue. -/
def regCat1 : List RegDesc := [
  ⟨"GLB_KEYGATE", 8, 32, 0, (0, 0, 0), (0, 0, 0),
    [⟨63, 0, 32, .wo, false, false, false, false, true, .const 0, []⟩]⟩,
  ⟨"GLB_KEY_STAT", 12, 32, 0, (0, 0, 0), (0, 0, 0),
    [⟨64, 16, 10, .ro, false, false, false, false, false, .const 0, []⟩, ⟨65, 0, 1, .ro, false, false, false, false, false, .const 0, []⟩]⟩,
  ⟨"GLB_ACC_STAT", 16, 32, 0, (0, 0, 0), (0, 0, 0),
    [⟨66, 28, 4, .ro, false, false, false, false, false, .const 0, []⟩, ⟨67, 26, 2, .ro, false, false, false, false, false, .const 0, []⟩, ⟨68, 25, 1, .ro, false, false, false, false, false, .const 0, []⟩, ⟨69, 0, 24, .ro, false, false, false, false, false, .const 0, []⟩]⟩,
  ⟨"GLB_ACC_CNT", 20, 32, 0, (0, 0, 0), (0, 0, 0),
    [⟨70, 0, 32, .rc, false, false, false, true, false, .const 0, []⟩]⟩,
  ⟨"GLB_FENCE_TRK", 32, 32, 0, (0, 0, 0), (0, 0, 0),
    [⟨71, 24, 4, .ro, false, false, false, false, false, .const 0, []⟩, ⟨72, 16, 4, .ro, false, false, false, false, false, .const 0, []⟩, ⟨73, 0, 8, .ro, false, false, false, false, true, .const 0, []⟩]⟩,
  ⟨"GLB_FENCE_DRP", 36, 32, 1, (0, 1, 4), (0, 0, 0),
    [⟨74, 0, 32, .ro, false, false, false, false, true, .const 0, []⟩]⟩,
  ⟨"GLB_FENCE_HOST", 44, 32, 0, (0, 0, 0), (0, 0, 0),
    [⟨75, 10, 1, .ro, false, false, false, false, false, .const 0, []⟩, ⟨76, 9, 1, .ro, false, false, false, false, false, .const 0, []⟩, ⟨77, 8, 1, .ro, false, false, false, false, false, .const 0, []⟩, ⟨78, 7, 1, .ro, false, false, false, false, false, .const 0, []⟩, ⟨79, 0, 6, .ro, false, false, false, false, false, .const 0, []⟩]⟩,
  ⟨"TRK_CTL", 2097152, 32, 1, (0, 7, 65536), (0, 0, 0),
    [⟨80, 31, 1, .w1s, false, false, false, false, false, .const 0, []⟩, ⟨81, 30, 1, .w1s, false, false, false, false, false, .const 0, []⟩, ⟨82, 20, 4, .rw, true, false, false, false, false, .const 0, [(0, 4), (8, 8)]⟩, ⟨83, 14, 6, .rw, false, false, false, false, false, .const 63, []⟩, ⟨84, 8, 3, .rw, true, false, false, false, false, .const 5, [(0, 5)]⟩, ⟨85, 4, 2, .rw, false, false, false, false, false, .const 0, [(0, 2)]⟩, ⟨86, 2, 2, .rw, false, false, false, false, false, .const 0, [(0, 2)]⟩, ⟨87, 1, 1, .rw, false, false, false, false, false, .const 1, []⟩, ⟨88, 0, 1, .rw, false, false, false, false, false, .const 0, []⟩]⟩,
  ⟨"TRK_STAT", 2097156, 32, 1, (0, 7, 65536), (0, 0, 0),
    [⟨89, 28, 4, .ro, false, false, false, false, true, .const 0, []⟩, ⟨90, 25, 3, .ro, false, false, false, false, false, .const 0, []⟩, ⟨91, 24, 1, .ro, false, false, false, false, false, .const 0, []⟩, ⟨92, 23, 1, .ro, false, false, false, false, false, .const 0, []⟩, ⟨93, 22, 1, .ro, false, false, false, false, false, .const 0, []⟩, ⟨94, 21, 1, .ro, false, false, false, false, false, .const 0, []⟩, ⟨95, 20, 1, .ro, false, false, false, false, false, .const 0, []⟩, ⟨96, 19, 1, .ro, false, false, false, false, false, .const 0, []⟩, ⟨97, 18, 1, .ro, false, false, false, false, false, .const 0, []⟩, ⟨98, 17, 1, .ro, false, false, false, false, false, .const 0, []⟩, ⟨99, 16, 1, .ro, false, false, false, false, false, .const 0, []⟩, ⟨100, 0, 1, .ro, false, false, false, false, true, .const 0, []⟩]⟩,
  ⟨"TRK_LINK_EVT", 2097160, 32, 1, (0, 7, 65536), (0, 0, 0),
    [⟨101, 8, 1, .w1c, false, false, false, false, true, .const 0, []⟩, ⟨102, 7, 1, .w1c, false, false, false, false, false, .const 0, []⟩, ⟨103, 6, 1, .w1c, false, false, false, false, false, .const 0, []⟩, ⟨104, 5, 1, .w1c, false, false, false, false, false, .const 0, []⟩, ⟨105, 4, 1, .w1c, false, false, false, false, false, .const 0, []⟩, ⟨106, 3, 1, .w1c, false, false, false, false, false, .const 0, []⟩, ⟨107, 2, 1, .w1c, false, false, false, false, false, .const 0, []⟩, ⟨108, 1, 1, .w1c, false, false, false, false, false, .const 0, []⟩, ⟨109, 0, 1, .w1c, false, false, false, false, false, .const 0, []⟩]⟩,
  ⟨"TRK_LINK_EVT_EN", 2097164, 32, 1, (0, 7, 65536), (0, 0, 0),
    [⟨110, 0, 9, .rw, false, false, false, false, false, .const 0, []⟩]⟩,
  ⟨"TRK_TRAIN_STAT", 2097168, 32, 1, (0, 7, 65536), (0, 0, 0),
    [⟨111, 28, 4, .ro, false, false, false, false, false, .const 0, []⟩, ⟨112, 24, 4, .ro, false, false, false, false, false, .const 0, []⟩, ⟨113, 0, 16, .ro, false, false, false, true, false, .const 0, []⟩]⟩,
  ⟨"TRK_RETRAIN_CTL", 2097172, 32, 1, (0, 7, 65536), (0, 0, 0),
    [⟨114, 31, 1, .rw, false, false, false, false, false, .const 1, []⟩, ⟨115, 16, 8, .rw, false, false, false, false, false, .const 4, [(1, 40)]⟩, ⟨116, 0, 12, .rw, false, false, false, false, false, .const 16, [(1, 4095)]⟩]⟩,
  ⟨"TRK_EEE_CTL", 2097176, 32, 1, (0, 7, 65536), (0, 0, 0),
    [⟨117, 0, 16, .rw, false, false, false, false, false, .const 20, [(1, 65535)]⟩]⟩,
  ⟨"TRK_RETRAIN_CNT", 2097184, 32, 1, (0, 7, 65536), (0, 0, 0),
    [⟨118, 0, 32, .ro, false, false, false, true, false, .const 0, []⟩]⟩,
  ⟨"TRK_LINK_DOWN_CNT", 2097188, 32, 1, (0, 7, 65536), (0, 0, 0),
    [⟨119, 0, 32, .ro, false, false, false, true, false, .const 0, []⟩]⟩,
  ⟨"TRK_AM_MISS_CNT", 2097192, 32, 1, (0, 7, 65536), (0, 0, 0),
    [⟨120, 0, 32, .ro, false, false, false, true, false, .const 0, []⟩]⟩,
  ⟨"TRK_LCH_ERR", 2097196, 32, 1, (0, 7, 65536), (0, 0, 0),
    [⟨121, 16, 16, .ro, false, false, false, true, false, .const 0, []⟩, ⟨122, 0, 16, .ro, false, false, false, true, false, .const 0, []⟩]⟩,
  ⟨"TRK_AN_CR_ID", 2097200, 32, 1, (0, 7, 65536), (0, 0, 0),
    [⟨123, 0, 24, .ro, false, false, false, false, false, .const 4948580, []⟩]⟩,
  ⟨"TRK_AN_CR_LOC", 2097204, 32, 1, (0, 7, 65536), (0, 0, 0),
    [⟨124, 0, 32, .ro, false, false, false, false, false, .const 0, []⟩]⟩,
  ⟨"TRK_AN_CR_LP", 2097208, 32, 1, (0, 7, 65536), (0, 0, 0),
    [⟨125, 0, 32, .ro, false, false, false, false, false, .const 0, []⟩]⟩,
  ⟨"TRK_AN_STAT", 2097212, 32, 1, (0, 7, 65536), (0, 0, 0),
    [⟨126, 31, 1, .ro, false, false, false, false, false, .const 0, []⟩, ⟨127, 8, 6, .ro, false, false, false, false, false, .const 0, []⟩, ⟨128, 0, 6, .ro, false, false, false, false, false, .const 0, []⟩]⟩,
  ⟨"TRK_TX_FIR", 2097216, 32, 1, (0, 7, 65536), (0, 0, 0),
    [⟨129, 16, 8, .ro, false, false, false, false, false, .const 0, []⟩, ⟨130, 8, 8, .ro, false, false, false, false, false, .const 252, []⟩, ⟨131, 0, 8, .ro, false, false, false, false, false, .const 0, []⟩]⟩,
  ⟨"TRK_TX_ABORT_CNT", 2097220, 32, 1, (0, 7, 65536), (0, 0, 0),
    [⟨132, 0, 32, .ro, false, false, false, true, false, .const 0, []⟩]⟩]

/-- Part 2 of the catalogue. -/
def regCat2 : List RegDesc := [
  ⟨"TRK_BANK_DISC_CNT", 2097224, 32, 1, (0, 7, 65536), (0, 0, 0),
    [⟨133, 0, 32, .ro, false, false, false, true, false, .const 0, []⟩]⟩,
  ⟨"TRK_RX_ABORT_CNT", 2097228, 32, 1, (0, 7, 65536), (0, 0, 0),
    [⟨134, 0, 32, .ro, false, false, false, true, false, .const 0, []⟩]⟩,
  ⟨"TRK_EC_CTL", 2097408, 32, 1, (0, 7, 65536), (0, 0, 0),
    [⟨135, 31, 1, .rw, false, false, false, false, false, .const 1, []⟩, ⟨136, 30, 1, .rw, false, false, false, false, false, .const 1, []⟩, ⟨137, 29, 1, .rw, false, false, false, false, false, .const 1, []⟩, ⟨138, 28, 1, .rw, false, false, false, false, false, .const 0, []⟩, ⟨139, 27, 1, .rw, false, false, false, false, false, .const 1, []⟩, ⟨140, 16, 5, .rw, false, false, false, false, false, .const 16, [(14, 20)]⟩, ⟨141, 8, 8, .rw, false, false, false, false, false, .const 45, [(30, 70)]⟩]⟩,
  ⟨"TRK_EC_STAT", 2097412, 32, 1, (0, 7, 65536), (0, 0, 0),
    [⟨142, 24, 8, .ro, false, false, false, false, false, .const 0, []⟩, ⟨143, 21, 1, .ro, false, false, false, false, false, .const 0, []⟩, ⟨144, 20, 1, .ro, false, false, false, false, false, .const 0, []⟩]⟩,
  ⟨"TRK_EC_WIN", 2097416, 32, 2, (0, 7, 65536), (0, 7, 4),
    [⟨145, 30, 2, .ro, false, false, false, false, false, .const 0, []⟩, ⟨146, 29, 1, .rw, false, false, false, false, false, .const 0, []⟩, ⟨147, 28, 1, .ro, false, false, false, false, false, .const 0, []⟩, ⟨148, 20, 8, .ro, false, false, false, false, false, .const 0, []⟩, ⟨149, 0, 13, .rw, false, false, false, false, false, .const 0, [(256, 5936)]⟩]⟩,
  ⟨"TRK_EC_MOVE_CNT", 2097448, 32, 1, (0, 7, 65536), (0, 0, 0),
    [⟨150, 16, 16, .ro, false, false, false, true, false, .const 0, []⟩, ⟨151, 0, 16, .ro, false, false, false, true, false, .const 0, []⟩]⟩,
  ⟨"TRK_EC_SEARCH", 2097452, 32, 1, (0, 7, 65536), (0, 0, 0),
    [⟨152, 31, 1, .w1c, false, false, false, false, false, .const 0, []⟩, ⟨153, 16, 13, .ro, false, false, false, false, false, .const 0, []⟩, ⟨154, 8, 8, .ro, false, false, false, false, false, .const 0, []⟩]⟩,
  ⟨"TRK_EQ_CTL", 2097472, 32, 1, (0, 7, 65536), (0, 0, 0),
    [⟨155, 31, 1, .rw, false, false, false, false, false, .const 0, []⟩, ⟨156, 30, 1, .rw, false, false, false, false, false, .const 1, []⟩, ⟨157, 29, 1, .rw, false, false, false, false, false, .const 1, []⟩, ⟨158, 16, 6, .rw, false, false, false, false, false, .const 16, [(8, 32)]⟩, ⟨159, 8, 5, .rw, false, false, false, false, false, .const 15, [(12, 18)]⟩, ⟨160, 0, 5, .rw, false, false, false, false, false, .const 15, [(12, 18)]⟩]⟩,
  ⟨"TRK_EQ_STAT", 2097476, 32, 1, (0, 7, 65536), (0, 0, 0),
    [⟨161, 31, 1, .ro, false, false, false, false, false, .const 0, []⟩, ⟨162, 30, 1, .ro, false, false, false, false, false, .const 0, []⟩, ⟨163, 29, 1, .ro, false, false, false, false, false, .const 0, []⟩, ⟨164, 28, 1, .ro, false, false, false, false, false, .const 0, []⟩, ⟨165, 27, 1, .ro, false, false, false, false, false, .const 0, []⟩, ⟨166, 0, 16, .ro, false, false, false, true, false, .const 0, []⟩]⟩,
  ⟨"TRK_COEF_SEL", 2097480, 32, 1, (0, 7, 65536), (0, 0, 0),
    [⟨167, 31, 1, .w1s, false, false, false, false, false, .const 0, []⟩, ⟨168, 24, 2, .rw, false, false, false, false, false, .const 0, []⟩, ⟨169, 16, 3, .rw, false, false, false, false, false, .const 0, []⟩, ⟨170, 0, 8, .rw, false, false, false, false, false, .const 0, []⟩]⟩,
  ⟨"TRK_COEF_DATA", 2097484, 32, 1, (0, 7, 65536), (0, 0, 0),
    [⟨171, 0, 16, .ro, false, false, false, false, false, .const 0, []⟩]⟩,
  ⟨"TRK_EQ_RX", 2097488, 32, 1, (0, 7, 65536), (0, 0, 0),
    [⟨172, 16, 16, .ro, false, false, false, false, false, .const 0, []⟩, ⟨173, 8, 8, .ro, false, false, false, false, false, .const 0, []⟩, ⟨174, 0, 8, .ro, false, false, false, false, false, .const 0, []⟩]⟩,
  ⟨"TRK_SNR", 2097536, 32, 1, (0, 7, 65536), (0, 0, 0),
    [⟨175, 24, 8, .ro, false, false, false, false, true, .const 0, []⟩, ⟨176, 16, 8, .ro, false, false, false, false, false, .const 0, []⟩, ⟨177, 8, 8, .rc, false, false, false, false, false, .const 127, []⟩, ⟨178, 0, 8, .ro, false, false, false, false, false, .const 72, []⟩]⟩,
  ⟨"TRK_SLICER", 2097540, 32, 1, (0, 7, 65536), (0, 0, 0),
    [⟨179, 16, 8, .ro, false, false, false, false, false, .const 0, []⟩, ⟨180, 8, 8, .ro, false, false, false, false, false, .const 0, []⟩, ⟨181, 0, 8, .ro, false, false, false, false, false, .const 0, []⟩]⟩,
  ⟨"TRK_FEC_CW_CNT", 2097552, 64, 1, (0, 7, 65536), (0, 0, 0),
    [⟨182, 0, 48, .ro, false, false, false, false, false, .const 0, []⟩]⟩,
  ⟨"TRK_FEC_CORR_SYM_CNT", 2097560, 64, 1, (0, 7, 65536), (0, 0, 0),
    [⟨183, 0, 48, .ro, false, false, false, false, false, .const 0, []⟩]⟩,
  ⟨"TRK_FEC_CORR_CW_CNT", 2097568, 64, 1, (0, 7, 65536), (0, 0, 0),
    [⟨184, 0, 48, .ro, false, false, false, false, false, .const 0, []⟩]⟩,
  ⟨"TRK_FEC_UNC_CNT", 2097576, 64, 1, (0, 7, 65536), (0, 0, 0),
    [⟨185, 0, 48, .ro, false, false, false, false, false, .const 0, []⟩]⟩,
  ⟨"TRK_FEC_SEC", 2097584, 32, 1, (0, 7, 65536), (0, 0, 0),
    [⟨186, 16, 16, .ro, false, false, false, true, false, .const 0, []⟩, ⟨187, 0, 5, .ro, false, false, false, false, false, .const 0, []⟩]⟩,
  ⟨"TRK_FEC_HIST", 2097600, 32, 2, (0, 7, 65536), (1, 15, 4),
    [⟨188, 0, 32, .rc, false, false, false, true, false, .const 0, []⟩]⟩,
  ⟨"TWIN_CFG", 2621440, 32, 1, (0, 3, 256), (0, 0, 0),
    [⟨189, 31, 1, .ro, false, false, false, false, false, .const 0, []⟩, ⟨190, 24, 3, .ro, false, false, false, false, false, .const 0, []⟩, ⟨191, 20, 3, .ro, false, false, false, false, false, .const 0, []⟩, ⟨192, 0, 10, .rw, false, false, false, false, false, .const 100, [(20, 1000)]⟩]⟩,
  ⟨"TWIN_STAT", 2621444, 32, 1, (0, 3, 256), (0, 0, 0),
    [⟨193, 30, 2, .ro, false, false, false, false, true, .const 0, []⟩, ⟨194, 28, 2, .ro, false, false, false, false, false, .const 1, []⟩, ⟨195, 24, 3, .ro, false, false, false, false, false, .const 0, []⟩, ⟨196, 20, 3, .ro, false, false, false, false, false, .const 0, []⟩, ⟨197, 18, 2, .ro, false, false, false, false, false, .const 0, []⟩, ⟨198, 16, 2, .ro, false, false, false, false, false, .const 0, []⟩]⟩,
  ⟨"TWIN_SKEW", 2621448, 32, 1, (0, 3, 256), (0, 0, 0),
    [⟨199, 0, 32, .ro, false, false, false, false, false, .const 0, []⟩]⟩,
  ⟨"TWIN_ARRIVAL", 2621452, 32, 1, (0, 3, 256), (0, 0, 0),
    [⟨200, 0, 16, .ro, false, false, false, false, false, .const 0, []⟩]⟩]

/-- Part 3 of the catalogue. -/
def regCat3 : List RegDesc := [
  ⟨"TWIN_EVT", 2621456, 32, 1, (0, 3, 256), (0, 0, 0),
    [⟨201, 5, 1, .w1c, false, false, false, false, false, .const 0, []⟩, ⟨202, 4, 1, .w1c, false, false, false, false, false, .const 0, []⟩, ⟨203, 3, 1, .w1c, false, false, false, false, false, .const 0, []⟩, ⟨204, 2, 1, .w1c, false, false, false, false, false, .const 0, []⟩, ⟨205, 1, 1, .w1c, false, false, false, false, false, .const 0, []⟩, ⟨206, 0, 1, .w1c, false, false, false, false, false, .const 0, []⟩]⟩,
  ⟨"TWIN_EVT_EN", 2621460, 32, 1, (0, 3, 256), (0, 0, 0),
    [⟨207, 0, 6, .rw, false, false, false, false, false, .const 0, []⟩]⟩,
  ⟨"TWIN_JOIN_STAT", 2621464, 32, 1, (0, 3, 256), (0, 0, 0),
    [⟨208, 28, 4, .ro, false, false, false, false, false, .const 0, []⟩, ⟨209, 24, 4, .ro, false, false, false, false, false, .const 0, []⟩, ⟨210, 0, 16, .ro, false, false, false, true, false, .const 0, []⟩]⟩,
  ⟨"TWIN_CNT", 2621472, 64, 2, (0, 3, 256), (0, 5, 8),
    [⟨211, 0, 48, .ro, false, false, false, false, false, .const 0, []⟩]⟩,
  ⟨"TRK_QW_CTL", 2097248, 32, 1, (0, 7, 65536), (0, 0, 0),
    [⟨212, 31, 1, .w1s, false, false, false, false, false, .const 0, []⟩, ⟨213, 30, 1, .rw, false, false, false, false, false, .const 0, []⟩, ⟨214, 24, 5, .rw, false, false, false, false, false, .const 12, [(10, 31)]⟩, ⟨215, 16, 8, .rw, false, false, false, false, false, .const 100, [(10, 255)]⟩, ⟨216, 0, 16, .rw, false, false, false, false, false, .const 1000, [(400, 25000)]⟩]⟩,
  ⟨"TRK_QW_LIM", 2097252, 32, 1, (0, 7, 65536), (0, 0, 0),
    [⟨217, 31, 1, .ro, false, false, false, false, false, .const 0, []⟩, ⟨218, 0, 16, .rw, false, false, false, false, false, .const 1000, [(400, 25000)]⟩]⟩,
  ⟨"TRK_QW_STAT", 2097256, 32, 1, (0, 7, 65536), (0, 0, 0),
    [⟨219, 30, 2, .ro, false, false, false, false, false, .const 0, []⟩, ⟨220, 29, 1, .ro, false, false, false, false, false, .const 0, []⟩, ⟨221, 26, 2, .ro, false, false, false, false, false, .const 0, []⟩, ⟨222, 24, 2, .ro, false, false, false, false, false, .const 0, []⟩, ⟨223, 20, 4, .ro, false, false, false, false, false, .const 0, []⟩, ⟨224, 16, 4, .ro, false, false, false, false, false, .const 0, []⟩, ⟨225, 8, 8, .ro, false, false, false, false, false, .const 0, []⟩]⟩,
  ⟨"TRK_QW_CNT", 2097260, 32, 1, (0, 7, 65536), (0, 0, 0),
    [⟨226, 16, 16, .ro, false, false, false, true, false, .const 0, []⟩, ⟨227, 0, 16, .ro, false, false, false, true, false, .const 0, []⟩]⟩,
  ⟨"TRK_QW_TIME", 2097264, 32, 1, (0, 7, 65536), (0, 0, 0),
    [⟨228, 0, 32, .ro, false, false, false, true, false, .const 0, []⟩]⟩,
  ⟨"DRP_CTL", 3145728, 32, 1, (0, 63, 4096), (0, 0, 0),
    [⟨229, 31, 1, .w1s, false, false, false, false, false, .const 0, []⟩, ⟨230, 12, 4, .rw, true, false, false, false, false, .const 0, [(0, 4), (8, 8)]⟩, ⟨231, 8, 1, .rw, true, false, false, false, false, .const 0, []⟩, ⟨232, 3, 1, .rw, false, false, false, false, false, .const 0, []⟩, ⟨233, 2, 1, .rw, false, false, false, false, false, .const 1, []⟩, ⟨234, 1, 1, .rw, false, false, false, false, false, .const 1, []⟩, ⟨235, 0, 1, .rw, false, false, false, false, false, .const 0, []⟩]⟩,
  ⟨"DRP_STAT", 3145732, 32, 1, (0, 63, 4096), (0, 0, 0),
    [⟨236, 29, 3, .ro, false, false, false, false, true, .const 0, []⟩, ⟨237, 28, 1, .ro, false, false, false, false, false, .const 0, []⟩, ⟨238, 27, 1, .ro, false, false, false, false, false, .const 0, []⟩, ⟨239, 16, 6, .ro, false, false, false, false, false, .const 0, []⟩, ⟨240, 8, 8, .ro, false, false, false, false, false, .const 0, []⟩]⟩,
  ⟨"DRP_EVT", 3145736, 32, 1, (0, 63, 4096), (0, 0, 0),
    [⟨241, 6, 1, .w1c, false, false, false, false, true, .const 0, []⟩, ⟨242, 5, 1, .w1c, false, false, false, false, false, .const 0, []⟩, ⟨243, 4, 1, .w1c, false, false, false, false, false, .const 0, []⟩, ⟨244, 3, 1, .w1c, false, false, false, false, false, .const 0, []⟩, ⟨245, 2, 1, .w1c, false, false, false, false, false, .const 0, []⟩, ⟨246, 1, 1, .w1c, false, false, false, false, false, .const 0, []⟩, ⟨247, 0, 1, .w1c, false, false, false, false, false, .const 0, []⟩]⟩,
  ⟨"DRP_EVT_EN", 3145740, 32, 1, (0, 63, 4096), (0, 0, 0),
    [⟨248, 0, 7, .rw, false, false, false, false, false, .const 0, []⟩]⟩,
  ⟨"DRP_CYC_CTL", 3145744, 32, 1, (0, 63, 4096), (0, 0, 0),
    [⟨249, 24, 8, .rw, false, false, false, false, false, .const 32, [(16, 255)]⟩, ⟨250, 10, 6, .rw, false, false, false, false, false, .const 8, [(2, 32)]⟩, ⟨251, 0, 10, .rw, false, false, false, false, false, .const 80, [(80, 1000)]⟩]⟩,
  ⟨"DRP_BURST_CTL", 3145748, 32, 1, (0, 63, 4096), (0, 0, 0),
    [⟨252, 16, 4, .rw, false, false, false, false, false, .const 1, [(1, 8)]⟩, ⟨253, 8, 8, .rw, false, false, false, false, false, .const 128, []⟩, ⟨254, 0, 8, .rw, false, false, false, false, false, .const 7, []⟩]⟩,
  ⟨"DRP_CYCLE_CNT", 3145752, 32, 1, (0, 63, 4096), (0, 0, 0),
    [⟨255, 0, 32, .ro, false, false, false, false, false, .const 0, []⟩]⟩,
  ⟨"DRP_LINE_CTL", 3145756, 32, 1, (0, 63, 4096), (0, 0, 0),
    [⟨256, 0, 16, .rw, false, false, false, false, false, .const 100, [(10, 10000)]⟩]⟩,
  ⟨"DRP_PWR", 3145760, 32, 1, (0, 63, 4096), (0, 0, 0),
    [⟨257, 31, 1, .rw, false, false, false, false, true, .const 1, []⟩, ⟨258, 0, 16, .rw, false, false, false, false, false, .const 1000, [(1, 65535)]⟩]⟩,
  ⟨"DRP_RX_FRAMES", 3145792, 64, 1, (0, 63, 4096), (0, 0, 0),
    [⟨259, 0, 48, .ro, false, false, false, false, false, .const 0, []⟩]⟩,
  ⟨"DRP_RX_OCTETS", 3145800, 64, 1, (0, 63, 4096), (0, 0, 0),
    [⟨260, 0, 64, .ro, false, false, false, false, false, .const 0, []⟩]⟩,
  ⟨"DRP_TX_FRAMES", 3145808, 64, 1, (0, 63, 4096), (0, 0, 0),
    [⟨261, 0, 48, .ro, false, false, false, false, false, .const 0, []⟩]⟩,
  ⟨"DRP_TX_OCTETS", 3145816, 64, 1, (0, 63, 4096), (0, 0, 0),
    [⟨262, 0, 64, .ro, false, false, false, false, false, .const 0, []⟩]⟩,
  ⟨"DRP_ERR_CNT", 3145824, 32, 2, (0, 63, 4096), (0, 7, 4),
    [⟨263, 0, 32, .ro, false, false, false, true, false, .const 0, []⟩]⟩,
  ⟨"DRP_STRANGER_LO", 3145856, 32, 1, (0, 63, 4096), (0, 0, 0),
    [⟨264, 0, 32, .ro, false, false, false, false, false, .const 0, []⟩]⟩]

/-- Part 4 of the catalogue. -/
def regCat4 : List RegDesc := [
  ⟨"DRP_STRANGER_HI", 3145860, 32, 1, (0, 63, 4096), (0, 0, 0),
    [⟨265, 24, 8, .ro, false, false, false, false, false, .const 0, []⟩, ⟨266, 0, 16, .ro, false, false, false, false, false, .const 0, []⟩]⟩,
  ⟨"DRP_STN_LO", 3145984, 32, 2, (0, 63, 4096), (0, 30, 8),
    [⟨267, 0, 32, .rw, false, false, false, false, false, .const 0, []⟩]⟩,
  ⟨"DRP_STN_HI", 3145988, 32, 2, (0, 63, 4096), (0, 30, 8),
    [⟨268, 31, 1, .rw, false, false, false, false, false, .const 0, []⟩, ⟨269, 30, 1, .rw, false, false, false, false, false, .const 0, []⟩, ⟨270, 29, 1, .ro, false, false, false, false, false, .const 0, []⟩, ⟨271, 28, 1, .ro, false, false, false, false, false, .const 0, []⟩, ⟨272, 24, 4, .rw, false, false, false, false, false, .const 1, [(1, 8)]⟩, ⟨273, 0, 16, .rw, false, false, false, false, false, .const 0, []⟩]⟩,
  ⟨"DRP_SLOT_RX", 3146240, 32, 2, (0, 63, 4096), (0, 31, 4),
    [⟨274, 0, 32, .ro, false, false, false, true, false, .const 0, []⟩]⟩,
  ⟨"DRP_SLOT_ERR", 3146368, 32, 2, (0, 63, 4096), (0, 31, 4),
    [⟨275, 16, 16, .ro, false, false, false, true, false, .const 0, []⟩, ⟨276, 8, 8, .ro, false, false, false, true, false, .const 0, []⟩, ⟨277, 0, 8, .ro, false, false, false, true, false, .const 0, []⟩]⟩,
  ⟨"DRP_LD_CTL", 3147776, 32, 1, (0, 63, 4096), (0, 0, 0),
    [⟨278, 30, 2, .rw, false, false, false, false, false, .const 0, []⟩, ⟨279, 25, 1, .rw, false, false, false, false, false, .const 1, []⟩, ⟨280, 24, 1, .rw, false, false, false, false, false, .const 1, []⟩, ⟨281, 20, 4, .rw, false, false, false, false, false, .const 6, [(3, 12)]⟩, ⟨282, 16, 3, .rw, false, false, false, false, false, .const 3, []⟩, ⟨283, 14, 2, .rw, false, false, false, false, false, .const 2, [(0, 2)]⟩, ⟨284, 0, 8, .rw, false, false, false, false, false, .const 48, [(32, 255)]⟩]⟩,
  ⟨"DRP_LD_RATE", 3147780, 32, 1, (0, 63, 4096), (0, 0, 0),
    [⟨285, 24, 8, .rw, false, false, false, false, false, .const 92, []⟩, ⟨286, 16, 8, .rw, false, false, false, false, false, .const 80, []⟩, ⟨287, 8, 7, .rw, false, false, false, false, false, .const 8, [(1, 127)]⟩, ⟨288, 0, 8, .rw, false, false, false, false, false, .const 10, [(1, 255)]⟩]⟩,
  ⟨"DRP_LD_RATE_MASK", 3147784, 32, 1, (0, 63, 4096), (0, 0, 0),
    [⟨289, 0, 32, .ro, false, false, false, false, false, .const 0, []⟩]⟩,
  ⟨"DRP_LD_STAT", 3147788, 32, 1, (0, 63, 4096), (0, 0, 0),
    [⟨290, 31, 1, .ro, false, false, false, false, false, .const 0, []⟩, ⟨291, 30, 1, .ro, false, false, false, false, false, .const 0, []⟩, ⟨292, 29, 1, .ro, false, false, false, false, false, .const 0, []⟩, ⟨293, 16, 6, .ro, false, false, false, false, false, .const 0, []⟩, ⟨294, 8, 8, .ro, false, false, false, false, false, .const 48, []⟩, ⟨295, 0, 8, .ro, false, false, false, false, false, .const 0, []⟩]⟩,
  ⟨"DRP_LD_ACQ_CNT", 3147792, 32, 2, (0, 63, 4096), (0, 7, 4),
    [⟨296, 0, 32, .ro, false, false, false, true, false, .const 0, []⟩]⟩,
  ⟨"DRP_LD_CW_CNT", 3147840, 64, 1, (0, 63, 4096), (0, 0, 0),
    [⟨297, 0, 48, .ro, false, false, false, false, false, .const 0, []⟩]⟩,
  ⟨"DRP_LD_CORR_SYM_CNT", 3147848, 64, 1, (0, 63, 4096), (0, 0, 0),
    [⟨298, 0, 48, .ro, false, false, false, false, false, .const 0, []⟩]⟩,
  ⟨"DRP_LD_UNC_CNT", 3147856, 64, 1, (0, 63, 4096), (0, 0, 0),
    [⟨299, 0, 48, .ro, false, false, false, false, false, .const 0, []⟩]⟩,
  ⟨"DRP_LD_SLOT", 3148032, 32, 2, (0, 63, 4096), (0, 31, 4),
    [⟨300, 24, 8, .ro, false, false, false, false, false, .const 0, []⟩, ⟨301, 23, 1, .ro, false, false, false, false, false, .const 0, []⟩, ⟨302, 16, 7, .ro, false, false, false, false, false, .const 0, []⟩, ⟨303, 0, 16, .ro, false, false, false, false, false, .const 0, []⟩]⟩,
  ⟨"DRP_LD_COEF_SEL", 3148288, 32, 1, (0, 63, 4096), (0, 0, 0),
    [⟨304, 31, 1, .w1s, false, false, false, false, false, .const 0, []⟩, ⟨305, 24, 2, .rw, false, false, false, false, false, .const 0, [(0, 1)]⟩, ⟨306, 16, 6, .ro, false, false, false, false, false, .const 0, []⟩, ⟨307, 0, 8, .rw, false, false, false, false, false, .const 0, []⟩]⟩,
  ⟨"DRP_LD_COEF_DATA", 3148292, 32, 1, (0, 63, 4096), (0, 0, 0),
    [⟨308, 16, 16, .ro, false, false, false, false, false, .const 0, []⟩, ⟨309, 0, 16, .ro, false, false, false, false, false, .const 0, []⟩]⟩,
  ⟨"PASS_CTL", 851968, 32, 1, (0, 3, 256), (0, 0, 0),
    [⟨310, 31, 1, .w1s, false, false, false, false, false, .const 0, []⟩, ⟨311, 30, 1, .rw, false, false, false, false, false, .const 1, []⟩, ⟨312, 24, 3, .rw, false, false, false, false, false, .const 7, []⟩, ⟨313, 20, 3, .rw, false, false, false, false, false, .const 7, []⟩]⟩,
  ⟨"PASS_STAT", 851972, 32, 1, (0, 3, 256), (0, 0, 0),
    [⟨314, 31, 1, .ro, false, false, false, false, true, .const 0, []⟩, ⟨315, 30, 1, .ro, false, false, false, false, true, .const 0, []⟩, ⟨316, 29, 1, .ro, false, false, false, false, true, .const 0, []⟩, ⟨317, 28, 1, .ro, false, false, false, false, false, .const 0, []⟩, ⟨318, 24, 3, .ro, false, false, false, false, false, .const 0, []⟩, ⟨319, 20, 3, .ro, false, false, false, false, false, .const 0, []⟩, ⟨320, 8, 5, .ro, false, false, false, false, false, .const 0, []⟩]⟩,
  ⟨"PASS_EVT", 851976, 32, 1, (0, 3, 256), (0, 0, 0),
    [⟨321, 6, 1, .w1c, false, false, false, false, false, .const 0, []⟩, ⟨322, 5, 1, .w1c, false, false, false, false, false, .const 0, []⟩, ⟨323, 4, 1, .w1c, false, false, false, false, false, .const 0, []⟩, ⟨324, 3, 1, .w1c, false, false, false, false, false, .const 0, []⟩, ⟨325, 2, 1, .w1c, false, false, false, false, false, .const 0, []⟩, ⟨326, 1, 1, .w1c, false, false, false, false, false, .const 0, []⟩, ⟨327, 0, 1, .w1c, false, false, false, false, false, .const 0, []⟩]⟩,
  ⟨"PASS_EVT_EN", 851980, 32, 1, (0, 3, 256), (0, 0, 0),
    [⟨328, 0, 7, .rw, false, false, false, false, false, .const 0, []⟩]⟩,
  ⟨"PASS_LAT_TALLY", 851984, 32, 1, (0, 3, 256), (0, 0, 0),
    [⟨329, 16, 16, .ro, false, false, false, false, false, .const 0, []⟩, ⟨330, 0, 16, .ro, false, false, false, false, false, .const 0, []⟩]⟩,
  ⟨"PASS_OFFSET", 851988, 32, 1, (0, 3, 256), (0, 0, 0),
    [⟨331, 0, 32, .ro, false, false, false, false, false, .const 0, []⟩]⟩,
  ⟨"PASS_LAT_DATA", 851992, 32, 1, (0, 3, 256), (0, 0, 0),
    [⟨332, 16, 16, .ro, false, false, false, false, false, .const 0, []⟩, ⟨333, 0, 16, .ro, false, false, false, false, false, .const 0, []⟩]⟩,
  ⟨"PASS_ASYM", 851996, 32, 1, (0, 3, 256), (0, 0, 0),
    [⟨334, 0, 16, .ro, false, false, false, false, false, .const 0, []⟩]⟩]

/-- Part 5 of the catalogue. -/
def regCat5 : List RegDesc := [
  ⟨"PASS_TALLY_CNT", 852000, 32, 2, (0, 3, 256), (0, 7, 4),
    [⟨335, 0, 32, .ro, false, false, false, true, false, .const 0, []⟩]⟩,
  ⟨"PASS_RS_CORR_SYM", 852032, 64, 1, (0, 3, 256), (0, 0, 0),
    [⟨336, 0, 48, .ro, false, false, false, false, false, .const 0, []⟩]⟩,
  ⟨"PASS_RS_UNC", 852040, 64, 1, (0, 3, 256), (0, 0, 0),
    [⟨337, 0, 48, .ro, false, false, false, false, false, .const 0, []⟩]⟩,
  ⟨"PASS_DISC_CNT", 852048, 32, 1, (0, 3, 256), (0, 0, 0),
    [⟨338, 16, 16, .ro, false, false, false, true, false, .const 0, []⟩, ⟨339, 0, 16, .ro, false, false, false, true, false, .const 0, []⟩]⟩,
  ⟨"PASS_PWR", 852052, 32, 1, (0, 3, 256), (0, 0, 0),
    [⟨340, 16, 16, .ro, false, false, false, false, true, .const 0, []⟩, ⟨341, 0, 12, .ro, false, false, false, false, true, .const 0, []⟩]⟩,
  ⟨"PASS_STREAM", 854016, 32, 0, (0, 0, 0), (0, 0, 0),
    [⟨342, 0, 16, .rw, false, false, false, false, false, .const 2000, [(1000, 8000)]⟩]⟩,
  ⟨"HLN_CTL", 786432, 32, 1, (0, 5, 256), (0, 0, 0),
    [⟨343, 31, 1, .w1s, false, false, false, false, false, .const 0, []⟩, ⟨344, 24, 2, .rw, false, false, false, false, false, .const 1, [(0, 2)]⟩, ⟨345, 18, 1, .rw, true, false, false, false, false, .const 0, []⟩, ⟨346, 17, 1, .rw, true, false, false, false, false, .const 0, []⟩, ⟨347, 16, 1, .rw, false, false, false, false, false, .const 1, []⟩, ⟨348, 0, 16, .rw, false, false, false, false, false, .const 0, []⟩]⟩,
  ⟨"HLN_STAT", 786436, 32, 1, (0, 5, 256), (0, 0, 0),
    [⟨349, 31, 1, .ro, false, false, false, false, true, .const 0, []⟩, ⟨350, 30, 1, .ro, false, false, false, false, false, .const 0, []⟩, ⟨351, 29, 1, .ro, false, false, false, false, false, .const 0, []⟩, ⟨352, 28, 1, .ro, false, false, false, false, false, .const 0, []⟩, ⟨353, 0, 16, .ro, false, false, false, false, false, .const 0, []⟩]⟩,
  ⟨"HLN_EVT", 786440, 32, 1, (0, 5, 256), (0, 0, 0),
    [⟨354, 4, 1, .w1c, false, false, false, false, false, .const 0, []⟩, ⟨355, 3, 1, .w1c, false, false, false, false, false, .const 0, []⟩, ⟨356, 2, 1, .w1c, false, false, false, false, false, .const 0, []⟩, ⟨357, 1, 1, .w1c, false, false, false, false, false, .const 0, []⟩, ⟨358, 0, 1, .w1c, false, false, false, false, false, .const 0, []⟩]⟩,
  ⟨"HLN_EVT_EN", 786444, 32, 1, (0, 5, 256), (0, 0, 0),
    [⟨359, 0, 5, .rw, false, false, false, false, false, .const 0, []⟩]⟩,
  ⟨"HLN_CNT", 786448, 32, 2, (0, 5, 256), (0, 8, 4),
    [⟨360, 0, 32, .ro, false, false, false, true, false, .const 0, []⟩]⟩,
  ⟨"HLN_FEC_CORR_SYM", 786496, 64, 1, (0, 5, 256), (0, 0, 0),
    [⟨361, 0, 48, .ro, false, false, false, false, false, .const 0, []⟩]⟩,
  ⟨"HLN_FEC_UNC", 786504, 64, 1, (0, 5, 256), (0, 0, 0),
    [⟨362, 0, 48, .ro, false, false, false, false, false, .const 0, []⟩]⟩,
  ⟨"HLN_RX_RECORDS", 786512, 64, 1, (0, 5, 256), (0, 0, 0),
    [⟨363, 0, 48, .ro, false, false, false, false, false, .const 0, []⟩]⟩,
  ⟨"HLN_TX_RECORDS", 786520, 64, 1, (0, 5, 256), (0, 0, 0),
    [⟨364, 0, 48, .ro, false, false, false, false, false, .const 0, []⟩]⟩,
  ⟨"MGMT_PCIE_STAT", 917504, 32, 0, (0, 0, 0), (0, 0, 0),
    [⟨365, 8, 4, .ro, false, false, false, false, false, .const 0, []⟩, ⟨366, 4, 2, .ro, false, false, false, false, false, .const 0, []⟩, ⟨367, 1, 2, .ro, false, false, false, false, false, .const 0, []⟩, ⟨368, 0, 1, .ro, false, false, false, false, false, .const 0, []⟩]⟩,
  ⟨"MGMT_MDIO", 917520, 32, 0, (0, 0, 0), (0, 0, 0),
    [⟨369, 31, 1, .w1c, false, false, false, false, false, .const 0, []⟩, ⟨370, 0, 5, .rw, false, false, false, false, false, .const 0, [(0, 24)]⟩]⟩,
  ⟨"MGMT_SPI_STAT", 917536, 32, 0, (0, 0, 0), (0, 0, 0),
    [⟨371, 0, 16, .ro, false, false, false, true, false, .const 0, []⟩]⟩,
  ⟨"MGMT_RECOV_CTL", 917760, 32, 0, (0, 0, 0), (0, 0, 0),
    [⟨372, 31, 1, .w1s, false, false, false, false, false, .const 0, []⟩, ⟨373, 30, 1, .w1s, false, false, false, false, false, .const 0, []⟩, ⟨374, 0, 2, .rw, false, false, false, false, false, .const 1, [(1, 2)]⟩]⟩,
  ⟨"MGMT_RECOV_LEN", 917764, 32, 0, (0, 0, 0), (0, 0, 0),
    [⟨375, 0, 32, .rw, false, false, false, false, false, .const 0, []⟩]⟩,
  ⟨"MGMT_RECOV_DATA", 917768, 32, 0, (0, 0, 0), (0, 0, 0),
    [⟨376, 0, 32, .wo, false, false, false, false, false, .const 0, []⟩]⟩,
  ⟨"MGMT_RECOV_STAT", 917772, 32, 0, (0, 0, 0), (0, 0, 0),
    [⟨377, 29, 3, .ro, false, false, false, false, false, .const 0, []⟩, ⟨378, 27, 2, .ro, false, false, false, false, false, .const 0, []⟩, ⟨379, 26, 1, .ro, false, false, false, false, false, .const 0, []⟩, ⟨380, 0, 21, .ro, false, false, false, false, false, .const 0, []⟩]⟩,
  ⟨"MILL_CTL", 589824, 32, 0, (0, 0, 0), (0, 0, 0),
    [⟨381, 31, 1, .rw, false, false, false, false, false, .const 1, []⟩]⟩,
  ⟨"MILL_STAT", 589828, 32, 0, (0, 0, 0), (0, 0, 0),
    [⟨382, 18, 14, .ro, false, false, false, true, false, .const 0, []⟩, ⟨383, 0, 18, .ro, false, false, false, false, false, .const 65536, []⟩]⟩]

/-- Part 6 of the catalogue. -/
def regCat6 : List RegDesc := [
  ⟨"MILL_PART_RES", 589840, 32, 1, (0, 4, 8), (0, 0, 0),
    [⟨384, 0, 17, .ro, false, false, false, false, false, .part, []⟩]⟩,
  ⟨"MILL_PART_USED", 589844, 32, 1, (0, 4, 8), (0, 0, 0),
    [⟨385, 0, 18, .ro, false, false, false, false, false, .const 0, []⟩]⟩,
  ⟨"MILL_PAGE_CTL", 589888, 32, 0, (0, 0, 0), (0, 0, 0),
    [⟨386, 0, 18, .rw, false, false, false, false, false, .const 8192, [(0, 65536)]⟩]⟩,
  ⟨"MILL_PAGE_STAT", 589892, 32, 0, (0, 0, 0), (0, 0, 0),
    [⟨387, 0, 18, .ro, false, false, false, false, false, .const 0, []⟩]⟩,
  ⟨"MILL_ISO_CTL", 589896, 32, 0, (0, 0, 0), (0, 0, 0),
    [⟨388, 16, 16, .ro, false, false, false, false, false, .const 0, []⟩, ⟨389, 0, 16, .rw, false, false, false, false, false, .const 2000, [(100, 65535)]⟩]⟩,
  ⟨"MILL_ISO_TH", 589900, 32, 0, (0, 0, 0), (0, 0, 0),
    [⟨390, 16, 8, .rw, false, false, false, false, false, .const 16, [(4, 128)]⟩, ⟨391, 0, 8, .rw, false, false, false, false, false, .const 8, [(2, 64)]⟩]⟩,
  ⟨"MILL_EVT", 589920, 32, 0, (0, 0, 0), (0, 0, 0),
    [⟨392, 6, 1, .w1c, false, false, false, false, false, .const 0, []⟩, ⟨393, 5, 1, .w1c, false, false, false, false, false, .const 0, []⟩, ⟨394, 4, 1, .w1c, false, false, false, false, false, .const 0, []⟩, ⟨395, 3, 1, .w1c, false, false, false, false, false, .const 0, []⟩, ⟨396, 2, 1, .w1c, false, false, false, false, false, .const 0, []⟩, ⟨397, 1, 1, .w1c, false, false, false, false, false, .const 0, []⟩, ⟨398, 0, 1, .w1c, false, false, false, false, false, .const 0, []⟩]⟩,
  ⟨"MILL_EVT_EN", 589924, 32, 0, (0, 0, 0), (0, 0, 0),
    [⟨399, 0, 7, .rw, false, false, false, false, false, .const 0, []⟩]⟩,
  ⟨"MILL_FLUSH", 589936, 32, 0, (0, 0, 0), (0, 0, 0),
    [⟨400, 31, 1, .w1s, true, false, false, false, false, .const 0, []⟩, ⟨401, 0, 13, .rw, false, false, false, false, false, .const 0, []⟩]⟩,
  ⟨"MILL_DROP_CTL", 589952, 32, 0, (0, 0, 0), (0, 0, 0),
    [⟨402, 0, 14, .rw, false, false, false, false, false, .const 6144, [(2048, 7168)]⟩]⟩,
  ⟨"MILL_TRK_SP", 589968, 32, 1, (0, 7, 4), (0, 0, 0),
    [⟨403, 0, 8, .rw, false, false, false, false, false, .const 192, []⟩]⟩,
  ⟨"MILL_CNT", 590016, 64, 1, (0, 5, 8), (0, 0, 0),
    [⟨404, 0, 48, .ro, false, false, false, false, false, .const 0, []⟩]⟩,
  ⟨"MILLQ_CFG", 1048576, 32, 1, (0, 4607, 128), (0, 0, 0),
    [⟨405, 31, 1, .ro, false, false, false, false, false, .qIso, []⟩, ⟨406, 30, 1, .rw, false, false, false, false, false, .const 0, []⟩, ⟨407, 24, 6, .rw, false, false, false, false, false, .const 63, []⟩, ⟨408, 22, 2, .rw, false, false, false, false, false, .qPrio, []⟩, ⟨409, 0, 16, .rw, false, false, false, false, false, .const 0, []⟩]⟩,
  ⟨"MILLQ_LIMIT", 1048580, 32, 1, (0, 4607, 128), (0, 0, 0),
    [⟨410, 0, 20, .rw, false, false, false, false, false, .const 65536, [(1, 1048575)]⟩]⟩,
  ⟨"MILLQ_PAGE", 1048584, 32, 1, (0, 4607, 128), (0, 0, 0),
    [⟨411, 16, 16, .rw, false, false, false, false, false, .const 256, [(64, 65535)]⟩, ⟨412, 8, 8, .rw, false, false, false, false, false, .const 64, [(32, 255)]⟩, ⟨413, 0, 8, .rw, false, false, false, false, false, .const 32, [(1, 255)]⟩]⟩,
  ⟨"MILLQ_QUANTUM", 1048588, 32, 1, (0, 4607, 128), (0, 0, 0),
    [⟨414, 0, 16, .rw, false, false, false, false, false, .const 2048, [(256, 65535)]⟩]⟩,
  ⟨"MILLQ_STAT", 1048592, 32, 1, (0, 4607, 128), (0, 0, 0),
    [⟨415, 29, 3, .ro, false, false, false, false, false, .const 0, []⟩, ⟨416, 28, 1, .ro, false, false, false, false, false, .const 0, []⟩, ⟨417, 0, 18, .ro, false, false, false, false, false, .const 0, []⟩]⟩,
  ⟨"MILLQ_HEAD", 1048596, 32, 1, (0, 4607, 128), (0, 0, 0),
    [⟨418, 16, 16, .ro, false, false, false, false, false, .const 0, []⟩, ⟨419, 0, 16, .ro, false, false, false, false, false, .const 0, []⟩]⟩,
  ⟨"MILLQ_DEPTH", 1048600, 32, 1, (0, 4607, 128), (0, 0, 0),
    [⟨420, 0, 20, .ro, false, false, false, false, false, .const 0, []⟩]⟩,
  ⟨"MILLQ_ENQ_FRAMES", 1048608, 64, 1, (0, 4607, 128), (0, 0, 0),
    [⟨421, 0, 48, .ro, false, false, false, false, false, .const 0, []⟩]⟩,
  ⟨"MILLQ_DEQ_FRAMES", 1048616, 64, 1, (0, 4607, 128), (0, 0, 0),
    [⟨422, 0, 48, .ro, false, false, false, false, false, .const 0, []⟩]⟩,
  ⟨"MILLQ_DEQ_OCTETS", 1048624, 64, 1, (0, 4607, 128), (0, 0, 0),
    [⟨423, 0, 64, .ro, false, false, false, false, false, .const 0, []⟩]⟩,
  ⟨"MILLQ_DISC", 1048632, 32, 2, (0, 4607, 128), (0, 3, 4),
    [⟨424, 0, 32, .ro, false, false, false, true, false, .const 0, []⟩]⟩,
  ⟨"MILLQ_ISO_CNT", 1048648, 32, 1, (0, 4607, 128), (0, 0, 0),
    [⟨425, 16, 16, .ro, false, false, false, true, false, .const 0, []⟩, ⟨426, 0, 16, .ro, false, false, false, true, false, .const 0, []⟩]⟩]

/-- Part 7 of the catalogue. -/
def regCat7 : List RegDesc := [
  ⟨"GRAN_CTL", 655360, 32, 0, (0, 0, 0), (0, 0, 0),
    [⟨427, 31, 1, .rw, false, false, false, false, false, .const 1, []⟩, ⟨428, 0, 2, .rw, true, false, false, false, false, .const 0, [(0, 2)]⟩]⟩,
  ⟨"GRAN_STAT", 655364, 32, 0, (0, 0, 0), (0, 0, 0),
    [⟨429, 29, 3, .ro, false, false, false, false, true, .const 0, []⟩, ⟨430, 28, 1, .ro, false, false, false, false, false, .const 0, []⟩, ⟨431, 26, 2, .ro, false, false, false, false, false, .const 0, []⟩, ⟨432, 8, 8, .ro, false, false, false, false, false, .const 0, []⟩, ⟨433, 0, 8, .ro, false, false, false, false, false, .const 0, []⟩]⟩,
  ⟨"GRAN_FREQ", 655368, 32, 0, (0, 0, 0), (0, 0, 0),
    [⟨434, 31, 1, .w1s, false, false, false, false, false, .const 0, []⟩, ⟨435, 30, 1, .ro, false, false, false, false, false, .const 0, []⟩, ⟨436, 16, 3, .ro, false, false, false, false, false, .const 0, []⟩, ⟨437, 0, 2, .rw, false, false, false, false, false, .const 0, [(0, 2)]⟩]⟩,
  ⟨"GRAN_SR_CTL", 655372, 32, 0, (0, 0, 0), (0, 0, 0),
    [⟨438, 31, 1, .rw, false, false, false, false, false, .const 1, []⟩, ⟨439, 0, 16, .rw, false, false, false, false, false, .const 64, [(8, 65535)]⟩]⟩,
  ⟨"GRAN_PAGE_CTL", 655376, 32, 0, (0, 0, 0), (0, 0, 0),
    [⟨440, 30, 2, .rw, false, false, false, false, false, .const 0, [(0, 2)]⟩, ⟨441, 16, 4, .rw, false, false, false, false, false, .const 8, [(0, 8)]⟩, ⟨442, 0, 16, .rw, false, false, false, false, false, .const 200, [(20, 65535)]⟩]⟩,
  ⟨"GRAN_WQ_CTL", 655380, 32, 0, (0, 0, 0), (0, 0, 0),
    [⟨443, 8, 6, .rw, false, false, false, false, false, .const 24, [(8, 32)]⟩, ⟨444, 0, 6, .rw, false, false, false, false, false, .const 8, [(0, 24)]⟩]⟩,
  ⟨"GRAN_APER", 655384, 32, 0, (0, 0, 0), (0, 0, 0),
    [⟨445, 0, 8, .rw, false, false, false, false, false, .const 0, [(0, 223)]⟩]⟩,
  ⟨"GRAN_SEG", 655388, 32, 0, (0, 0, 0), (0, 0, 0),
    [⟨446, 8, 8, .ro, false, false, false, false, false, .const 128, []⟩, ⟨447, 0, 8, .ro, false, false, false, false, false, .const 127, []⟩]⟩,
  ⟨"GRAN_SCRUB", 655392, 32, 0, (0, 0, 0), (0, 0, 0),
    [⟨448, 16, 16, .ro, false, false, false, true, false, .const 0, []⟩, ⟨449, 0, 8, .rw, false, false, false, false, false, .const 24, [(1, 255)]⟩]⟩,
  ⟨"GRAN_EVT", 655408, 32, 0, (0, 0, 0), (0, 0, 0),
    [⟨450, 5, 1, .w1c, false, false, false, false, false, .const 0, []⟩, ⟨451, 4, 1, .w1c, false, false, false, false, false, .const 0, []⟩, ⟨452, 3, 1, .w1c, false, false, false, false, false, .const 0, []⟩, ⟨453, 2, 1, .w1c, false, false, false, false, false, .const 0, []⟩, ⟨454, 1, 1, .w1c, false, false, false, false, false, .const 0, []⟩, ⟨455, 0, 1, .w1c, false, false, false, false, false, .const 0, []⟩]⟩,
  ⟨"GRAN_EVT_EN", 655412, 32, 0, (0, 0, 0), (0, 0, 0),
    [⟨456, 0, 6, .rw, false, false, false, false, false, .const 0, []⟩]⟩,
  ⟨"GRAN_ERR_LOG", 655424, 32, 0, (0, 0, 0), (0, 0, 0),
    [⟨457, 31, 1, .w1c, false, false, false, false, false, .const 0, []⟩, ⟨458, 30, 1, .ro, false, false, false, false, false, .const 0, []⟩, ⟨459, 27, 3, .ro, false, false, false, false, false, .const 0, []⟩, ⟨460, 26, 1, .ro, false, false, false, false, false, .const 0, []⟩, ⟨461, 22, 4, .ro, false, false, false, false, false, .const 0, []⟩, ⟨462, 7, 15, .ro, false, false, false, false, false, .const 0, []⟩, ⟨463, 2, 5, .ro, false, false, false, false, false, .const 0, []⟩, ⟨464, 0, 2, .ro, false, false, false, false, false, .const 0, []⟩]⟩,
  ⟨"GRAN_CNT", 655488, 64, 1, (0, 4, 8), (0, 0, 0),
    [⟨465, 0, 48, .ro, false, false, false, false, false, .const 0, []⟩]⟩,
  ⟨"GRAN_TRN_CTL", 655616, 32, 0, (0, 0, 0), (0, 0, 0),
    [⟨466, 31, 1, .w1s, false, false, false, false, false, .const 0, []⟩, ⟨467, 30, 1, .ro, false, false, false, false, false, .const 0, []⟩, ⟨468, 28, 2, .rw, false, false, false, false, false, .const 0, []⟩, ⟨469, 27, 1, .rw, false, false, false, false, false, .const 0, []⟩, ⟨470, 0, 24, .rw, false, false, false, false, false, .const 2048, [(1, 16777215)]⟩]⟩,
  ⟨"GRAN_TRN_ADDR", 655620, 32, 0, (0, 0, 0), (0, 0, 0),
    [⟨471, 0, 32, .rw, false, false, false, false, false, .const 0, []⟩]⟩,
  ⟨"GRAN_TRN_PAT", 655624, 32, 1, (0, 1, 4), (0, 0, 0),
    [⟨472, 0, 32, .rw, false, false, false, false, false, .const 0, []⟩]⟩,
  ⟨"GRAN_TRN_ERR", 655632, 32, 0, (0, 0, 0), (0, 0, 0),
    [⟨473, 16, 16, .ro, false, false, false, true, false, .const 0, []⟩, ⟨474, 0, 16, .ro, false, false, false, false, false, .const 0, []⟩]⟩,
  ⟨"GRAN_TRN_CNT", 655636, 32, 0, (0, 0, 0), (0, 0, 0),
    [⟨475, 16, 16, .ro, false, false, false, true, false, .const 0, []⟩, ⟨476, 0, 16, .ro, false, false, false, true, false, .const 0, []⟩]⟩,
  ⟨"GRAN_DLY", 655872, 32, 2, (0, 1, 128), (0, 18, 4),
    [⟨477, 0, 8, .rw, false, false, false, false, false, .const 0, []⟩]⟩,
  ⟨"MEM_SCRUB_CTL", 720896, 32, 0, (0, 0, 0), (0, 0, 0),
    [⟨478, 31, 1, .rw, false, false, false, false, false, .const 1, []⟩, ⟨479, 0, 14, .rw, false, false, false, false, false, .const 100, [(100, 10000)]⟩]⟩,
  ⟨"MEM_PS_STAT", 720900, 32, 0, (0, 0, 0), (0, 0, 0),
    [⟨480, 16, 16, .ro, false, false, false, true, false, .const 0, []⟩, ⟨481, 0, 16, .ro, false, false, false, true, false, .const 0, []⟩]⟩,
  ⟨"MEM_PS_CNT", 720912, 64, 1, (0, 2, 8), (0, 0, 0),
    [⟨482, 0, 48, .ro, false, false, false, false, false, .const 0, []⟩]⟩,
  ⟨"MEM_PS_ERR_LOG", 720960, 32, 0, (0, 0, 0), (0, 0, 0),
    [⟨483, 31, 1, .w1c, false, false, false, false, false, .const 0, []⟩, ⟨484, 30, 1, .ro, false, false, false, false, false, .const 0, []⟩, ⟨485, 0, 21, .ro, false, false, false, false, false, .const 0, []⟩]⟩,
  ⟨"MEM_VALE_BANK_CNT", 721152, 32, 2, (0, 3, 64), (0, 7, 4),
    [⟨486, 16, 16, .ro, false, false, false, true, false, .const 0, []⟩, ⟨487, 0, 16, .ro, false, false, false, true, false, .const 0, []⟩]⟩]

/-- Part 8 of the catalogue. -/
def regCat8 : List RegDesc := [
  ⟨"TIME_CTL", 393216, 32, 0, (0, 0, 0), (0, 0, 0),
    [⟨488, 31, 1, .w1s, false, false, false, false, false, .const 0, []⟩, ⟨489, 3, 1, .rw, false, false, false, false, true, .const 1, []⟩, ⟨490, 2, 1, .rw, false, false, false, false, true, .const 0, []⟩, ⟨491, 0, 2, .rw, true, false, false, false, false, .const 0, [(0, 1)]⟩]⟩,
  ⟨"TIME_STAT", 393220, 32, 0, (0, 0, 0), (0, 0, 0),
    [⟨492, 31, 1, .ro, false, false, false, false, false, .const 0, []⟩, ⟨493, 30, 1, .rw, false, false, false, false, true, .const 0, []⟩, ⟨494, 29, 1, .ro, false, false, false, false, false, .const 0, []⟩, ⟨495, 28, 1, .ro, false, false, false, false, false, .const 0, []⟩, ⟨496, 0, 4, .ro, false, false, false, false, false, .const 0, []⟩]⟩,
  ⟨"TIME_EVT", 393224, 32, 0, (0, 0, 0), (0, 0, 0),
    [⟨497, 3, 1, .w1c, false, false, false, false, false, .const 0, []⟩, ⟨498, 2, 1, .w1c, false, false, false, false, false, .const 0, []⟩, ⟨499, 1, 1, .w1c, false, false, false, false, false, .const 0, []⟩, ⟨500, 0, 1, .w1c, false, false, false, false, false, .const 0, []⟩]⟩,
  ⟨"TIME_EVT_EN", 393228, 32, 0, (0, 0, 0), (0, 0, 0),
    [⟨501, 0, 4, .rw, false, false, false, false, false, .const 0, []⟩]⟩,
  ⟨"TIME_NOW", 393232, 128, 0, (0, 0, 0), (0, 0, 0),
    [⟨502, 64, 48, .ro, false, false, false, false, false, .const 0, []⟩, ⟨503, 32, 32, .ro, false, false, false, false, false, .const 0, []⟩, ⟨504, 0, 16, .ro, false, false, false, false, true, .const 0, []⟩]⟩,
  ⟨"TIME_SET", 393248, 128, 0, (0, 0, 0), (0, 0, 0),
    [⟨505, 64, 48, .rw, false, false, false, false, false, .const 0, []⟩, ⟨506, 32, 32, .rw, false, false, false, false, false, .const 0, [(0, 999999999)]⟩, ⟨507, 0, 16, .rw, false, false, false, false, false, .const 0, []⟩]⟩,
  ⟨"TIME_STEP", 393264, 32, 0, (0, 0, 0), (0, 0, 0),
    [⟨508, 31, 1, .w1s, true, false, false, false, false, .const 0, []⟩, ⟨509, 0, 16, .ro, false, false, false, true, false, .const 0, []⟩]⟩,
  ⟨"TIME_ADJ_FREQ", 393268, 32, 0, (0, 0, 0), (0, 0, 0),
    [⟨510, 0, 32, .rw, false, true, false, false, false, .const 0, [(0, 549755813), (3745211483, 4294967295)]⟩]⟩,
  ⟨"TIME_ADJ_PHASE", 393272, 32, 0, (0, 0, 0), (0, 0, 0),
    [⟨511, 0, 32, .rw, false, false, false, false, false, .const 0, [(0, 1000000), (4293967296, 4294967295)]⟩]⟩,
  ⟨"TIME_PPS_IN", 393280, 128, 0, (0, 0, 0), (0, 0, 0),
    [⟨512, 0, 128, .ro, false, false, false, false, false, .const 0, []⟩]⟩,
  ⟨"TIME_PPS_CNT", 393296, 32, 0, (0, 0, 0), (0, 0, 0),
    [⟨513, 16, 16, .ro, false, false, false, true, false, .const 0, []⟩, ⟨514, 0, 16, .ro, false, false, false, true, false, .const 0, []⟩]⟩,
  ⟨"TIME_PPS_OUT", 393300, 32, 0, (0, 0, 0), (0, 0, 0),
    [⟨515, 0, 29, .rw, false, false, false, false, false, .const 100000000, [(1000, 500000000)]⟩]⟩,
  ⟨"TIME_CFG", 393304, 32, 0, (0, 0, 0), (0, 0, 0),
    [⟨516, 8, 1, .ro, false, false, false, false, false, .const 0, []⟩, ⟨517, 0, 8, .ro, false, false, false, false, false, .const 0, []⟩]⟩,
  ⟨"TIME_VALE", 393472, 32, 1, (0, 3, 16), (0, 0, 0),
    [⟨518, 16, 16, .ro, false, false, false, true, false, .const 0, []⟩, ⟨519, 0, 16, .ro, false, false, false, false, false, .const 0, []⟩]⟩,
  ⟨"TIME_PORT_DLY", 393728, 32, 1, (0, 71, 4), (0, 0, 0),
    [⟨520, 16, 16, .ro, false, false, false, false, false, .const 0, []⟩, ⟨521, 0, 16, .ro, false, false, false, false, false, .const 0, []⟩]⟩,
  ⟨"SURV_CTL", 524288, 32, 0, (0, 0, 0), (0, 0, 0),
    [⟨522, 31, 1, .rw, false, false, false, false, false, .const 1, []⟩]⟩,
  ⟨"SURV_EVT", 524296, 32, 0, (0, 0, 0), (0, 0, 0),
    [⟨523, 5, 1, .w1c, false, false, false, false, false, .const 0, []⟩, ⟨524, 4, 1, .w1c, false, false, false, false, false, .const 0, []⟩, ⟨525, 3, 1, .w1c, false, false, false, false, false, .const 0, []⟩, ⟨526, 2, 1, .w1c, false, false, false, false, false, .const 0, []⟩, ⟨527, 1, 1, .w1c, false, false, false, false, false, .const 0, []⟩, ⟨528, 0, 1, .w1c, false, false, false, false, false, .const 0, []⟩]⟩,
  ⟨"SURV_EVT_EN", 524300, 32, 0, (0, 0, 0), (0, 0, 0),
    [⟨529, 0, 6, .rw, false, false, false, false, false, .const 0, []⟩]⟩,
  ⟨"SURV_ENV", 524352, 32, 1, (0, 7, 4), (0, 0, 0),
    [⟨530, 16, 16, .rw, false, false, false, false, false, .const 0, []⟩, ⟨531, 0, 16, .ro, false, false, false, false, true, .const 0, []⟩]⟩,
  ⟨"SURV_CAP_CTL", 524544, 32, 0, (0, 0, 0), (0, 0, 0),
    [⟨532, 31, 1, .w1s, false, false, false, false, false, .const 0, []⟩, ⟨533, 0, 3, .rw, false, false, false, false, false, .const 0, []⟩]⟩,
  ⟨"SURV_CAP_STAT", 524548, 32, 0, (0, 0, 0), (0, 0, 0),
    [⟨534, 24, 8, .ro, false, false, false, false, false, .const 0, []⟩, ⟨535, 23, 1, .w1c, false, false, false, false, false, .const 0, []⟩, ⟨536, 0, 23, .ro, false, false, false, false, false, .const 0, []⟩]⟩,
  ⟨"SURV_TRK_CTL", 528384, 32, 1, (0, 7, 256), (0, 0, 0),
    [⟨537, 31, 1, .w1s, false, false, false, false, false, .const 0, []⟩, ⟨538, 30, 1, .rw, false, false, false, false, false, .const 0, []⟩]⟩,
  ⟨"SURV_TRK_STAT", 528388, 32, 1, (0, 7, 256), (0, 0, 0),
    [⟨539, 29, 3, .ro, false, false, false, false, false, .const 0, []⟩, ⟨540, 28, 1, .ro, false, false, false, false, false, .const 0, []⟩, ⟨541, 16, 5, .ro, false, false, false, false, false, .const 0, []⟩, ⟨542, 0, 16, .ro, false, false, false, false, false, .const 0, []⟩]⟩,
  ⟨"SURV_TRK_LOOP", 528392, 32, 1, (0, 7, 256), (0, 0, 0),
    [⟨543, 16, 16, .ro, false, false, false, false, false, .const 65535, []⟩, ⟨544, 0, 16, .ro, false, false, false, false, false, .const 65535, []⟩]⟩]

/-- Part 9 of the catalogue. -/
def regCat9 : List RegDesc := [
  ⟨"SURV_TRK_BASE", 528396, 32, 1, (0, 7, 256), (0, 0, 0),
    [⟨545, 16, 16, .ro, false, false, false, false, false, .const 0, []⟩, ⟨546, 0, 16, .rw, false, false, true, false, false, .const 0, []⟩]⟩,
  ⟨"SURV_TRK_CC_CTL", 528400, 32, 1, (0, 7, 256), (0, 0, 0),
    [⟨547, 31, 1, .w1s, false, false, false, false, false, .const 0, []⟩, ⟨548, 4, 8, .rw, false, false, false, false, false, .const 32, [(1, 255)]⟩, ⟨549, 0, 4, .rw, false, false, false, false, false, .const 4, [(1, 15)]⟩]⟩,
  ⟨"SURV_TRK_CC_STAT", 528404, 32, 1, (0, 7, 256), (0, 0, 0),
    [⟨550, 31, 1, .ro, false, false, false, false, false, .const 0, []⟩, ⟨551, 30, 1, .ro, false, false, false, false, false, .const 0, []⟩, ⟨552, 29, 1, .ro, false, false, false, false, false, .const 0, []⟩, ⟨553, 4, 8, .ro, false, false, false, false, false, .const 0, []⟩, ⟨554, 0, 4, .ro, false, false, false, false, false, .const 0, []⟩]⟩,
  ⟨"SURV_TRK_SHIELD", 528408, 32, 1, (0, 7, 256), (0, 0, 0),
    [⟨555, 16, 16, .ro, false, false, false, false, false, .const 0, []⟩, ⟨556, 0, 16, .ro, false, false, false, false, false, .const 0, []⟩]⟩,
  ⟨"SURV_TRK_SHIELD_LIM", 528412, 32, 1, (0, 7, 256), (0, 0, 0),
    [⟨557, 16, 16, .ro, false, false, false, false, false, .const 0, []⟩, ⟨558, 0, 16, .rw, false, false, false, false, false, .const 500, [(10, 2000)]⟩]⟩,
  ⟨"SURV_TRK_CNT", 528416, 32, 1, (0, 7, 256), (0, 0, 0),
    [⟨559, 20, 12, .ro, false, false, false, true, false, .const 0, []⟩, ⟨560, 8, 12, .ro, false, false, false, true, false, .const 0, []⟩, ⟨561, 0, 8, .ro, false, false, false, true, false, .const 0, []⟩]⟩,
  ⟨"SURV_TRK_REFL", 528448, 32, 2, (0, 7, 256), (0, 15, 4),
    [⟨562, 24, 8, .ro, false, false, false, false, false, .const 0, []⟩, ⟨563, 0, 22, .ro, false, false, false, false, false, .const 0, []⟩]⟩,
  ⟨"SURV_DRP_CTL", 532480, 32, 1, (0, 63, 64), (0, 0, 0),
    [⟨564, 31, 1, .w1s, false, false, false, false, false, .const 0, []⟩, ⟨565, 30, 1, .rw, false, false, false, false, false, .const 0, []⟩, ⟨566, 17, 3, .ro, false, false, false, false, false, .const 0, []⟩, ⟨567, 0, 17, .rw, false, false, false, false, false, .const 0, [(0, 0), (60, 86400)]⟩]⟩,
  ⟨"SURV_DRP_REFL", 532488, 32, 2, (0, 63, 64), (0, 7, 4),
    [⟨568, 24, 8, .ro, false, false, false, false, false, .const 0, []⟩, ⟨569, 0, 22, .ro, false, false, false, false, false, .const 0, []⟩]⟩,
  ⟨"SURV_VALE_ENV", 536576, 32, 2, (0, 3, 16), (0, 2, 4),
    [⟨570, 16, 16, .rw, false, false, false, false, false, .const 0, []⟩, ⟨571, 0, 16, .ro, false, false, false, false, true, .const 0, []⟩]⟩,
  ⟨"ASSAY_CTL", 458752, 32, 0, (0, 0, 0), (0, 0, 0),
    [⟨572, 31, 1, .rw, false, false, false, false, false, .const 1, []⟩, ⟨573, 0, 8, .rw, false, false, false, false, false, .const 3, [(1, 255)]⟩]⟩,
  ⟨"ASSAY_RUN", 458756, 32, 0, (0, 0, 0), (0, 0, 0),
    [⟨574, 31, 1, .w1s, true, false, false, false, false, .const 0, []⟩, ⟨575, 0, 8, .rw, false, false, false, false, false, .const 0, [(0, 112)]⟩]⟩,
  ⟨"ASSAY_ACCEPT", 458760, 32, 0, (0, 0, 0), (0, 0, 0),
    [⟨576, 31, 1, .w1s, true, false, false, false, false, .const 0, []⟩, ⟨577, 0, 8, .rw, false, false, false, false, false, .const 0, [(0, 112)]⟩]⟩,
  ⟨"ASSAY_STAT", 458764, 32, 0, (0, 0, 0), (0, 0, 0),
    [⟨578, 31, 1, .ro, false, false, false, false, false, .const 0, []⟩, ⟨579, 27, 4, .ro, false, false, false, false, false, .const 0, []⟩, ⟨580, 26, 1, .ro, false, false, false, false, false, .const 0, []⟩, ⟨581, 24, 2, .ro, false, false, false, false, false, .const 0, []⟩, ⟨582, 0, 8, .ro, false, false, false, false, false, .const 0, []⟩]⟩,
  ⟨"ASSAY_REF", 458768, 32, 0, (0, 0, 0), (0, 0, 0),
    [⟨583, 0, 16, .ro, false, false, false, false, false, .const 0, []⟩]⟩,
  ⟨"ASSAY_EVT", 458784, 32, 0, (0, 0, 0), (0, 0, 0),
    [⟨584, 3, 1, .w1c, false, false, false, false, false, .const 0, []⟩, ⟨585, 2, 1, .w1c, false, false, false, false, false, .const 0, []⟩, ⟨586, 1, 1, .w1c, false, false, false, false, false, .const 0, []⟩, ⟨587, 0, 1, .w1c, false, false, false, false, false, .const 0, []⟩]⟩,
  ⟨"ASSAY_EVT_EN", 458788, 32, 0, (0, 0, 0), (0, 0, 0),
    [⟨588, 0, 4, .rw, false, false, false, false, false, .const 0, []⟩]⟩,
  ⟨"ASSAY_PERIOD", 458816, 32, 1, (0, 4, 4), (0, 0, 0),
    [⟨589, 24, 8, .rw, false, false, false, false, false, .kTemp, [(0, 50)]⟩, ⟨590, 0, 20, .rw, false, false, false, false, false, .kPeriod, [(60, 604800)]⟩]⟩,
  ⟨"ASSAY_ITEM_STAT", 462848, 32, 1, (0, 112, 16), (0, 0, 0),
    [⟨591, 29, 3, .ro, false, false, false, false, false, .const 0, []⟩, ⟨592, 28, 1, .ro, false, false, false, false, false, .const 0, []⟩, ⟨593, 27, 1, .ro, false, false, false, false, false, .const 0, []⟩, ⟨594, 26, 1, .ro, false, false, false, false, false, .const 0, []⟩, ⟨595, 16, 8, .ro, false, false, false, true, false, .const 0, []⟩, ⟨596, 0, 16, .ro, false, false, false, true, false, .const 0, []⟩]⟩,
  ⟨"ASSAY_ITEM_COUNT", 462852, 32, 1, (0, 112, 16), (0, 0, 0),
    [⟨597, 0, 32, .ro, false, false, false, true, false, .const 0, []⟩]⟩,
  ⟨"ASSAY_ITEM_LAST", 462856, 64, 1, (0, 112, 16), (0, 0, 0),
    [⟨598, 0, 48, .ro, false, false, false, false, false, .const 0, []⟩]⟩,
  ⟨"SEC_LC", 327680, 32, 0, (0, 0, 0), (0, 0, 0),
    [⟨599, 0, 3, .ro, false, false, false, false, true, .const 0, []⟩]⟩,
  ⟨"SEC_LC_REQ", 327684, 32, 0, (0, 0, 0), (0, 0, 0),
    [⟨600, 31, 1, .w1s, true, false, false, false, false, .const 0, []⟩, ⟨601, 8, 8, .rw, false, false, false, false, false, .const 0, []⟩, ⟨602, 0, 3, .rw, false, false, false, false, false, .const 0, [(0, 4)]⟩]⟩,
  ⟨"SEC_STAT", 327688, 32, 0, (0, 0, 0), (0, 0, 0),
    [⟨603, 31, 1, .ro, false, false, false, false, false, .const 0, []⟩, ⟨604, 30, 1, .ro, false, false, false, false, false, .const 0, []⟩, ⟨605, 29, 1, .ro, false, false, false, false, false, .const 0, []⟩, ⟨606, 8, 7, .ro, false, false, false, false, false, .const 0, []⟩, ⟨607, 0, 7, .ro, false, false, false, false, false, .const 0, []⟩]⟩]

/-- Part 10 of the catalogue. -/
def regCat10 : List RegDesc := [
  ⟨"SEC_CTL", 327692, 32, 0, (0, 0, 0), (0, 0, 0),
    [⟨608, 31, 1, .rw, false, false, false, false, false, .const 1, []⟩]⟩,
  ⟨"SEC_TAMPER", 327696, 32, 0, (0, 0, 0), (0, 0, 0),
    [⟨609, 31, 1, .ro, false, false, false, false, true, .const 0, []⟩, ⟨610, 16, 5, .ro, false, false, false, false, false, .const 0, []⟩, ⟨611, 8, 5, .ro, false, false, false, false, false, .const 0, []⟩, ⟨612, 0, 5, .rw, true, false, true, false, false, .const 31, []⟩]⟩,
  ⟨"SEC_EVT", 327704, 32, 0, (0, 0, 0), (0, 0, 0),
    [⟨613, 3, 1, .w1c, false, false, false, false, false, .const 0, []⟩, ⟨614, 2, 1, .w1c, false, false, false, false, false, .const 0, []⟩, ⟨615, 1, 1, .w1c, false, false, false, false, false, .const 0, []⟩, ⟨616, 0, 1, .w1c, false, false, false, false, false, .const 0, []⟩]⟩,
  ⟨"SEC_EVT_EN", 327708, 32, 0, (0, 0, 0), (0, 0, 0),
    [⟨617, 0, 4, .rw, false, false, false, false, false, .const 0, []⟩]⟩,
  ⟨"SEC_PROV_CTL", 327712, 32, 0, (0, 0, 0), (0, 0, 0),
    [⟨618, 31, 1, .w1s, true, false, false, false, false, .const 0, []⟩, ⟨619, 30, 1, .ro, false, false, false, false, false, .const 0, []⟩]⟩,
  ⟨"SEC_ID_PUB", 327744, 32, 1, (0, 23, 4), (0, 0, 0),
    [⟨620, 0, 32, .ro, false, false, false, false, false, .const 0, []⟩]⟩,
  ⟨"SEC_SCI", 327840, 32, 1, (0, 1, 4), (0, 0, 0),
    [⟨621, 0, 32, .rw, true, false, false, false, false, .sci, []⟩]⟩,
  ⟨"SEC_LOAD_CTL", 327936, 32, 0, (0, 0, 0), (0, 0, 0),
    [⟨622, 31, 1, .w1s, true, false, false, false, false, .const 0, []⟩, ⟨623, 30, 1, .w1s, false, false, false, false, false, .const 0, []⟩, ⟨624, 29, 1, .w1s, false, false, false, false, false, .const 0, []⟩, ⟨625, 0, 2, .rw, false, false, false, false, false, .const 0, [(0, 2)]⟩]⟩,
  ⟨"SEC_LOAD_LEN", 327940, 32, 0, (0, 0, 0), (0, 0, 0),
    [⟨626, 0, 32, .rw, false, false, false, false, false, .const 0, []⟩]⟩,
  ⟨"SEC_LOAD_DATA", 327944, 32, 0, (0, 0, 0), (0, 0, 0),
    [⟨627, 0, 32, .wo, false, false, false, false, false, .const 0, []⟩]⟩,
  ⟨"SEC_LOAD_STAT", 327948, 32, 0, (0, 0, 0), (0, 0, 0),
    [⟨628, 28, 4, .ro, false, false, false, false, false, .const 15, []⟩, ⟨629, 26, 2, .ro, false, false, false, false, false, .const 0, []⟩, ⟨630, 0, 21, .ro, false, false, false, false, false, .const 0, []⟩]⟩,
  ⟨"SEC_FW_CTL", 327952, 32, 0, (0, 0, 0), (0, 0, 0),
    [⟨631, 31, 1, .w1s, true, false, false, false, false, .const 0, []⟩, ⟨632, 30, 1, .w1c, false, false, false, false, false, .const 0, []⟩]⟩,
  ⟨"SEC_ATT_CTL", 328192, 32, 0, (0, 0, 0), (0, 0, 0),
    [⟨633, 31, 1, .w1s, false, false, false, false, false, .const 0, []⟩, ⟨634, 30, 1, .ro, false, false, false, false, false, .const 0, []⟩, ⟨635, 29, 1, .ro, false, false, false, false, false, .const 0, []⟩, ⟨636, 28, 1, .w1c, false, false, false, false, false, .const 0, []⟩]⟩,
  ⟨"SEC_ATT_NONCE", 328208, 32, 1, (0, 7, 4), (0, 0, 0),
    [⟨637, 0, 32, .rw, false, false, false, false, false, .const 0, []⟩]⟩,
  ⟨"SEC_ATT_REPORT", 328256, 32, 1, (0, 83, 4), (0, 0, 0),
    [⟨638, 0, 32, .ro, false, false, false, false, false, .const 0, []⟩]⟩,
  ⟨"SEC_CNT", 328704, 32, 1, (0, 7, 4), (0, 0, 0),
    [⟨639, 0, 32, .ro, false, false, false, true, false, .const 0, []⟩]⟩,
  ⟨"MSEC_CTL", 4194304, 32, 1, (0, 2055, 256), (0, 0, 0),
    [⟨640, 31, 1, .w1s, false, false, false, false, false, .const 0, []⟩, ⟨641, 0, 14, .rw, false, false, false, false, false, .const 24, [(1, 8760)]⟩]⟩,
  ⟨"MSEC_STAT", 4194308, 32, 1, (0, 2055, 256), (0, 0, 0),
    [⟨642, 30, 2, .ro, false, false, false, false, true, .const 0, []⟩, ⟨643, 28, 2, .ro, false, false, false, false, false, .const 0, []⟩, ⟨644, 26, 2, .ro, false, false, false, false, false, .const 0, []⟩, ⟨645, 0, 6, .ro, false, false, false, false, false, .const 0, []⟩]⟩,
  ⟨"MSEC_KI", 4194312, 32, 2, (0, 2055, 256), (0, 3, 4),
    [⟨646, 0, 32, .ro, false, false, false, false, false, .const 0, []⟩]⟩,
  ⟨"MSEC_TX_PN", 4194328, 64, 1, (0, 2055, 256), (0, 0, 0),
    [⟨647, 0, 64, .ro, false, false, false, false, false, .const 0, []⟩]⟩,
  ⟨"MSEC_CNT", 4194336, 64, 2, (0, 2055, 256), (0, 6, 8),
    [⟨648, 0, 48, .ro, false, false, false, false, false, .const 0, []⟩]⟩,
  ⟨"WATCH_CTL", 131072, 32, 0, (0, 0, 0), (0, 0, 0),
    [⟨649, 31, 1, .rw, false, false, false, false, false, .const 1, []⟩]⟩,
  ⟨"WATCH_STAT", 131076, 32, 0, (0, 0, 0), (0, 0, 0),
    [⟨650, 31, 1, .ro, false, false, false, false, true, .const 0, []⟩, ⟨651, 30, 1, .ro, false, false, false, false, true, .const 0, []⟩, ⟨652, 10, 10, .ro, false, false, false, false, false, .const 0, []⟩, ⟨653, 0, 10, .ro, false, false, false, false, false, .const 0, []⟩]⟩,
  ⟨"WATCH_PIN", 131080, 32, 0, (0, 0, 0), (0, 0, 0),
    [⟨654, 31, 1, .w1s, false, false, false, false, true, .const 0, []⟩, ⟨655, 0, 10, .rw, false, false, false, false, false, .const 100, [(1, 1000)]⟩]⟩]

/-- Part 11 of the catalogue. -/
def regCat11 : List RegDesc := [
  ⟨"WATCH_IRQ", 131084, 32, 0, (0, 0, 0), (0, 0, 0),
    [⟨656, 16, 16, .ro, false, false, false, false, false, .const 0, []⟩, ⟨657, 0, 16, .w1s, false, false, false, false, false, .const 0, []⟩]⟩,
  ⟨"WATCH_CNT", 131088, 32, 1, (0, 4, 4), (0, 0, 0),
    [⟨658, 0, 32, .ro, false, false, false, true, false, .const 0, []⟩]⟩,
  ⟨"WATCH_HELD", 131136, 32, 1, (0, 15, 4), (0, 0, 0),
    [⟨659, 0, 32, .ro, false, false, false, false, true, .const 0, []⟩]⟩,
  ⟨"WATCH_LOST", 131200, 32, 1, (0, 15, 4), (0, 0, 0),
    [⟨660, 0, 32, .w1c, false, false, false, false, false, .const 0, []⟩]⟩,
  ⟨"WATCH_LOG_HEAD", 131328, 32, 0, (0, 0, 0), (0, 0, 0),
    [⟨661, 0, 32, .ro, false, false, false, false, true, .const 0, []⟩]⟩,
  ⟨"WATCH_LOG_CTL", 131332, 32, 0, (0, 0, 0), (0, 0, 0),
    [⟨662, 31, 1, .rw, false, false, false, false, false, .const 0, []⟩, ⟨663, 30, 1, .ro, false, false, false, false, false, .const 1, []⟩, ⟨664, 0, 12, .rw, false, false, false, false, false, .const 0, []⟩]⟩,
  ⟨"WATCH_LOG_SEL", 131336, 32, 0, (0, 0, 0), (0, 0, 0),
    [⟨665, 0, 32, .rw, false, false, false, false, false, .const 0, []⟩]⟩,
  ⟨"WATCH_LOG_DATA", 131340, 32, 1, (0, 5, 4), (0, 0, 0),
    [⟨666, 0, 32, .ro, false, false, false, false, false, .const 0, []⟩]⟩,
  ⟨"WATCH_SLOT_HDR", 135168, 32, 1, (0, 511, 16), (0, 0, 0),
    [⟨667, 31, 1, .w1c, false, false, false, false, true, .const 0, []⟩, ⟨668, 29, 2, .ro, false, false, false, false, false, .const 0, []⟩, ⟨669, 28, 1, .ro, false, false, false, false, false, .const 0, []⟩, ⟨670, 24, 3, .ro, false, false, false, false, false, .const 0, []⟩, ⟨671, 16, 8, .ro, false, false, false, false, false, .const 0, []⟩, ⟨672, 0, 16, .ro, false, false, false, false, false, .const 0, []⟩]⟩,
  ⟨"WATCH_SLOT_DETAIL", 135172, 32, 1, (0, 511, 16), (0, 0, 0),
    [⟨673, 0, 32, .ro, false, false, false, false, false, .const 0, []⟩]⟩,
  ⟨"WATCH_SLOT_SEQ", 135176, 32, 1, (0, 511, 16), (0, 0, 0),
    [⟨674, 0, 32, .ro, false, false, false, false, false, .const 0, []⟩]⟩,
  ⟨"WATCH_REACT", 143360, 32, 1, (0, 511, 4), (0, 0, 0),
    [⟨675, 18, 14, .rw, true, true, false, false, false, .const 100, [(1, 10000)]⟩, ⟨676, 8, 8, .rw, true, true, false, false, false, .fAct, []⟩, ⟨677, 0, 8, .rw, true, true, false, false, false, .uAct, []⟩]⟩,
  ⟨"PWR_CTL", 196608, 32, 0, (0, 0, 0), (0, 0, 0),
    [⟨678, 31, 1, .rw, false, false, false, false, true, .const 0, []⟩, ⟨679, 16, 10, .rw, false, false, false, false, false, .const 50, [(1, 1000)]⟩, ⟨680, 0, 16, .rw, false, false, false, false, false, .const 1000, [(1, 65535)]⟩]⟩,
  ⟨"PWR_TIMING", 196612, 32, 0, (0, 0, 0), (0, 0, 0),
    [⟨681, 0, 16, .rw, false, false, false, false, false, .const 1000, [(1, 65535)]⟩]⟩,
  ⟨"PWR_STAT", 196616, 32, 0, (0, 0, 0), (0, 0, 0),
    [⟨682, 29, 3, .ro, false, false, false, false, true, .const 0, []⟩, ⟨683, 26, 3, .ro, false, false, false, false, false, .const 0, []⟩, ⟨684, 25, 1, .ro, false, false, false, false, false, .const 0, []⟩, ⟨685, 24, 1, .ro, false, false, false, false, false, .const 0, []⟩, ⟨686, 12, 12, .ro, false, false, false, false, true, .const 0, []⟩, ⟨687, 11, 1, .ro, false, false, false, false, false, .const 0, []⟩]⟩,
  ⟨"PWR_EVT", 196624, 32, 0, (0, 0, 0), (0, 0, 0),
    [⟨688, 4, 1, .w1c, false, false, false, false, true, .const 0, []⟩, ⟨689, 3, 1, .w1c, false, false, false, false, false, .const 0, []⟩, ⟨690, 2, 1, .w1c, false, false, false, false, false, .const 0, []⟩, ⟨691, 1, 1, .w1c, false, false, false, false, true, .const 0, []⟩, ⟨692, 0, 1, .w1c, false, false, false, false, false, .const 0, []⟩]⟩,
  ⟨"PWR_EVT_EN", 196628, 32, 0, (0, 0, 0), (0, 0, 0),
    [⟨693, 0, 5, .rw, false, false, false, false, false, .const 0, []⟩]⟩,
  ⟨"PWR_REFUSE", 196632, 32, 0, (0, 0, 0), (0, 0, 0),
    [⟨694, 29, 3, .ro, false, false, false, false, false, .const 0, []⟩, ⟨695, 26, 3, .ro, false, false, false, false, false, .const 0, []⟩, ⟨696, 16, 7, .ro, false, false, false, false, false, .const 0, []⟩, ⟨697, 0, 8, .ro, false, false, false, false, false, .const 0, []⟩]⟩,
  ⟨"PWR_REFUSE_CNT", 196636, 32, 0, (0, 0, 0), (0, 0, 0),
    [⟨698, 0, 32, .ro, false, false, false, true, false, .const 0, []⟩]⟩,
  ⟨"PWR_WAKE", 196640, 32, 0, (0, 0, 0), (0, 0, 0),
    [⟨699, 28, 4, .ro, false, false, false, false, true, .const 0, []⟩, ⟨700, 0, 6, .rw, false, false, false, false, true, .const 63, []⟩]⟩,
  ⟨"PWR_TIMER_CTL", 196644, 32, 0, (0, 0, 0), (0, 0, 0),
    [⟨701, 31, 1, .rw, false, false, false, false, true, .const 0, []⟩, ⟨702, 30, 1, .rw, false, false, false, false, true, .const 0, []⟩, ⟨703, 29, 1, .w1c, false, false, false, false, true, .const 0, []⟩]⟩,
  ⟨"PWR_TIMER_TICKS", 196648, 32, 0, (0, 0, 0), (0, 0, 0),
    [⟨704, 0, 32, .rw, false, false, false, false, true, .const 32768, [(1, 4294967295)]⟩]⟩,
  ⟨"PWR_TIMER_LEFT", 196652, 32, 0, (0, 0, 0), (0, 0, 0),
    [⟨705, 0, 32, .ro, false, false, false, false, true, .const 0, []⟩]⟩,
  ⟨"PWR_INPUT", 196656, 32, 0, (0, 0, 0), (0, 0, 0),
    [⟨706, 16, 16, .ro, false, false, false, false, true, .const 0, []⟩, ⟨707, 0, 16, .ro, false, false, false, false, true, .const 0, []⟩]⟩]

/-- Part 12 of the catalogue. -/
def regCat12 : List RegDesc := [
  ⟨"PWR_THERM", 196660, 32, 0, (0, 0, 0), (0, 0, 0),
    [⟨708, 8, 8, .ro, false, false, false, false, false, .const 130, []⟩, ⟨709, 0, 8, .rw, false, false, false, false, false, .const 115, [(85, 125)]⟩]⟩,
  ⟨"PWR_WAKE_CNT", 196672, 32, 1, (0, 7, 4), (0, 0, 0),
    [⟨710, 0, 32, .ro, false, false, false, true, false, .const 0, []⟩]⟩,
  ⟨"PWR_RUNG_CNT", 196704, 32, 1, (1, 4, 4), (0, 0, 0),
    [⟨711, 0, 32, .ro, false, false, false, true, false, .const 0, []⟩]⟩,
  ⟨"PWR_LOWEST", 196864, 32, 1, (0, 74, 4), (0, 0, 0),
    [⟨712, 0, 3, .rw, false, false, false, false, true, .const 3, [(0, 4)]⟩]⟩]

/-- The whole catalogue, in the order of the chapters. -/
def regCat : List RegDesc :=
  regCat0 ++ regCat1 ++ regCat2 ++ regCat3 ++ regCat4 ++ regCat5 ++ regCat6 ++ regCat7 ++ regCat8 ++ regCat9 ++ regCat10 ++ regCat11 ++ regCat12

/-- The fields coded RWS: kept through a warm reset (02_startup R34). -/
def stickyIds : List Nat := [6, 7, 8, 9, 10, 11, 12, 41, 546, 612]

end Sys2Proof.Machine
end

