-- ==== Sys2Proof/Machine/Ops.lean ====
section
/-! DEFINITION. The named operations over registers, the wall of time, free values and what leaves the block. -/

namespace Sys2Proof.Machine

/-! ## Register fields -/

/-- The value of a field in a table of registers, of the field's width. -/
def getFld (r : Tbl (Tbl Nat)) (f : Fld) : Nat := tget f.rst (tget [] r f.id) f.ix % 2 ^ f.width

/-- The value of a field (its first copy, where the field is voted). -/
def State.rd (s : State) (f : Fld) : Nat := getFld s.regs f

/-- A one-bit field as a truth value. -/
def State.bit (s : State) (f : Fld) : Bool := s.rd f = 1

/-- Write a field of a table of registers; the value is cut to the field's width. -/
def putFld (r : Tbl (Tbl Nat)) (f : Fld) (v : Nat) : Tbl (Tbl Nat) :=
  tset [] r f.id (tset f.rst (tget [] r f.id) f.ix (v % 2 ^ f.width))

/-- Write a field. -/
def State.wr (s : State) (f : Fld) (v : Nat) : State := { s with regs := putFld s.regs f v }

/-- Write a one-bit field. -/
def State.wrb (s : State) (f : Fld) (b : Bool) : State := s.wr f (b2n b)

/-- Count up by `n`, wrapping at the field's width. -/
def State.add (s : State) (f : Fld) (n : Nat) : State := s.wr f (s.rd f + n)

/-- Count up by `n` and stop at the largest value (00_scope, code SAT). -/
def State.sat (s : State) (f : Fld) (n : Nat) : State := s.wr f (min (s.rd f + n) (2 ^ f.width - 1))

/-- Write the same value into every field of a list. -/
def State.wrAll (s : State) (l : List Fld) (v : Nat) : State := l.foldl (fun a f => a.wr f v) s

/-! ## Voted fields (04_register_interface R86) -/

/-- The majority of three copies, where there is one. -/
def vote3 (a b c : Nat) : Option Nat := if a = b ∨ a = c then some a else if b = c then some b else none

/-- Write all three copies of a voted field. -/
def State.wrV (s : State) (f : Fld) (v : Nat) : State :=
  { s with regs := putFld s.regs f v, regsB := putFld s.regsB f v, regsC := putFld s.regsC f v }

/-- The three copies of a voted field. -/
def State.copies (s : State) (f : Fld) : Nat × Nat × Nat :=
  (s.rd f, getFld s.regsB f, getFld s.regsC f)

/-- The value a voted field falls back to when its copies all differ: the value the running warp applied, else its
Reset value. -/
def State.voteReset (s : State) (f : Fld) : Nat := getFld s.regsW f

/-- The value every read and every use of a voted field takes. -/
def State.rdV (s : State) (f : Fld) : Nat :=
  let c := s.copies f
  (vote3 c.1 c.2.1 c.2.2).getD (s.voteReset f)

/-- Rewrite disagreeing copies and owe the Watch its event: kind 0x04 of class C where there is a majority, kind 0x05
of class U where the three copies differ. `src` is the block's source and `offset` the field's BAR0 offset. -/
def State.voteRepair (s : State) (f : Fld) (src offset : Nat) : State :=
  let c := s.copies f
  if c.1 = c.2.1 ∧ c.1 = c.2.2 then s
  else
    let t := s.wrV f (s.rdV f)
    match vote3 c.1 c.2.1 c.2.2 with
    | some _ => { t with todo := t.todo ++ [.record src 1 0x04 offset] }
    | none => { t with todo := t.todo ++ [.record src 2 0x05 offset] }

/-! ## Time (the age of the block counts eighths of a picosecond) -/

/-- One microsecond, in eighths of a picosecond. -/
abbrev usec : Nat := 8000000
/-- One millisecond. -/
abbrev msec : Nat := 8000000000
/-- One second. -/
abbrev second : Nat := 8000000000000

/-- A stamp moved by a number of picoseconds; the fraction keeps its units of 2^-16 ns. -/
def stampShift (x : Stamp) (ps : Int) : Stamp :=
  let total : Int := ((x.sec * 1000000000 + x.ns : Nat) : Int) * 65536 + x.frac + ps * 65536 / 1000
  let ns := total / 65536
  { sec := (ns / 1000000000).toNat, ns := (ns % 1000000000).toNat, frac := (total % 65536).toNat }

/-! ## Free values, output, owed actions -/

/-- A free value of `w` bits (an undefined value of the spec) and the state that has used it up. -/
def State.free (s : State) (w : Nat) : Nat × State :=
  ((Config.freeBits s.freeCtr w).toNat, { s with freeCtr := s.freeCtr + 1 })

/-- Something leaves the block. -/
def State.send (s : State) (o : Out) : State := { s with out := o :: s.out }

/-- Owe an action that runs at the end of the step. -/
def State.owe (s : State) (t : Todo) : State := { s with todo := s.todo ++ [t] }

/-! ## Modes (02_startup_modes_selftest R43) -/

/-- GLB_MODE.MODE. -/
def State.mode (s : State) : Nat := s.rd R.GLB_MODE_MODE

/-- The device is in SERVICE or DEGRADED. -/
def State.serving (s : State) : Bool := s.mode = 2 ∨ s.mode = 3

/-- The rung of vale `v` as PWR_STAT shows it: 0 Run, 1 Hush, 2 Still, 3 Keep, 4 Night (19_power R402). -/
def State.valeRung (s : State) (v : Nat) : Nat := tbits (s.rd R.PWR_STAT_VALE_RUNG) (3 * v + 2) (3 * v)

/-! ## Blocks and fences (01_architecture R30 to R32, 02_startup_modes_selftest R49 to R51) -/

/-- The vale that holds a block. -/
def blkVale : Block → Option Nat
  | .trunk t => some (t / 2)
  | .drop d => some (d / 16)
  | .vale v | .surv v | .agent v => some v
  | _ => none

/-- A block is the vale `v` or one of its parts. -/
def blkIn (b : Block) (v : Nat) : Bool := blkVale b = some v

/-- The block has a fence of its own. -/
def State.ownFence (s : State) (b : Block) : Bool := s.boot.fences.contains b

/-- The block under self-test is `b`, or the vale that holds `b`. -/
def State.underTest (s : State) (b : Block) : Bool :=
  match s.boot.selfTest with
  | none => false
  | some t => t.block = b || (match t.block with | .vale v => blkIn b v | _ => false)

/-- The block is fenced: by a fence of its own, with its vale, or held as fenced under self-test (R49). -/
def State.isFenced (s : State) (b : Block) : Bool :=
  s.ownFence b || s.underTest b || (match blkVale b with | some v => s.ownFence (.vale v) | none => false)

/-- The block is fenced apart from a running self-test (R50). -/
def State.fencedProper (s : State) (b : Block) : Bool :=
  s.ownFence b || (match blkVale b with | some v => s.ownFence (.vale v) | none => false)

/-- Trunk `t` is fenced. -/
def State.trkFenced (s : State) (t : Nat) : Bool := s.isFenced (.trunk t)

/-- Drop `d` is fenced. -/
def State.drpFenced (s : State) (d : Nat) : Bool := s.isFenced (.drop d)

/-- The numbers 0 to `n` − 1. -/
def upto : Nat → List Nat
  | 0 => []
  | n + 1 => upto n ++ [n]

/-- A number whose bit `i` is `p i`, for `i` below `n`. -/
def maskOf (p : Nat → Bool) : Nat → Nat
  | 0 => 0
  | n + 1 => maskOf p n + b2n (p n) * 2 ^ n

/-- Keep the low `w` bits. -/
def cut (w v : Nat) : Nat := v % 2 ^ w

/-- The distance `a` − `b` modulo `2 ^ w`. -/
def dist (w a b : Nat) : Nat := (a + 2 ^ w - b % 2 ^ w) % 2 ^ w

end Sys2Proof.Machine
end

