-- ==== Sys2Proof/Machine/Watch.lean ====
section
/-! DEFINITION. The Watch: record slots, the event log, the reactions it owes, and the fault pins (18_watch_faults). -/

namespace Sys2Proof.Machine

/-! ## Sources (18_watch_faults R385) -/

/-- The block that a source names; the core blocks are those for which R41 gives QUARANTINE. -/
def srcBlock (src : Nat) : Block :=
  if src = 7 then .assayer
  else if src = 9 then .gran
  else if src = 11 then .pcie
  else if src = 12 then .macsec
  else if 16 ≤ src ∧ src < 22 then .hostLane (src - 16)
  else if 32 ≤ src ∧ src < 36 then .vale (src - 32)
  else if 36 ≤ src ∧ src < 40 then .vale (src - 36)
  else if 40 ≤ src ∧ src < 44 then .surv (src - 40)
  else if 44 ≤ src ∧ src < 48 then .agent (src - 44)
  else if 64 ≤ src ∧ src < 72 then .trunk (src - 64)
  else if 128 ≤ src ∧ src < 192 then .drop (src - 128)
  else .core

/-- The source that a block's own errors are charged to. -/
def blockSrc : Block → Nat
  | .trunk t => 64 + t
  | .drop d => 128 + d
  | .vale v => 32 + v
  | .hostLane n => 16 + n
  | .gran => 9
  | .surv v => 40 + v
  | .macsec => 12
  | .assayer => 7
  | .pcie => 11
  | .agent v => 44 + v
  | .core => 4

/-- The source lies on the field side: its errors drive FLT_FIELD_N. -/
def srcField (src : Nat) : Bool := 32 ≤ src && (src < 48 || (64 ≤ src && (src < 72 || (128 ≤ src && src < 192))))

/-! ## The log (R397) -/

/-- Put an entry into the ring of the newest 2,048; one of class F waits for the archive too. -/
def State.logPut (s : State) (e : LogEntry) : State :=
  { s with watch := { s.watch with
    ring := tset none s.watch.ring (e.seq % 2048) (some e),
    toArchive := if e.cls = 3 then s.watch.toArchive ++ [e] else s.watch.toArchive } }

/-- Write a log entry. -/
def State.logEntry (s : State) (src cls : Nat) (fixed : Bool) (kind action : Nat) (grace : Bool) (mode detail : Nat) :
    State :=
  let seq := s.rd R.WATCH_LOG_HEAD_SEQ
  (s.logPut { seq := seq, src := src, cls := cls, fixed := fixed, kind := kind, action := action, grace := grace,
              mode := mode, detail := cut 32 detail, secs := s.time.sec, ns := s.time.ns }).wr R.WATCH_LOG_HEAD_SEQ (seq + 1)

/-- Word `i` of a log entry (R397). -/
def LogEntry.word (e : LogEntry) (i : Nat) : Nat :=
  match i with
  | 0 => e.seq
  | 1 => e.src * 2 ^ 23 + e.cls * 2 ^ 21 + b2n e.fixed * 2 ^ 20 + e.kind * 2 ^ 12 + e.action * 2 ^ 9
      + b2n e.grace * 2 ^ 8 + e.mode * 2 ^ 5
  | 2 => e.detail
  | 3 => e.secs % 2 ^ 32
  | 4 => e.secs / 2 ^ 32 % 2 ^ 16 * 2 ^ 16
  | 5 => e.ns
  | _ => 0

/-! ## Interrupt messages (R396) -/

/-- Send a message on a vector, or hold it pending while MSI-X is off or the vector masked; by the PCI Express
specification both stand so after a reset (11_host_interfaces R261, log 31). -/
def State.message (s : State) (n : Nat) : State :=
  if s.msixOff || tget true s.msixMask n then { s with msixPend := tset false s.msixPend n true }
  else s.send (.msix n)

/-! ## Mode changes -/

/-- GLB_MODE changes: PREV and MODE, the entry of kind 0xF1 and vector 0 (R396), and the internal wake of a change out
of SERVICE or DEGRADED (19_power R410); on leaving BOOT its time is kept. The spec names no source for that
entry: a free value (log 5). -/
def State.setMode (s : State) (m : Nat) : State :=
  if s.mode = m then s
  else
    let p := s.mode
    let s := if p = 0 then s.wr R.STW_BOOT_STAT_BOOT_MS (min 0xFFFF ((s.age - s.boot.startAt) / msec)) else s
    let t := (s.wr R.GLB_MODE_PREV p).wr R.GLB_MODE_MODE m
    let f := t.free 9
    let t := (f.2.logEntry f.1 0 false 0xF1 0 false m p).message 0
    if (p = 2 ∨ p = 3) ∧ m ≠ 2 ∧ m ≠ 3 then t.owe (.wake 6) else t

/-! ## Recording (R387 to R393) -/

/-- The slot of a source is held. -/
def State.slotHeld (s : State) (src : Nat) : Bool := s.bit (R.WATCH_SLOT_HDR_VALID src)

/-- Owe the action `code` of an error of source `src` (R389, R390). -/
def State.oweAction (s : State) (src code : Nat) : State :=
  if code = 4 then s.owe .quarantine
  else if code = 3 then
    match blkVale (srcBlock src) with
    | some v => s.owe (.fence (.vale v))
    | none => if srcBlock src = .core then s.owe .quarantine else s.owe (.fence (srcBlock src))
  else if code = 2 then
    if srcBlock src = .core then s.owe .quarantine else s.owe (.fence (srcBlock src))
  else s

/-- A fixed reaction aborts a test of its block, or of the vale that holds it (R49). -/
def State.abortTestOf (s : State) (src : Nat) : State :=
  match s.boot.selfTest with
  | none => s
  | some t =>
    if s.underTest (srcBlock src) || (match srcBlock src with | .vale v => blkIn t.block v | _ => false) then
      { s with boot := { s.boot with selfTest := some { t with aborted := true } } }
    else s

/-- How an error reacts: NOW, GRACE started, LATER, and whether the action is a fixed one (R389, R392, R393). -/
structure Reaction where
  now : Nat
  grace : Bool
  later : Nat
  fixed : Bool
  deriving DecidableEq, Repr

/-- The reaction in force for an error of class `cls`. -/
def State.reactionOf (s : State) (src cls : Nat) (fixed : Option Nat) (table : Bool) : Reaction :=
  match fixed with
  | some c => ⟨c, false, 0, true⟩
  | none =>
    if cls = 1 ∨ !table ∨ s.mode = 5 then ⟨0, false, 0, false⟩
    else
      let b := if cls = 2 then s.rdV (R.WATCH_REACT_U_ACTION src) else s.rdV (R.WATCH_REACT_F_ACTION src)
      ⟨b % 8, tbit b 3, b / 16 % 8, false⟩

/-- Hardware uses the voted reaction fields of a source: disagreeing copies are found and rewritten (R86). -/
def State.useReact (s : State) (src : Nat) : State :=
  let o := 0x23000 + 4 * src
  ((s.voteRepair (R.WATCH_REACT_GRACE_MS src) 2 o).voteRepair (R.WATCH_REACT_F_ACTION src) 2 o).voteRepair
    (R.WATCH_REACT_U_ACTION src) 2 o

/-- The registers of a slot are written. -/
def State.slotWrite (s : State) (src cls kind detail seq : Nat) (hold : Bool) (r : Reaction) : State :=
  let t := ((((s.wrb (R.WATCH_SLOT_HDR_VALID src) hold).wr (R.WATCH_SLOT_HDR_CLASS src) cls).wrb
    (R.WATCH_SLOT_HDR_GRACE src) (r.grace && hold)).wr (R.WATCH_SLOT_HDR_APPLIED src) r.now).wr
    (R.WATCH_SLOT_HDR_KIND src) kind
  (t.wr (R.WATCH_SLOT_DETAIL_DETAIL src) detail).wr (R.WATCH_SLOT_SEQ_SEQ src) seq

/-- The grace timer of a source starts (R391). -/
def State.graceStart (s : State) (src later : Nat) : State :=
  { s with watch := { s.watch with
    grace := tset none s.watch.grace src (some (s.age + s.rdV (R.WATCH_REACT_GRACE_MS src) * msec, later)) } }

/-- FLT_HOST_N is driven (R395). -/
def State.pinLatch (s : State) : State := { s with watch := { s.watch with latch := true, widthRuns := true } }

/-- The error is recorded in its free slot: log entry, slot, counter, pins, timer (R387, R391, R394, R395). -/
def State.recordSlot (s : State) (src cls kind detail : Nat) (r : Reaction) : State :=
  let seq := s.rd R.WATCH_LOG_HEAD_SEQ
  let hold := !(cls = 1 ∧ s.bit R.WATCH_CTL_AUTO_C)
  let t := ((s.logEntry src cls r.fixed kind r.now r.grace s.mode detail).sat (R.WATCH_CNT_COUNT (cls - 1)) 1)
  let t := t.slotWrite src cls kind detail seq hold r
  let t := if r.grace && hold then t.graceStart src r.later else t
  let t := if cls ≠ 1 ∧ !srcField src then t.pinLatch else t
  if cls ≠ 1 ∧ 2 ≤ s.rd R.PWR_STAT_HOST_RUNG then t.owe (.wake 6) else t

/-- The Watch records an error: source, class (1 C, 2 U, 3 F), kind, detail; `fixed` is the fixed action of R392 or
R39, and `table` is false for the events of R42 and R50, which take no reaction from the table. -/
def State.recordWith (s : State) (src cls kind detail : Nat) (fixed : Option Nat) (table : Bool) : State :=
  let fixed := if fixed = none ∧ table ∧ cls ≠ 1 ∧ !s.boot.reactionsLive then some (if cls = 2 then 2 else 4)
    else fixed
  let test := s.underTest (srcBlock src) || (36 ≤ src && src < 40 && s.underTest (.vale (src - 36)))
  let cls := if test then 1 else cls
  let kind := if test then 0x59 else kind
  let s := if fixed = none ∧ cls ≠ 1 then s.useReact src else s
  let r := s.reactionOf src cls fixed table
  let t := if s.slotHeld src then
      (s.wr (R.WATCH_LOST_LOST (src / 32)) (setBit (s.rd (R.WATCH_LOST_LOST (src / 32))) (src % 32) true)).sat
        (R.WATCH_CNT_COUNT 3) 1
    else s.recordSlot src cls kind detail r
  if s.slotHeld src ∧ fixed = none then t
  else
    let t := if 1 ≤ r.now then t.message 0 else t
    let t := t.oweAction src r.now
    if fixed = none then t else t.abortTestOf src

/-- An error with the reaction its source's table gives. -/
def State.record (s : State) (src cls kind detail : Nat) : State := s.recordWith src cls kind detail none true

/-- An error whose detail word no rule names: the word is a free value (log 5). -/
def State.recordFree (s : State) (src cls kind : Nat) (fixed : Option Nat) : State :=
  let f := s.free 32
  f.2.recordWith src cls kind f.1 fixed true

/-- Class codes (R384). -/
abbrev clsC : Nat := 1
/-- Uncorrected but contained. -/
abbrev clsU : Nat := 2
/-- Fatal. -/
abbrev clsF : Nat := 3

/-! ## Pins and slots (R394, R395) -/

/-- Source `src` holds a slot of class U or F. -/
def State.heldUF (s : State) (src : Nat) : Bool := s.slotHeld src && decide (2 ≤ s.rd (R.WATCH_SLOT_HDR_CLASS src))

/-- FLT_FIELD_N is low. -/
def State.fltField (s : State) : Bool := (upto 192).any fun i => srcField i && s.heldUF i

/-- FLT_HOST_N is low. -/
def State.fltHost (s : State) : Bool := s.watch.latch || s.watch.widthRuns

/-- Release the slot of a source: its grace timer stops, and LOST stays (R387, R388, R391). -/
def State.releaseSlot (s : State) (src : Nat) : State :=
  let t := (s.wr (R.WATCH_SLOT_HDR_VALID src) 0).wr (R.WATCH_SLOT_HDR_GRACE src) 0
  { t with watch := { t.watch with grace := tset none t.watch.grace src none } }

end Sys2Proof.Machine
end

