-- ==== Sys2Proof/Machine/Activity.lean ====
section
/-! DEFINITION. Access to the parts of the state by their number, credit and receive banks, and the actions that one part
leaves for another to run at the end of the step. -/

namespace Sys2Proof.Machine

/-! ## Parts -/

/-- Trunk `t`. -/
def State.trk (s : State) (t : Nat) : Trunk := tget {} s.trunks t

/-- Replace trunk `t` by an edit of it. -/
def State.modTrk (s : State) (t : Nat) (f : Trunk → Trunk) : State :=
  { s with trunks := tset {} s.trunks t (f (s.trk t)) }

/-- Twin `i`. -/
def State.twin (s : State) (i : Nat) : Twin := tget {} s.twins i

/-- Edit twin `i`. -/
def State.modTwin (s : State) (i : Nat) (f : Twin → Twin) : State :=
  { s with twins := tset {} s.twins i (f (s.twin i)) }

/-- Drop `d`. -/
def State.drp (s : State) (d : Nat) : Drop := tget {} s.drops d

/-- Edit drop `d`. -/
def State.modDrp (s : State) (d : Nat) (f : Drop → Drop) : State :=
  { s with drops := tset {} s.drops d (f (s.drp d)) }

/-- The pass of vale `v`. -/
def State.pas (s : State) (v : Nat) : Pass := tget {} s.passes v

/-- Edit the pass of vale `v`. -/
def State.modPass (s : State) (v : Nat) (f : Pass → Pass) : State :=
  { s with passes := tset {} s.passes v (f (s.pas v)) }

/-- The credit of port `p`. -/
def State.cred (s : State) (p : Nat) : Credit := tget {} s.credits p

/-- Edit the credit of port `p`. -/
def State.modCred (s : State) (p : Nat) (f : Credit → Credit) : State :=
  { s with credits := tset {} s.credits p (f (s.cred p)) }

/-- Physical queue `q` of the Miller. -/
def State.que (s : State) (q : Nat) : MQueue := tget {} s.mill.queues q

/-- Edit physical queue `q`. -/
def State.modQue (s : State) (q : Nat) (f : MQueue → MQueue) : State :=
  { s with mill := { s.mill with queues := tset {} s.mill.queues q (f (s.que q)) } }

/-- Host lane `n`. -/
def State.hln (s : State) (n : Nat) : HLane := tget {} s.hlanes n

/-- Edit host lane `n`. -/
def State.modHln (s : State) (n : Nat) (f : HLane → HLane) : State :=
  { s with hlanes := tset {} s.hlanes n (f (s.hln n)) }

/-- CA `e`. -/
def State.ca (s : State) (e : Nat) : Ca := tget {} s.cas e

/-- Edit CA `e`. -/
def State.modCa (s : State) (e : Nat) (f : Ca → Ca) : State := { s with cas := tset {} s.cas e (f (s.ca e)) }

/-- Set an event bit. -/
def State.evt (s : State) (f : Fld) : State := s.wr f 1

/-! ## Ports and queues -/

/-- The Watch source of a port (18_watch_faults R385). -/
def portSrc (p : Nat) : Nat := if p < 8 then 64 + p else 128 + (p - 8)

/-- The port of a logical egress queue (12_miller_queues R269). -/
def queuePort (q : Nat) : Nat := if q < 4096 then 8 + q / 64 else (q - 4096) / 8

/-- The egress queues of a port. -/
def portQueue (p q : Nat) : Bool :=
  if p < 8 then decide (4096 + 8 * p ≤ q) && decide (q < 4104 + 8 * p)
  else decide (64 * (p - 8) ≤ q) && decide (q < 64 * (p - 8) + 64)

/-- An egress queue of the port holds a frame. -/
def millHolds (p : Nat) (s : State) : Bool := s.mill.queues.any fun e => portQueue p e.1 && !e.2.frames.isEmpty

/-! ## Credit and receive banks -/

/-- A frame of so many octets counts so many units of credit (10_pass R234). -/
def units (octets : Nat) : Nat := (octets + 63) / 64

/-- A vale returns the credit of a frame that has left its share of bank 4 (01_architecture R21). -/
def creditBack (p octets : Nat) (s : State) : State :=
  s.modCred p fun c => { c with returned := (c.returned + units octets) % 2 ^ 19 }

/-- The number of lanes in a set. -/
def laneCount (m : Nat) : Nat := b2n (tbit m 0) + b2n (tbit m 1) + b2n (tbit m 2)

/-- The octets that a receive bank holds. -/
def bankOctets (s : State) (v bank : Nat) : Nat := ((tget [] s.rxBank (8 * v + bank)).map fun f => f.octets.length).sum

/-- Put a frame at the end of a receive bank. -/
def State.bankPut (s : State) (i : Nat) (f : RxFrame) : State :=
  { s with rxBank := tset [] s.rxBank i (tget [] s.rxBank i ++ [f]) }

/-- Write a received frame to its bank of 512 KiB; with fewer than three lanes in use toward the host die a full bank
discards it at the line, counted in DISC_CNT.CAP with a class U event contained to the port (10_pass R226). -/
def State.rxPush (s : State) (v bank : Nat) (f : RxFrame) : State :=
  if laneCount (s.pas v).upUse < 3 ∧ 524288 < bankOctets s v bank + f.octets.length then
    (s.sat (R.PASS_DISC_CNT_CAP v) 1).recordFree (portSrc f.port) 2 0x34 none
  else s.bankPut (8 * v + bank) f

/-- The outcome of a frame whose record asked for its transmit stamp: the stamp, or none where it was not sent whole
(11_host_interfaces R259). -/
def stampReport (f : TxFrame) (st : Option Stamp) (s : State) : State :=
  if f.tsreq then
    { s with reports := s.reports ++ [{ lane := f.lane, queue := f.queue, tag := f.tag, stamp := st }] }
  else s

/-- A frame in bank 4 is discarded without being sent whole: its report and its credit (R21, R259). -/
def frameLost (p : Nat) (f : TxFrame) (s : State) : State := creditBack p f.octets.length (stampReport f none s)

/-! ## What other parts run at the end of the step -/

/-- A power client answers the power manager (19_power R407). -/
def clientAnswer (c : Nat) (ok : Bool) (reason : Nat) (s : State) : State := s.owe (.answer c ok reason)

/-- A vale detects a wake source (19_power R410, R411). -/
def valeWake (v code : Nat) (s : State) : State := s.owe (.valeWake v code)

/-- A quiet window opens and its activities start (07_twinning_quiet_windows R172). -/
def actWindow (t purpose : Nat) (isLocal : Bool) (s : State) : State := s.owe (.window t purpose isLocal)

/-- Activities on a trunk's line are aborted (15_surveyor R337, 16_assayer R356). -/
def actAbort (t : Nat) (s : State) : State := s.owe (.abortAct t)

/-- A fence of the trunk ends its activities (R337, R356). -/
def actFence (t : Nat) (s : State) : State := s.owe (.fenceAct t)

/-- The vale's copy of the time base is locked (14_time R315). -/
def valeLocked (v : Nat) (s : State) : Bool := tbit (s.rd R.TIME_STAT_VALE_LOCK) v

/-- A rung transition of the vale or of the host die is in progress, from the moment the power manager asks
(07_twinning_quiet_windows R166, 19_power R407). -/
def rungBusy (v : Nat) (s : State) : Bool :=
  decide (tget .idle s.power.dom (1 + v) ≠ .idle) || decide (tget .idle s.power.dom 0 ≠ .idle)

/-- A calibration of the drop's engine is due and waits for its place (16_assayer R343, R344). -/
def drpCalDue (d : Nat) (s : State) : Bool :=
  let st := s.rd (R.ASSAY_ITEM_STAT_STATE (8 + d))
  s.bit R.ASSAY_CTL_EN && (decide (st = 1) || decide (st = 2))

/-- A survey pass of the drop is due or in parts (15_surveyor R325, R340). -/
def drpSurvDue (d : Nat) (s : State) : Bool := (tget {} s.dsurv d).due

end Sys2Proof.Machine
end

