-- ==== Sys2Proof/Machine/Macsec.lean ====
section
/-! DEFINITION. MACsec on the host die: the CA of a frame, protection and verification (17_security R376 to R380). -/

namespace Sys2Proof.Machine

/-! ## Octets -/

/-- The EtherType of a frame, read after its addresses. -/
def frameType (l : List Byte) : Nat := etherAt l 12

/-- The EtherType after any single IEEE 802.1Q tag. -/
def innerType (l : List Byte) : Nat :=
  etherAt l (if tagged l then 16 else 12)

/-- `n` octets of a number, most significant first. -/
def octetsOf : Nat → Nat → List Byte
  | 0, _ => []
  | n + 1, v => BitVec.ofNat 8 (v / 256 ^ n) :: octetsOf n v

/-- A frame's check sequence as its last four octets, least significant first. -/
def fcsOctets (l : List Byte) : List Byte := (octetsOf 4 (crc32 (l.map (·.toNat)))).reverse

/-- A list of `n` octets that the spec does not determine. -/
def State.freeOctets (s : State) (n : Nat) : List Byte × State :=
  let f := s.free (8 * n)
  (octetsOf n f.1, f.2)

/-! ## CAs (R377, R378) -/

/-- The CA of a port and slot: trunk t, or slot s of drop d. -/
def caIndex (p slot : Nat) : Nat := if p < 8 then p else 8 + 32 * (p - 8) + slot

/-- The port of a CA. -/
def caPort (e : Nat) : Nat := if e < 8 then e else 8 + (e - 8) / 32

/-- The CA is in use: its MSEC entry shows a state (MSEC[e].STAT). -/
def caUsed (e : Nat) (s : State) : Bool := s.rd (R.MSEC_STAT_STATE e) ≠ 0

/-- The CA has a SAK in use for transmission. -/
def caSecured (e : Nat) (s : State) : Bool := (s.ca e).txReady

/-- Count one of the seven counters of a CA. -/
def caCnt (e k : Nat) (s : State) : State := s.add (R.MSEC_CNT_COUNT e k) 1

/-- The SCI of a port: the address of SEC_SCI and the port identifier p + 1. -/
def portSci (p : Nat) (s : State) : Nat :=
  (s.rd (R.SEC_SCI_MAC 0) * 65536 + s.rd (R.SEC_SCI_MAC 1) / 65536) * 65536 + (p + 1)

/-! ## Protection (R379, R380) -/

/-- The SecTAG of 16 octets: EtherType 0x88E5, TCI with SCI and encryption and the AN, SL, the low half of the PN, SCI. -/
def secTag (an sl pn sci : Nat) : List Byte :=
  [0x88, 0xE5, BitVec.ofNat 8 (0x2C + an), BitVec.ofNat 8 (if sl < 48 then sl else 0)] ++ octetsOf 4 pn ++ octetsOf 8 sci

/-- Protect a frame of CA `e` with its transmit SA. The ciphertext and the ICV are free values; the first CONF_OFFSET
octets stay clear. -/
def protect (e : Nat) (l : List Byte) (s : State) : List Byte × State :=
  let p := caPort e
  let data := (l.drop 12).take (l.length - 16)
  let pn := s.rd (R.MSEC_TX_PN_PN e)
  let clear := data.take (tget 0 s.macConf p)
  let f := s.freeOctets (data.length - clear.length)
  let g := f.2.freeOctets 16
  let body := l.take 12 ++ secTag (s.rd (R.MSEC_STAT_TX_AN e)) data.length pn (portSci p s) ++ clear ++ f.1 ++ g.1
  (body ++ fcsOctets body, caCnt e 0 (g.2.wr (R.MSEC_TX_PN_PN e) (pn + 1)))

/-- A frame leaves its queue toward the pass: MKA frames and frames of no CA in use cross as they are; a CA without a SAK
discards, and so does a drop frame that protection would carry past 2,000 octets. None where the frame is discarded. -/
def egressProtect (p slot : Nat) (l : List Byte) (s : State) : Option (List Byte) × State :=
  let e := caIndex p slot
  if frameType l = 0x888E ∨ !caUsed e s then (some l, s)
  else if !caSecured e s then (none, caCnt e 5 s)
  else if 8 ≤ p ∧ 2000 < l.length + 32 then (none, caCnt e 6 s)
  else
    let r := protect e l s
    (some r.1, r.2)

/-! ## Verification (R376, R379, R380) -/

/-- A frame carries a SecTAG. -/
def hasSecTag (l : List Byte) : Bool := decide (frameType l = 0x88E5) && decide (48 ≤ l.length)

/-- The PN of a protected frame, its upper half recovered from the lowest acceptable PN. -/
def recoverPn (lowest low : Nat) : Nat :=
  let hi := lowest / 2 ^ 32
  (if tbit lowest 31 && !tbit low 31 then hi + 1 else hi) * 2 ^ 32 + low

/-- Verify a frame of CA `e`; `clear` is what verification yields, none where the ICV fails. The answer is the frame to
deliver and whether it was verified, or none where it is discarded. -/
def verify (e : Nat) (l : List Byte) (clear : Option (List Byte)) (s : State) : Option (List Byte × Bool) × State :=
  if !caUsed e s then (some (l, false), s)
  else if !hasSecTag l then (none, caCnt e 4 s)
  else
    let an := octet l 14 % 4
    match (s.ca e).rx.find? fun a => a.1 = an with
    | none => (none, caCnt e 5 s)
    | some sa =>
      let lowest := sa.2 - (if caPort e < 72 then tget 64 s.macReplay (caPort e) else 0)
      let pn := recoverPn lowest (((octet l 16 * 256 + octet l 17) * 256 + octet l 18) * 256 + octet l 19)
      if pn < lowest then (none, caCnt e 3 s)
      else match clear with
        | none => (none, (caCnt e 2 s).sat (R.SEC_CNT_COUNT 7) 1)
        | some c =>
          let s := (caCnt e 1 s).modCa e fun x =>
            { x with rx := x.rx.map fun a => if a.1 = an then (a.1, max a.2 (pn + 1)) else a }
          (some (c, true), s)

end Sys2Proof.Machine
end

