-- ==== Sys2Proof/Machine/TrunkCore.lean ====
section
/-! DEFINITION. Shared operations of the trunks: states and their entry, twins' member states, quiet windows, and the
equaliser's reactions to them (05_trunk_signalling R113 to R123, 06_trunk_equalisation R136, 07_twinning R156 to R174). -/

namespace Sys2Proof.Machine

/-! ## Equaliser -/

/-- Edit a trunk's equaliser. -/
def State.modEq (s : State) (t : Nat) (f : Eq → Eq) : State := s.modTrk t fun x => { x with eq := f x.eq }

/-- The state of sparse window `w`: 0 parked, 1 active, 2 incoming, 3 outgoing. -/
def winState (t w : Nat) (s : State) : Nat := s.rd (R.TRK_EC_WIN_STATE t w)

/-- Write the 64 coefficients of window `w`. -/
def winPut (c : Tbl Int) (w : Nat) (l : List Int) : Tbl Int :=
  (upto 64).foldl (fun a k => tset 0 a (64 * w + k) (l.getD k 0)) c

/-- The 64 coefficients of window `w`. -/
def winGet (c : Tbl Int) (w : Nat) : List Int := (upto 64).map fun k => tget 0 c (64 * w + k)

/-- Change a window's state; EC_STAT.ACTIVE follows. -/
def winSet (t w st : Nat) (s : State) : State :=
  let s := s.wr (R.TRK_EC_WIN_STATE t w) st
  s.wr (R.TRK_EC_STAT_ACTIVE t) (maskOf (fun i => winState t i s ≠ 0) 8)

/-- Park a window: zero coefficients, no slide (06_trunk_equalisation R128). -/
def winPark (t w : Nat) (s : State) : State :=
  (winSet t w 0 s).modEq t fun e =>
    { e with sparse := winPut e.sparse w [], slides := tset none e.slides w none, fade := tset 0 e.fade w 0, strongSeen := tset false e.strongSeen w false }

/-- A window takes a state at a start, with zero coefficients. -/
def winPlace (t w st start levelHdb : Nat) (search : Bool) (s : State) : State :=
  let s := winSet t w st (winPark t w s)
  ((s.wr (R.TRK_EC_WIN_START t w) start).wr (R.TRK_EC_WIN_LEVEL_HDB t w) levelHdb).wrb (R.TRK_EC_WIN_SOURCE t w) search

/-- A window opens at a start with zero coefficients as incoming. -/
def winOpen (t w start levelHdb : Nat) (search : Bool) (s : State) : State :=
  (winPlace t w 2 start levelHdb search s).sat (R.TRK_EC_MOVE_CNT_OPENED t) 1

/-- The windows whose PIN is 0. -/
def unpinned (t : Nat) (s : State) : List Nat := (upto 8).filter fun w => !s.bit (R.TRK_EC_WIN_PIN t w)

/-- AN, FAIL_HOLD, DISABLED or a fence: every echo coefficient is cleared and every unpinned window parked (R136). -/
def echoClear (t : Nat) (s : State) : State :=
  let s := (unpinned t s).foldl (fun a w => winPark t w a) s
  let s := (s.wr (R.TRK_EC_STAT_REPLACING t) 0).wr (R.TRK_EC_STAT_PENDING t) 0
  s.modEq t fun e => { e with dense := [], sparse := [], targets := [], pend := none, slides := [], block := 0 }

/-- Fast retrain or resume starts: outgoing windows park, sliding windows stop, incoming windows become active, the
target sets go and the search restarts (R136). -/
def echoRetrain (t : Nat) (s : State) : State :=
  let s := (upto 8).foldl (fun a w =>
    if winState t w a = 3 then (winPark t w a).sat (R.TRK_EC_MOVE_CNT_RELEASED t) 1
    else if winState t w a = 2 then winSet t w 1 a else a) s
  let s := (s.wr (R.TRK_EC_STAT_REPLACING t) 0).wr (R.TRK_EC_STAT_PENDING t) 0
  s.modEq t fun e => { e with targets := [], pend := none, slides := [], block := 0 }

/-- The start values of full training (R137): all zero but FFE tap CURSOR, which is 1. -/
def eqRestart (t : Nat) (s : State) : State :=
  let c := s.rd (R.TRK_EQ_CTL_CURSOR t)
  let s := ((s.wr (R.TRK_EQ_RX_FREQ t) 0).wr (R.TRK_EQ_STAT_EC_CONV t) 0).wr (R.TRK_EQ_STAT_FFE_CONV t) 0
  let s := ((s.wr (R.TRK_EQ_STAT_DFE_CONV t) 0).wr (R.TRK_EQ_STAT_TIMING_LOCK t) 0).wr (R.TRK_EQ_STAT_IMPULSE t) 0
  s.modEq t fun e => { e with dense := [], sparse := [], ffe := [(c, 16384)], dfe := [] }

/-- A quiet window is in force on the trunk. -/
def qwOpen (t : Nat) (s : State) : Bool := match (s.trk t).qw.grant with | some g => g.opened | none => false

/-- Adaptation of every loop is stopped (06_trunk_equalisation R143). -/
def adaptStopped (t : Nat) (s : State) : Bool :=
  s.bit (R.TRK_EQ_CTL_ADAPT_HOLD t) || (s.bit (R.TRK_STAT_LPI_RX t) && decide ((s.trk t).refreshLeft = 0)) || (s.trk t).calibrating
    || qwOpen t s || (s.trk t).surv.passRuns || (s.trk t).surv.pulseRuns || s.bit (R.TRK_EQ_STAT_IMPULSE t)

/-- Hold a coefficient to its range (R137). -/
def coefClamp (bank index : Nat) (v : Int) : Int :=
  let m : Int := if bank = 0 then 16384 else if bank = 1 then 4096 else if bank = 2 then 32768
    else if index = 0 then 16384 else 8192
  max (-m) (min (if bank = 2 then 32767 else m) v)

/-- Which banks adapt in a state (R139): echo, then FFE and DFE. -/
def loopsAdapt (t : Nat) (s : State) : Bool × Bool :=
  let st := s.rd (R.TRK_STAT_STATE t)
  let m := s.bit (R.TRK_STAT_MASTER t)
  if st = 3 then (m, !m) else if st = 4 then (!m, m) else (decide (5 ≤ st ∧ st ≤ 11 ∧ st ≠ 10), decide (5 ≤ st ∧ st ≤ 11 ∧ st ≠ 10))

/-- Adaptation moves coefficients: only loops that adapt and are enabled, each value held to its range; an outgoing or
parked window's gradient is off (R132, R137, R139, R143, R144). -/
def adaptApply (t : Nat) (l : List CoefUpd) (s : State) : State :=
  if adaptStopped t s then s
  else
    let a := loopsAdapt t s
    let de := s.bit (R.TRK_EC_CTL_DENSE_EN t)
    let sp := s.bit (R.TRK_EC_CTL_SPARSE_EN t)
    let fe := s.bit (R.TRK_EQ_CTL_FFE_EN t)
    let df := s.bit (R.TRK_EQ_CTL_DFE_EN t)
    s.modEq t fun e => l.foldl (fun e u =>
      let v := coefClamp u.bank u.index u.value
      if u.bank = 0 ∧ a.1 ∧ de ∧ u.index < 256 then { e with dense := tset 0 e.dense u.index v }
      else if u.bank = 1 ∧ a.1 ∧ sp ∧ u.index < 512 ∧ (winState t (u.index / 64) s = 1 ∨ winState t (u.index / 64) s = 2) then
        { e with sparse := tset 0 e.sparse u.index v }
      else if u.bank = 2 ∧ a.2 ∧ fe ∧ u.index < 64 then { e with ffe := tset 0 e.ffe u.index v }
      else if u.bank = 3 ∧ a.2 ∧ df ∧ u.index < 24 then { e with dfe := tset 0 e.dfe u.index v }
      else e) e

/-! ## Twins -/

/-- The twin and role (true for B) of a trunk, where a formed twin holds it (07_twinning R152). -/
def twinOf (t : Nat) (s : State) : Option (Nat × Bool) :=
  (upto 4).findSome? fun i =>
    if s.bit (R.TWIN_CFG_FORMED i) then
      if s.rd (R.TWIN_CFG_MEMBER_A i) = t then some (i, false)
      else if s.rd (R.TWIN_CFG_MEMBER_B i) = t then some (i, true) else none
    else none

/-- The trunk of a twin's role. -/
def memTrunk (i : Nat) (b : Bool) (s : State) : Nat :=
  if b then s.rd (R.TWIN_CFG_MEMBER_B i) else s.rd (R.TWIN_CFG_MEMBER_A i)

/-- The field that holds a member's twin state (R156). -/
def memFld (i : Nat) (b : Bool) : Fld := if b then R.TWIN_STAT_STATE_B i else R.TWIN_STAT_STATE_A i

/-- A member's twin state. -/
def memState (i : Nat) (b : Bool) (s : State) : Nat := s.rd (memFld i b)

/-- The member is JOINED. -/
def joined (i : Nat) (b : Bool) (s : State) : Bool := memState i b s = 3

/-- The other member of the trunk's twin is JOINED. -/
def otherJoined (t : Nat) (s : State) : Bool :=
  match twinOf t s with | some (i, b) => joined i (!b) s | none => false

/-- Edit a member. -/
def modMem (i : Nat) (b : Bool) (f : Member → Member) (s : State) : State :=
  s.modTwin i fun x => if b then { x with b := f x.b } else { x with a := f x.a }

/-- TWIN_STATE follows the members: PROTECTED, EXPOSED or DOWN, each change with its event (R163). -/
def twinRefresh (i : Nat) (s : State) : State :=
  let n := b2n (joined i false s) + b2n (joined i true s)
  if s.rd (R.TWIN_STAT_TWIN_STATE i) = n then s
  else
    let s := s.wr (R.TWIN_STAT_TWIN_STATE i) n
    if n = 2 then s.evt (R.TWIN_EVT_PROTECTED i) else if n = 1 then s.evt (R.TWIN_EVT_EXPOSED i)
    else s.evt (R.TWIN_EVT_DOWN i)

/-- A member takes a twin state; entries to JOINED count in JOIN_CNT. -/
def setMemOnly (i : Nat) (b : Bool) (st : Nat) (s : State) : State :=
  if memState i b s = st then s
  else
    let s := s.wr (memFld i b) st
    let s := if st = 3 then s.sat (R.TWIN_JOIN_STAT_JOIN_CNT i) 1 else s
    let s := modMem i b (fun m =>
      if st = 1 then { m with helloSeenSent := 0, helloGot := false, helloGotSeen := false, nonHelloRun := 0 }
      else if st = 2 then { m with verifyAms := 0, matchRun := 0, amRun := 0 } else m) s
    twinRefresh i s

/-! ## Quiet windows -/

/-- Edit a trunk's quiet-window business. -/
def State.modQw (s : State) (t : Nat) (f : Qw → Qw) : State := s.modTrk t fun x => { x with qw := f x.qw }

/-- The purpose of a request (R166). -/
def purposeCode : QwPurpose → Nat
  | .calibration => 0 | .contactCare => 1 | .survey => 2 | .host => 3

/-- The purpose a code names. -/
def codePurpose (c : Nat) : QwPurpose :=
  if c = 0 then .calibration else if c = 1 then .contactCare else if c = 2 then .survey else .host

/-- A requester asks again (R437): calibration and contact care no sooner than MIN_GAP_MS, or 60 s after a reason that
does not clear by itself; the Surveyor 60 s later; the host never. -/
def qwRetryLater (t : Nat) (p : QwPurpose) (lasting : Bool) (s : State) : State :=
  let gap := s.rd (R.TRK_QW_CTL_MIN_GAP_MS t) * msec
  match p with
  | .host => s
  | .survey => s.modQw t fun q => { q with retry := q.retry ++ [(.survey, s.age + 60 * second)] }
  | p => s.modQw t fun q => { q with retry := q.retry ++ [(p, s.age + (if lasting then 60 * second else gap))] }

/-- The open quiet-window request is given up: QW_CNT.FAILED rises and its requester asks again (R167, R169, R437). -/
def qwDropRequest (t : Nat) (lasting : Bool) (s : State) : State :=
  match (s.trk t).lch with
  | some r =>
    match r.purpose with
    | some p =>
      let s := s.modTrk t fun x => { x with lch := none }
      let s := (s.sat (R.TRK_QW_CNT_FAILED t) 1).wr (R.TRK_QW_STAT_STATE t) 0
      qwRetryLater t p lasting s
    | none => s
  | none => s

/-- The window in force ends at this end: time counted, triggers stay suspended until an AM matches (R170, R171). -/
def qwEnd (t : Nat) (g : QwGrant) (s : State) : State :=
  let s := s.sat (R.TRK_QW_TIME_TOTAL_US t) ((s.age - g.openAge) / usec)
  let s := s.wr (R.TRK_QW_STAT_STATE t) 0
  s.modQw t fun q => { q with grant := none, lastEnd := some s.age, suspended := true }

/-- At the end of a member window the member goes to VERIFY (R173). -/
def qwRest (t : Nat) (s : State) : State :=
  match twinOf t s with
  | some (i, b) => if memState i b s = 4 then setMemOnly i b 2 s else s
  | none => s

/-- A granted or open window is abandoned (R169, R174): an open one ends at once with its activities; one not yet open
is cancelled by its initiator. QW_CNT.FAILED rises at either end. -/
def qwAbandon (t : Nat) (s : State) : State :=
  match (s.trk t).qw.grant with
  | none => qwDropRequest t false s
  | some g =>
    let s := s.sat (R.TRK_QW_CNT_FAILED t) 1
    let s := if g.opened then qwRest t (actAbort t (qwEnd t g s)) else
      (actAbort t (s.wr (R.TRK_QW_STAT_STATE t) 0)).modQw t fun q =>
        { q with grant := none, cancelling := if g.isLocal then some (g.seq, g.start) else none }
    if g.isLocal then qwRetryLater t (codePurpose g.purpose) false s else s

/-- A member enters a twin state. When it leaves JOINED, a member window of the other member is abandoned (R174). -/
def setMem (i : Nat) (b : Bool) (st : Nat) (s : State) : State :=
  let was := joined i b s
  let s := setMemOnly i b st s
  if was && st ≠ 3 then qwAbandon (memTrunk i (!b) s) s else s

/-! ## Trunk states -/

/-- TRK[t].STAT.STATE. -/
def trkState (t : Nat) (s : State) : Nat := s.rd (R.TRK_STAT_STATE t)

/-- The trunk runs a CR mode: the resolved mode is CR-10 or CR-25. -/
def trkCR (t : Nat) (s : State) : Bool := 4 ≤ s.rd (R.TRK_STAT_RESOLVED t)

/-- The states that count as link loss when entered from DATA, RETRAIN, SLEEP or RESUME. -/
def downState (st : Nat) : Bool := st = 0 || st = 1 || st = 12 || st = 14

/-- States in which the link was up, or stays retained. -/
def upState (st : Nat) : Bool := 8 ≤ st && st ≤ 11

/-- The training states of R113. -/
def training (st : Nat) : Bool := (2 ≤ st && st ≤ 7) || st = 13

/-- A trunk leaves DATA: a frame partly sent is cut and one partly received is lost, both counted unless the other
member of its twin is JOINED (R119, R163); the sleep exchange is dropped (R122); the window is abandoned (R174). -/
def leaveData (t : Nat) (s : State) : State :=
  let x := s.trk t
  let hide := otherJoined t s
  let s := if x.bank4.isEmpty || hide || s.bit (R.TRK_STAT_LPI_TX t) then s else
    ((x.bank4.take 1).foldl (fun a f => frameLost t f a) (s.sat (R.TRK_TX_ABORT_CNT_COUNT t) 1)).modTrk t fun x =>
      { x with bank4 := x.bank4.drop 1 }
  let s := if x.rxPart && !hide then s.sat (R.TRK_RX_ABORT_CNT_COUNT t) 1 else s
  let s := qwAbandon t s
  let s := if x.calibrating then actAbort t s else s
  let s := ((s.wr (R.TRK_STAT_AM_LOCK t) 0).wr (R.TRK_STAT_LPI_TX t) 0).wr (R.TRK_STAT_LPI_RX t) 0
  s.modTrk t fun x => { x with
    rxPart := false, sleepNext := false, refreshLeft := 0,
    sleepSeq := none, lch := match x.lch with | some r => if r.type = 2 then none else some r | none => none }

/-- The member's twin state follows the trunk's state (R156). -/
def memFollow (t st : Nat) (s : State) : State :=
  match twinOf t s with
  | none => s
  | some (i, b) =>
    let m := memState i b s
    if m = 6 then s
    else if st = 9 ∨ st = 11 then (if 1 ≤ m ∧ m ≤ 4 then setMem i b 5 s else s)
    else if st = 8 then (if m = 5 then setMem i b 2 s else if m = 0 then setMem i b 1 s else s)
    else if st = 10 then s
    else setMem i b 0 s

/-- Entry to AN: a new attempt with no peer, the FIR at its preset, every loop at its start values (R111, R139). -/
def enterAn (t : Nat) (s : State) : State :=
  let s := (((s.wr (R.TRK_STAT_VALID t) 0).wr (R.TRK_STAT_PRECODE_TX t) 0).wr (R.TRK_STAT_PRECODE_RX t) 0).wr
    (R.TRK_STAT_MASTER t) 0
  let s := (((s.wr (R.TRK_TX_FIR_PRE t) 0).wr (R.TRK_TX_FIR_POST t) 0xFC).wr (R.TRK_TX_FIR_AMP_HDB t) 0).wr
    (R.TRK_AN_STAT_DONE t) 0
  (eqRestart t s).modTrk t fun x => { x with
    anPeer := false, anAge := s.age, wake := 0, lch := none, lchOut := [], lchDone := none }

/-- DATA is entered: events, LAST_MS, AM counters and grid (R101, R113, R117). After a full training the counter of an
unprotected trunk starts at a free value; a twin member takes its twin's. -/
def enterData (t old : Nat) (s : State) : State :=
  let s := if old = 9 then s.evt (R.TRK_LINK_EVT_RETRAIN_DONE t) else s.evt (R.TRK_LINK_EVT_LINK_UP t)
  let s := if old = 7 ∨ old = 13 then
      s.wr (R.TRK_TRAIN_STAT_LAST_MS t) (min 0xFFFF ((s.age - (s.trk t).anAge) / msec)) else s
  let f := s.free 8
  let am := match twinOf t s with
    | some (i, _) => (s.twin i).gridAm
    | none => if old = 7 then f.1 else ((s.trk t).amTx + 1) % 256
  let s := if old = 7 then f.2 else s
  let s := if old = 9 ∨ old = 11 then s.wr (R.TRK_STAT_AM_LOCK t) 1 else s
  s.modTrk t fun x => { x with
    amTx := am, amRx := if old = 7 then none else x.amRx, cwPos := 0, missRun := 0, uncPeriod := 0, lowRun := 0,
    rtRun := 0, qw := { x.qw with suspended := false },
    surv := if old = 7 then { x.surv with trained := true } else x.surv }

/-- The reference SNR of 06_trunk_equalisation R146 in force, in units of 0.25 dB. -/
def refQdb (t : Nat) (s : State) : Nat :=
  let m := s.rd (R.TRK_STAT_RESOLVED t)
  (if 3 ≤ m then 72 else 69) + b2n (s.bit (R.TRK_STAT_PRECODE_RX t))

/-- Entry to FULL_PAM4: the receiver asks for precoding as CTL.PRECODE says, in automatic mode when its first DFE tap
exceeds 0.5; precoding is fixed for each direction (R105, R112). -/
def enterPam4 (t : Nat) (s : State) : State :=
  let c := s.rd (R.TRK_CTL_PRECODE t)
  let x := s.trk t
  let want := c = 2 || (c = 0 && decide (8192 < (tget 0 x.eq.dfe 0).natAbs))
  let s := (s.wrb (R.TRK_STAT_PRECODE_RX t) want).wrb (R.TRK_STAT_PRECODE_TX t) x.peerPrecode
  (s.wr (R.TRK_SNR_REF_QDB t) (refQdb t s)).modTrk t fun x => { x with wantPrecode := want }

/-- What leaving the old state brings: LINK_DOWN, the notice to the peer, and the end of DATA. -/
def trkLeave (t st old : Nat) (s : State) : State :=
  let s := if upState old && downState st then
      (s.evt (R.TRK_LINK_EVT_LINK_DOWN t)).sat (R.TRK_LINK_DOWN_CNT_COUNT t) 1 else s
  let s := if (st = 0 || st = 1 || st = 12) && ((2 ≤ old && old ≤ 9) || old = 11) && trkCR t s then
      s.send (.trkNotice t st) else s
  if old = 8 then leaveData t s else s

/-- What waits in bank 4 is discarded with a link that goes down for good. -/
def trkDiscard (t : Nat) (s : State) : State :=
  (((s.trk t).bank4).foldl (fun a f => frameLost t f a)
    (s.sat (R.TRK_BANK_DISC_CNT_COUNT t) (s.trk t).bank4.length)).modTrk t fun x => { x with bank4 := [] }

/-- What entry to the new state brings. -/
def trkArrive (t st old : Nat) (s : State) : State :=
  let s := if st = 0 ∨ st = 12 then trkDiscard t s else s
  let s := if st = 0 ∨ st = 1 ∨ st = 12 then echoClear t s else s
  let s := if st = 1 then enterAn t s else s
  let s := if st = 9 ∨ st = 11 then echoRetrain t s else s
  let s := if st = 8 then enterData t old s else s
  let s := if st = 6 then enterPam4 t s else s
  s.modTrk t fun x => { x with
    selfRun := 0, peerRun := 0, phase := 0, phaseFrames := 0, cdTx := 255, cdSent := false, cdGot := false,
    alignWait := false, prbs := if st = 3 then 0 else x.prbs, shown := 0 }

/-- A trunk enters a state of R113, with everything that entry brings. -/
def trkEnter (t st : Nat) (s : State) : State :=
  let old := trkState t s
  trkArrive t st old (memFollow t st (((trkLeave t st old s).wr (R.TRK_STAT_STATE t) st).wrb (R.TRK_STAT_LINK_UP t) (st = 8)))

/-- A trunk fails: FAIL_STATE, FAIL_CAUSE, TRAIN_FAIL from training, and FAIL_HOLD (R114). -/
def trkFail (t cause : Nat) (s : State) : State :=
  let old := trkState t s
  let s := (s.wr (R.TRK_TRAIN_STAT_FAIL_STATE t) old).wr (R.TRK_TRAIN_STAT_FAIL_CAUSE t) cause
  let s := if training old then s.evt (R.TRK_LINK_EVT_TRAIN_FAIL t) else s
  trkEnter t 12 s

/-- A resume fails: the trunk goes to AN with cause 0b1000 (R123). -/
def resumeFail (t : Nat) (s : State) : State :=
  let s := (s.wr (R.TRK_TRAIN_STAT_FAIL_STATE t) (trkState t s)).wr (R.TRK_TRAIN_STAT_FAIL_CAUSE t) 8
  trkEnter t 1 (s.evt (R.TRK_LINK_EVT_RETRAIN_FAIL t))

/-- Triggers of R116 are suspended: a window is in force, or no AM has matched since one ended (R171). -/
def trkSuspended (t : Nat) (s : State) : Bool := qwOpen t s || (s.trk t).qw.suspended

/-- A trigger of fast retrain on a CR trunk in DATA (R116 to R118): `forced` for the host request and peer retrain
frames, which no window suspends; `host` for the host request, which FR_EN does not turn into FAIL_HOLD. -/
def trkTrigger (t cause : Nat) (host forced : Bool) (s : State) : State :=
  if trkState t s ≠ 8 || !trkCR t s || (trkSuspended t s && !forced) then s
  else if !s.bit (R.TRK_RETRAIN_CTL_FR_EN t) && !host then trkFail t cause s
  else
    let recent := (s.trk t).triggers.filter fun a => s.age < a + second
    let s := s.modTrk t fun x => { x with triggers := recent ++ [s.age] }
    if 4 ≤ recent.length then trkFail t 7 s
    else
      let s := (s.evt (R.TRK_LINK_EVT_RETRAIN_START t)).sat (R.TRK_RETRAIN_CNT_COUNT t) 1
      trkEnter t 9 (actAbort t s)

/-- The trunk may leave its quiet state: enabled, not fenced, and the mode runs lines (R113, 02_startup R43). -/
def trkMayRun (t : Nat) (s : State) : Bool := s.bit (R.TRK_CTL_ENABLE t) && !s.trkFenced t && s.serving

/-- Start AN where the trunk may run. -/
def trkStart (t : Nat) (s : State) : State :=
  if trkState t s = 0 && trkMayRun t s then trkEnter t 1 s else s

/-- The line goes to the quiet state (R115, 01_architecture R30). -/
def trkQuiet (t : Nat) (s : State) : State := if trkState t s = 0 then s else trkEnter t 0 (actAbort t s)

/-- Fence effects on one trunk: quiet line, current removed, member FENCED (R31, R156, R337). -/
def trkFence (t : Nat) (s : State) : State :=
  let s := actFence t (trkQuiet t s)
  match twinOf t s with | some (i, b) => setMem i b 6 s | none => s

/-- A trunk returns to service: its member leaves FENCED and AN starts where it is enabled (R32, R156). -/
def trkRelease (t : Nat) (s : State) : State :=
  let s := match twinOf t s with | some (i, b) => if memState i b s = 6 then setMem i b 0 s else s | none => s
  trkStart t s

/-- A trunk starts RESUME (R123); RETRAIN_CNT counts it. -/
def trkResume (t : Nat) (s : State) : State :=
  (trkEnter t 11 (s.sat (R.TRK_RETRAIN_CNT_COUNT t) 1)).modTrk t fun x => { x with wake := 0 }

/-- The members of a trunk's twin, or the trunk alone. -/
def portTrunks (t : Nat) (s : State) : List Nat :=
  match twinOf t s with | some (i, _) => [memTrunk i false s, memTrunk i true s] | none => [t]

/-- A trunk in SLEEP starts the wake exchange as initiator; a twin does so on every member in SLEEP (R122, R164). -/
def trkWake (t : Nat) (s : State) : State :=
  (portTrunks t s).foldl (fun a u =>
    if trkState u a = 10 ∧ (a.trk u).wake = 0 then a.modTrk u fun x => { x with wake := 1 } else a) s

/-- A twin is ready to sleep: every member that is not DOWN or FENCED is JOINED. -/
def twinRested (t : Nat) (s : State) : Bool :=
  match twinOf t s with
  | none => true
  | some (i, _) => [false, true].all fun b => memState i b s = 0 || memState i b s = 6 || joined i b s

/-- EEE is in use: in CR modes both ends set EEE_CR; in standard modes EEE_EN advertises it (R120). -/
def eeeInUse (t : Nat) (s : State) : Bool :=
  if trkCR t s then tbit (s.rd (R.TRK_AN_CR_LOC_WORD t)) 21 && tbit (s.rd (R.TRK_AN_CR_LP_WORD t)) 21
  else s.bit (R.TRK_CTL_EEE_EN t)

/-- Queue a link-channel reply or notice for the next AM. -/
def lchSend (t type seq payload : Nat) (s : State) : State :=
  s.modTrk t fun x => { x with lchOut := x.lchOut ++ [type * 2 ^ 56 + seq % 256 * 2 ^ 48 + payload % 2 ^ 48] }

/-- Open a link-channel request: the next SEQ, sent in the next 8 AMs (R103). -/
def lchRequest (t type payload : Nat) (p : Option QwPurpose) (s : State) : State :=
  s.modTrk t fun x =>
    { x with lchSeq := (x.lchSeq + 1) % 256,
             lch := some { type := type, seq := x.lchSeq, payload := payload, left := 8, purpose := p } }

/-- The HELLO of a member in SOLO (R157). -/
def helloPayload (i : Nat) (b : Bool) (s : State) : Nat :=
  let m := if b then (s.twin i).b else (s.twin i).a
  (if b then 2 else 1) * 2 ^ 46 + b2n m.helloGot * 2 ^ 45 + i * 2 ^ 40 + s.sec.devTag / 2 ^ 32

/-- The member that the trunk is, where it stands in SOLO. -/
def soloMember (t : Nat) (s : State) : Option (Nat × Bool) :=
  match twinOf t s with
  | some (i, b) => if memState i b s = 1 then some (i, b) else none
  | none => none

/-- An AM is sent: its counter rises, and it carries a SOLO member's HELLO, else the oldest waiting reply or notice, else
a running QW_CANCEL until its START, else the open request, else idle (R100, R103, 07 R157, R169). -/
def amSend (t : Nat) (s : State) : State :=
  let x := s.trk t
  let am := (x.amTx + 1) % 256
  match soloMember t s with
  | some (i, b) =>
    let s := s.send (.trkAm t (amBlock am (0x14 * 2 ^ 56 + helloPayload i b s)))
    let s := modMem i b (fun m => { m with helloSeenSent := m.helloSeenSent + b2n m.helloGot }) s
    s.modTrk t fun x => { x with amTx := am }
  | none =>
    let m := match x.lchOut, x.qw.cancelling, x.lch with
      | m :: _, _, _ => m
      | [], some c, _ => 0x13 * 2 ^ 56 + c.1 * 2 ^ 8
      | [], none, some r => r.type * 2 ^ 56 + r.seq % 256 * 2 ^ 48 + r.payload % 2 ^ 48
      | [], none, none => 0
    let req := x.lchOut.isEmpty && x.qw.cancelling.isNone
    let s := s.send (.trkAm t (amBlock am m))
    s.modTrk t fun x => { x with
      amTx := am, lchOut := x.lchOut.drop 1,
      lch := x.lch.map fun r => if req then { r with left := r.left - 1 } else r,
      qw := { x.qw with cancelling := match x.qw.cancelling with
        | some c => if c.2 = am then none else some c
        | none => none } }

end Sys2Proof.Machine
end

