-- ==== Sys2Proof/Machine/MillCore.lean ====
section
/-! DEFINITION. Shared operations of the Miller: cells, queues, paging, isochronous queues, shapers, deficit round-robin
and discards (12_miller_queues R269 to R286). -/

namespace Sys2Proof.Machine

/-! ## Queues (R269, R271) -/

/-- The range of a queue. -/
def queueRange (q : Nat) : Nat :=
  if q < 4096 then 0 else if q < 4160 then 1 else if q < 4416 then 2 else if q < 4480 then 3 else 4

/-- The physical queue of a logical queue. -/
def physical (q : Nat) (s : State) : Nat := (tget none s.mill.map q).getD q

/-- An isochronous queue: drop egress with c = 1. -/
def queueIso (q : Nat) : Bool := decide (q < 4096) && decide (q % 2 = 1)

/-- The class c of a queue; internal queues have none. -/
def queueClass (q : Nat) : Nat :=
  if q < 4096 then q % 2 else if q < 4160 then q % 8 else if q < 4416 then q % 4 else if q < 4480 then q % 8 else 0

/-- The slot of a logical drop-egress queue. -/
def queueSlot (q : Nat) : Nat := if q < 4096 then q % 64 / 2 else 0

/-- The cells of a frame. -/
def MFrame.cells (f : MFrame) : Nat := (f.octets.length + 32 + 255) / 256

/-- The cells of a queue, resident and paged. -/
def MQueue.total (x : MQueue) : Nat := (x.frames.map MFrame.cells).sum

/-- The resident cells of a queue. -/
def MQueue.resident (x : MQueue) : Nat := x.total - 32 * x.paged

/-- The cells of a queue's head window. -/
def MQueue.window (x : MQueue) : Nat := if x.paged = 0 then x.total else x.front

/-- STATE of a queue. -/
def MQueue.state (x : MQueue) : Nat :=
  if x.starved then 4 else if x.panic then 3 else if 0 < x.paged then 2 else if x.frames.isEmpty then 0 else 1

/-- The queue's read-only fields show it. -/
def qShow (q : Nat) (s : State) : State :=
  let x := s.que q
  let s := ((s.wr (R.MILLQ_STAT_STATE q) x.state).wrb (R.MILLQ_STAT_BUSY q) x.lane.isSome).wr
    (R.MILLQ_STAT_RESIDENT q) x.resident
  ((s.wr (R.MILLQ_HEAD_HEAD_WIN q) (min 65535 x.window)).wr (R.MILLQ_HEAD_PAGED q) x.paged).wr
    (R.MILLQ_DEPTH_FRAMES q) x.frames.length

/-! ## Cells (R272) -/

/-- Take `n` cells for a range: from its reserve, else those above the reserve from the shared pool; none where neither
has them. -/
def takeCells (r n : Nat) (s : State) : Option State :=
  let used := s.rd (R.MILL_PART_USED_USED r)
  let res := s.rd (R.MILL_PART_RES_RESERVE r)
  let free := s.rd R.MILL_STAT_FREE
  if used + n ≤ res then some (s.wr (R.MILL_PART_USED_USED r) (used + n))
  else if n ≤ free then
    let above := min n (used + n - res)
    let s := (s.wr (R.MILL_PART_USED_USED r) (used + n)).wr R.MILL_STAT_FREE (free - above)
    some { s with mill := { s.mill with lent := tset 0 s.mill.lent r (tget 0 s.mill.lent r + above) } }
  else none

/-- Freed cells return first to the reserve of their range, up to its size, and then to the shared pool. -/
def freeCells (r n : Nat) (s : State) : State :=
  let used := s.rd (R.MILL_PART_USED_USED r)
  let lent := tget 0 s.mill.lent r
  let back := n - min n (used - lent)
  let s := (s.wr (R.MILL_PART_USED_USED r) (used - n)).wr R.MILL_STAT_FREE (s.rd R.MILL_STAT_FREE + back)
  { s with mill := { s.mill with lent := tset 0 s.mill.lent r (lent - back) } }

/-- `n` bale slots are freed. -/
def freeSlots (n : Nat) (s : State) : State :=
  s.wr R.MILL_PAGE_STAT_BALES_USED (s.rd R.MILL_PAGE_STAT_BALES_USED - n)

/-! ## Fetches and isochronous queues (R275 to R277) -/

/-- The granary serves page-outs and fetches: it runs or can be woken, no change, training or fence stops it, and the
host die is in Run or Hush without a pending entry (R276, R286). -/
def granServes (s : State) : Bool :=
  !s.isFenced .gran && (decide (s.rd R.GRAN_STAT_STATE = 2) || decide (s.rd R.GRAN_STAT_STATE = 3)) &&
    decide (s.rd R.GRAN_STAT_FILLED ≠ 0) && !s.mill.paused && decide (s.rd R.PWR_STAT_HOST_RUNG < 2)

/-- The level of the head window at which a queue's next bale is due, and the fetches it keeps outstanding. -/
def fetchDue (q : Nat) (s : State) : Bool :=
  let x := s.que q
  let pin := s.bit (R.MILLQ_CFG_PIN q)
  let level := if queueIso q then s.rd R.MILL_ISO_TH_REFILL_CELLS else s.rd (R.MILLQ_PAGE_PREFETCH q)
  decide (x.fetching < x.paged) && decide (x.fetching < (if pin || queueIso q then 1 else 2)) &&
    (pin || decide (x.front ≤ level))

/-- Request a queue's next bale where one is due and its 32 cells are free. -/
def fetchTry (q : Nat) (s : State) : State :=
  if granServes s && fetchDue q s then
    match takeCells (queueRange q) 32 s with
    | some s => s.modQue q fun x => { x with fetching := x.fetching + 1 }
    | none => s
  else s

/-- The number of queues in panic shows, and panic is raised to the granary controller while there is one. -/
def panicShow (s : State) : State :=
  let n := (s.mill.queues.filter fun e => e.2.panic).length
  (s.wr R.MILL_ISO_CTL_PANIC_NOW n).wrb R.GRAN_STAT_PANIC (n ≠ 0)

/-- Panic of an isochronous queue starts or ends (R277). -/
def panicCheck (q : Nat) (s : State) : State :=
  let x := s.que q
  let refill := s.rd R.MILL_ISO_TH_REFILL_CELLS
  if x.panic then
    if x.paged = 0 ∨ refill < x.front then panicShow (s.modQue q fun x => { x with panic := false }) else s
  else if 0 < x.paged ∧ x.front ≤ s.rd R.MILL_ISO_TH_PANIC_CELLS then
    let s := ((s.evt R.MILL_EVT_PANIC).sat (R.MILLQ_ISO_CNT_PANIC q) 1).add (R.MILL_CNT_COUNT 3) 1
    panicShow (s.modQue q fun x => { x with panic := true })
  else s

/-- An isochronous queue starves when its head window reaches 0; each starvation counts once (R277). -/
def starveCheck (q : Nat) (s : State) : State :=
  let x := s.que q
  if 0 < x.paged ∧ x.front = 0 then
    if x.starved then s
    else
      let s := ((s.evt R.MILL_EVT_ISO_STARVE).sat (R.MILLQ_ISO_CNT_STARVE q) 1).add (R.MILL_CNT_COUNT 4) 1
      (s.modQue q fun x => { x with starved := true }).recordFree 8 1 0x24 none
  else s.modQue q fun x => { x with starved := false }

/-- Refill, panic and starvation of an isochronous queue. -/
def isoCheck (q : Nat) (s : State) : State :=
  qShow q (if queueIso q then starveCheck q (panicCheck q (fetchTry q s)) else s)

/-! ## The head of a queue -/

/-- Bales in write that the head has reached are abandoned: their cells stay resident and their slots are freed (R276).
`past` is how far the head lies beyond the first cell of the first of them. -/
def abandon : Nat → Nat → Nat → MQueue → MQueue × Nat
  | 0, _, n, x => (x, n)
  | k + 1, past, n, x =>
    if x.paged = 0 ∧ 0 < x.writing ∧ x.front = 0 then
      abandon k (past - 32) (n + 1) { x with writing := x.writing - 1, front := if x.writing = 1 then 0 else 32 - past }
    else (x, n)

/-- The head frame leaves the queue and its cells are freed. -/
def popHead (q : Nat) (s : State) : State :=
  match (s.que q).frames with
  | [] => s
  | f :: l =>
    let x := s.que q
    let y := { x with frames := l, front := x.front - f.cells, deficit := if l.isEmpty then 0 else x.deficit }
    let r := abandon y.writing (f.cells - x.front) 0 y
    let s := freeSlots r.2 (freeCells (queueRange q) f.cells s)
    isoCheck q (s.modQue q fun _ => r.1)

/-- The head frame of a queue, where it is eligible: all of its cells lie in the head window (R275). -/
def headOf (q : Nat) (s : State) : Option MFrame :=
  match (s.que q).frames with
  | f :: _ => if f.cells ≤ (s.que q).window then some f else none
  | [] => none

/-- A frame of an egress queue is not sent whole: its report (R259, R273). -/
def frameReport (q : Nat) (f : MFrame) (s : State) : State :=
  if f.tsreq && decide (q < 4160) then
    { s with reports := s.reports ++ [{ lane := f.lane, queue := f.queue, tag := f.tag, stamp := none }] }
  else s

/-- A frame of the queue is discarded and counted in DISC[k]. -/
def discard (q k : Nat) (f : MFrame) (s : State) : State := frameReport q f (s.sat (R.MILLQ_DISC_COUNT q k) 1)

/-- The poisoned head frame is discarded (R284): DISC[3], MILL_CNT[5], a class U event contained to the frame. -/
def poisonDrop (q : Nat) (s : State) : State :=
  match (s.que q).frames with
  | [] => s
  | f :: _ => ((popHead q (discard q 3 f s)).add (R.MILL_CNT_COUNT 5) 1).recordFree 8 2 0x20 none

/-! ## Flushes (R31, R276, R285) -/

/-- Every frame of a queue but one already released is discarded into DISC[k]; its cells and bale slots are freed, a bale
in fetch frees its slot when it arrives. -/
def flushQueue (q k : Nat) (s : State) : State :=
  let x := s.que q
  let keep := if x.lane.isSome then x.frames.take 1 else []
  let gone := x.frames.drop keep.length
  let s := gone.foldl (fun a f => discard q k f a) s
  let kept := (keep.map MFrame.cells).sum
  let s := freeCells (queueRange q) (x.resident - kept + 32 * x.fetching) s
  let s := freeSlots (x.paged - x.fetching + x.writing) s
  let s := s.modQue q fun x => { x with
    frames := keep, front := 0, paged := 0, writing := 0, fetching := 0, orphans := x.orphans + x.fetching,
    panic := false, starved := false, deficit := 0 }
  qShow q (panicShow s)

/-- The Miller flushes every egress queue of a port (R31). -/
def flushPort (p : Nat) (s : State) : State :=
  (s.mill.queues.filter fun e => portQueue p e.1).foldl (fun a e => flushQueue e.1 2 a) s

/-- A descriptor or the links of a queue are lost: every frame is discarded, the queue restarts empty (R284). -/
def breakQueue (q : Nat) (s : State) : State :=
  ((flushQueue q 3 s).evt R.MILL_EVT_DESC_ERR).recordFree 8 2 0x21 none

/-! ## Enqueue (R272, R273) -/

/-- A frame enters a physical queue, or is discarded at LIMIT or for want of cells; the answer says whether it entered. -/
def enqueue (q : Nat) (f : MFrame) (s : State) : Bool × State :=
  let x := s.que q
  if s.rd (R.MILLQ_LIMIT_LIMIT q) < x.total + f.cells then (false, s.sat (R.MILLQ_DISC_COUNT q 0) 1)
  else match takeCells (queueRange q) f.cells s with
    | none => (false, (s.sat (R.MILLQ_DISC_COUNT q 1) 1).evt R.MILL_EVT_NO_CELL)
    | some s =>
      let s := (s.modQue q fun x => { x with frames := x.frames ++ [f] }).add (R.MILLQ_ENQ_FRAMES_COUNT q) 1
      (true, qShow q s)

/-- A frame queued for a trunk ends its transmit low-power idle and wakes it from SLEEP; for a twin, every member
(05_trunk_signalling R120, R122). -/
def frameQueued (p : Nat) (s : State) : State :=
  if p < 8 then
    trkWake p ((portTrunks p s).foldl (fun a t => a.wr (R.TRK_STAT_LPI_TX t) 0) s)
  else s

/-- The device puts a frame of its own into an internal or egress queue. -/
def deviceFrame (q p : Nat) (l : List Byte) (s : State) : State :=
  let f : MFrame :=
    { queue := q, octets := l, port := p, slot := queueSlot q, stamp := ⟨s.time.sec, s.time.ns, s.time.frac⟩,
      tsreq := false, tag := 0, lane := 0, sec := false, poison := false }
  let r := enqueue (physical q s) f s
  if r.1 && decide (q < 4160) then frameQueued p r.2 else r.2

/-- A 64-octet notice frame: zero addresses, EtherType 0x88B5, 46 octets, and the FCS (15_surveyor R342,
17_security R383). -/
def noticeFrame (body : List Byte) : List Byte :=
  let l := List.replicate 12 0 ++ [0x88, 0xB5] ++ (body ++ List.replicate 46 0).take 46
  l ++ fcsOctets l

/-- The time base in the format of the stamp extension (11_host_interfaces R256). -/
def timeOctets (s : State) : List Byte := octetsOf 6 s.time.sec ++ octetsOf 4 s.time.ns ++ octetsOf 2 s.time.frac

/-! ## CA states (17_security R357, R377, R381, R383) -/

/-- A Steward notice: KIND, CA, its MSEC state and the time, on queue 4,480 while SEC_CTL.NOTICE_EN is 1. -/
def secNotice (kind e : Nat) (s : State) : State :=
  if s.bit R.SEC_CTL_NOTICE_EN then
    deviceFrame 4480 0x7F
      (noticeFrame ([BitVec.ofNat 8 kind] ++ octetsOf 2 e ++ [BitVec.ofNat 8 (s.rd (R.MSEC_STAT_STATE e))] ++ timeOctets s)) s
  else s

/-- A CA changes state: SEC_EVT.CA and its notice. -/
def caState (e st : Nat) (s : State) : State :=
  if s.rd (R.MSEC_STAT_STATE e) = st then s
  else secNotice 1 e ((s.wr (R.MSEC_STAT_STATE e) st).evt R.SEC_EVT_CA)

/-- The CA is one that the warp puts in use: MACSEC_PORT of its port, and on a drop its station's MACSEC bit, the required
drops, or the group CA. -/
def caWanted (e : Nat) (s : State) : Bool :=
  let p := caPort e
  let lc := s.sec.lcNow
  (decide (lc = 1) || decide (lc = 2)) && tget false s.macPort p &&
    (if e < 8 then (match twinOf e s with | some (_, true) => false | _ => true)
     else
       let slot := (e - 8) % 32
       decide (slot = 31) || (s.bit (R.DRP_STN_HI_VALID (p - 8) slot) &&
         (s.bit (R.DRP_STN_HI_MACSEC (p - 8) slot) || tbit s.macReqDrp (p - 8))))

/-- A CA comes into use with MKA running, or goes out of use and loses what it held. -/
def caSync (e : Nat) (s : State) : State :=
  if caWanted e s then (if caUsed e s then s else caState e 1 s)
  else if caUsed e s then
    let s := (((s.wr (R.MSEC_STAT_TX_AN e) 0).wr (R.MSEC_STAT_RX_AN e) 0).wr (R.MSEC_STAT_PEERS e) 0).wr (R.MSEC_TX_PN_PN e) 0
    caState e 0 (s.modCa e fun _ => {})
  else s

/-- The CAs of a port. -/
def portCas (p : Nat) : List Nat := if p < 8 then [p] else (upto 32).map fun k => caIndex p k

/-! ## The loss of the granary (R279) -/

/-- The frames of a bulk queue that have no cell in a lost bale, and those that have, in order; `at0` is the first cell
of the list. -/
def splitLost (lo hi : Nat) : Nat → List MFrame → List MFrame × List MFrame
  | _, [] => ([], [])
  | at0, f :: l =>
    let r := splitLost lo hi (at0 + f.cells) l
    if at0 < hi ∧ lo < at0 + f.cells then (r.1, f :: r.2) else (f :: r.1, r.2)

/-- A queue loses its paged bales: an isochronous queue is flushed whole, a bulk queue loses the frames with a cell in
one. -/
def queueLost (q : Nat) (s : State) : State :=
  let x := s.que q
  if x.paged = 0 then s.modQue q fun x => { x with writing := 0, front := 0, orphans := 0 }
  else
    let s := s.evt R.MILL_EVT_PAGE_LOST
    if queueIso q then ((flushQueue q 3 s).modQue q fun x => { x with orphans := 0 }).record 8 2 0x23 q
    else
      let r := splitLost x.front (x.front + 32 * x.paged) 0 x.frames
      let s := r.2.foldl (fun a f => discard q 3 f a) s
      let s := freeCells (queueRange q) (x.resident + 32 * x.fetching - (r.1.map MFrame.cells).sum) s
      let s := s.modQue q fun x => { x with
        frames := r.1, front := 0, paged := 0, writing := 0, fetching := 0, orphans := 0,
        deficit := if r.1.isEmpty then 0 else x.deficit }
      (qShow q s).record 8 2 0x23 q

/-- The granary is fenced: every paged bale is lost. -/
def granaryLoss (s : State) : State :=
  let s := (s.mill.queues.map fun e => e.1).foldl (fun a q => queueLost q a) s
  panicShow (s.wr R.MILL_PAGE_STAT_BALES_USED 0)

/-! ## Shapers (R436) -/

/-- The shape in force for an element of a port. -/
def shapeOf (p el : Nat) (s : State) : Nat := tget 0 s.mill.shape (8 * p + el)

/-- The tokens missing from a bucket now. -/
def bucketDebt (p el : Nat) (s : State) : Nat :=
  let b := tget ({} : Bucket) s.mill.buckets (8 * p + el)
  b.debt - shapeOf p el s * (s.age - b.stamp)

/-- The capacity of a bucket: 16 KiB in units of 1/64,000,000,000 octet. -/
abbrev bucketCap : Nat := 16384 * 64000000000

/-- The bucket is not negative, or there is no shaper. -/
def shaperOk (p el : Nat) (s : State) : Bool := decide (shapeOf p el s = 0) || decide (bucketDebt p el s ≤ bucketCap)

/-- A frame's length is taken from its bucket. -/
def shaperTake (p el octets : Nat) (s : State) : State :=
  if shapeOf p el s = 0 then s
  else
    let b : Bucket := { debt := bucketDebt p el s + octets * 64000000000, stamp := s.age }
    { s with mill := { s.mill with buckets := tset {} s.mill.buckets (8 * p + el) b } }

/-- A shape changes: a bucket whose shaper comes into force or goes out of force is full, any other stands. -/
def setShape (p el v : Nat) (s : State) : State :=
  let b : Bucket := if v = 0 ∨ shapeOf p el s = 0 then { debt := 0, stamp := if v = 0 then 0 else s.age }
    else { debt := bucketDebt p el s, stamp := s.age }
  { s with mill := { s.mill with
    buckets := tset {} s.mill.buckets (8 * p + el) b, shape := tset 0 s.mill.shape (8 * p + el) v } }

/-- A SCHED record takes effect on its port (03_warp R69, R75, R283). -/
def schedApply (p : Nat) (r : WRecord) (s : State) : State :=
  r.entries.foldl (fun a e =>
    if e.field = 1 then { a with mill := { a.mill with weight := tset 1 a.mill.weight (8 * p + e.elem) e.value } }
    else if e.field = 2 then setShape p e.elem e.value a else a) s

/-- At the port's scheduling round a SCHED record of a live re-warp takes effect (R75). -/
def liveSched (p : Nat) (s : State) : State :=
  let l := s.warp.pendSched.filter fun e => e.1 = p
  if l.isEmpty then s
  else
    let s := { s with warp := { s.warp with pendSched := s.warp.pendSched.filter fun e => e.1 ≠ p } }
    l.foldl (fun a e => schedApply p e.2 a) s

/-! ## Deficit round-robin -/

/-- Go through candidates (queue, length of its head frame, quantum): a turn adds the quantum, and the first whose
deficit covers its head frame is served. -/
def drrScan : List (Nat × Nat × Nat) → Drr → State → Option Nat × Drr × State
  | [], d, s => (none, d, s)
  | (q, len, quantum) :: l, d, s =>
    let s := if d.cur = q ∧ d.turn then s else s.modQue q fun x => { x with deficit := x.deficit + quantum }
    if len ≤ (s.que q).deficit then
      (some q, { cur := q, turn := true }, s.modQue q fun x => { x with deficit := x.deficit - len })
    else drrScan l { cur := q, turn := false } s

/-- The queue that round-robin `k` serves next among the candidates, which stand in rising order. -/
def drrPick (k : Nat) (l : List (Nat × Nat × Nat)) (s : State) : Option Nat × State :=
  let d := tget ({} : Drr) s.mill.drr k
  let d := if d.turn ∧ (s.que d.cur).frames = [] then { cur := d.cur + 1, turn := false } else d
  let order := (l.filter fun e => d.cur ≤ e.1) ++ (l.filter fun e => e.1 < d.cur)
  let r := drrScan (List.replicate 40 order).flatten d s
  if l.isEmpty then (none, s)
  else (r.1, { r.2.2 with mill := { r.2.2.mill with drr := tset {} r.2.2.mill.drr k r.2.1 } })

/-! ## Memory findings (13 R292, R284) -/

/-- An uncorrectable packet-store word: its count, the error log where it is empty, and a class U event of kind 0x11. -/
def psUncorrectable (w : Nat) (s : State) : State :=
  let s := s.add (R.MEM_PS_CNT_COUNT 1) 1
  let s := if s.bit R.MEM_PS_ERR_LOG_VALID then s else
    ((s.wr R.MEM_PS_ERR_LOG_VALID 1).wr R.MEM_PS_ERR_LOG_UNC 1).wr R.MEM_PS_ERR_LOG_WORD w
  s.record 10 2 0x11 w

/-- A corrected packet-store word. -/
def psCorrected (w : Nat) (s : State) : State :=
  let s := s.add (R.MEM_PS_CNT_COUNT 0) 1
  let s := if s.bit R.MEM_PS_ERR_LOG_VALID then s else
    ((s.wr R.MEM_PS_ERR_LOG_VALID 1).wr R.MEM_PS_ERR_LOG_UNC 0).wr R.MEM_PS_ERR_LOG_WORD w
  s.record 10 1 0x10 w

/-- Poison frame `i` of a queue. -/
def poisonFrame (q i : Nat) (s : State) : State :=
  s.modQue q fun x => { x with frames := match x.frames[i]? with
    | some f => lset x.frames i { f with poison := true }
    | none => x.frames }

/-- Cells are withdrawn from use until the next BOOT (R284). -/
def withdraw (n : Nat) (s : State) : State :=
  ((s.sat R.MILL_STAT_WITHDRAWN n).wr R.MILL_STAT_FREE (s.rd R.MILL_STAT_FREE - n)).recordFree 8 2 0x22 none

/-- What a memory finding does to the Miller's data (R284, 13 R292). -/
def psFinding (e : PsErr) (s : State) : State :=
  match e with
  | .corrected w => psCorrected w s
  | .frame q i w => poisonFrame q i (psUncorrectable w s)
  | .desc q w => breakQueue q (psUncorrectable w s)
  | .freeList n w => withdraw n (psUncorrectable w s)
  | .unused w => psUncorrectable w s

/-- The findings of a command. -/
def psFindings (l : List PsErr) (s : State) : State := l.foldl (fun a e => psFinding e a) s

end Sys2Proof.Machine
end

