-- ==== Sys2Proof/Machine/DropCore.lean ====
section
/-! DEFINITION. Shared operations of the drops: states, the cycle, the device's opportunity, delivery, jabber
(08_drop_segments R175 to R192, 09_long_drop_modem R205 to R208). -/

namespace Sys2Proof.Machine

/-! ## Names -/

/-- The port index of drop `d` (03_warp R69). -/
abbrev dropPort (d : Nat) : Nat := 8 + d

/-- The Watch source of drop `d` (18_watch_faults R385). -/
abbrev dropSrc (d : Nat) : Nat := 128 + d

/-- DRP[d].STAT.STATE. -/
def drpState (d : Nat) (s : State) : Nat := s.rd (R.DRP_STAT_STATE d)

/-- The drop runs Long-Drop. -/
def drpLong (d : Nat) (s : State) : Bool := s.bit (R.DRP_CTL_MODE d)

/-- The station table has a VALID entry at a slot. -/
def stnValid (d slot : Nat) (s : State) : Bool := decide (slot < 31) && s.bit (R.DRP_STN_HI_VALID d slot)

/-- The slot that an opportunity is charged to: its own where the entry is VALID, else slot 31 (R184, R187). -/
def oppSlot (d : Nat) (opp : Option Nat) (s : State) : Nat :=
  match opp with
  | some (k + 1) => if stnValid d k s then k else 31
  | _ => 31

/-- Count one of the eight counters of ERR_CNT. -/
def drpErr (d k : Nat) (s : State) : State := s.sat (R.DRP_ERR_CNT_COUNT d k) 1

/-- Count one of the eight counters of LD_ACQ_CNT. -/
def ldCount (d k : Nat) (s : State) : State := s.sat (R.DRP_LD_ACQ_CNT_COUNT d k) 1

/-! ## Station table and bars -/

/-- A slot is barred (R187). -/
def drpBarred (d slot : Nat) (s : State) : Bool := tget false (s.drp d).bars slot

/-- Bar or re-admit a slot; STN_HI.BARRED shows it for slots 0 to 30. -/
def setBar (d slot : Nat) (b : Bool) (s : State) : State :=
  let s := s.modDrp d fun x => { x with bars := tset false x.bars slot b }
  if slot < 31 then s.wrb (R.DRP_STN_HI_BARRED d slot) b else s

/-- The slot whose VALID entry holds a source address. -/
def stnFind (d : Nat) (f : List Byte) (s : State) : Option Nat :=
  (upto 31).find? fun k =>
    stnValid d k s && s.rd (R.DRP_STN_HI_MAC_HI d k) = srcHi f && s.rd (R.DRP_STN_LO_MAC_LO d k) = srcLo f

/-! ## Figures in force -/

/-- TO_SYM in force: raised to ceil(0.125 × LENGTH_M) + 16 (09_long_drop_modem R205). -/
def ldToAct (d : Nat) (s : State) : Nat := max (s.rd (R.DRP_LD_CTL_TO_SYM d)) (((s.drp d).lengthM + 7) / 8 + 16)

/-- The figures in force show in STAT and LD_STAT (R181, R205). -/
def drpShow (d : Nat) (s : State) : State :=
  let s := s.wr (R.DRP_STAT_NODE_COUNT d) (s.rd (R.DRP_CYC_CTL_NODES d) + 1)
  s.wr (R.DRP_LD_STAT_TO_ACT d) (ldToAct d s)

/-! ## The line stops -/

/-- Frames on the line are cut and stand again first among the waiting ones. -/
def drpCut (d : Nat) (s : State) : State :=
  s.modDrp d fun x =>
    { x with lists := x.line ++ x.lists, line := [], opp := none, rxOpp := none, stage := .idle, defer := none }

/-- The receiver's flags fall. -/
def drpRxOff (d : Nat) (s : State) : State :=
  ((s.wr (R.DRP_LD_STAT_CARRIER d) 0).wr (R.DRP_LD_STAT_RX_BUSY d) 0).wr (R.DRP_LD_STAT_CAP_ARMED d) 0

/-- The drop takes a state: STATE and BEACON_ON; DISABLED resets the cycle counter (R190). -/
def drpSet (d st : Nat) (s : State) : State :=
  let s := (s.wr (R.DRP_STAT_STATE d) st).wrb (R.DRP_STAT_BEACON_ON d) (st = 2 ∨ st = 3)
  if st = 0 then s.wr (R.DRP_CYCLE_CNT_COUNT d) 0 else s

/-- The drop leaves the cycle for a state in which it sends nothing. -/
def drpHalt (d st : Nat) (s : State) : State := drpSet d st (drpRxOff d (drpCut d s))

/-- The drop may leave DISABLED: enabled, not fenced, and the device's mode runs lines (R176). -/
def drpMayRun (d : Nat) (s : State) : Bool := s.bit (R.DRP_CTL_ENABLE d) && !s.drpFenced d && s.serving

/-- DISABLED to SETTLE where the drop may run. -/
def drpStart (d : Nat) (s : State) : State :=
  if drpState d s = 0 && drpMayRun d s then
    drpShow d ((drpSet d 1 s).wr (R.DRP_STAT_MODE_ACT d) (s.rd (R.DRP_CTL_MODE d)))
  else s

/-- The line goes to the quiet state (R176, 01_architecture R30). -/
def drpQuiet (d : Nat) (s : State) : State := if drpState d s = 0 then s else drpHalt d 0 s

/-- Through DISABLED to SETTLE, from every state but TEST (R176). -/
def drpRestart (d : Nat) (s : State) : State := if drpState d s = 6 then s else drpStart d (drpHalt d 0 s)

/-- A new mode discards the frames that wait in the share of bank 4 and counts them (R176). -/
def drpDiscardBank (d : Nat) (s : State) : State :=
  let x := s.drp d
  let l := x.line ++ x.resend.toList ++ x.lists
  let s := s.sat (R.DRP_ERR_CNT_COUNT d 6) l.length
  let s := l.foldl (fun a f => frameLost (dropPort d) f a) s
  s.modDrp d fun x => { x with lists := [], line := [], resend := none }

/-- SLEEP: no further BEACON, the detector stands armed (R191, R192). -/
def drpSleep (d : Nat) (s : State) : State :=
  if drpState d s = 2 then (drpHalt d 5 s).modDrp d fun x => { x with detector := true } else s

/-- A sleeping drop cycles again when its vale reaches Hush or Run (R192). -/
def drpResume (d : Nat) (s : State) : State := if drpState d s = 5 then drpSet d 2 s else s

/-! ## Opportunities -/

/-- The running opportunity ends: the next ID follows, up to NODES; after the last the beacon is awaited (R179). -/
def oppNext (d : Nat) (s : State) : State :=
  let n := s.rd (R.DRP_CYC_CTL_NODES d)
  s.modDrp d fun x => { x with opp := match x.opp with | some k => if k < n then some (k + 1) else none | none => none }

/-- MAX_BURST of a slot; slot 31 takes CATCH_BURST (R182). -/
def maxBurst (d slot : Nat) (s : State) : Nat :=
  if slot = 31 then s.rd (R.DRP_BURST_CTL_CATCH_BURST d) else s.rd (R.DRP_STN_HI_MAX_BURST d slot)

/-- The slots in the order of R182: ascending from `start`, wrapping at 31. -/
def slotOrder (start : Nat) : List Nat := (upto 32).map fun i => (start + i) % 32

/-- The frame that R182 takes next: isochronous before bulk, then by slot, then by arrival. -/
def drpPick (d : Nat) (s : State) : Option TxFrame :=
  let x := s.drp d
  [true, false].findSome? fun iso => (slotOrder x.start).findSome? fun k =>
    if tget 0 x.slotSent k < maxBurst d k s then x.lists.find? fun f => f.slot = k && f.iso = iso else none

/-- A frame is taken for the line. -/
def drpTake (d : Nat) (f : TxFrame) (s : State) : State :=
  s.modDrp d fun x =>
    { x with line := x.line ++ [f], lists := x.lists.erase f, sent := x.sent + 1,
             slotSent := tset 0 x.slotSent f.slot (tget 0 x.slotSent f.slot + 1),
             lastFirst := if x.sent = 0 then f.slot else x.lastFirst }

/-- The next frame of opportunity 0 goes on the line: a frame to resend first, then the choice of R182; with none left
the opportunity ends where a frame was sent. -/
def oppZeroNext (d : Nat) (s : State) : State :=
  let x := s.drp d
  let more := decide (x.sent < 1 + s.rd (R.DRP_BURST_CTL_MAX_BC d))
  match (if x.sent = 0 then x.resend else none), (if more then drpPick d s else none) with
  | some f, _ => ((drpTake d f s).modDrp d fun x => { x with resend := none }).send (.drpFrame d f.octets)
  | none, some f => (drpTake d f s).send (.drpFrame d f.octets)
  | none, none => if x.sent = 0 then s else oppNext d s

/-! ## The Long-Drop burst of opportunity 0 (09_long_drop_modem R207, R208) -/

/-- The RATE bit of a slot. -/
def ldRate (d slot : Nat) (s : State) : Bool := s.bit (R.DRP_LD_SLOT_RATE16 d slot)

/-- A frame goes in the 16-QAM segment. -/
def ldIn16 (d : Nat) (f : TxFrame) (s : State) : Bool :=
  s.rd (R.DRP_LD_CTL_LD_MOD d) = 1 || (f.slot ≠ 31 && ldRate d f.slot s)

/-- The record octets of some frames. -/
def ldRecOctets (l : List TxFrame) : Nat := (l.map fun f => f.octets.length + 2).sum

/-- The segments of the frames on the line. -/
def ldSegs (d : Nat) (s : State) : List TxFrame × List TxFrame :=
  ((s.drp d).line.filter fun f => !ldIn16 d f s, (s.drp d).line.filter fun f => ldIn16 d f s)

/-- The burst stays within R200 with one more frame. -/
def ldFits (d : Nat) (f : TxFrame) (s : State) : Bool :=
  let g := ldSegs d s
  let q := ldRecOctets g.1 + (if ldIn16 d f s then 0 else f.octets.length + 2)
  let h := ldRecOctets g.2 + (if ldIn16 d f s then f.octets.length + 2 else 0)
  decide (ldBurstSymbols false (ldCwCount q) (ldCwCount h) ≤ 24000)

/-- Take frames until none is eligible, MAX_BC is reached, or the next would break R200. -/
def ldTake (d : Nat) : Nat → State → State
  | 0, s => s
  | n + 1, s =>
    if (s.drp d).sent < 1 + s.rd (R.DRP_BURST_CTL_MAX_BC d) then
      match drpPick d s with
      | some f => if ldFits d f s then ldTake d n (drpTake d f s) else s
      | none => s
    else s

/-- The device's burst starts where there are frames. -/
def ldBurstStart (d : Nat) (s : State) : State :=
  let s := ldTake d 256 s
  if (s.drp d).line.isEmpty then s
  else
    let g := ldSegs d s
    let h : LdHdr :=
      { type := 2, node := 0, cwQ := ldCwCount (ldRecOctets g.1), cw16 := ldCwCount (ldRecOctets g.2), nodeCount := 0,
        toSym := 0 }
    s.send (.drpBurst d (ldHdrEncode h) (ldPayload (g.1.map TxFrame.octets) (g.2.map TxFrame.octets)))

/-- A RATE bit takes a value; a change is counted (R208). -/
def ldRateSet (d slot : Nat) (b : Bool) (s : State) : State :=
  if ldRate d slot s = b then s else ldCount d 7 (s.wrb (R.DRP_LD_SLOT_RATE16 d slot) b)

/-- The RATE bits that LD_MOD fixes (R208). -/
def ldRateMod (d : Nat) (s : State) : State :=
  let m := s.rd (R.DRP_LD_CTL_LD_MOD d)
  if m = 0 then (upto 32).foldl (fun a k => ldRateSet d k false a) s
  else if m = 1 then (upto 32).foldl (fun a k => ldRateSet d k (stnValid d k a) a) s
  else s

/-! ## Station records (03_warp R69, R75) -/

/-- The value that a record gives a field of a slot. -/
def recField (r : WRecord) (field elem : Nat) : Option Nat :=
  (r.entries.find? fun e => e.field = field ∧ e.elem = elem).map fun e => e.value

/-- The station table of a drop: a slot is VALID where the record gives both halves of its address. -/
def stnApply (d : Nat) (r : WRecord) (s : State) : State :=
  let s := (upto 31).foldl (fun a k =>
    let hi := recField r 1 k
    let lo := recField r 2 k
    let a := (a.wrb (R.DRP_STN_HI_VALID d k) (hi.isSome && lo.isSome)).wr (R.DRP_STN_HI_MAC_HI d k) (hi.getD 0)
    let a := (a.wr (R.DRP_STN_LO_MAC_LO d k) (lo.getD 0)).wr (R.DRP_STN_HI_ISO d k) ((recField r 3 k).getD 0)
    (a.wr (R.DRP_STN_HI_MACSEC d k) ((recField r 4 k).getD 0)).wr (R.DRP_STN_HI_MAX_BURST d k) ((recField r 5 k).getD 1)) s
  (portCas (8 + d)).foldl (fun a e => caSync e a) s

/-- At a cycle start a station table of a live re-warp takes effect (R75). -/
def liveCycle (d : Nat) (s : State) : State :=
  match s.warp.pendStn.find? fun e => e.1 = d with
  | none => s
  | some e =>
    stnApply d e.2 { s with warp := { s.warp with pendStn := s.warp.pendStn.filter fun x => x.1 ≠ d } }

/-! ## The beacon (R179, R190, 09 R201, R202) -/

/-- A cycle starts: pending station records take effect, the counter rises, the beacon is sent, opportunity 0 follows. -/
def dropCycle (d : Nat) (s : State) : State :=
  let s := (liveCycle d s).add (R.DRP_CYCLE_CNT_COUNT d) 1
  let s := drpShow d s
  let s := s.modDrp d fun x =>
    { x with opp := some 0, sent := 0, slotSent := [], start := (x.lastFirst + 1) % 32, deferred := false }
  if drpLong d s then
    let s := ldRateMod d s
    let mask := maskOf (fun k => ldRate d k s) 32
    let s := s.wr (R.DRP_LD_RATE_MASK_RATE d) mask
    let h : LdHdr :=
      { type := 1, node := 0, cwQ := 0, cw16 := 0, nodeCount := s.rd (R.DRP_STAT_NODE_COUNT d),
        toSym := s.rd (R.DRP_LD_STAT_TO_ACT d) }
    ldBurstStart d (s.send (.drpBeacon d (ldHdrEncode h) (ldExtEncode mask (s.rd (R.DRP_CYCLE_CNT_COUNT d)))))
  else oppZeroNext d (s.send (.drpBeacon d 0 0))

/-! ## Delivery (R185, R186) -/

/-- The receive bank of a drop (01_architecture R15). -/
def drpBank (d : Nat) : Nat := if d % 16 < 8 then 2 else 3

/-- A frame is delivered, charged to a slot. -/
def drpDeliver (d slot : Nat) (f : LineFrame) (s : State) : State :=
  let s := ((s.sat (R.DRP_SLOT_RX_COUNT d slot) 1).add (R.DRP_RX_FRAMES_COUNT d) 1).add (R.DRP_RX_OCTETS_COUNT d)
    f.octets.length
  s.rxPush (d / 16) (drpBank d)
    { port := dropPort d, cls := dropClass slot f.octets, octets := f.octets, stamp := f.stamp, slot := slot, bad := false }

/-- A frame of a slot is discarded. -/
def drpDisc (d slot : Nat) (s : State) : State := s.sat (R.DRP_SLOT_ERR_DISC d slot) 1

/-- A stranger frame: event, record while the event is clear, and counts. -/
def drpStranger (d opp : Nat) (f : List Byte) (s : State) : State :=
  let s := if s.bit (R.DRP_EVT_STRANGER d) then s else
    ((s.wr (R.DRP_STRANGER_LO_MAC_LO d) (srcLo f)).wr (R.DRP_STRANGER_HI_MAC_HI d) (srcHi f)).wr
      (R.DRP_STRANGER_HI_OPP d) opp
  drpErr d 4 (s.evt (R.DRP_EVT_STRANGER d))

/-- A frame received without error is classified by its source and its opportunity (R185). -/
def drpClassify (d : Nat) (opp : Option Nat) (f : LineFrame) (s : State) : State :=
  match opp with
  | some (k + 1) =>
    match stnFind d f.octets s with
    | some slot =>
      if drpBarred d slot s then drpDisc d slot s
      else if slot = k then drpDeliver d slot f s
      else
        let s := drpErr d 5 (s.evt (R.DRP_EVT_MISPLACED d))
        if s.bit (R.DRP_CTL_STRICT_ID d) then drpDisc d slot s else drpDeliver d slot f s
    | none =>
      let s := drpStranger d (k + 1) f.octets s
      if s.bit (R.DRP_CTL_STRANGER d) then drpDeliver d 31 f s else drpDisc d 31 s
  | _ => drpErr d 5 s

/-! ## Collisions (R184, 09 R216) -/

/-- A collision or capture falls in the opportunity of an ID: 16 within 1 s set DUP_ID. -/
def dupCount (d id : Nat) (s : State) : State :=
  let l := (tget [] (s.drp d).coll id).filter (fun a => s.age < a + second) ++ [s.age]
  let s := s.modDrp d fun x => { x with coll := tset [] x.coll id l }
  if 16 ≤ l.length then (s.evt (R.DRP_EVT_DUP_ID d)).wr (R.DRP_STAT_DUP_ID d) id else s

/-- A collision on receive or a capture is charged to the opportunity's slot and to its ID. -/
def drpCollide (d : Nat) (opp : Option Nat) (s : State) : State :=
  let s := s.sat (R.DRP_SLOT_ERR_COLL d (oppSlot d opp s)) 1
  match opp with | some k => dupCount d k s | none => s

/-- A BEACON of another coordinator: event and class U of kind 0x32; the device goes on coordinating. -/
def dupCoord (d : Nat) (s : State) : State := (s.evt (R.DRP_EVT_DUP_COORD d)).recordFree (dropSrc d) 2 0x32 none

/-! ## Jabber (R187) -/

/-- A slot is cut off. -/
def drpJabber (d slot : Nat) (s : State) : State :=
  let s := (setBar d slot true s).evt (R.DRP_EVT_JABBER d)
  let s := drpErr d 3 (s.sat (R.DRP_SLOT_ERR_JABBER d slot) 1)
  s.recordFree (dropSrc d) 2 0x30 none

/-! ## The power manager's question (R191) -/

/-- How a client answers the power manager (19_power R407). -/
inductive Answer
  | accept
  | refuse (reason : Nat)
  | delay
  deriving DecidableEq, Repr

/-- The drop has been busy within IDLE_MS, or holds a frame, or the Miller does. -/
def drpBusy (d : Nat) (s : State) : Bool :=
  let x := s.drp d
  (match x.lastFrame with | some a => decide (s.age < a + s.rd (R.DRP_PWR_IDLE_MS d) * msec) | none => false)
    || !x.line.isEmpty || !x.lists.isEmpty || x.resend.isSome || millHolds (dropPort d) s

/-- A drop's answer to an entry request. -/
def drpAnswer (d rung : Nat) (s : State) : Answer :=
  let st := drpState d s
  if st = 0 ∨ s.drpFenced d ∨ rung < 2 then .accept
  else if st = 1 ∨ st = 3 then .delay
  else if st = 4 then .refuse 5
  else if st = 2 then
    if (upto 31).any fun k => stnValid d k s && s.bit (R.DRP_STN_HI_ISO d k) then .refuse 6
    else if drpBusy d s then .refuse 7 else .accept
  else .accept

/-- A drop's engine goes to DISABLED for a fence. -/
def drpFence (d : Nat) (s : State) : State := drpQuiet d s

end Sys2Proof.Machine
end

