-- ==== Sys2Proof/Machine/GranCore.lean ====
section
/-! DEFINITION. The granary's contents, address orders, error records and fills, and the records of the vale banks
(13_memory_granary R287 to R296, R304, R309). -/

namespace Sys2Proof.Machine

/-! ## Geometry (R293, R294) -/

/-- The octets of a segment. -/
abbrev segOctets : Nat := 234881024

/-- The bursts of a segment. -/
abbrev segBursts : Nat := 3670016

/-- The octets of the granary. -/
abbrev granOctets : Nat := 8 * segOctets

/-- Where a burst lies. -/
structure GPlace where
  ch : Nat
  bank : Nat
  row : Nat
  col : Nat
  deriving DecidableEq, Repr

/-- The place of a burst of the granary under an address order (R294). -/
def granPlace (order burst : Nat) : GPlace :=
  let b := burst % segBursts
  let off := b / 896
  let row := 4096 * (burst / segBursts) + off
  if order = 1 then { ch := b % 2, bank := b / 2 % 16, row := row, col := b / 32 % 28 }
  else
    let bank := b / 56 % 16
    { ch := b / 28 % 2, bank := if order = 2 then Nat.xor bank (off % 16) else bank, row := row, col := b % 28 }

/-- The place of a burst now. -/
def burstPlace (burst : Nat) (s : State) : GPlace := granPlace (s.rd R.GRAN_CTL_ORDER) burst

/-! ## Contents -/

/-- The contents of a segment are defined. -/
def segDefined (g : Gran) (a : Nat) : Bool := tbit g.defd (a / segOctets)

/-- The octet that an address of the granary reads as: listed, else zero in a defined segment, else an undefined value
(log 24). -/
def granByte (g : Gran) (a : Nat) : Byte :=
  match (g.mem.find? fun c => c.1 = a) with
  | some c => c.2
  | none => if segDefined g a then 0 else Config.freeGranaryByte g.epoch a

/-- Write an octet of the granary: the list keeps its canonical form. -/
def granPut (a : Nat) (b : Byte) (g : Gran) : Gran :=
  if b = 0 ∧ segDefined g a then { g with mem := terase g.mem a }
  else { g with mem := tinsert a b (terase g.mem a) }

/-- Write octets from an address on. -/
def granPutAll : Nat → List Byte → Gran → Gran
  | _, [], g => g
  | a, b :: l, g => granPutAll (a + 1) l (granPut a b g)

/-- The 64 octets of a burst. -/
def granBurst (burst : Nat) (g : Gran) : List Byte := (upto 64).map fun i => granByte g (64 * burst + i)

/-- The 32-bit word at an address, the octet at the lowest address in bits [7:0]. -/
def granWord (g : Gran) (a : Nat) : Nat :=
  (granByte g a).toNat + (granByte g (a + 1)).toNat * 256 + (granByte g (a + 2)).toNat * 65536
    + (granByte g (a + 3)).toNat * 16777216

/-- The four octets of a word, lowest address first. -/
def wordBytes (v : Nat) : List Byte := (upto 4).map fun i => BitVec.ofNat 8 (v / 256 ^ i)

/-- The canonical form of the granary's contents: addresses rise, lie in the granary, and list no zero of a defined
segment. -/
def Gran.wf (g : Gran) : Bool :=
  tsorted g.mem && g.mem.all fun c => decide (c.1 < granOctets) && !(decide (c.2 = 0) && segDefined g c.1)

/-- Every segment's contents become undefined: a new epoch, nothing listed. -/
def granUndef (g : Gran) : Gran := { g with mem := [], defd := 0, epoch := g.epoch + 1 }

/-- The contents of the segments outside a set become undefined. -/
def granLose (keep : Nat) (g : Gran) : Gran :=
  { g with mem := g.mem.filter fun c => tbit keep (c.1 / segOctets), defd := Nat.land g.defd keep, epoch := g.epoch + 1 }

/-- The fill of a segment with zero ends: its contents are zero and FILLED shows it (R304). -/
def effFill (seg : Nat) (s : State) : State :=
  let f := s.rd R.GRAN_STAT_FILLED
  if tbit f seg then s
  else
    let g := { s.gran with mem := s.gran.mem.filter fun c => c.1 / segOctets ≠ seg, defd := setBit s.gran.defd seg true }
    { (s.wr R.GRAN_STAT_FILLED (setBit f seg true)) with gran := g }

/-! ## Segments (R295) -/

/-- The staging segment: the highest one that PAGE_SEG does not name. -/
def stageSeg (s : State) : Option Nat := (upto 8).reverse.find? fun i => !tbit (s.rd R.GRAN_SEG_PAGE_SEG) i

/-- The granary address of the warp staging buffer's first octet. -/
def stageBase (s : State) : Option Nat := (stageSeg s).map fun i => i * segOctets

/-- The address lies in a segment of bale slots. -/
def baleSeg (a : Nat) (s : State) : Bool := tbit (s.rd R.GRAN_SEG_PAGE_SEG) (a / segOctets)

/-- The address lies in the 1 MiB of the staging buffer. -/
def inStage (a : Nat) (s : State) : Bool :=
  match stageBase s with
  | some b => decide (b ≤ a) && decide (a < b + 1048576)
  | none => false

/-- A capture is held. -/
def capHeld (s : State) : Bool := s.caps.any fun c => c.2.isSome

/-- GRAN_CTL.ORDER may not change: bales, a staged warp load or a capture live in the granary (R294). -/
def orderHeld (s : State) : Bool := decide (s.rd R.MILL_PAGE_STAT_BALES_USED ≠ 0) || s.warp.stageOpen || capHeld s

/-- GRAN_STAT.STATE of a rung of the host die, for a granary that is trained and not fenced (R303). -/
def rungGran (rung : Nat) : Nat := if rung < 2 then 2 else if rung < 4 then 3 else 4

/-! ## Error records (R309) -/

/-- GRAN_ERR_LOG keeps the first error since it was cleared. -/
def granErrLog (cls burst : Nat) (unc : Bool) (symbols : Nat) (s : State) : State :=
  if s.bit R.GRAN_ERR_LOG_VALID then s
  else
    let p := burstPlace burst s
    let s := ((s.wr R.GRAN_ERR_LOG_VALID 1).wrb R.GRAN_ERR_LOG_UNC unc).wr R.GRAN_ERR_LOG_CLASS cls
    let s := ((s.wr R.GRAN_ERR_LOG_CH p.ch).wr R.GRAN_ERR_LOG_BANK p.bank).wr R.GRAN_ERR_LOG_ROW p.row
    (s.wr R.GRAN_ERR_LOG_COLUMN p.col).wr R.GRAN_ERR_LOG_SYMBOLS symbols

/-- The number of a row over channels and banks. -/
def rowKey (p : GPlace) : Nat := (p.ch * 16 + p.bank) * 32768 + p.row

/-- A corrected burst of a read of class `cls`; the eighth of its row in this scrub pass marks a weak row. -/
def granCorrected (cls burst : Nat) (two : Bool) (s : State) : State :=
  let s := ((s.add (R.GRAN_CNT_COUNT 0) 1).evt R.GRAN_EVT_CORR).recordFree 9 1 0x13 none
  let s := granErrLog cls burst false (if two then 2 else 1) s
  let k := rowKey (burstPlace burst s)
  let n := tget 0 s.gran.rowCorr k + 1
  let s := { s with gran := { s.gran with rowCorr := tset 0 s.gran.rowCorr k n } }
  if n = 8 then granErrLog cls burst false 0 ((s.evt R.GRAN_EVT_ROW_WEAK).recordFree 9 1 0x15 none) else s

/-- An uncorrectable burst is counted; `watch` says whether its finding is the controller's own record. -/
def granUncorrectable (cls burst : Nat) (watch : Bool) (s : State) : State :=
  let s := granErrLog cls burst true 0 ((s.add (R.GRAN_CNT_COUNT 1) 1).evt R.GRAN_EVT_UNC)
  if watch then s.recordFree 9 2 0x14 none else s

/-- The code's finding on a read of class `cls`, with the poison list: whether the burst stands corrected or clean. -/
def granFind (cls burst : Nat) (f : BurstFind) (watch : Bool) (s : State) : Bool × State :=
  if s.gran.poison.contains burst then (false, granUncorrectable cls burst watch s)
  else match f with
    | .clean => (true, s)
    | .corrected two => (true, granCorrected cls burst two s)
    | .lost => (false, granUncorrectable cls burst watch s)

/-- A write of a burst clears its entry of the poison list. -/
def unpoison (burst : Nat) (s : State) : State :=
  { s with gran := { s.gran with poison := s.gran.poison.filter fun b => b ≠ burst } }

/-! ## The aperture (R296) -/

/-- The granary address of a word of the aperture. -/
def aperAddr (word : Nat) (s : State) : Nat := 8388608 * s.rd R.GRAN_APER_BASE + 4 * word

/-- An aperture read: the data that it returns. A bale slot's contents are the Miller's own format: a free value once a
bale has been written (log 25). -/
def apertureRead (word : Nat) (f : BurstFind) (s : State) : Nat × State :=
  let a := aperAddr word s
  let s := effFill (a / segOctets) s
  let r := granFind 3 (a / 64) f true s
  if !r.1 then (2 ^ 32 - 1, r.2)
  else if baleSeg a s && s.mill.written then r.2.free 32
  else (granWord s.gran a, r.2)

/-- An aperture write that the segment's use lets through merges its word into the burst. -/
def apertureWrite (word v : Nat) (f : BurstFind) (s : State) : State :=
  let a := aperAddr word s
  let s := (granFind 3 (a / 64) f true (effFill (a / segOctets) s)).2
  unpoison (a / 64) { s with gran := granPutAll a (wordBytes v) s.gran }

/-- An aperture write falls in a bale slot's segment, or in the staging buffer during a warp load. -/
def apertureBarred (word : Nat) (s : State) : Bool :=
  baleSeg (aperAddr word s) s || (s.warp.stageOpen && inStage (aperAddr word s) s)

/-! ## Leaving and entering self-refresh (R299, R302) -/

/-- Exit from self-refresh: every bank's history returns to 0b10. -/
def histReset (g : Gran) : Gran :=
  { g with chans := g.chans.map fun c => (c.1, { c.2 with banks := c.2.banks.map fun b => (b.1, { b.2 with hist := 2 }) }) }

/-- A request wakes the granary from automatic self-refresh. -/
def granWake (s : State) : State :=
  if s.rd R.GRAN_STAT_STATE = 3 ∧ s.rd R.PWR_STAT_HOST_RUNG < 2 then
    { (s.wr R.GRAN_STAT_STATE 2) with gran := histReset s.gran }
  else s

/-! ## Vale banks (01_architecture R15, 13 R289) -/

/-- The sources of a bank's writing masters. -/
def bankMasters (v bank : Nat) : List Nat :=
  if bank < 2 then [64 + 2 * v + bank]
  else if bank = 2 then (upto 8).map fun i => 128 + 16 * v + i
  else if bank = 3 then (upto 8).map fun i => 136 + 16 * v + i
  else if bank = 4 then [36 + v] else if bank = 5 then [40 + v] else if bank = 6 then [32 + v] else [44 + v]

/-- A word of a vale bank as it was read: the report against the bank or its writing masters, and the loss of the item
that holds it. -/
def bankFind (v bank word : Nat) (f : WordFind) (s : State) : State :=
  match f with
  | .clean => s
  | .corrected _ => (s.sat (R.MEM_VALE_BANK_CNT_CORR v bank) 1).record (bankMasters v bank).head! 1 0x10 word
  | .lost fr =>
    let s := s.sat (R.MEM_VALE_BANK_CNT_UNC v bank) 1
    let s := match fr with
      | some i => { s with rxBank := tset [] s.rxBank (8 * v + bank) ((tget [] s.rxBank (8 * v + bank)).eraseIdx i) }
      | none => s
    let fixed := if bank = 4 ∨ bank = 6 then 3 else 2
    (bankMasters v bank).foldl (fun a m => a.recordWith m 2 0x11 word (some fixed) true) s

/-! ## The fence (R279, R305) -/

/-- The granary controller is fenced or released: GRAN_STAT shows it; queued requests are lost with a fence (R279). -/
def granFence (s : State) : State :=
  let s := ((s.wr R.GRAN_STAT_STATE 6).wr R.GRAN_FREQ_PENDING 0).wr R.GRAN_TRN_CTL_BUSY 0
  let s := { s with gran := { s.gran with
    chans := [], ready := [], training := none, freqPend := none, freqNow := none } }
  s.owe .granLost

end Sys2Proof.Machine
end

