-- ==== Sys2Proof/Machine/PassCore.lean ====
section
/-! DEFINITION. Shared operations of the pass: ports of a vale, requests and replies, lanes, block headers
(10_pass R218 to R245). -/

namespace Sys2Proof.Machine

/-! ## Ports -/

/-- The port index of a vale's local index: trunks 2v and 2v + 1, then drops 16v to 16v + 15 (R234). -/
def portOf (v l : Nat) : Nat := if l < 2 then 2 * v + l else 8 + 16 * v + (l - 2)

/-- The local index of a port in its vale. -/
def localOf (p : Nat) : Nat := if p < 8 then p % 2 else 2 + (p - 8) % 16

/-- The vale of a port. -/
def portVale (p : Nat) : Nat := if p < 8 then p / 2 else (p - 8) / 16

/-- The block of a port. -/
def portBlock (p : Nat) : Block := if p < 8 then .trunk p else .drop (p - 8)

/-! ## Block headers (R219) -/

/-- KIND of a header: 0 data, 1 idle, 2 marker. -/
def hdrKind (h : BitVec 8) : Nat := tbits h.toNat 4 3

/-- A header is valid on a lane. -/
def hdrValid (h : BitVec 8) (lane : Nat) : Bool :=
  let n := h.toNat
  decide (tbits n 7 5 = 5) && decide (popCount n 8 % 2 = 1) && decide (hdrKind h ≠ 3) && decide (tbits n 2 1 = lane)

/-- A number from octets, most significant first. -/
def octetsNat (l : List Byte) : Nat := l.foldl (fun a o => a * 256 + o.toNat) 0

/-- The stamp in 12 octets: 48-bit seconds, 32-bit nanoseconds, 16-bit fraction. -/
def octetsStamp (l : List Byte) : Stamp :=
  { sec := octetsNat (l.take 6), ns := octetsNat ((l.drop 6).take 4), frac := octetsNat ((l.drop 10).take 2) }

/-- The nanoseconds from one stamp to another, rounded down. -/
def stampDiffNs (a b : Stamp) : Int :=
  ((b.sec * 1000000000 + b.ns : Nat) : Int) - ((a.sec * 1000000000 + a.ns : Nat) : Int) -
    (if b.frac < a.frac then 1 else 0)

/-! ## Counters and notices -/

/-- Count one of the eight counters of PASS[v].TALLY_CNT. -/
def tallyCnt (v k : Nat) (s : State) : State := s.sat (R.PASS_TALLY_CNT_COUNT v k) 1

/-- The host die sends a tally to the vale. -/
def hostSend (v type seq : Nat) (s : State) : State := (tallyCnt v 0 s).send (.tally v type seq)

/-- The host die received a tally that passed its check. -/
def hostGot (v : Nat) (s : State) : State := tallyCnt v 1 s

/-! ## Requests of the host die (R234, R236) -/

/-- TYPE of a request. -/
def bodyType (b : HostBody) : Nat :=
  match b with
  | .reg a => if a.write.isSome then 0x11 else 0x10
  | .cmd _ => 0x50
  | .rung _ => 0x60
  | .wake => 0x70

/-- Requests that stand outstanding. -/
def outstanding (v : Nat) (s : State) : List HostReq := (s.pas v).out.filter fun r => decide (0 < r.sends)

/-- OUTSTANDING shows the requests outstanding. -/
def outShow (v : Nat) (s : State) : State := s.wr (R.PASS_STAT_OUTSTANDING v) (outstanding v s).length

/-- Requests that wait are sent while fewer than 16 are outstanding. -/
def hostPump (v : Nat) : Nat → State → State
  | 0, s => outShow v s
  | n + 1, s =>
    match (s.pas v).out.find? fun r => r.sends = 0 with
    | some r =>
      if (outstanding v s).length < 16 then
        let s := s.modPass v fun x => { x with out := x.out.map fun q => if q = r then { q with sends := 1 } else q }
        hostPump v n (hostSend v (bodyType r.body) r.seq s)
      else outShow v s
    | none => outShow v s

/-- The host die makes a request of a vale: the next SEQ, sent when the window allows. -/
def hostRequest (v : Nat) (b : HostBody) (s : State) : State :=
  let s := s.modPass v fun x =>
    { x with seq := (x.seq + 1) % 256, out := x.out ++ [{ seq := x.seq, body := b, sends := 0 }] }
  hostPump v 16 s

/-- The outstanding request of a SEQ. -/
def hostFind (v seq : Nat) (s : State) : Option HostReq := (outstanding v s).find? fun r => r.seq = seq

/-- A request is answered or given up: it leaves the window, and waiting ones follow. -/
def hostDrop (v seq : Nat) (s : State) : State :=
  hostPump v 16 (s.modPass v fun x => { x with out := x.out.filter fun r => r.seq ≠ seq })

/-- The vale keeps its last 16 replies. -/
def cachePut (v seq : Nat) (r : Reply) (s : State) : State :=
  s.modPass v fun x => { x with cache := ((seq, r) :: x.cache).take 16 }

/-- The vale's reply to a SEQ. -/
def cacheGet (v seq : Nat) (s : State) : Option Reply :=
  ((s.pas v).cache.find? fun e => e.1 = seq).map fun e => e.2

/-! ## Data lanes (R223 to R226) -/

/-- The host die learns which down lanes the vale has locked; up lanes it sees itself. -/
def upLock (v : Nat) (s : State) : Nat := s.rd (R.PASS_STAT_UP_LOCK v)

/-- A lane is lost: LANE_LOSS is set. -/
def laneDrop (v : Nat) (down : Bool) (lane : Nat) (s : State) : State :=
  let s := s.evt (R.PASS_EVT_LANE_LOSS v)
  if down then s.modPass v fun x => { x with dnLock := setBit x.dnLock lane false }
  else s.wr (R.PASS_STAT_UP_LOCK v) (setBit (upLock v s) lane false)

/-- The lanes of a direction are taken out of use and lock. -/
def lanesOff (v : Nat) (s : State) : State :=
  let s := (s.wr (R.PASS_STAT_UP_LOCK v) 0).wr (R.PASS_STAT_DN_LOCK v) 0
  s.modPass v fun x => { x with dnLock := 0, upRep := 0, dnUse := 0, upUse := 0 }

/-- A write of 1 to PASS[v].CTL.RETRAIN: every data lane of the vale loses lock and hunts (R223). -/
def effPassRetrain (v : Nat) (s : State) : State :=
  let s := s.evt (R.PASS_EVT_LANE_LOSS v)
  (s.wr (R.PASS_STAT_UP_LOCK v) 0).modPass v fun x => { x with dnLock := 0 }

/-- A vale loses its power with its fence (R30, R245). -/
def valePowerOff (v : Nat) (s : State) : State :=
  let s := (s.wr (R.PASS_STAT_TDN_LOCK v) 0).wr (R.PASS_STAT_TUP_LOCK v) 0
  (lanesOff v s).modPass v fun x => { x with powered := false, powerCut := true }

end Sys2Proof.Machine
end

