-- ==== Sys2Proof/Machine/TimeCore.lean ====
section
/-! DEFINITION. The time base: its advance, steps, slews, and the vales' copies (14_time R311 to R315). -/

namespace Sys2Proof.Machine

/-! ## The value (R311) -/

/-- One unit of 2^-16 ns in units of `TimeBase.sub`. -/
abbrev subUnit : Nat := 5 * 2 ^ 40

/-- The time base as a number of units of `TimeBase.sub`. -/
def TimeBase.total (b : TimeBase) : Nat := ((b.sec * 1000000000 + b.ns) * 65536 + b.frac) * subUnit + b.sub

/-- The time base of so many units; the seconds keep 48 bits. -/
def timeOf (n : Nat) : TimeBase :=
  let f := n / subUnit
  { sec := f / 65536 / 1000000000 % 2 ^ 48, ns := f / 65536 % 1000000000, frac := f % 65536, sub := n % subUnit }

/-- The time base moves by a number of units. -/
def timeMove (d : Int) (s : State) : State := { s with time := timeOf ((s.time.total : Int) + d).toNat }

/-- TIME_ADJ_FREQ as an integer in units of 2^-40; the use of a voted field finds disagreeing copies. -/
def freqAdj (s : State) : Int :=
  let n := s.rdV R.TIME_ADJ_FREQ_FREQ
  if n < 2 ^ 31 then (n : Int) else (n : Int) - 2 ^ 32

/-- The most that a slew moves the time base in one cycle: 50 ppm of 6.4 ns. -/
abbrev slewStep : Int := 2097152 * 2 ^ 40 * 50 / 1000000

/-- The slew that remains shows in whole nanoseconds. -/
def slewShow (s : State) : State :=
  (s.wr R.TIME_ADJ_PHASE_PHASE_NS ((s.clock.slew.tdiv (65536 * subUnit)) % 2 ^ 32).toNat).wrb R.TIME_STAT_SLEWING
    (s.clock.slew ≠ 0)

/-- A slew of so many units starts and replaces what remained of an earlier one (R313). -/
def slewStart (units : Int) (s : State) : State := slewShow { s with clock := { s.clock with slew := units } }

/-- One cycle of the host reference: 6.4 ns corrected by the frequency and the slew (R311, R313). -/
def refCycle (s : State) : State :=
  let mv := max (-slewStep) (min slewStep s.clock.slew)
  let s := timeMove (2097152 * (2 ^ 40 + freqAdj s) + mv) s
  if s.clock.slew = 0 then s else slewShow { s with clock := { s.clock with slew := s.clock.slew - mv } }

/-- One tick of the always-on clock: 30,517 ns and a fraction of 37,888 (R314). -/
def aonTick (s : State) : State := timeMove ((30517 * 65536 + 37888) * subUnit : Nat) s

/-- A step loads a value: the slew is cancelled, STEP_CNT rises, COARSE clears (R313, R314). -/
def timeStep (b : TimeBase) (s : State) : State :=
  let s := slewStart 0 { s with time := b }
  ((s.sat R.TIME_STEP_STEP_CNT 1).evt R.TIME_EVT_STEP).wr R.TIME_STAT_COARSE 0

/-! ## The vales' copies (R315) -/

/-- A vale's copy. -/
def State.vtime (s : State) (v : Nat) : ValeTime := tget {} s.valeTimes v

/-- Edit a vale's copy. -/
def State.modVtime (s : State) (v : Nat) (f : ValeTime → ValeTime) : State :=
  { s with valeTimes := tset {} s.valeTimes v (f (s.vtime v)) }

/-- Write bit `v` of TIME_STAT.VALE_LOCK; a fall counts. -/
def valeLockSet (v : Nat) (b : Bool) (s : State) : State :=
  let was := valeLocked v s
  let s := s.wr R.TIME_STAT_VALE_LOCK (setBit (s.rd R.TIME_STAT_VALE_LOCK) v b)
  if was && !b then s.sat (R.TIME_VALE_UNLOCK_CNT v) 1 else s

/-- The vale disciplines its copy by an offset in picoseconds, vale minus host (R243, R315). -/
def valeDiscipline (v : Nat) (ps : Int) (s : State) : State :=
  let x := s.vtime v
  let bad := if 1000 < ps.natAbs then x.bad + 1 else 0
  if 1000000 < ps.natAbs then
    valeLockSet v false (s.modVtime v fun x => { x with phase := x.phase - ps, good := 0, bad := bad })
  else
    let good := if ps.natAbs < 100 then x.good + 1 else 0
    let s := s.modVtime v fun x => { x with phase := x.phase - ps / 4, freq := x.freq - ps, good := good, bad := bad }
    let s := s.wr (R.TIME_VALE_FREQ_PPB v) ((s.vtime v).freq / 64 % 65536).toNat
    if 16 ≤ good then valeLockSet v true s
    else if 4 ≤ bad ∧ valeLocked v s then
      ((valeLockSet v false s).evt R.TIME_EVT_VALE_UNLOCK).recordFree (32 + v) 1 0x41 none
    else s

end Sys2Proof.Machine
end

