-- ==== Sys2Proof/Machine/SurvCore.lean ====
section
/-! DEFINITION. Shared operations of the Surveyor: the front end, loop requests, what a window starts and what ends an
activity, and the vale's part of its commands (15_surveyor R324 to R341). -/

namespace Sys2Proof.Machine

/-! ## The front end -/

/-- Edit the Surveyor's part of a trunk. -/
def State.modSurv (s : State) (t : Nat) (f : TrkSurv → TrkSurv) : State :=
  s.modTrk t fun x => { x with surv := f x.surv }

/-- Edit the Surveyor's part of a drop. -/
def State.modDsurv (s : State) (d : Nat) (f : DrpSurv → DrpSurv) : State :=
  { s with dsurv := tset {} s.dsurv d (f (tget {} s.dsurv d)) }

/-- The front end of a vale serves: it is neither fenced nor under self-test (R324). -/
def feServes (v : Nat) (s : State) : Bool := !s.isFenced (.surv v)

/-- A calibration of the vale's front end is due: no new pass or pulse starts until it is done (R337). -/
def feCalDue (v : Nat) (s : State) : Bool :=
  let st := s.rd (R.ASSAY_ITEM_STAT_STATE (104 + v))
  s.bit R.ASSAY_CTL_EN && (decide (st = 1) || decide (st = 2) || decide (st = 3))

/-- A pass or a pulse runs on a trunk of the vale, or a part of a drop's pass in its deferral. -/
def feBusy (v : Nat) (s : State) : Bool :=
  ((upto 2).any fun i => let x := (s.trk (2 * v + i)).surv; x.passRuns || x.pulseRuns || x.loopWait) ||
    ((upto 16).any fun i => (s.drp (16 * v + i)).defer = some false)

/-- The device is in Run: the host die and the vale (R325). -/
def inRun (v : Nat) (s : State) : Bool := decide (s.rd R.PWR_STAT_HOST_RUNG = 0) && decide (s.valeRung v = 0)

/-- A pass or a pulse may start on trunk `t`. -/
def survMay (t : Nat) (s : State) : Bool :=
  feServes (t / 2) s && !feCalDue (t / 2) s && inRun (t / 2) s && !s.trkFenced t

/-- BUSY shows a pass or a pulse. -/
def survBusy (t : Nat) (s : State) : State :=
  let x := (s.trk t).surv
  s.wrb (R.SURV_TRK_STAT_BUSY t) (x.passRuns || x.pulseRuns || x.loopWait)

/-! ## Results -/

/-- A vale command of the Surveyor has ended: its result waits for CMD_DONE (R340), and OUTCOME shows it. -/
def survDone (p op code loop contact peaks outcome : Nat) (s : State) : State :=
  let v := portVale p
  let s := if op ≠ 0 then s
    else if p < 8 then s.wr (R.SURV_TRK_STAT_OUTCOME p) outcome else s.wr (R.SURV_DRP_CTL_OUTCOME (p - 8)) outcome
  s.modPass v fun x => { x with dones := x.dones ++
    [{ cmd := .surv op (localOf p) 0, code := code, result := [(loop : Int), contact, peaks, outcome], taken := false }] }

/-- The last LOOP and CONTACT of a trunk. -/
def survLoop (t : Nat) (s : State) : Nat := s.rd (R.SURV_TRK_LOOP_LOOP_MOHM t)

/-- The last CONTACT of a trunk. -/
def survContact (t : Nat) (s : State) : Nat := s.rd (R.SURV_TRK_BASE_CONTACT_MOHM t)

/-! ## Loop requests (R331 to R333) -/

/-- The PAYLOAD of a loop message. -/
def loopPayload (scope : Nat) (pulse : Bool) (reason start off hold : Nat) : Nat :=
  scope * 2 ^ 46 + b2n pulse * 2 ^ 45 + reason * 2 ^ 40 + start * 2 ^ 32 + off * 2 ^ 17 + hold * 4

/-- This end's SCOPE (07_twinning_quiet_windows R166). -/
def ownScope (t : Nat) (s : State) : Nat := match twinOf t s with | some (_, b) => if b then 2 else 1 | none => 0

/-- Ask the peer for a closure interval in a window that has been granted (R333). -/
def loopAsk (t : Nat) (s : State) : State :=
  match (s.trk t).qw.grant with
  | none => s
  | some g =>
    let x := (s.trk t).surv
    let want : Option (Bool × Nat × Nat) :=
      if g.purpose = 1 then (if g.isLocal then some (true, 10, g.durUs - 20) else none)
      else if g.purpose = 2 then
        (if g.isLocal then some (false, 4520, 310) else if x.passDue then some (false, 9720, 310) else none)
      else none
    match want with
    | some (pulse, off, hold) =>
      if (s.trk t).lch.isSome || !feServes (t / 2) s then s
      else
        (lchRequest t 0x20 (loopPayload (ownScope t s) pulse 0 g.start off hold) none s).modSurv t fun x =>
          { x with loopMine := some (off, hold), loopOk := false }
    | none => s

/-! ## What a window starts and what ends an activity (R333, R337) -/

/-- A window opens: a pass that is due starts in a survey window, and the loop measurement of an agreed interval is
awaited. -/
def survWindow (t purpose : Nat) (isLocal : Bool) (s : State) : State :=
  let x := (s.trk t).surv
  if purpose ≠ 2 ∨ !survMay t s then s
  else
    let run := x.passDue
    let loop := x.loopOk && (isLocal || x.passDue)
    survBusy t (s.modSurv t fun x => { x with passRuns := run, passDue := false, loopWait := loop })

/-- The switch opens and what the window held is over. -/
def loopOpen (t : Nat) (s : State) : State :=
  let s := if (s.trk t).surv.closed then s.send (.loopSwitch t false) else s
  s.modSurv t fun x => { x with closed := false, closure := none, loopMine := none, loopOk := false, loopWait := false }

/-- A pulse or a pass is cut short: the pulse counts toward DAY_MAX alone and is asked for again, the pass reports
nothing. -/
def survAbort (t : Nat) (s : State) : State :=
  let x := (s.trk t).surv
  let s := if x.pulseRuns then
      (s.send (.pulse t 0)).modSurv t fun x => { x with pulseRuns := false, pulsePend := s.bit (R.SURV_TRK_CC_STAT_ACTIVE t) }
    else s
  let s := if x.passRuns then
      survDone t 0 2 (survLoop t s) (survContact t s) (s.rd (R.SURV_TRK_STAT_PEAKS t)) 4
        (s.modSurv t fun x => { x with passRuns := false })
    else if x.loopWait then
      survDone t (if x.loopOnly then 2 else 0) 2 (survLoop t s) (survContact t s) (s.rd (R.SURV_TRK_STAT_PEAKS t)) 4
        (s.modSurv t fun x => { x with loopOnly := false })
    else s
  survBusy t (loopOpen t s)

/-- A fence: current off, the treatment and the pass abandoned. -/
def survFence (t : Nat) (s : State) : State :=
  let s := (survAbort t s).modSurv t fun x => { x with passDue := false, loopOnly := false, pulsePend := false }
  (s.wr (R.SURV_TRK_CC_STAT_ACTIVE t) 0).wr (R.SURV_TRK_CC_STAT_DAY_HELD t) 0

/-- The front end of a vale is fenced: as a fence of each of its lines. -/
def feFence (v : Nat) (s : State) : State :=
  let s := survFence (2 * v + 1) (survFence (2 * v) s)
  (upto 16).foldl (fun a i => a.modDsurv (16 * v + i) fun _ => {}) s

/-! ## Contact care (R334, R336) -/

/-- The instant of the time base in nanoseconds. -/
def dayNow (s : State) : Nat := s.time.sec * 1000000000 + s.time.ns

/-- Pulses older than 24 h leave DAY_CNT. -/
def dayPrune (t : Nat) (s : State) : State :=
  let n := dayNow s
  let s := s.modSurv t fun x => { x with dayPulses := x.dayPulses.filter fun a => decide (n < a + 86400 * 1000000000) }
  s.wr (R.SURV_TRK_CC_STAT_DAY_CNT t) (min 255 (s.trk t).surv.dayPulses.length)

/-- A pulse may start today. -/
def dayFree (t : Nat) (s : State) : Bool :=
  decide ((s.trk t).surv.dayPulses.length < s.rd (R.SURV_TRK_CC_CTL_DAY_MAX t))

/-- The treatment asks for its next window, or waits at DAY_MAX. -/
def pulseAsk (t : Nat) (s : State) : State :=
  let s := dayPrune t s
  (s.wrb (R.SURV_TRK_CC_STAT_DAY_HELD t) (!dayFree t s)).modSurv t fun x => { x with pulsePend := true }

/-- The Surveyor asks for a window of a purpose: a pass or loop measurement that is due, or a pulse, no sooner than
MIN_GAP_MS after the last window (R334). -/
def survWants (t : Nat) (contactCare : Bool) (s : State) : Bool :=
  let x := (s.trk t).surv
  survMay t s && (if contactCare then
    x.pulsePend && !x.pulseRuns && !s.bit (R.SURV_TRK_CC_STAT_DAY_HELD t) &&
      (match (s.trk t).qw.lastEnd with
       | some a => decide (a + s.rd (R.TRK_QW_CTL_MIN_GAP_MS t) * msec ≤ s.age)
       | none => true)
    else (x.passDue || x.loopOnly) && !x.passRuns)

/-! ## Captures (R341) -/

/-- The granary address of capture `i`: the capture area follows the staging buffer, 128 KiB for each. -/
def capAddr (i : Nat) (s : State) : Nat := (stageBase s).getD 0 + 1048576 + 131072 * i

/-- GA_8K shows the capture that IDX names, where it is held. -/
def capShow (s : State) : State :=
  let i := s.rd R.SURV_CAP_CTL_IDX
  s.wr R.SURV_CAP_STAT_GA_8K (if (tget none s.caps i).isSome then capAddr i s / 8192 else 0)

/-- Store a capture of vale `v`, or refuse it: no slot free, the granary fenced, or no staging segment. -/
def capStore (v : Nat) (samples : List (BitVec 16)) (s : State) : State :=
  match (upto 8).find? fun i => (tget none s.caps i).isNone with
  | some i =>
    if s.isFenced .gran || (stageBase s).isNone then s.evt R.SURV_CAP_STAT_REFUSED
    else
      let a := capAddr i s
      let l := (samples.take 65536).flatMap fun w => [BitVec.ofNat 8 w.toNat, BitVec.ofNat 8 (w.toNat / 256)]
      let ok := !(s.pas v).spoiled.contains 4
      let s := s.modPass v fun x => { x with spoiled := x.spoiled.filter fun k => k ≠ 4 }
      let s := effFill (a / segOctets) s
      let s := { s with gran := granPutAll a l s.gran, caps := tset none s.caps i (some ok) }
      capShow ((s.wr R.SURV_CAP_STAT_HELD (setBit (s.rd R.SURV_CAP_STAT_HELD) i true)).evt R.SURV_EVT_CAP_DONE)
  | none => s.evt R.SURV_CAP_STAT_REFUSED

/-- A write of 1 to SURV_CAP_CTL.FREE releases the capture that IDX names. -/
def effCapFree (s : State) : State :=
  let i := s.rd R.SURV_CAP_CTL_IDX
  capShow (({ s with caps := tset none s.caps i none }).wr R.SURV_CAP_STAT_HELD (setBit (s.rd R.SURV_CAP_STAT_HELD) i false))

/-! ## Commands of the host die to the vale (R340) -/

/-- The vale executes a command of the Surveyor: CMD_RSP 0 accepted, 1 refused, 2 busy. -/
def valeSurv (op p : Nat) (s : State) : Nat × State :=
  let v := portVale p
  if !feServes v s || s.isFenced (portBlock p) then (1, s)
  else if p < 8 then
    let x := (s.trk p).surv
    if op = 0 then
      if x.passDue || x.passRuns || x.loopWait then (2, s)
      else if trkState p s = 12 ∧ survMay p s then (0, survBusy p (s.modSurv p fun x => { x with passRuns := true }))
      else if trkState p s = 0 then (1, s)
      else (0, s.modSurv p fun x => { x with passDue := true })
    else if op = 1 then
      if x.pulsePend || x.pulseRuns then (2, s)
      else if trkCR p s && decide (trkState p s = 8) then (0, pulseAsk p s) else (1, s)
    else if op = 2 then
      if x.loopOnly || x.loopWait then (2, s)
      else if trkCR p s && decide (trkState p s = 8) then (0, s.modSurv p fun x => { x with loopOnly := true }) else (1, s)
    else if op = 3 then
      (0, (survAbort p s).modSurv p fun x => { x with passDue := false, loopOnly := false, pulsePend := false })
    else if op = 4 then (0, s.modSurv p fun x => { x with capArm := true }) else (1, s)
  else
    let x := tget ({} : DrpSurv) s.dsurv (p - 8)
    if op = 0 then
      if x.due then (2, s) else (0, s.modDsurv (p - 8) fun x => { x with due := true, parts := 0 })
    else if op = 3 then (0, s.modDsurv (p - 8) fun x => { x with due := false, parts := 0 })
    else if op = 4 then (0, s.modDsurv (p - 8) fun x => { x with capArm := true }) else (1, s)

/-- The host die commands the Surveyor of a port's vale. -/
def survCommand (op p : Nat) (s : State) : State := hostRequest (portVale p) (.cmd (.surv op (localOf p) 0)) s

end Sys2Proof.Machine
end

