-- ==== Sys2Proof/Machine/AssayCore.lean ====
section
/-! DEFINITION. Shared operations of the Assayer: items, their places and domains, acceptance, correction values and
aborts (16_assayer_calibration R343 to R356). -/

namespace Sys2Proof.Machine

/-! ## Items (R343) -/

/-- Item `i`. -/
def State.item (s : State) (i : Nat) : Item := tget {} s.items i

/-- Edit item `i`. -/
def State.modItem (s : State) (i : Nat) (f : Item → Item) : State := { s with items := tset {} s.items i (f (s.item i)) }

/-- The kind of an item. -/
def itemKind (i : Nat) : Nat := if i < 8 then 0 else if i < 72 then 1 else if i < 104 then 2 else if i < 108 then 3 else 4

/-- The vale that holds an item; none for the host-die sensors. -/
def itemVale (i : Nat) : Option Nat :=
  if i < 8 then some (i / 2) else if i < 72 then some ((i - 8) / 16) else if i < 104 then some ((i - 72) / 8)
  else if i < 108 then some (i - 104) else if i < 112 then some (i - 108) else none

/-- The block of an item: what a fence or a self-test of it holds. -/
def itemBlock (i : Nat) : Block :=
  if i < 8 then .trunk i else if i < 72 then .drop (i - 8) else if i < 104 then .vale ((i - 72) / 8)
  else if i < 108 then .surv (i - 104) else if i < 112 then .vale (i - 108) else .assayer

/-- The Watch source of an item's block: a pass lane's is its vale's pass, the host-die sensors' the power manager. -/
def itemSrc (i : Nat) : Nat :=
  if i < 72 then portSrc i else if i < 104 then 36 + (i - 72) / 8 else if i < 108 then 40 + (i - 104)
  else if i < 112 then 32 + (i - 108) else 3

/-- STATE of an item: 0 idle, 1 due, 2 waiting, 3 running, 4 slewing, 5 held. -/
def itemState (i : Nat) (s : State) : Nat := s.rd (R.ASSAY_ITEM_STAT_STATE i)

/-- An item changes state. -/
def itemSet (i st : Nat) (s : State) : State := s.wr (R.ASSAY_ITEM_STAT_STATE i) st

/-- An item is held: the Assayer, its block or its vale's agent is fenced or under self-test (R345). -/
def itemHeld (i : Nat) (s : State) : Bool :=
  s.isFenced .assayer || s.isFenced (itemBlock i) ||
    (match itemVale i with | some v => s.isFenced (.agent v) | none => false)

/-- The pass lane of an item: its vale and j. -/
def itemLane (i : Nat) : Nat × Nat := ((i - 72) / 8, (i - 72) % 8)

/-! ## Running calibrations -/

/-- BUSY_HOST or BUSY_VALE of an item's die. -/
def itemBusy (i : Nat) (s : State) : Bool :=
  match itemVale i with
  | some v => tbit (s.rd R.ASSAY_STAT_BUSY_VALE) v
  | none => s.bit R.ASSAY_STAT_BUSY_HOST

/-- Show that a calibration runs on an item's die, or that none does. -/
def busySet (i : Nat) (b : Bool) (s : State) : State :=
  match itemVale i with
  | some v => s.wr R.ASSAY_STAT_BUSY_VALE (setBit (s.rd R.ASSAY_STAT_BUSY_VALE) v b)
  | none => s.wrb R.ASSAY_STAT_BUSY_HOST b

/-- The items that run. -/
def running (s : State) : List Nat := (upto 113).filter fun i => decide (itemState i s = 3)

/-- The interruption of an item's slice ends. -/
def calOff (i : Nat) (s : State) : State := if i < 8 then s.modTrk i fun x => { x with calibrating := false } else s

/-- A vale command of the Assayer's agent has ended. -/
def assayDone (i code : Nat) (s : State) : State :=
  match itemVale i with
  | some v => s.modPass v fun x => { x with dones := x.dones ++
      [{ cmd := .assay i true, code := code, result := [], taken := false }] }
  | none => s

/-- A running calibration is aborted: it writes and counts nothing, and the item stays due (R356). -/
def calAbort (i : Nat) (s : State) : State :=
  if itemState i s = 3 then assayDone i 2 (calOff i (busySet i false (itemSet i 1 s))) else s

/-- Every calibration of a vale is aborted. -/
def calAbortVale (v : Nat) (s : State) : State :=
  ((running s).filter fun i => itemVale i = some v).foldl (fun a i => calAbort i a) s

/-! ## Acceptance (R350) -/

/-- The absolute range of a quantity and its repeat tolerance. -/
def quantityLimits (q : Quantity) : Int × Int × Int :=
  match q with
  | .dacAmplitude => (-600, 600, 50)
  | .dacLinearity => (-800, 800, 100)
  | .adcOffset => (-1600, 1600, 200)
  | .adcGain => (-800, 800, 25)
  | .adcSkew => (-500, 500, 30)
  | .trunkDelay => (0, 2000, 2)
  | .dropDelay => (0, 20000, 20)
  | .passTaps => (0, 31, 2)
  | .asym => (-2000, 2000, 100)
  | .timebase => (-50, 50, 5)
  | .loop => (-300, 300, 20)
  | .temperature => (-80, 80, 8)
  | .voltage => (-300, 300, 20)

/-- Every quantity lies within its absolute range. -/
def rangeOk (l : List CalVal) : Bool :=
  l.all fun x => decide ((quantityLimits x.q).1 ≤ x.v) && decide (x.v ≤ (quantityLimits x.q).2.1)

/-- Every quantity lies within its repeat tolerance of the stored value. -/
def repeatOk (l stored : List CalVal) : Bool :=
  decide (l.length = stored.length) && (l.zip stored).all fun e =>
    decide (e.1.q = e.2.q) && decide ((e.1.v - e.2.v).natAbs ≤ (quantityLimits e.1.q).2.2)

/-! ## Corrections (R318, R243, R355) -/

/-- Registers show the values in force: TIME_PORT_DLY of a port, ASYM of a vale. -/
def corrShow (i : Nat) (s : State) : State :=
  let l := (s.item i).inForce
  let d := (l.filter fun x => x.q = .trunkDelay ∨ x.q = .dropDelay).map fun x => (x.v % 65536).toNat
  let s := match d with
    | tx :: rx :: _ => if i < 72 then (s.wr (R.TIME_PORT_DLY_TX_10PS i) tx).wr (R.TIME_PORT_DLY_RX_10PS i) rx else s
    | _ => s
  match l.find? fun x => x.q = .asym with
  | some x => if itemKind i = 2 then s.wr (R.PASS_ASYM_ASYM_PS (itemLane i).1) (x.v % 65536).toNat else s
  | none => s

/-- A value after `n` of the 256 equal steps from its old value to its new one. -/
def slewValue (old new : Int) (n : Nat) : Int := old + (new - old) * n / 256

/-- The values after `n` steps. -/
def slewValues (old new : List CalVal) (n : Nat) : List CalVal :=
  new.zipIdx.map fun e =>
    match old[e.2]? with
    | some o => { e.1 with v := slewValue o.v e.1.v n }
    | none => e.1

/-- The new values are set whole. -/
def slewEnd (i : Nat) (s : State) : State :=
  if itemState i s = 4 then
    itemSet i 0 (corrShow i (s.modItem i fun x => { x with inForce := x.stored, slewFrom := [], steps := 0 }))
  else s

/-- A fence of a block ends what the Assayer does there: a calibration is aborted, a slew is set whole, and the items
are held (R355, R356). -/
def assayFence (s : State) : State :=
  ((upto 113).filter fun i => itemHeld i s && decide (itemState i s ≠ 0)).foldl (fun a i =>
    let a := slewEnd i (calAbort i a)
    if itemState i a = 1 ∨ itemState i a = 2 then itemSet i 5 a else a) s

/-- Items held for a block that is neither fenced nor under self-test any longer are due again. -/
def assayFree (s : State) : State :=
  ((upto 113).filter fun i => decide (itemState i s = 5) && !itemHeld i s).foldl (fun a i => itemSet i 1 a) s

/-- The Assayer asks for a window: the slice's calibration is due. -/
def calWants (t : Nat) (s : State) : Bool :=
  s.bit R.ASSAY_CTL_EN && (decide (itemState t s = 1) || decide (itemState t s = 2)) && !itemHeld t s

end Sys2Proof.Machine
end

