-- ==== Sys2Proof/Machine/HostCore.lean ====
section
/-! DEFINITION. Shared operations of the host lanes (11_host_interfaces R249, R250). -/

namespace Sys2Proof.Machine

/-- A lane is up: enabled, not fenced and locked, in a mode that runs host lanes (02 R43). -/
def laneUp (n : Nat) (s : State) : Bool :=
  s.serving && s.bit (R.HLN_CTL_ENABLE n) && !s.isFenced (.hostLane n) && s.bit (R.HLN_STAT_LOCK n)

/-- Count down a wrapping counter. -/
def State.back (s : State) (f : Fld) (n : Nat) : State := s.wr f (s.rd f + 2 ^ f.width - n)

/-- A record that the lane is sending is cut: its frame stays at the head of its queue, a report is due again; nothing
counts it (R250). -/
def laneCut (n : Nat) (s : State) : State :=
  match (s.hln n).busy with
  | none => s
  | some r =>
    let s := (s.modHln n fun x => { x with busy := none }).back (R.HLN_TX_RECORDS_COUNT n) 1
    match r with
    | .report r => { s with reports := r :: s.reports }
    | .frame q =>
      let len := ((s.que q).frames.head?.map fun f => f.octets.length).getD 0
      let s := s.modQue q fun x => { x with lane := none, deficit := x.deficit + len }
      qShow q ((s.back (R.MILLQ_DEQ_FRAMES_COUNT q) 1).back (R.MILLQ_DEQ_OCTETS_COUNT q) len)

/-- LOCK falls. -/
def laneUnlock (n : Nat) (s : State) : State :=
  let s := laneCut n s
  let s := if s.bit (R.HLN_STAT_LOCK n) then s.evt (R.HLN_EVT_LOCK_LOSS n) else s
  (s.wr (R.HLN_STAT_LOCK n) 0).wr (R.HLN_STAT_AM_LOCK n) 0

end Sys2Proof.Machine
end

