-- ==== Sys2Proof/Machine/Sha.lean ====
section
/-! DEFINITION. SHA-384 over octets (03_warp R56, R57, R72; 17_security R367, R374). The spec names the function; its
text is FIPS 180-4 (PRESUMED, log 50). -/

namespace Sys2Proof.Machine

/-- A 64-bit word of the hash. -/
abbrev W64 := BitVec 64

/-- The first 40 round constants. -/
def shaK0 : List W64 := [
  0x428a2f98d728ae22, 0x7137449123ef65cd, 0xb5c0fbcfec4d3b2f, 0xe9b5dba58189dbbc, 0x3956c25bf348b538,
  0x59f111f1b605d019, 0x923f82a4af194f9b, 0xab1c5ed5da6d8118, 0xd807aa98a3030242, 0x12835b0145706fbe,
  0x243185be4ee4b28c, 0x550c7dc3d5ffb4e2, 0x72be5d74f27b896f, 0x80deb1fe3b1696b1, 0x9bdc06a725c71235,
  0xc19bf174cf692694, 0xe49b69c19ef14ad2, 0xefbe4786384f25e3, 0x0fc19dc68b8cd5b5, 0x240ca1cc77ac9c65,
  0x2de92c6f592b0275, 0x4a7484aa6ea6e483, 0x5cb0a9dcbd41fbd4, 0x76f988da831153b5, 0x983e5152ee66dfab,
  0xa831c66d2db43210, 0xb00327c898fb213f, 0xbf597fc7beef0ee4, 0xc6e00bf33da88fc2, 0xd5a79147930aa725,
  0x06ca6351e003826f, 0x142929670a0e6e70, 0x27b70a8546d22ffc, 0x2e1b21385c26c926, 0x4d2c6dfc5ac42aed,
  0x53380d139d95b3df, 0x650a73548baf63de, 0x766a0abb3c77b2a8, 0x81c2c92e47edaee6, 0x92722c851482353b]

/-- The last 40 round constants. -/
def shaK1 : List W64 := [
  0xa2bfe8a14cf10364, 0xa81a664bbc423001, 0xc24b8b70d0f89791, 0xc76c51a30654be30, 0xd192e819d6ef5218,
  0xd69906245565a910, 0xf40e35855771202a, 0x106aa07032bbd1b8, 0x19a4c116b8d2d0c8, 0x1e376c085141ab53,
  0x2748774cdf8eeb99, 0x34b0bcb5e19b48a8, 0x391c0cb3c5c95a63, 0x4ed8aa4ae3418acb, 0x5b9cca4f7763e373,
  0x682e6ff3d6b2b8a3, 0x748f82ee5defb2fc, 0x78a5636f43172f60, 0x84c87814a1f0ab72, 0x8cc702081a6439ec,
  0x90befffa23631e28, 0xa4506cebde82bde9, 0xbef9a3f7b2c67915, 0xc67178f2e372532b, 0xca273eceea26619c,
  0xd186b8c721c0c207, 0xeada7dd6cde0eb1e, 0xf57d4f7fee6ed178, 0x06f067aa72176fba, 0x0a637dc5a2c898a6,
  0x113f9804bef90dae, 0x1b710b35131c471b, 0x28db77f523047d84, 0x32caab7b40c72493, 0x3c9ebe0a15c9bebc,
  0x431d67c49c100d4c, 0x4cc5d4becb3e42b6, 0x597f299cfc657e2a, 0x5fcb6fab3ad6faec, 0x6c44198c4a475817]

/-- The working variables. -/
structure ShaVars where
  a : W64
  b : W64
  c : W64
  d : W64
  e : W64
  f : W64
  g : W64
  h : W64
  deriving DecidableEq, Repr

/-- The initial hash value. -/
def shaInit : ShaVars :=
  ⟨0xcbbb9d5dc1059ed8, 0x629a292a367cd507, 0x9159015a3070dd17, 0x152fecd8f70e5939,
   0x67332667ffc00b31, 0x8eb44a8768581511, 0xdb0c2e0d64f98fa7, 0x47b5481dbefa4fa4⟩

/-- One round with its constant and its schedule word. -/
def shaRound (v : ShaVars) (k w : W64) : ShaVars :=
  let t1 := v.h + (v.e.rotateRight 14 ^^^ v.e.rotateRight 18 ^^^ v.e.rotateRight 41) + ((v.e &&& v.f) ^^^ (~~~v.e &&& v.g)) + k + w
  let t2 := (v.a.rotateRight 28 ^^^ v.a.rotateRight 34 ^^^ v.a.rotateRight 39)
    + ((v.a &&& v.b) ^^^ (v.a &&& v.c) ^^^ (v.b &&& v.c))
  ⟨t1 + t2, v.a, v.b, v.c, v.d + t1, v.e, v.f, v.g⟩

/-- The next schedule word from the last 16, oldest first. -/
def shaNext (w : List W64) : W64 :=
  let g := fun (i : Nat) => w.getD i 0
  let s0 := (g 1).rotateRight 1 ^^^ (g 1).rotateRight 8 ^^^ (g 1) >>> 7
  let s1 := (g 14).rotateRight 19 ^^^ (g 14).rotateRight 61 ^^^ (g 14) >>> 6
  g 0 + s0 + g 9 + s1

/-- The rounds over a list of constants; `w` holds the next 16 schedule words. -/
def shaRounds : List W64 → List W64 → ShaVars → ShaVars
  | [], _, v => v
  | k :: ks, w, v => shaRounds ks (w.drop 1 ++ [shaNext w]) (shaRound v k (w.getD 0 0))

/-- One block of 16 words. -/
def shaBlock (v : ShaVars) (w : List W64) : ShaVars :=
  let r := shaRounds (shaK0 ++ shaK1) w v
  ⟨v.a + r.a, v.b + r.b, v.c + r.c, v.d + r.d, v.e + r.e, v.f + r.f, v.g + r.g, v.h + r.h⟩

/-- A 64-bit word from octets, most significant first. -/
def shaWord (l : List Byte) : W64 := BitVec.ofNat 64 (l.foldl (fun a o => a * 256 + o.toNat) 0)

/-- The blocks of a padded message, `n` of them. -/
def shaBlocks : Nat → List Byte → ShaVars → ShaVars
  | 0, _, v => v
  | n + 1, l, v =>
    shaBlocks n (l.drop 128) (shaBlock v ((upto 16).map fun i => shaWord ((l.drop (8 * i)).take 8)))

/-- The octets of a number, most significant first. -/
def bytesOf : Nat → Nat → List Byte
  | 0, _ => []
  | n + 1, v => BitVec.ofNat 8 (v / 256 ^ n) :: bytesOf n v

/-- SHA-384 of octets: twelve 32-bit words as a number, most significant first. -/
def sha384 (l : List Byte) : List Byte :=
  let p := l ++ [0x80] ++ List.replicate ((239 - l.length % 128) % 128) 0 ++ bytesOf 16 (8 * l.length)
  let v := shaBlocks (p.length / 128) p shaInit
  [v.a, v.b, v.c, v.d, v.e, v.f].flatMap fun x => bytesOf 8 x.toNat

/-- The octets of words, most significant first. -/
def wordOctets (l : List Word) : List Byte := l.flatMap fun w => bytesOf 4 w.toNat

/-- The words of octets, most significant first. -/
def octetWords : Nat → List Byte → List Nat
  | 0, _ => []
  | n + 1, l => (l.take 4).foldl (fun a o => a * 256 + o.toNat) 0 :: octetWords n (l.drop 4)

end Sys2Proof.Machine
end

