-- ==== Sys2Proof/Machine/WarpCore.lean ====
section
/-! DEFINITION. The warp: reading an image, the checks of R58, the dry pass with its clamp report, and the application of
records (03_warp R53 to R73). -/

namespace Sys2Proof.Machine

/-! ## Reading an image (R53, R54) -/

/-- Word `i` of an image, 0 past its end. -/
def imgWord (l : List Word) (i : Nat) : Nat := (l.getD i 0).toNat

/-- SEQ of an image. -/
def imgSeq (l : List Word) : Nat := imgWord l 6

/-- FLAGS of an image. -/
def imgFlags (l : List Word) : Nat := imgWord l 1 % 65536

/-- LENGTH of an image. -/
def imgLen (l : List Word) : Nat := imgWord l 5

/-- The COMMIT word of a committed image. -/
abbrev commitWord : Nat := 0x5A5AC3C3

/-- An image with another COMMIT word. -/
def imgCommit (l : List Word) (v : Nat) : List Word := lset l 2 (BitVec.ofNat 32 v)

/-- `n` field entries from words, and the words after them; none where the words run out. -/
def readEntries : Nat → List Word → Option (List WEntry × List Word)
  | 0, l => some ([], l)
  | n + 1, a :: b :: l =>
    match readEntries n l with
    | some (es, rest) => some ({ field := a.toNat / 65536, elem := a.toNat % 65536, value := b.toNat } :: es, rest)
    | none => none
  | _ + 1, _ => none

/-- `n` records from words. -/
def readRecords : Nat → List Word → Option (List WRecord)
  | 0, _ => some []
  | n + 1, a :: b :: l =>
    match readEntries (b.toNat / 65536) l with
    | some (es, rest) =>
      match readRecords n rest with
      | some rs => some ({ type := a.toNat / 65536, inst := a.toNat % 65536, flags := b.toNat % 65536, entries := es } :: rs)
      | none => none
    | none => none
  | _ + 1, _ => none

/-- The warp hash: SHA-384 up to the end of the LENGTH copy, COMMIT taken as unwritten (R56). -/
def warpHash (l : List Word) : List Byte :=
  sha384 (wordOctets ((imgCommit l 0xFFFFFFFF).take (imgLen l / 4 - 24)))

/-! ## The record catalogue (R64, R69) -/

/-- The stage of a record TYPE; an unknown TYPE comes after all. -/
def wStage (t : Nat) : Nat :=
  if t = 0x01 ∨ t = 0x02 then 1 else if t = 0x10 ∨ t = 0x11 then 2
  else if t = 0x20 ∨ t = 0x21 ∨ t = 0x30 ∨ t = 0x50 then 3 else if t = 0x80 then 4 else if t = 0x70 then 5
  else if t = 0x60 then 6 else if t = 0x71 ∨ t = 0x72 then 7 else if t = 0x90 then 8 else if t = 0xA0 then 9
  else if t = 0xB0 then 10 else 11

/-- The number of instances of a known TYPE; 0 for an unknown one. -/
def wInstances (t : Nat) : Nat :=
  if t = 0x01 ∨ t = 0x02 ∨ t = 0x10 ∨ t = 0x11 ∨ t = 0x72 ∨ t = 0x90 then 1
  else if t = 0x20 ∨ t = 0xA0 then 8 else if t = 0x21 then 4 else if t = 0x30 ∨ t = 0x60 then 64
  else if t = 0x50 then 6 else if t = 0x80 ∨ t = 0x71 then 72 else if t = 0x70 then 5 else if t = 0xB0 then 512 else 0

/-- The number of FIELDs of a known TYPE. -/
def wFields (t : Nat) : Nat :=
  if t = 0x01 ∨ t = 0x60 ∨ t = 0xA0 then 5 else if t = 0x02 then 4 else if t = 0x10 ∨ t = 0x70 then 1
  else if t = 0x11 ∨ t = 0x21 ∨ t = 0x71 ∨ t = 0x72 ∨ t = 0xB0 then 2 else if t = 0x20 then 6 else if t = 0x30 then 7
  else if t = 0x50 ∨ t = 0x80 ∨ t = 0x90 then 3 else 0

/-- The number of ELEMENTs of a FIELD. -/
def wElems (t i f : Nat) : Nat :=
  if t = 0x02 ∧ f = 4 then 2 else if t = 0x10 then 5
  else if t = 0x70 then (if i = 0 then 4096 else if i = 1 then 64 else if i = 2 then 256 else if i = 3 then 64 else 128)
  else if t = 0x60 then 32 else if t = 0x71 then 8 else if t = 0x90 ∧ f = 2 then 75 else if t = 0xB0 ∧ f = 1 then 2 else 1

/-- The record is of the live class. -/
def wLive (t : Nat) : Bool := t = 0x60 || t = 0x71 || t = 0x72 || t = 0x90 || t = 0xA0 || t = 0xB0

/-- A Watch source that R385 reserves. -/
def srcReserved (s : Nat) : Bool :=
  (13 ≤ s && s < 16) || (22 ≤ s && s < 32) || (48 ≤ s && s < 64) || (72 ≤ s && s < 128) || 192 ≤ s

/-- The record of a TYPE and INSTANCE. -/
def wFind (l : List WRecord) (t i : Nat) : Option WRecord := l.find? fun r => r.type = t ∧ r.inst = i

/-- A value of a record list, else the default. -/
def wGet (l : List WRecord) (t i f e dflt : Nat) : Nat := ((wFind l t i).bind fun r => recField r f e).getD dflt

/-- TRUNK.MODE of a trunk. -/
def wTrkMode (l : List WRecord) (t : Nat) : Nat := wGet l 0x20 t 2 0 5

/-- DROP.MODE of a drop. -/
def wDrpMode (l : List WRecord) (d : Nat) : Nat := wGet l 0x30 d 2 0 0

/-- The block whose fence keeps a record from being applied. -/
def recTarget (t i : Nat) : Option Block :=
  if t = 0x20 ∨ t = 0xA0 then some (.trunk i) else if t = 0x30 ∨ t = 0x60 then some (.drop i)
  else if t = 0x50 then some (.hostLane i) else if t = 0x71 ∨ t = 0x80 then some (portBlock i)
  else if t = 0x11 then some .gran else none

/-! ## Ranges (R65, R66, R69) -/

/-- The range of a field: any value, an interval, or an enumerated set with its default. -/
inductive WRange
  | any
  | span (lo hi : Nat)
  | set (l : List Nat) (dflt : Nat)
  deriving DecidableEq, Repr

/-- The range of a field, given the values before it in its record (`r`), the image's SEQ and the instance. -/
def wRange (seq : Nat) (r : WRecord) (f : Nat) : WRange :=
  let g := fun (f d : Nat) => (recField r f 0).getD d
  match r.type, f with
  | 0x01, 1 => .set [0, 1] 0 | 0x01, 2 => .span 0 1 | 0x01, 3 => .span 1000 500000000 | 0x01, 4 => .span 0 255
  | 0x01, 5 => .span 1 1000
  | 0x02, 1 => .span 0 seq | 0x02, 2 => .span 0 1 | 0x02, 3 => .span 0 255
  | 0x10, 1 => .span 0 65536
  | 0x11, 1 => .span 1 255 | 0x11, 2 => .span 0 255
  | 0x20, 1 => .span 0 1 | 0x20, 2 => .set [0, 1, 2, 3, 4, 5] 5 | 0x20, 3 => .span 0 1
  | 0x20, 4 => .span 1 (if 4 ≤ g 2 5 then 40 else 15) | 0x20, 5 => .span 0 1 | 0x20, 6 => .span 400 25000
  | 0x21, _ => .span 0 7
  | 0x30, 1 => .span 0 1 | 0x30, 2 => .set [0, 1] 0 | 0x30, 3 => .span 1 (if g 2 0 = 1 then 200 else 50)
  | 0x30, 4 => .span 2 32 | 0x30, 5 => .set [0, 1, 2] 2 | 0x30, 6 => .span 0 7 | 0x30, 7 => .span 3 12
  | 0x50, 1 => .span 0 1 | 0x50, 2 => .set [0, 1] 0 | 0x50, 3 => .span 0 1
  | 0x80, 1 => .span 0 1 | 0x80, 2 => .set [0, 30, 50] 0 | 0x80, 3 => .span 0 1048576
  | 0x60, 1 => .span 0 65535 | 0x60, 3 => .span 0 1 | 0x60, 4 => .span 0 1 | 0x60, 5 => .span 1 8
  | 0x71, 1 => .span 1 255 | 0x71, 2 => .span 0 25000000
  | 0x72, 1 => .span 2 64 | 0x72, 2 => .span 4 128
  | 0x90, 1 => .span 0 1 | 0x90, 2 => .span 0 4 | 0x90, 3 => .span 0 63
  | 0xA0, 1 => .span 60 86400 | 0xA0, 2 => .span 0 1 | 0xA0, 3 => .span 5 500 | 0xA0, 4 => .span 5 50 | 0xA0, 5 => .span 1 20
  | 0xB0, 2 => .span 1 10000
  | _, _ => .any

/-- A value held to its range, with the ACTION of the change (R65, R71). -/
def wClamp (k : WRange) (v : Nat) : Option (Nat × Nat) :=
  match k with
  | .any => none
  | .span lo hi => if v < lo then some (1, lo) else if hi < v then some (2, hi) else none
  | .set l d => if l.contains v then none else some (3, d)

/-! ## The dry pass (R59, R65 to R70) -/

/-- A report entry of a record's field. -/
def clampOf (r : WRecord) (f e action req app : Nat) : Clamp :=
  { type := r.type, inst := r.inst, field := f, elem := e, action := action, requested := req, applied := app }

/-- An action byte that R390 replaces. -/
def reactBad (cls v : Nat) : Bool :=
  let now := v % 8
  let later := v / 16 % 8
  decide (128 ≤ v) || decide (4 < now) || decide (4 < later) ||
    (if tbit v 3 then decide (later ≤ now) else decide (later ≠ 0)) || (decide (cls = 3) && decide (now < 2))

/-- The target that QUEUE_MAP may give a queue of a range (12_miller_queues R269). -/
def mapOk (range q v : Nat) : Bool :=
  if range = 0 then v < 4096 && v / 64 = q / 64
  else if range = 1 then 4096 ≤ v && v < 4160 && v / 8 = q / 8
  else if range = 2 then 4160 ≤ v && v < 4416
  else if range = 3 then 4416 ≤ v && v < 4480 else false

/-- The first queue of a range. -/
def rangeBase (r : Nat) : Nat := if r = 0 then 0 else if r = 1 then 4096 else if r = 2 then 4160 else if r = 3 then 4416 else 4480

/-- The rate of a port in kb/s. -/
def portKbps (l : List WRecord) (p : Nat) : Nat :=
  if p < 8 then
    let m := wTrkMode l p
    if m = 0 then 2500000 else if m = 1 then 5000000 else if m = 2 ∨ m = 4 then 10000000 else 25000000
  else if wDrpMode l (p - 8) = 1 then 44110 else 10000

/-- One entry of a record: what is kept of it, given the kept entries before it and the records before this one, and what
the report says. -/
def passEntry (seq : Nat) (l : List WRecord) (r : WRecord) (kept : List WEntry) (e : WEntry) : List WEntry × List Clamp :=
  let cur : WRecord := { r with entries := kept }
  let keep := fun (v : Nat) => kept ++ [{ e with value := v }]
  let nodes := wGet l 0x30 r.inst 4 0 8
  if 0x8000 ≤ e.field then (kept, [clampOf r e.field e.elem 7 e.value 0])
  else if r.type = 0x60 ∧ (31 ≤ e.elem ∨ nodes ≤ e.elem) then (kept, [clampOf r 0 e.elem 9 0 0])
  else if r.type = 0x70 then
    let q := rangeBase r.inst + e.elem
    if e.elem < wElems 0x70 r.inst 1 ∧ mapOk r.inst q e.value then (keep e.value, [])
    else (kept, [clampOf r 1 e.elem 9 e.value (if e.elem < wElems 0x70 r.inst 1 then q else 0)])
  else if wElems r.type r.inst e.field ≤ e.elem then (kept, [clampOf r e.field e.elem 9 e.value 0])
  else if (r.type = 0x30 ∧ 5 ≤ e.field ∧ (recField cur 2 0).getD 0 = 0) ∨ (r.type = 0x71 ∧ 8 ≤ r.inst ∧ 2 ≤ e.elem) then
    (kept, [])
  else if r.type = 0xB0 ∧ e.field = 1 then
    if reactBad (e.elem + 2) e.value then
      let d := if e.elem = 0 then uActRst r.inst else fActRst r.inst
      (keep d, [clampOf r 1 e.elem 3 e.value d])
    else (keep e.value, [])
  else
    let c := wClamp (wRange seq cur e.field) e.value
    let v := (c.map fun x => x.2).getD e.value
    let rep := match c with | some (a, v) => [clampOf r e.field e.elem a e.value v] | none => []
    let dep : Option Nat :=
      if r.type = 0x50 ∧ e.field = 3 ∧ v = 1 ∧ (recField cur 2 0).getD 0 = 1 then some 0
      else if r.type = 0x60 ∧ e.field = 4 ∧ v = 1 ∧ wGet l 0x80 (8 + r.inst) 1 0 0 = 0 then some 0
      else if r.type = 0x71 ∧ e.field = 2 ∧ portKbps l r.inst < v then some (portKbps l r.inst)
      else if r.type = 0x72 ∧ e.field = 2 ∧ v < (recField cur 1 0).getD 8 + 2 then some ((recField cur 1 0).getD 8 + 2)
      else if r.type = 0x90 ∧ e.field = 2 ∧ v = 4 ∧ (recField cur 1 0).getD 0 = 0 then some 3
      else if r.type = 0xA0 ∧ e.field = 2 ∧ v = 1 ∧ wTrkMode l r.inst < 4 then some 0
      else none
    match dep with
    | some w => (keep w, rep ++ [clampOf r e.field e.elem 4 v w])
    | none => (keep v, rep)

/-- The reserves of PKT_PART after scaling. -/
def reserves (r : WRecord) : List Nat :=
  let l := (upto 5).map fun k => (recField r 1 k).getD (partRst k)
  let tot := l.sum
  if 131072 < tot then l.map fun x => x * 131072 / tot else l

/-- A TWIN record that R69 keeps. -/
def twinKept (l : List WRecord) (r : WRecord) : Bool :=
  match recField r 1 0, recField r 2 0 with
  | some a, some b =>
    decide (a / 2 ≠ b / 2) && decide (wGet l 0x20 a 1 0 0 = 1) && decide (wGet l 0x20 b 1 0 0 = 1) &&
      decide (wTrkMode l a = wTrkMode l b) && decide (4 ≤ wTrkMode l a) &&
      !(l.any fun x => x.type = 0x21 && (recField x 1 0 = some a || recField x 1 0 = some b || recField x 2 0 = some a ||
        recField x 2 0 = some b))
  | _, _ => false

/-- One record: what is kept of it, and its report. -/
def passRecord (seq : Nat) (l : List WRecord) (r : WRecord) : Option WRecord × List Clamp :=
  if wInstances r.type = 0 then (none, [clampOf r 0 0 7 0 0])
  else if wInstances r.type ≤ r.inst ∨ (r.type = 0xB0 ∧ srcReserved r.inst) then (none, [clampOf r 0 0 6 0 0])
  else
    let x := r.entries.foldl (fun (a : List WEntry × List Clamp) e =>
      let y := passEntry seq l r a.1 e
      (y.1, a.2 ++ y.2.filter fun c => !(c.field = 0 ∧ a.2.contains c))) ([], [])
    let k : WRecord := { r with entries := x.1 }
    if r.type = 0x10 then
      let n := reserves k
      let es : List WEntry := n.zipIdx.map fun e => { field := 1, elem := e.2, value := e.1 }
      (some { r with entries := es }, x.2 ++ k.entries.filterMap fun e =>
        if n.getD e.elem 0 = e.value then none else some (clampOf r 1 e.elem 5 e.value (n.getD e.elem 0)))
    else if r.type = 0x72 then
      let p := (recField k 1 0).getD 8
      (some (if (recField k 2 0).getD 16 < p + 2 then { k with entries := k.entries ++ [⟨2, 0, p + 2⟩] } else k), x.2)
    else if r.type = 0x21 then
      if twinKept l k then (some k, x.2) else (none, x.2 ++ [clampOf r 0 0 6 0 0])
    else (some k, x.2)

/-- Insert before the first element that stands after `a`. -/
def sortIn {α : Type} (before : α → α → Bool) (a : α) : List α → List α
  | [] => [a]
  | b :: l => if before b a then b :: sortIn before a l else a :: b :: l

/-- A list in the order of `before`; equal elements keep their order. -/
def sortBy {α : Type} (before : α → α → Bool) (l : List α) : List α := l.foldl (fun a x => sortIn before x a) []

/-- The order of application: stage, TYPE, INSTANCE. -/
def recBefore (a b : WRecord) : Bool :=
  let x := wStage a.type
  let y := wStage b.type
  x < y || (x = y && (a.type < b.type || (a.type = b.type && a.inst ≤ b.inst)))

/-- Records in the order of application. -/
def stageOrder (l : List WRecord) : List WRecord := sortBy recBefore l

/-- A trunk of a kept twin. -/
def twinnedIn (l : List WRecord) (t : Nat) : Bool :=
  l.any fun x => x.type = 0x21 && (recField x 1 0 = some t || recField x 2 0 = some t)

/-- QUIET_WIN is forced 0 unless MODE is CR and the trunk is not twinned; the report shows it where the field was present. -/
def quietWin (l : List WRecord) (r : WRecord) : WRecord × List Clamp :=
  let bad := r.type = 0x20 && (decide (wTrkMode l r.inst < 4) || twinnedIn l r.inst)
  match recField r 5 0 with
  | some 1 =>
    if bad then ({ r with entries := r.entries.map fun e => if e.field = 5 then { e with value := 0 } else e },
      [clampOf r 5 0 4 1 0]) else (r, [])
  | some _ => (r, [])
  | none => if bad then ({ r with entries := r.entries ++ [⟨5, 0, 0⟩] }, []) else (r, [])

/-- The order of the report: stage, TYPE, INSTANCE, FIELD, ELEMENT. -/
def clampBefore (a b : Clamp) : Bool :=
  let k := fun (c : Clamp) => ((((wStage c.type * 65536 + c.type) * 65536 + c.inst) * 65536 + c.field) * 65536 + c.elem)
  k a ≤ k b

/-- The dry pass over the records of an image: the records as they will be applied and the clamp report. A record of
`skip` passes and is reported TARGET_FENCED alone. -/
def dryPass (seq : Nat) (skip : Nat × Nat → Bool) (recs : List WRecord) : List WRecord × List Clamp :=
  let x := (stageOrder recs).foldl (fun (a : List WRecord × List Clamp) r =>
    let y := passRecord seq a.1 r
    (a.1 ++ y.1.toList, a.2 ++ y.2)) ([], [])
  let q := x.1.map fun r => quietWin x.1 r
  let kept := q.map fun e => e.1
  let rep := (x.2 ++ q.flatMap fun e => e.2).filter fun c => !skip (c.type, c.inst)
  let fenced := (kept.filter fun r => skip (r.type, r.inst)).map fun r => clampOf r 0 0 8 0 0
  (kept, sortBy clampBefore (rep ++ fenced))

/-! ## Refusals (R54, R55, R58, R67, R360) -/

/-- A list rises strictly under a key. -/
def rises {α : Type} (k : α → Nat) : List α → Bool
  | [] => true
  | [_] => true
  | a :: b :: l => decide (k a < k b) && rises k (b :: l)

/-- Records and entries stand in ascending order without duplicates (R55). -/
def orderOk (l : List WRecord) : Bool :=
  rises (fun r => r.type * 65536 + r.inst) l && l.all fun r => rises (fun e => e.field * 65536 + e.elem) r.entries

/-- Every TYPE without OPTIONAL and every FIELD below 0x8000 is known, and DEVICE and SEC_POLICY are there. -/
def knownOk (l : List WRecord) : Bool :=
  (wFind l 1 0).isSome && (wFind l 2 0).isSome && l.all fun r =>
    if wInstances r.type = 0 then tbit r.flags 0
    else r.entries.all fun e => decide (0x8000 ≤ e.field) || (decide (1 ≤ e.field) && decide (e.field ≤ wFields r.type))

/-- SEC_POLICY requires MACsec of a port. -/
def macRequired (l : List WRecord) (p : Nat) : Bool :=
  if p < 8 then tbit (wGet l 2 0 3 0 0) p else tbit (wGet l 2 0 4 ((p - 8) / 32) 0) ((p - 8) % 32)

/-- The CAs that a warp puts in use (17_security R360, R377, R379). -/
def casWanted (l : List WRecord) : Nat :=
  ((upto 72).map fun p =>
    if wGet l 0x80 p 1 0 0 ≠ 1 then 0
    else if p < 8 then (if l.any fun x => x.type = 0x21 && recField x 2 0 = some p then 0 else 1)
    else 1 + ((upto 31).filter fun k =>
      (wFind l 0x60 (p - 8)).any fun r => (recField r 1 k).isSome && (recField r 2 k).isSome &&
        (macRequired l p || decide ((recField r 4 k).getD 0 = 1))).length).sum

/-- The security policy is breached: a SEC_POLICY value or element out of range, a required port whose MACSEC_PORT.ENABLE
is not 1, or more than 512 CAs. -/
def policyBad (seq : Nat) (recs kept : List WRecord) : Bool :=
  (match wFind recs 2 0 with
   | some r => r.entries.any fun e => decide (e.field < 0x8000) &&
       (decide (wElems 2 0 e.field ≤ e.elem) || (wClamp (wRange seq r e.field) e.value).isSome)
   | none => false) ||
    ((upto 72).any fun p => macRequired recs p && decide (wGet recs 0x80 p 1 0 0 ≠ 1)) || decide (512 < casWanted kept)

/-- The device tag that an image must name. -/
def devTagOf (s : State) : Nat := s.sec.devTag

/-- The strongroom holds a warp-decryption key. -/
def warpKey (k : Nat) (s : State) : Bool := s.sec.room.any fun e => e.type = 0x10 && e.index = k

/-- The targets of records that are fenced now. -/
def recSkip (s : State) (k : Nat × Nat) : Bool := (recTarget k.1 k.2).any fun b => s.isFenced b

/-- The checks of R58 and R59 in the order of the table: the code and the records. A load's COMMIT field is not checked,
since the Steward programs it last. -/
def warpCheck (slot : Nat) (load : Bool) (img : List Word) (v : Verdict) (s : State) : Nat × List WRecord :=
  let len := imgLen img
  let enc := tbit (imgFlags img) 0
  let n := imgWord img 4 % 65536
  let seq := imgSeq img
  let tail := len / 4 - 26
  let room := len - 104 - 64 - (if enc then 16 else 0)
  if imgWord img 0 ≠ 0x4B575250 ∨ imgWord img 1 / 65536 ≠ 1 then (1, [])
  else if !load ∧ imgWord img 2 ≠ commitWord then (2, [])
  else if 1048576 < len ∨ len % 8 ≠ 0 ∨ len < 168 ∨ 4 * img.length < len ∨ imgWord img tail ≠ 0x454E4457 ∨
      imgWord img (tail + 1) ≠ len ∨ n = 0 ∨ 1024 < n ∨ room < 8 * n then (3, [])
  else if imgWord img 3 ≠ 0x8264 ∨ s.rd R.GLB_ID_REV < imgWord img 4 / 65536 then (4, [])
  else if tbit (imgFlags img) 1 ∧ imgWord img 8 * 2 ^ 32 + imgWord img 9 ≠ devTagOf s then (5, [])
  else if !s.bit R.SEC_STAT_AUTH_FUSED ∨ !v.sigOk then (6, [])
  else if enc ∧ (!v.tagOk ∨ !warpKey (imgWord img 7 / 65536) s) then (7, [])
  else if slot ≠ 3 ∧ seq < s.warp.floor then (8, [])
  else match readRecords n (if enc then v.plain else (img.take tail).drop 16) with
    | none => (3, [])
    | some recs =>
      let d := dryPass seq (recSkip s) recs
      if !orderOk recs then (9, [])
      else if !knownOk recs then (10, [])
      else if (s.sec.lcNow = 2 ∧ !enc) ∨ policyBad seq recs d.1 then (11, [])
      else if wGet recs 2 0 2 0 0 = 1 ∧ d.2.any (fun c => c.action ≠ 8) then (12, [])
      else (0, recs)

/-! ## The clamp report (R70, R72) -/

/-- The words of a report entry. -/
def Clamp.word (c : Clamp) (i : Nat) : Nat :=
  match i with
  | 0 => c.type * 65536 + c.inst % 65536
  | 1 => c.field * 65536 + c.elem % 4096 * 16 + c.action
  | 2 => c.requested
  | _ => c.applied

/-- Twelve words of a hash in consecutive registers. -/
def showHash (f : Nat → Fld) (h : List Byte) (s : State) : State :=
  (octetWords 12 h).zipIdx.foldl (fun a e => a.wr (f e.2) e.1) s

/-- The report of the warp in force: COUNT, STORED, OVERFLOW and its hash. -/
def clampShow (l : List Clamp) (s : State) : State :=
  let s := { s with warp := { s.warp with clamps := l } }
  let s := ((s.wr R.WARP_CLAMP_CNT_COUNT (min l.length 65535)).wr R.WARP_CLAMP_CNT_STORED (min l.length 512)).wrb
    R.WARP_CLAMP_CNT_OVERFLOW (512 < l.length)
  showHash R.WARP_CLAMP_HASH_HASH
    (sha384 (l.flatMap fun c => (upto 4).flatMap fun i => bytesOf 4 (c.word i))) s

/-- The report is made again from the running warp. -/
def warpReport (s : State) : State :=
  clampShow (dryPass s.warp.runSeq (fun k => s.warp.skipped.contains k) s.warp.running).2 s

/-! ## Applying records (R64, R69) -/

/-- A field loaded from the warp, kept as the value that a lost vote falls back to. -/
def State.wrWarp (s : State) (f : Fld) (v : Nat) : State := { s.wrV f v with regsW := putFld s.regsW f v }

/-- The record takes effect on its target. -/
def recApply (r : WRecord) (s : State) : State :=
  let g := fun (f d : Nat) => (recField r f 0).getD d
  let i := r.inst
  match r.type with
  | 0x01 =>
    let s := ((s.wr R.TIME_CFG_REFCLK_SEL (g 1 0)).wr R.TIME_STAT_REF_ACT (g 1 0)).wr R.TIME_CTL_PPS_IN_EN (g 2 0)
    ((s.wr R.TIME_PPS_OUT_WIDTH_NS (g 3 100000000)).wr R.TIME_CFG_DOMAIN (g 4 0)).wr R.WATCH_PIN_WIDTH_US (g 5 100)
  | 0x02 => { s with macReqDrp := (recField r 4 0).getD 0 + (recField r 4 1).getD 0 * 2 ^ 32 }
  | 0x10 =>
    let l := (upto 5).map fun k => (recField r 1 k).getD (partRst k)
    (l.zipIdx.foldl (fun a e => a.wr (R.MILL_PART_RES_RESERVE e.2) e.1) s).wr R.MILL_STAT_FREE (196608 - l.sum)
  | 0x11 =>
    let s := (s.wr R.GRAN_SEG_PAGE_SEG (g 1 0x7F)).wr R.GRAN_SEG_NIGHT_SEG (g 2 0x80)
    s.wr R.GRAN_STAT_STAGE_SEG (match stageSeg s with | some k => 2 ^ k | none => 0)
  | 0x20 =>
    let s := ((s.wr (R.TRK_CTL_MODE i) (g 2 5)).wr (R.TRK_CTL_EEE_EN i) (g 3 1)).wr (R.TRK_CTL_ENABLE i) (g 1 0)
    (s.wr (R.TRK_QW_LIM_QW_EN i) (g 5 1)).wr (R.TRK_QW_LIM_MAX_US i) (g 6 1000)
  | 0x21 => ((s.wr (R.TWIN_CFG_FORMED i) 1).wr (R.TWIN_CFG_MEMBER_A i) (g 1 0)).wr (R.TWIN_CFG_MEMBER_B i) (g 2 0)
  | 0x30 =>
    let s := ((s.wr (R.DRP_CTL_MODE i) (g 2 0)).wr (R.DRP_CYC_CTL_NODES i) (g 4 8)).wr (R.DRP_CTL_ENABLE i) (g 1 0)
    let s := ((s.wr (R.DRP_LD_CTL_LD_MOD i) (g 5 2)).wr (R.DRP_LD_CTL_SYNC_TOL i) (g 6 3)).wr (R.DRP_LD_CTL_CAPTURE_DB i) (g 7 6)
    s.modDrp i fun x => { x with lengthM := g 3 25 }
  | 0x50 => ((s.wr (R.HLN_CTL_ENABLE i) (g 1 1)).wr (R.HLN_CTL_RATE i) (g 2 0)).wr (R.HLN_CTL_PRECODE i) (if g 2 0 = 1 then 0 else g 3 0)
  | 0x80 =>
    let s := { s with
      macPort := tset false s.macPort i (g 1 0 = 1), macConf := tset 0 s.macConf i (g 2 0),
      macReplay := tset 64 s.macReplay i (g 3 64) }
    (portCas i).foldl (fun a e => caSync e a) s
  | 0x70 => { s with mill := { s.mill with
      map := r.entries.foldl (fun a e => tset none a (rangeBase i + e.elem)
        (if e.value = rangeBase i + e.elem then none else some e.value)) s.mill.map } }
  | 0x60 => stnApply i r s
  | 0x71 => schedApply i r s
  | 0x72 => (s.wr R.MILL_ISO_TH_PANIC_CELLS (g 1 8)).wr R.MILL_ISO_TH_REFILL_CELLS (g 2 16)
  | 0x90 =>
    let s := (s.wr R.PWR_CTL_NIGHT_EN (g 1 0)).wr R.PWR_WAKE_MASK (g 3 63)
    let s := { s with power := { s.power with barred := [] } }
    (upto 75).foldl (fun a c => a.wr (R.PWR_LOWEST_LOWEST c) ((recField r 2 c).getD 3)) s
  | 0xA0 => s.modSurv i fun x =>
      { x with periodS := g 1 3600, ccEn := g 2 0 = 1, ccMohm := g 3 50, ccMa := g 4 20, ccMs := g 5 5 }
  | 0xB0 =>
    let s := (s.wrWarp (R.WATCH_REACT_U_ACTION i) (g 1 (uActRst i))).wrWarp (R.WATCH_REACT_F_ACTION i)
      ((recField r 1 1).getD (fActRst i))
    s.wrWarp (R.WATCH_REACT_GRACE_MS i) (g 2 100)
  | _ => s

/-- The records of a target are applied in order, and leave the set that was skipped. -/
def targetApply (b : Block) (s : State) : State :=
  let mine := fun (k : Nat × Nat) => recTarget k.1 k.2 = some b
  if s.warp.skipped.any mine then
    let l := (dryPass s.warp.runSeq (fun _ => false) s.warp.running).1.filter fun r =>
      mine (r.type, r.inst) && s.warp.skipped.contains (r.type, r.inst)
    let s := { s with warp := { s.warp with skipped := s.warp.skipped.filter fun k => !mine k } }
    warpReport (l.foldl (fun a r => recApply r a) s)
  else s

end Sys2Proof.Machine
end

