-- ==== Sys2Proof/Machine/FenceCore.lean ====
section
/-! DEFINITION. Fences and QUARANTINE (01_architecture R30 to R32; 02_startup_modes_selftest R41 to R52;
12_miller_queues R279; 18_watch_faults R390, R393). -/

namespace Sys2Proof.Machine

/-! ## Lines and lanes -/

/-- Every line goes to the quiet state and no current reaches one (R36). -/
def linesQuiet (s : State) : State :=
  let s := (upto 8).foldl (fun a t => trkQuiet t (survAbort t a)) s
  (upto 64).foldl (fun a d => drpQuiet d a) s

/-- The host lanes go to electrical idle: a record that one sends is cut. -/
def lanesIdle (s : State) : State := (upto 6).foldl (fun a n => (laneCut n a).wr (R.HLN_STAT_TX_IDLE n) 1) s

/-! ## What a fence of a block does -/

/-- The Miller flushes the egress queues of a fenced port; a twin's only once both members are fenced (R31). -/
def portFlush (p : Nat) (s : State) : State :=
  if p < 8 then
    if (portTrunks p s).all fun t => s.fencedProper (.trunk t) then
      flushPort (match twinOf p s with | some (i, _) => memTrunk i false s | none => p) s
    else s
  else flushPort p s

/-- A port's line goes quiet, its activities end and its queues are flushed. -/
def portFence (p : Nat) (s : State) : State :=
  portFlush p (if p < 8 then trkFence p s else (drpFence (p - 8) s).modDsurv (p - 8) fun _ => {})

/-- The ports of a vale. -/
def valePorts (v : Nat) : List Nat := (upto 18).map fun l => portOf v l

/-- The vale takes no further part in the ladder (19_power R401, R413). -/
def ladderOut (v : Nat) (s : State) : State :=
  let s := { s with power := { s.power with
    dom := tset .idle s.power.dom (1 + v) .idle, wakeHeld := tset false s.power.wakeHeld (1 + v) false } }
  s.modPass v fun x => { x with rungDelay := none, rungAns := none }

/-- The vale's data stops: lanes, frames that cross and frames received that have not crossed (R30). -/
def valeStop (v : Nat) (s : State) : State :=
  let l := (s.pas v).down
  let s := lanesOff v (s.modPass v fun x => { x with down := [] })
  let s := l.foldl (fun a f => frameLost (queuePort f.queue) f a) s
  { s with rxBank := s.rxBank.filter fun e => e.1 / 8 ≠ v }

/-- The MACsec engine serves no CA any longer. -/
def macsecStop (s : State) : State :=
  s.cas.foldl (fun a e => a.modCa e.1 fun x => { x with rx := [], txReady := false, newAn := none, oldAn := none }) s

/-- What the fence of a block does to it. -/
def fenceEffects (b : Block) (s : State) : State :=
  match b with
  | .trunk t => portFence t s
  | .drop d => portFence (8 + d) s
  | .vale v => valeStop v (ladderOut v (calAbortVale v (feFence v ((valePorts v).foldl (fun a p => portFence p a) s))))
  | .hostLane n => laneUnlock n s
  | .gran => granFence s
  | .surv v => feFence v s
  | .agent v => calAbortVale v s
  | .macsec =>
    ((upto 72).filter fun p => macRequired s.warp.running p).foldl (fun a p => a.owe (.fence (portBlock p))) (macsecStop s)
  | .pcie => s.wr R.MGMT_PCIE_STAT_LINK_UP 0
  | .assayer | .core => s

/-- Live records that wait for a fenced target are skipped (03_warp R68, R75). -/
def liveSkip (s : State) : State :=
  let gone := (s.warp.pendStn.filter fun e => s.drpFenced e.1).map (fun e => (0x60, e.1)) ++
    (s.warp.pendSched.filter fun e => s.isFenced (portBlock e.1)).map (fun e => (0x71, e.1))
  if gone.isEmpty then s
  else
    warpReport { s with warp := { s.warp with
    pendStn := s.warp.pendStn.filter (fun e => !s.drpFenced e.1),
    pendSched := s.warp.pendSched.filter (fun e => !s.isFenced (portBlock e.1)),
    skipped := s.warp.skipped ++ gone } }

/-- The vale is told of a fence, a self-test or a release of one of its blocks by a CMD tally (10_pass R234). -/
def valeTell (c : ValeCmd) (b : Block) (s : State) : State :=
  match blkVale b with
  | some v => if (s.pas v).powered then hostRequest v (.cmd c) s else s
  | none => s

/-! ## QUARANTINE (R52) -/

/-- The device enters QUARANTINE. -/
def enterQuarantine (s : State) : State :=
  if s.mode = 5 then s
  else
    let s := lanesIdle (linesQuiet (s.setMode 5))
    let s := (upto 4).foldl (fun a v => lanesOff v a) s
    let s := (running s).foldl (fun a i => calAbort i a) s
    let off := s.boot.selfTest.map fun (t : SelfTest) => { t with aborted := true }
    let s := { s with boot := { s.boot with selfTest := off } }
    let s := { s with warp := { s.warp with pendStn := [], pendSched := [] } }
    s.wr R.WARP_STAT_LIVE_BUSY 0

/-! ## Fence and release (R30 to R32, R50, R51) -/

/-- A block is fenced; a core block acts as QUARANTINE (18 R390). A block that already has a fence of its own sees no
further effect; a port inside a fenced vale gets a fence of its own and nothing else changes (R51). -/
def fenceBlock (b : Block) (s : State) : State :=
  if b = .core then enterQuarantine s
  else if s.ownFence b then s
  else
    let was := s.fencedProper b
    let s := { s with boot := { s.boot with fences := b :: s.boot.fences, passes := s.boot.passes.filter (fun x => x ≠ b) } }
    let s := if was then s else valeTell (.fence b) b (fenceEffects b s)
    let s := liveSkip (assayFence s)
    if s.mode = 2 then s.setMode 3 else s

/-- The line or part of a vale's block starts again at its vale. -/
def valeResume (b : Block) (s : State) : State :=
  match b with
  | .trunk t => if s.trkFenced t then s else trkRelease t s
  | .drop d => if s.drpFenced d then s else drpStart d s
  | .vale v =>
    let s := [2 * v, 2 * v + 1].foldl (fun a t => if a.trkFenced t then a else trkRelease t a) s
    (upto 16).foldl (fun a i => if a.drpFenced (16 * v + i) then a else drpStart (16 * v + i) a) s
  | _ => s

/-- A released block: its records, its place in service, and SERVICE once no block is fenced (R50, 03_warp R68). -/
def releaseBlock (b : Block) (s : State) : State :=
  let s := { s with boot := { s.boot with
    fences := s.boot.fences.filter (fun x => x ≠ b), passes := s.boot.passes.filter (fun x => x ≠ b) } }
  let ts := match b with | .vale v => b :: (valePorts v).map portBlock | _ => [b]
  let s := ts.foldl (fun a x => if a.fencedProper x then a else targetApply x a) s
  let s := if b = .gran then s.wr R.GRAN_STAT_STATE
      (if s.rd R.GRAN_FREQ_TRAINED ≠ 0 then rungGran (s.rd R.PWR_STAT_HOST_RUNG) else 0) else s
  let s := valeTell (.release b) b (assayFree s)
  if s.mode = 3 ∧ s.boot.fences.isEmpty then s.setMode 2 else s

end Sys2Proof.Machine
end

