-- ==== Sys2Proof/Machine/PowerCore.lean ====
section
/-! DEFINITION. The power ladder: votes and targets, the answers of the clients, entries, climbs and wakes (19_power R401 to
R413). -/

namespace Sys2Proof.Machine

/-! ## Domains, votes and targets (R401, R405, R406) -/

/-- What domain `k` does: 0 the host die, 1 + v vale v. -/
def domOf (k : Nat) (s : State) : Ladder := tget .idle s.power.dom k

/-- A domain takes a step of the ladder. -/
def domPut (k : Nat) (x : Ladder) (s : State) : State :=
  { s with power := { s.power with dom := tset .idle s.power.dom k x } }

/-- The rung of a domain as PWR_STAT shows it. -/
def domRung (k : Nat) (s : State) : Nat := if k = 0 then s.rd R.PWR_STAT_HOST_RUNG else s.valeRung (k - 1)

/-- A domain is at a rung. -/
def domRungSet (k r : Nat) (s : State) : State :=
  if k = 0 then s.wr R.PWR_STAT_HOST_RUNG r
  else
    let n := s.rd R.PWR_STAT_VALE_RUNG
    s.wr R.PWR_STAT_VALE_RUNG (n - s.valeRung (k - 1) * 8 ^ (k - 1) + r % 8 * 8 ^ (k - 1))

/-- The domain takes part in the ladder: a fenced vale does not. -/
def domTakes (k : Nat) (s : State) : Bool := k = 0 || !s.isFenced (.vale (k - 1))

/-- A port's vote counts: the port is not fenced, or it is under self-test, when it votes Run (R405). -/
def portVotes (p : Nat) (s : State) : Bool := !s.fencedProper (portBlock p) || s.underTest (portBlock p)

/-- The vote of client `c`: a client under self-test votes Run, and a vote of Night counts as Keep while NIGHT_EN is 0. -/
def voteOf (c : Nat) (s : State) : Nat :=
  if 2 ≤ c ∧ c < 74 ∧ s.underTest (portBlock (c - 2)) = true then 0
  else
    let r := s.rd (R.PWR_LOWEST_LOWEST c)
    if r = 4 ∧ !s.bit R.PWR_CTL_NIGHT_EN then 3 else r

/-- The target of a domain. -/
def targetOf (k : Nat) (s : State) : Nat :=
  if !s.serving then 0
  else
    let l := if k = 0 then
        voteOf 74 s :: ((upto 4).filter fun v => domTakes (1 + v) s).map fun v => s.valeRung v
      else ((valePorts (k - 1)).filter fun p => portVotes p s).map fun p => voteOf (2 + p) s
    l.foldl min (min (voteOf 0 s) (voteOf 1 s))

/-- A live re-warp is in progress: Keep and Night are refused, "warp" (03_warp R75). -/
def liveBusy (s : State) : Bool := s.bit R.WARP_STAT_LIVE_BUSY

/-! ## The answers of the host die's clients (R407) -/

/-- A capture or a warp load stands in a segment that Night does not keep (13_memory_granary R303). -/
def nightBarred (s : State) : Bool :=
  match stageSeg s with
  | some i => !tbit (s.rd R.GRAN_SEG_NIGHT_SEG) i && (capHeld s || s.warp.stageOpen)
  | none => false

/-- A host-die block is under self-test (02_startup_modes_selftest R49). -/
def hostTest (s : State) : Bool := match s.boot.selfTest with | some t => (blkVale t.block).isNone | none => false

/-- What the clients of the host die answer to a rung: the first refusal with its client, in the order of the client
numbers and then the parts without a number, else whether one delays. -/
def hostAnswer (rung : Nat) (s : State) : Nat × Answer :=
  let queued := s.mill.queues.any fun e => !e.2.frames.isEmpty
  let paging := s.mill.queues.any fun e => decide (e.2.writing ≠ 0) || decide (e.2.fetching ≠ 0)
  if 2 ≤ rung ∧ (s.warp.stageOpen || s.sec.loadOpen) = true then (1, .refuse 0x0E)
  else if rung = 4 ∧ queued = true then (74, .refuse 8)
  else if 3 ≤ rung ∧ hostTest s = true then (0x7F, .refuse 9)
  else if rung = 4 ∧ nightBarred s = true then (0x7F, .refuse 0x0B)
  else if (s.warp.committing.isSome || s.sec.loadBusy || decide (2 ≤ rung) && paging) = true then (1, .delay)
  else (0, .accept)

/-! ## The answers of a vale's clients (R407; 05_trunk_signalling R121, R122; 08_drop_segments R191) -/

/-- A trunk's answer. -/
def trkAnswer (t rung : Nat) (s : State) : Answer :=
  let st := trkState t s
  if s.trkFenced t ∨ st = 0 ∨ st = 12 ∨ st = 14 ∨ (st = 1 ∧ (s.trk t).anPeer = false) then .accept
  else if st = 10 then (if (s.trk t).wake = 0 then .accept else .delay)
  else if st ≠ 8 then .delay
  else if !eeeInUse t s then .refuse 2
  else if rung < 2 then .accept
  else if !trkCR t s then .refuse 1
  else if (s.trk t).qw.grant.isSome then .delay
  else if !twinRested t s then .refuse 4
  else .delay

/-- A trunk that must sleep before it accepts sends SLEEP_REQ; a twin sends one for its port (R122, R164). -/
def trkSleepAsk (t rung : Nat) (s : State) : State :=
  let runs := (portTrunks t s).any fun u => (s.trk u).sleepSeq.isSome || (s.trk u).sleepNext
  if trkAnswer t rung s = .delay ∧ trkState t s = 8 ∧ (s.trk t).qw.grant.isNone ∧ (s.trk t).lch.isNone ∧ !runs then
    let n := (s.trk t).lchSeq
    (lchRequest t 2 0 none s).modTrk t fun x => { x with sleepSeq := some n, rungAsk := some rung }
  else s

/-- A part of the vale that is no port is under self-test (R407). -/
def partTest (v : Nat) (s : State) : Bool := s.underTest (.surv v) || s.underTest (.agent v)

/-- What the clients of a vale answer: the first refusal with its local index, else whether one delays. -/
def valeAnswer (v rung : Nat) (s : State) : Nat × Answer :=
  let answers := (upto 18).map fun l =>
    (l, if l < 2 then trkAnswer (2 * v + l) rung s else drpAnswer (16 * v + (l - 2)) rung s)
  match answers.find? fun a => match a.2 with | .refuse _ => true | _ => false with
  | some a => a
  | none =>
    if 3 ≤ rung ∧ partTest v s = true then (31, .refuse 9)
    else if (answers.any fun a => a.2 = .delay) ∨
        (2 ≤ rung ∧ ((running s).any fun i => itemVale i = some v) = true) then (31, .delay)
    else if 3 ≤ rung ∧ 2 ≤ (s.pas v).shadowBad then (31, .refuse 0x0C)
    else (31, .accept)

/-- What a vale does when it accepts: drops that cycle go to sleep, and a pass in FAIL_HOLD is abandoned (R191, R242,
15_surveyor R337). -/
def valeAccept (v rung : Nat) (s : State) : State :=
  let s := [2 * v, 2 * v + 1].foldl (fun a t => if trkState t a = 12 ∧ (a.trk t).surv.passRuns then survAbort t a else a) s
  let s := if rung < 2 then s else
    (upto 16).foldl (fun a i =>
      if drpState (16 * v + i) a = 2 ∧ !a.drpFenced (16 * v + i) then drpSleep (16 * v + i) a else a) s
  if 3 ≤ rung then s.modPass v fun x => { x with shadowSent := true } else s

/-- Drops of a vale in Hush or Run that were sent to sleep cycle again (R192). -/
def valeDropsUp (v : Nat) (s : State) : State :=
  if s.valeRung v ≤ 1 then
    (upto 16).foldl (fun a i => if a.drpFenced (16 * v + i) then a else drpResume (16 * v + i) a) s
  else s

/-- The vale abandons what it has been asked: its trunks drop the exchange, its drops cycle again (R409). -/
def valeRelease (v : Nat) (s : State) : State :=
  let s := s.modPass v fun x => { x with rungDelay := none, rungAns := none, shadowSent := false }
  let s := [2 * v, 2 * v + 1].foldl (fun a t => a.modTrk t fun x => { x with rungAsk := none }) s
  valeDropsUp v s

/-- The answer of a vale as code, local index and reason (10_pass R234, RUNG_RSP). -/
def answerCode (a : Nat × Answer) : Nat × Nat × Nat :=
  match a.2 with
  | .accept => (0, 31, 0)
  | .refuse r => (1, a.1, r)
  | .delay => (2, 31, 0)

/-- A vale that delays answers at last: RUNG_DONE waits for the host die (R237). -/
def valeFinal (v rung : Nat) (a : Nat × Answer) (s : State) : State :=
  let c := answerCode a
  let s := match a.2 with | .accept => valeAccept v rung s | _ => valeDropsUp v s
  (s.modPass v fun x => { x with rungDelay := none, rungAns := some (rung, c.1, c.2.1, c.2.2) }).send (.tally v 0x62 0)

/-- A vale that delays looks at its clients again. -/
def valeAgain (v : Nat) (s : State) : State :=
  match (s.pas v).rungDelay with
  | none => s
  | some rung =>
    let a := valeAnswer v rung s
    if a.2 = .delay then [2 * v, 2 * v + 1].foldl (fun b t => trkSleepAsk t rung b) s else valeFinal v rung a s

/-- A client that has refused by its own exchange ends the delay of its vale (R122). -/
def valeClientNo (c reason : Nat) (s : State) : State :=
  let p := c - 2
  match (s.pas (portVale p)).rungDelay with
  | some rung => valeFinal (portVale p) rung (localOf p, .refuse reason) s
  | none => s

/-! ## Entries (R407, R409) -/

/-- An asked entry is given up: a vale is released by a RUNG_REQ naming its rung; paging resumes (12_miller R286). -/
def domAbandon (k : Nat) (s : State) : State :=
  let s := domPut k .idle s
  if k = 0 then { s with mill := { s.mill with paused := false } }
  else hostRequest (k - 1) (.rung (s.valeRung (k - 1))) s

/-- An entry is refused: PWR_REFUSE, its event and counter; the next attempt waits (R407). -/
def domRefuse (k rung client reason : Nat) (release : Bool) (s : State) : State :=
  let s := (((s.wr R.PWR_REFUSE_RUNG rung).wr R.PWR_REFUSE_DOMAIN k).wr R.PWR_REFUSE_CLIENT client).wr
    R.PWR_REFUSE_REASON reason
  let s := (s.evt R.PWR_EVT_REFUSED).sat R.PWR_REFUSE_CNT_COUNT 1
  let s := { s with power := { s.power with barred := tset false s.power.barred k true } }
  if release ∨ k = 0 then domAbandon k s else domPut k .idle s

/-- The host die's clients are asked, or looked at again. -/
def hostTry (rung : Nat) (s : State) : State :=
  let a := hostAnswer rung s
  match a.2 with
  | .accept => domPut 0 (.committed rung) s
  | .refuse r => domRefuse 0 rung a.1 r false s
  | .delay => if domOf 0 s = .asked rung [a.1] then s else domPut 0 (.asked rung [a.1]) s

/-- RUNG_ENTRY_ATTEMPT's effect: every client of the domain is asked about its target. -/
def domAttempt (k : Nat) (s : State) : State :=
  let rung := targetOf k s
  if liveBusy s ∧ 3 ≤ rung then domRefuse k rung 0x7F 0x0A false s
  else if k = 0 then
    hostTry rung (if 2 ≤ rung then { s with mill := { s.mill with paused := true } } else s)
  else hostRequest (k - 1) (.rung rung) (domPut k (.asked rung []) s)

/-- A vale's answer reaches the power manager: it counts only for the entry that is asked. -/
def valeAnswered (v rung code l reason : Nat) (s : State) : State :=
  match domOf (1 + v) s with
  | .asked r _ =>
    if r ≠ rung then s
    else if code = 0 then domPut (1 + v) (.committed rung) s
    else if code = 1 then domRefuse (1 + v) rung (if l = 31 then 0x7F else 2 + portOf v l) reason false s
    else domPut (1 + v) (.asked r [if l = 31 then 0x7F else 2 + portOf v l]) s
  | _ => s

/-- A domain follows its target: it climbs at once, and an asked entry whose target has changed is replaced (R406, R409). -/
def domStep (k : Nat) (s : State) : State :=
  if !domTakes k s then s
  else
    let t := targetOf k s
    match domOf k s with
    | .idle => if t < domRung k s then domPut k (.climbing t) s else s
    | .asked r _ =>
      if t ≠ r then
        let s := domAbandon k s
        if t < domRung k s then domPut k (.climbing t) s else s
      else if liveBusy s ∧ 3 ≤ r then domRefuse k r 0x7F 0x0A true s
      else if k = 0 then hostTry r s else s
    | _ => s

/-! ## Transitions -/

/-- The host die reaches a rung below Run (R403, R404; 13 R303, 14 R314, 11 R251). -/
def hostEnter (r : Nat) (s : State) : State :=
  let s := s.sat (R.PWR_RUNG_CNT_COUNT r) 1
  let s := if r < 2 then s else
    let s := (upto 6).foldl (fun a n => (laneUnlock n a).wr (R.HLN_STAT_TX_IDLE n) 1) s
    { s.wr R.TIME_STAT_COARSE 1 with clock := { s.clock with coarse := true } }
  let s := if s.isFenced .gran ∨ s.rd R.GRAN_STAT_STATE < 2 then s else s.wr R.GRAN_STAT_STATE (rungGran r)
  if r = 4 then
    let keep := s.rd R.GRAN_SEG_NIGHT_SEG
    { s with gran := granLose keep s.gran }.wr R.GRAN_STAT_FILLED (Nat.land (s.rd R.GRAN_STAT_FILLED) keep)
  else s

/-- A vale reaches a rung below Run (R403; 10_pass R241, R242). -/
def valeEnter (v r : Nat) (s : State) : State :=
  let s := if r < 2 then s else valeLockSet v false (lanesOff v s)
  let s := if r < 3 then s else
    { s.wr (R.PASS_STAT_BEACON v) 1 with fabric := { s.fabric with shadow := tset [] s.fabric.shadow v s.regs } }
  if r = 4 then { s with rxBank := s.rxBank.filter fun e => e.1 / 8 ≠ v ∨ e.1 % 8 = 6 } else s

/-- A domain starts to climb to a rung (R406, R409, R411). -/
def climbTo (k r : Nat) (s : State) : State := domPut k (.climbing r) s

/-- A transition has ended: a held wake takes the domain to Run (R409). -/
def wakeNext (k : Nat) (s : State) : State :=
  if tget false s.power.wakeHeld k then
    let s := { s with power := { s.power with wakeHeld := tset false s.power.wakeHeld k false } }
    if domRung k s = 0 then s else climbTo k 0 s
  else s

/-- A committed entry is complete. -/
def domEntered (k r : Nat) (s : State) : State :=
  let s := (domRungSet k r (domPut k .idle s)).evt R.PWR_EVT_ENTERED
  wakeNext k (if k = 0 then hostEnter r s else valeEnter (k - 1) r s)

/-- The host die serves at a shallower rung: paging resumes, the reference carries the time, the granary runs, and in Run
the enabled lanes transmit again (11_host_interfaces R252). -/
def hostClimbed (r : Nat) (s : State) : State :=
  let s := if r = 0 then
      (upto 6).foldl (fun a n =>
        if a.bit (R.HLN_CTL_ENABLE n) && a.bit (R.HLN_STAT_TX_IDLE n) && !a.isFenced (.hostLane n) then
          (a.wr (R.HLN_STAT_TX_IDLE n) 0).send (.hostBurst n) else a) s
    else s
  let s := if r < 2 then
      { s with mill := { s.mill with paused := false }, clock := { s.clock with coarse := false } } else s
  if s.isFenced .gran ∨ s.rd R.GRAN_STAT_STATE < 3 then s
  else
    let s := s.wr R.GRAN_STAT_STATE (rungGran r)
    if r < 2 then { s with gran := histReset s.gran } else s

/-- A vale serves at a shallower rung: beacon mode ends, drops cycle again. -/
def valeClimbed (v r : Nat) (s : State) : State :=
  let s := if r < 3 then (s.wr (R.PASS_STAT_BEACON v) 0).modPass v fun x => { x with shadowSent := false, shadowBad := 0 } else s
  valeDropsUp v s

/-- A climb ends. -/
def domClimbed (k r : Nat) (s : State) : State :=
  let s := domRungSet k r (domPut k .idle s)
  wakeNext k (if k = 0 then hostClimbed r s else valeClimbed (k - 1) r s)

/-! ## Wakes (R410, R411) -/

/-- One domain meets a wake (R413). -/
def domWake (k : Nat) (s : State) : State :=
  if !domTakes k s then s
  else
    let hold := fun (s : State) => { s with power := { s.power with wakeHeld := tset false s.power.wakeHeld k true } }
    match domOf k s with
    | .idle => if domRung k s = 0 then s else climbTo k 0 s
    | .asked _ _ => let s := domAbandon k s; if domRung k s = 0 then s else climbTo k 0 s
    | .committed _ => hold s
    | .climbing r => if r = 0 then s else hold s

/-- A wake takes the host die and every unfenced vale to Run; trunks in SLEEP start the wake exchange. -/
def wakeAll (code : Nat) (s : State) : State :=
  let s := (((s.wr R.PWR_WAKE_LAST code).evt R.PWR_EVT_WAKE).wr R.PWR_STAT_HOLD 1)
  let s := (upto 5).foldl (fun a k => domWake k a) s
  let s := (upto 4).foldl (fun a v =>
    if a.bit (R.PASS_STAT_BEACON v) ∧ !a.isFenced (.vale v) then hostRequest v .wake a else a) s
  (upto 8).foldl (fun a t => if a.trkFenced t then a else trkWake t a) s

/-- A wake source is detected: counted, and a wake where its mask bit lets it or it has none. -/
def wakeDetect (code : Nat) (s : State) : State :=
  let s := s.sat (R.PWR_WAKE_CNT_COUNT code) 1
  if code = 6 ∨ (code < 6 ∧ tbit (s.rd R.PWR_WAKE_MASK) code = true) then wakeAll code s else s

end Sys2Proof.Machine
end

