-- ==== Sys2Proof/Machine/Settle.lean ====
section
/-! DEFINITION. What ends every step: the owed actions, the power ladder's following of its targets, and the interrupt
vectors (18_watch_faults R390, R396; 19_power R406). -/

namespace Sys2Proof.Machine

/-- One owed action. -/
def todoDo (t : Todo) (s : State) : State :=
  match t with
  | .fence b => fenceBlock b s
  | .quarantine => enterQuarantine s
  | .wake code => wakeDetect code s
  | .record src cls kind detail => s.record src cls kind detail
  | .answer client ok reason => if ok then s else valeClientNo client reason s
  | .valeWake v code => (s.modPass v fun x => { x with wakes := x.wakes ++ [code] }).send (.tally v 0x70 0)
  | .window t purpose isLocal => survWindow t purpose isLocal s
  | .abortAct t => calAbort t (survAbort t s)
  | .fenceAct t => calAbort t (survFence t s)
  | .granLost => granaryLoss s

/-- The owed actions run in order; those that they owe follow. -/
def runTodo : Nat → State → State
  | 0, s => s
  | n + 1, s =>
    match s.todo with
    | [] => s
    | t :: l => runTodo n (todoDo t { s with todo := l })

/-- A live application is over when no record waits (03_warp R75). -/
def liveEnd (s : State) : State :=
  if s.bit R.WARP_STAT_LIVE_BUSY ∧ s.warp.committing.isNone ∧ s.warp.pendStn.isEmpty ∧ s.warp.pendSched.isEmpty then
    s.wr R.WARP_STAT_LIVE_BUSY 0
  else s

/-- Vales that delay look again, and every domain follows its target. -/
def ladder (s : State) : State :=
  let s := (upto 4).foldl (fun a v => valeAgain v a) s
  (upto 5).foldl (fun a k => domStep k a) s

/-- BOOT step 10 starts once both tally lanes of every unfenced vale are locked: the vales run their BIST and the Steward
trains the granary's first point (02_startup_modes_selftest, the BOOT sequence; 13_memory_granary R305). -/
def bootVales (s : State) : State :=
  if s.mode = 0 ∧ s.boot.step = 9 ∧ ((upto 4).all fun v =>
      s.isFenced (.vale v) || (s.bit (R.PASS_STAT_TDN_LOCK v) && s.bit (R.PASS_STAT_TUP_LOCK v))) = true then
    let s := { s.wr R.STW_BOOT_STAT_STAGE 4 with boot := { s.boot with step := 10 } }
    if s.isFenced .gran then s
    else { s.wr R.GRAN_STAT_STATE 1 with gran := { s.gran with training := some 0 } }
  else s

/-! ## Interrupt vectors (18_watch_faults R396) -/

/-- Event bits, bit 0 first, as a number. -/
def evtBits (l : List Fld) (s : State) : Nat := l.foldr (fun f a => 2 * a + s.rd f) 0

/-- The event bits of a trunk. -/
def trkEvts (t : Nat) : List Fld :=
  [R.TRK_LINK_EVT_LINK_UP t, R.TRK_LINK_EVT_LINK_DOWN t, R.TRK_LINK_EVT_RETRAIN_START t, R.TRK_LINK_EVT_RETRAIN_DONE t,
   R.TRK_LINK_EVT_RETRAIN_FAIL t, R.TRK_LINK_EVT_TRAIN_FAIL t, R.TRK_LINK_EVT_SLEEP_NAK t, R.TRK_LINK_EVT_LCH_TIMEOUT t,
   R.TRK_LINK_EVT_TONE_SEEN t]

/-- The event bits of a drop. -/
def drpEvts (d : Nat) : List Fld :=
  [R.DRP_EVT_STRANGER d, R.DRP_EVT_MISPLACED d, R.DRP_EVT_JABBER d, R.DRP_EVT_JAM d, R.DRP_EVT_DUP_ID d,
   R.DRP_EVT_DUP_COORD d, R.DRP_EVT_WAKE d]

/-- The event bits of a port that are set and enabled. -/
def portEvts (p : Nat) (s : State) : Nat :=
  if p < 8 then Nat.land (evtBits (trkEvts p) s) (s.rd (R.TRK_LINK_EVT_EN_EN p))
  else Nat.land (evtBits (drpEvts (p - 8)) s) (s.rd (R.DRP_EVT_EN_EN (p - 8)))

/-- The event registers of the host die that a vector serves: bits and enables. -/
def vectorEvts (n : Nat) : List (List Fld × Fld) :=
  match n with
  | 3 => (upto 4).map fun i =>
    ([R.TWIN_EVT_PROTECTED i, R.TWIN_EVT_EXPOSED i, R.TWIN_EVT_DOWN i, R.TWIN_EVT_BOTH_BAD i, R.TWIN_EVT_JOIN_FAIL i,
      R.TWIN_EVT_WRONG_PEER i], R.TWIN_EVT_EN_EN i)
  | 8 => (upto 4).map fun v =>
    ([R.PASS_EVT_FALLBACK v, R.PASS_EVT_RS_UNC v, R.PASS_EVT_TALLY_CRC v, R.PASS_EVT_SKIPPED v, R.PASS_EVT_GIVEN_UP v,
      R.PASS_EVT_CAPACITY v, R.PASS_EVT_LANE_LOSS v], R.PASS_EVT_EN_EN v)
  | 9 => (upto 6).map fun n =>
    ([R.HLN_EVT_LOCK_GAIN n, R.HLN_EVT_RX_ABORT n, R.HLN_EVT_CHK_ERR n, R.HLN_EVT_SEQ_GAP n, R.HLN_EVT_LOCK_LOSS n],
      R.HLN_EVT_EN_EN n)
  | 10 =>
    [([R.MILL_EVT_NO_CELL, R.MILL_EVT_PANIC, R.MILL_EVT_ISO_STARVE, R.MILL_EVT_PANIC_LONG, R.MILL_EVT_PAGE_LOST,
       R.MILL_EVT_GRAN_FULL, R.MILL_EVT_DESC_ERR], R.MILL_EVT_EN_EN),
     ([R.GRAN_EVT_CORR, R.GRAN_EVT_UNC, R.GRAN_EVT_ROW_WEAK, R.GRAN_EVT_SCRUB_SLOW, R.GRAN_EVT_HOT, R.GRAN_EVT_TRN_FAIL],
       R.GRAN_EVT_EN_EN)]
  | 11 => [([R.TIME_EVT_REF_LOSS, R.TIME_EVT_STEP, R.TIME_EVT_PPS_LOST, R.TIME_EVT_VALE_UNLOCK], R.TIME_EVT_EN_EN)]
  | 12 =>
    [([R.SURV_EVT_CONTACT, R.SURV_EVT_CC_FAIL, R.SURV_EVT_SHIELD, R.SURV_EVT_ENV, R.SURV_EVT_LOOP_OPEN,
       R.SURV_EVT_CAP_DONE], R.SURV_EVT_EN_EN),
     ([R.ASSAY_EVT_DONE, R.ASSAY_EVT_REJECT, R.ASSAY_EVT_REF_BAD, R.ASSAY_EVT_REJECT_LIM], R.ASSAY_EVT_EN_EN)]
  | 13 => [([R.SEC_EVT_LC, R.SEC_EVT_CA, R.SEC_EVT_ATT, R.SEC_EVT_LOAD], R.SEC_EVT_EN_EN)]
  | 14 => [([R.PWR_EVT_REFUSED, R.PWR_EVT_WAKE, R.PWR_EVT_ENTERED, R.PWR_EVT_HOT, R.PWR_EVT_VIN_LOW], R.PWR_EVT_EN_EN)]
  | _ => []

/-- The ports whose EVT tallies a vector serves. -/
def vectorPort (n p : Nat) : Bool :=
  if p < 4 then n = 1 else if p < 8 then n = 2 else n = 4 + (p - 8) / 16

/-- The condition of a vector: an event bit set and enabled; those of trunks and drops once an EVT tally brought them. -/
def vectorOn (n : Nat) (s : State) : Bool :=
  ((vectorEvts n).any fun e => decide (Nat.land (evtBits e.1 s) (s.rd e.2) ≠ 0)) ||
    s.evtRep.any fun e => vectorPort n e.1 && decide (e.2 ≠ 0)

/-- Vectors 1 to 15 follow their conditions: a message on each rise. -/
def vectors (s : State) : State :=
  let s := { s with evtRep := (s.evtRep.map fun e => (e.1, Nat.land e.2 (portEvts e.1 s))).filter fun e => e.2 ≠ 0 }
  let now := maskOf (fun n => decide (n ≠ 0) && vectorOn n s) 16
  let rise := (upto 16).filter fun n => tbit now n && !tbit s.irq n
  { rise.foldl (fun a n => a.message n) s with irq := now }

/-- The end of every step. -/
def settle (s : State) : State := vectors (bootVales (liveEnd (runTodo 512 (ladder (runTodo 512 s)))))

/-- A command's outcome: the next state, with every owed action run. -/
def done (s : State) : Host.Outcome State Fault Refusal := .next (settle s)

end Sys2Proof.Machine
end

