-- ==== Sys2Proof/Machine/Assayer.lean ====
section
/-! DEFINITION. The Assayer: due items, the references, calibrations, acceptance, records and slews
(16_assayer_calibration R344 to R355). -/

namespace Sys2Proof.Machine

/-! ## Due items (R344, R345) -/

/-- An item falls due, or is held. -/
def effItemDue (i : Nat) (s : State) : State :=
  if itemState i s = 0 then
    itemSet i (if itemHeld i s then 5 else 1) (s.modItem i fun x => { x with dueAge := s.age })
  else s

/-- ASSAY_ITEM_DUE: R344. -/
def execAssayItemDue (i : Fin 113) (s : State) : Host.Outcome State Fault Refusal := done (effItemDue i s)

/-- An armed write of 1 to ASSAY_RUN.GO: ITEM is due at once; a trunk is forced. -/
def effAssayRun (s : State) : State :=
  let i := s.rd R.ASSAY_RUN_ITEM
  let s := effItemDue i s
  if i < 8 then s.modItem i fun x => { x with forced := true } else s

/-- An armed write of 1 to ASSAY_ACCEPT.GO. -/
def effAssayAccept (s : State) : State := s.wr (R.ASSAY_ITEM_STAT_ACCEPT_ARMED (s.rd R.ASSAY_ACCEPT_ITEM)) 1

/-! ## Places (R343, R348, R349) -/

/-- The trunk gives its slice at once: DISABLED, FAIL_HOLD or AN with no peer. -/
def slicePlain (t : Nat) (s : State) : Bool :=
  decide (trkState t s = 0) || decide (trkState t s = 12) || (decide (trkState t s = 1) && !(s.trk t).anPeer)

/-- A calibration window is in force on the trunk. -/
def calWindow (t : Nat) (s : State) : Bool :=
  match (s.trk t).qw.grant with
  | some g => g.opened && decide (g.purpose = 0)
  | none => false

/-- The lanes of a direction that are locked at their receiver. -/
def laneLocks (v : Nat) (down : Bool) (s : State) : Nat := if down then (s.pas v).dnLock else upLock v s

/-- The place of an item is available. -/
def placeOpen (i : Nat) (s : State) : Bool :=
  if i < 8 then
    !(s.trk i).surv.passRuns && !(s.trk i).surv.pulseRuns &&
      (slicePlain i s || calWindow i s || ((s.item i).forced && decide (trkState i s = 8)))
  else if i < 72 then
    let d := i - 8
    decide (drpState d s = 0) || (decide (drpState d s = 3) && decide ((s.drp d).defer = some true))
  else if i < 104 then
    let v := (itemLane i).1
    let j := (itemLane i).2
    if j < 6 then
      decide (Nat.lor (laneLocks v (decide (j < 3)) s) (2 ^ (j % 3)) = 7)
    else s.bit (R.PASS_CTL_FALLBACK_EN v) && decide (laneLocks v true s ≠ 0) && decide (laneLocks v false s ≠ 0)
  else if i < 108 then !feBusy (i - 104) s
  else true

/-- An item could start now: due, its place available, its domain in Run, the mode a fit one, nothing running there. -/
def calCan (i : Nat) (s : State) : Bool :=
  (decide (itemState i s = 1) || decide (itemState i s = 2)) && s.bit R.ASSAY_CTL_EN && !itemHeld i s &&
    decide (2 ≤ s.mode) && decide (s.mode ≤ 4) && decide (s.rd R.PWR_STAT_HOST_RUNG = 0) &&
    (match itemVale i with | some v => decide (s.valeRung v = 0) | none => true) && !itemBusy i s && placeOpen i s &&
    decide ((s.item i).writing = none)

/-- The order of R345: kinds 2, 0, 1, 3, 4, then the item due first. -/
def calOrder (i : Nat) (s : State) : Nat × Nat :=
  ((match itemKind i with | 2 => 0 | 0 => 1 | 1 => 2 | 3 => 3 | _ => 4), (s.item i).dueAge)

/-- No other item of the same die that could start comes before this one. -/
def calFirst (i : Nat) (s : State) : Bool :=
  (upto 113).all fun j => itemVale j ≠ itemVale i || !calCan j s ||
    (let a := calOrder i s
     let b := calOrder j s
     decide (a.1 < b.1) || (decide (a.1 = b.1) && decide (a.2 ≤ b.2)))

/-! ## References (R346, R347) -/

/-- CALREF lies between 1.2375 V and 1.2625 V, in units of 50 µV. -/
def calrefOk (r : Nat) : Bool := decide (24750 ≤ r) && decide (r ≤ 25250)

/-- A reading of CALREF; one out of range is an event. -/
def calrefTake (r : Nat) (s : State) : State :=
  let s := s.wr R.ASSAY_REF_CALREF r
  if calrefOk r then s.wr R.ASSAY_STAT_REF_OK 1
  else ((s.wr R.ASSAY_STAT_REF_OK 0).evt R.ASSAY_EVT_REF_BAD).recordFree 7 1 0x48 none

/-- TREF: REFCLK in use, else PPS_IN with an edge accepted within 1.5 s, else none. -/
def trefShow (s : State) : State :=
  s.wr R.ASSAY_STAT_TREF
    (if s.bit R.TIME_STAT_REF_ACT then 2
     else if s.bit R.TIME_CTL_PPS_IN_EN &&
       (match s.clock.ppsAt with | some a => decide (s.age ≤ a + 3 * second / 2) | none => false) then 1 else 0)

/-- CALREF_RECHECK: measured again while it is out of range or a calibration runs; a reading out of range aborts every
amplitude calibration (R346, R356). -/
def effCalref (r : Nat) (s : State) : State :=
  if s.bit R.ASSAY_STAT_REF_OK && (running s).isEmpty then s
  else if calrefOk r then calrefTake r s
  else if s.bit R.ASSAY_STAT_REF_OK then
    ((running s).filter fun i => itemKind i ≠ 2).foldl (fun a i => calAbort i a) (calrefTake r s)
  else s.wr R.ASSAY_REF_CALREF r

/-- CALREF_RECHECK: R346. -/
def execCalrefRecheck (calref : BitVec 16) (s : State) : Host.Outcome State Fault Refusal := done (effCalref calref.toNat s)

/-! ## Calibrations (R345, R348, R349) -/

/-- The vale's agent interrupts the item: a forced trunk in DATA cuts its frames as a retrain does (05_trunk_signalling
R119), a pass lane is reported unlocked. -/
def calInterrupt (i : Nat) (s : State) : State :=
  if i < 8 then
    let s := if trkState i s = 8 ∧ !calWindow i s then
        let x := s.trk i
        let s := if x.bank4.isEmpty then s else
          ((x.bank4.take 1).foldl (fun a f => frameLost i f a) (s.sat (R.TRK_TX_ABORT_CNT_COUNT i) 1)).modTrk i fun x =>
            { x with bank4 := x.bank4.drop 1 }
        if x.rxPart then (s.sat (R.TRK_RX_ABORT_CNT_COUNT i) 1).modTrk i fun x => { x with rxPart := false } else s
      else s
    s.modTrk i fun x => { x with calibrating := true }
  else if 72 ≤ i ∧ i < 104 then
    let v := (itemLane i).1
    let j := (itemLane i).2
    if j < 3 then laneDrop v true j s
    else if j < 6 then laneDrop v false (j - 3) s
    else
      let s := if j = 6 then s.wr (R.PASS_STAT_TDN_LOCK v) 0 else s.wr (R.PASS_STAT_TUP_LOCK v) 0
      (s.wr (R.PASS_STAT_FALLBACK v) 1).evt (R.PASS_EVT_FALLBACK v)
  else s

/-- CALIBRATION_START: the next item of a die starts, after CALREF is checked; a vale's agent is commanded by CMD. -/
def effCalStart (i r : Nat) (s : State) : State :=
  if itemHeld i s then (if itemState i s = 1 ∨ itemState i s = 2 then itemSet i 5 s else s)
  else if calCan i s && calFirst i s then
    let s := trefShow (calrefTake r s)
    if !calrefOk r then itemSet i 2 s
    else
      let s := busySet i true (itemSet i 3 (s.modItem i fun x => { x with calref := r }))
      match itemVale i with
      | some v => hostRequest v (.cmd (.assay i true)) s
      | none => s.send (.calibrate i)
  else if itemState i s = 1 then itemSet i 2 s else s

/-- CALIBRATION_START: R345, R346. -/
def execCalibrationStart (i : Fin 113) (calref : BitVec 16) (s : State) : Host.Outcome State Fault Refusal :=
  done (effCalStart i calref.toNat s)

/-- The vale executes a command of the Assayer's agent: CMD_RSP 0 accepted, 1 refused. -/
def valeAssay (i : Nat) (start : Bool) (s : State) : Nat × State :=
  if !start then (0, calAbort i s)
  else if itemState i s = 3 ∧ !itemHeld i s then (0, (calInterrupt i s).send (.calibrate i)) else (1, s)

/-! ## Results (R350, R351) -/

/-- A result is rejected. -/
def calReject (i : Nat) (s : State) : State :=
  let s := ((s.wr (R.ASSAY_ITEM_STAT_LAST_REJ i) 1).evt R.ASSAY_EVT_REJECT).sat (R.ASSAY_ITEM_STAT_REJ_CNT i) 1
  let s := (s.sat (R.ASSAY_ITEM_STAT_CONSEC_REJ i) 1).recordFree 7 1 0x49 none
  if s.rd (R.ASSAY_ITEM_STAT_CONSEC_REJ i) = s.rd R.ASSAY_CTL_REJ_LIM then
    (s.evt R.ASSAY_EVT_REJECT_LIM).recordFree (itemSrc i) 2 0x4A none
  else s

/-- CALIBRATION_DONE: the result is accepted and goes to flash, or is rejected. -/
def effCalDone (i : Nat) (res : List CalVal) (temp : Int) (s : State) : State :=
  if itemState i s ≠ 3 then s
  else
    let x := s.item i
    let s := (calOff i (busySet i false (itemSet i 0 s))).wr R.ASSAY_STAT_LAST_ITEM i
    let s := assayDone i 0 (s.modItem i fun x => { x with forced := false })
    let skip := s.bit (R.ASSAY_ITEM_STAT_NOREC i) || s.bit (R.ASSAY_ITEM_STAT_ACCEPT_ARMED i) || x.stored.isEmpty
    let s := s.wr (R.ASSAY_ITEM_STAT_ACCEPT_ARMED i) 0
    if rangeOk res && (skip || repeatOk res x.stored) then
      let s := (s.wr (R.ASSAY_ITEM_STAT_LAST_REJ i) 0).wr (R.ASSAY_ITEM_STAT_CONSEC_REJ i) 0
      (s.evt R.ASSAY_EVT_DONE).modItem i fun x => { x with writing := some (res, temp) }
    else calReject i s

/-- CALIBRATION_DONE: R350, R351. -/
def execCalibrationDone (i : Fin 113) (res : List CalVal) (temp : Int) (s : State) : Host.Outcome State Fault Refusal :=
  done (effCalDone i res temp s)

/-! ## Records and slews (R352 to R355) -/

/-- CAL_RECORD_WRITTEN: the record stands in the copy that did not hold the higher COUNT and the corrections start to
move; a failed write raises REJECT and the class C event alone. -/
def effCalWritten (i : Nat) (ok : Bool) (s : State) : State :=
  match (s.item i).writing with
  | none => s
  | some (l, temp) =>
    if ok then
      let s := ((s.sat (R.ASSAY_ITEM_COUNT_COUNT i) 1).wr (R.ASSAY_ITEM_LAST_SEC i) s.time.sec).wr
        (R.ASSAY_ITEM_STAT_NOREC i) 0
      let s := s.modItem i fun x => { x with
        stored := l, temp := temp, slewFrom := x.inForce, steps := 0, writing := none, copyB := !x.copyB }
      let s := itemSet i 4 s
      if itemHeld i s then slewEnd i s else s
    else
      ((s.modItem i fun x => { x with writing := none }).evt R.ASSAY_EVT_REJECT).recordFree 7 1 0x49 none

/-- CAL_RECORD_WRITTEN: R353, R354. -/
def execCalRecordWritten (i : Fin 113) (ok : Bool) (s : State) : Host.Outcome State Fault Refusal :=
  done (effCalWritten i ok s)

/-- CAL_SLEW_STEP: one of 256 steps, in Run and Hush. -/
def effSlewStep (i : Nat) (s : State) : State :=
  let rung := match itemVale i with | some v => s.valeRung v | none => s.rd R.PWR_STAT_HOST_RUNG
  if itemState i s = 4 ∧ rung < 2 then
    let x := s.item i
    let n := x.steps + 1
    if 256 ≤ n then slewEnd i s
    else corrShow i (s.modItem i fun x => { x with steps := n, inForce := slewValues x.slewFrom x.stored n })
  else s

/-- CAL_SLEW_STEP: R355. -/
def execCalSlewStep (i : Fin 113) (s : State) : Host.Outcome State Fault Refusal := done (effSlewStep i s)

end Sys2Proof.Machine
end

