-- ==== Sys2Proof/Machine/Reset.lean ====
section
/-! DEFINITION. What a reset keeps (02_startup_modes_selftest R33 to R36; 17_security R365; 18_watch_faults R393, R400). -/

namespace Sys2Proof.Machine

/-- The registers that fuses and flash hold: life cycle, anti-rollback count, fused authority, public key, security
counters, and the records of the calibration items (17_security; 16_assayer R352, R354). -/
def flashIds : List Nat :=
  [R.SEC_LC_STATE.id, R.SEC_STAT_FW_VER_FUSE.id, R.SEC_STAT_AUTH_FUSED.id, (R.SEC_ID_PUB_KEY 0).id,
   (R.SEC_CNT_COUNT 0).id, (R.ASSAY_ITEM_STAT_NOREC 0).id, (R.ASSAY_ITEM_COUNT_COUNT 0).id,
   (R.ASSAY_ITEM_LAST_SEC 0).id, R.SEC_TAMPER_ACTIVE.id]

/-- The tamper latch, which only loss of VIN and BOOT step 3 clear. -/
def tamperIds : List Nat := [R.SEC_TAMPER_LATCH.id, R.SEC_TAMPER_SRC.id]

/-- What a warm reset keeps besides: the fields marked RWS, the always-on timer, the SEQ of the log, and the D-state of the
endpoint's configuration space. -/
def warmIds : List Nat :=
  stickyIds ++ tamperIds ++ flashIds ++
    [R.PWR_TIMER_CTL_EN.id, R.PWR_TIMER_CTL_PERIODIC.id, R.PWR_TIMER_CTL_EXPIRED.id, R.PWR_TIMER_TICKS_TICKS.id,
     R.PWR_TIMER_LEFT_LEFT.id, R.WATCH_LOG_HEAD_SEQ.id, R.MGMT_PCIE_STAT_DSTATE.id]

/-- SEC_SCI after a reset: octets 0 to 5 of the device tag, bit 1 of octet 0 set and bit 0 clear. -/
def sciReset (s : State) : State :=
  let o := bytesOf 8 s.sec.devTag
  let n := fun (i : Nat) => (o.getD i 0).toNat
  let first := n 0 / 4 * 4 + 2
  (s.wr (R.SEC_SCI_MAC 0) (first * 2 ^ 24 + n 1 * 2 ^ 16 + n 2 * 2 ^ 8 + n 3)).wr (R.SEC_SCI_MAC 1)
    (n 4 * 2 ^ 24 + n 5 * 2 ^ 16)

/-- What flash holds of a calibration item is in force again. -/
def itemReset (x : Item) : Item :=
  { temp := x.temp, calref := x.calref, stored := x.stored, inForce := x.stored, copyB := x.copyB }

/-- The state after a reset that keeps the registers of `ids`: flash and fuses stand, and all else is as after power-up.
The age, the free values used and what has left the block are the model's own and go on. -/
def resetKeeping (ids : List Nat) (s : State) : State :=
  let items : Tbl Item := (s.items.map fun e => (e.1, itemReset e.2)).filter fun e => decide (e.2 ≠ {})
  let sec : Sec := { devTag := s.sec.devTag, storageKey := s.sec.storageKey, storageDead := s.sec.storageDead,
                     store := s.sec.store, floor := s.sec.floor, fw := s.sec.fw }
  let boot : Boot := { step := 1, startAt := s.age, repairs := s.boot.repairs, unusable := s.boot.unusable }
  let gran : Gran := { epoch := s.gran.epoch + 1 }
  let warp : Warp := { slots := s.warp.slots, floor := s.warp.floor }
  let new : State := {}
  items.foldl (fun a e => corrShow e.1 a) (sciReset { new with
    regs := s.regs.filter fun e => ids.contains e.1,
    boot := boot, warp := warp, gran := gran, items := items, sec := sec, archive := s.archive,
    age := s.age, freeCtr := s.freeCtr, out := s.out, pending := s.pending })

/-- A cold reset: by RESET_N, or by VIN, which clears the tamper latch as well (R33, R35). -/
def coldReset (pin : Bool) (s : State) : State :=
  let t := resetKeeping (if pin then tamperIds ++ flashIds else flashIds) s
  if pin then (t.wr R.STW_RESET_CAUSE_POWER 0).wr R.STW_RESET_CAUSE_PIN 1 else t

/-- A warm reset with its cause: BOOT reruns from step 3 (R34, R35). -/
def warmReset (cause : Fld) (s : State) : State :=
  let s := (s.wr cause 1).setMode 0
  let t := resetKeeping warmIds s
  let watch : Watch := { ring := s.watch.ring, toArchive := s.watch.toArchive }
  let power : Power := { wakeNOff := s.power.wakeNOff, timerEnd := s.power.timerEnd }
  let mgmt : Mgmt := { cmd := s.mgmt.cmd, bar0 := s.mgmt.bar0, d3 := s.mgmt.d3, devCtl := s.mgmt.devCtl, table := s.mgmt.table }
  { t with
    boot := { t.boot with step := 2 }, time := s.time, watch := watch, power := power, mgmt := mgmt,
    msixOff := s.msixOff, msixMask := s.msixMask, msixPend := s.msixPend }

/-- The cause of a warm reset asked for by STW_RESET_CTL.WARM. -/
def warmCause (s : State) : Fld :=
  if s.mode = 5 then R.STW_RESET_CAUSE_QUAR_EXIT
  else if s.mode = 4 then R.STW_RESET_CAUSE_MAINT_EXIT else R.STW_RESET_CAUSE_HOST_WARM

end Sys2Proof.Machine
end

