-- ==== Sys2Proof/Machine/SecCore.lean ====
section
/-! DEFINITION. The strongroom, tamper and the key store (17_security R360 to R366). -/

namespace Sys2Proof.Machine

/-- The CAs in use. -/
def casUsed (s : State) : List Nat := (tget [] s.regs (R.MSEC_STAT_STATE 0).id).map fun e => e.1

/-- A CA has no SAK any longer; MKA goes on. -/
def caNoSak (e : Nat) (s : State) : State :=
  caState e 1 (s.modCa e fun x => { x with rx := [], newAn := none, oldAn := none, txReady := false })

/-- The strongroom and the key registers of the MACsec engine are wiped: every CA has no SAK (R362). -/
def roomWipe (s : State) : State :=
  let s := { s with sec := { s.sec with room := [] } }.wr R.SEC_STAT_ID_VALID 0
  (casUsed s).foldl (fun a e => caNoSak e a) s

/-- The strongroom loads from the key store where a life-cycle state has keys and no tamper latch stands (R359, R361,
R365); `ok` says whether the store's tag verifies. -/
def keyLoad (ok : Bool) (s : State) : State :=
  if (s.rd R.SEC_LC_STATE ≠ 1 ∧ s.rd R.SEC_LC_STATE ≠ 2) ∨ s.bit R.SEC_TAMPER_LATCH ∨ s.boot.keyReadOff then s
  else if ok ∧ s.sec.storageKey ∧ !s.sec.storageDead then
    let s := { s with sec := { s.sec with room := s.sec.store } }
    (s.wr R.SEC_STAT_KEYSTORE_OK 1).wrb R.SEC_STAT_ID_VALID (s.sec.store.any fun k => k.type = 0)
  else (s.wr R.SEC_STAT_KEYSTORE_OK 0).recordFree 5 2 0x51 none

/-- A tamper source is enabled (R366). -/
def tamperOn (src : Nat) (s : State) : Bool := s.sec.lcNow = 2 || tbit (s.rd R.SEC_TAMPER_EN) src

/-- A tamper source fires; `active` says whether it stays active. -/
def effTamper (src : Nat) (active : Bool) (s : State) : State :=
  let s := s.wr R.SEC_TAMPER_ACTIVE (setBit (s.rd R.SEC_TAMPER_ACTIVE) src active)
  if !tamperOn src s then s
  else
    let first := !s.bit R.SEC_TAMPER_LATCH
    let s := (s.wr R.SEC_TAMPER_LATCH 1).wr R.SEC_TAMPER_SRC (setBit (s.rd R.SEC_TAMPER_SRC) src true)
    if first then
      ((roomWipe s).sat (R.SEC_CNT_COUNT 0) 1).recordFree 5 3 0x50 (some 4)
    else s

/-- BOOT step 3: the latch clears where no source is active, else BOOT is bound for QUARANTINE. A device in SCRAPPED is
bound for it at every BOOT (R359, R365). -/
def tamperBoot (active : Nat) (s : State) : State :=
  let s := s.wr R.SEC_TAMPER_ACTIVE active
  let on := (upto 5).any fun i => tbit active i && tamperOn i s
  let s := if s.bit R.SEC_TAMPER_LATCH ∧ !on then (s.wr R.SEC_TAMPER_LATCH 0).wr R.SEC_TAMPER_SRC 0 else s
  if s.bit R.SEC_TAMPER_LATCH ∨ s.sec.lcNow = 4 then { s with boot := { s.boot with bound := true } } else s

end Sys2Proof.Machine
end

