-- ==== Sys2Proof/Machine/BootCore.lean ====
section
/-! DEFINITION. Operations of BOOT, the modes and self-test (02_startup_modes_selftest R33 to R52). -/

namespace Sys2Proof.Machine

/-! ## Failures of BIST (R40 to R42) -/

/-- The blocks that a failure takes out of service: a vale bank other than 4 and 6 its writing masters, all else itself. -/
def bistTargets (f : BistFail) : List Block :=
  match f.block, f.bank with
  | .vale v, some b => if b = 4 ∨ b = 6 then [.vale v] else (bankMasters v b).map srcBlock
  | b, _ => [b]

/-- The source of a failing block. -/
def bistSrc (f : BistFail) (b : Block) : Nat := if b = .core ∧ srcBlock f.src = .core then f.src else blockSrc b

/-- A failed memory: a repair is recorded where the redundancy suffices and none stands already, else it is unusable. -/
def memFail (f : BistFail) (s : State) : State :=
  if !f.memory then s
  else
    let had := s.boot.repairs.any fun r => r.1 = f.block ∧ r.2.1 = f.memId
    let mark := if s.boot.unusable.contains (f.block, f.memId) then s.boot.unusable
      else s.boot.unusable ++ [(f.block, f.memId)]
    if had ∨ !f.repairable then { s with boot := { s.boot with unusable := mark } }
    else { s with boot := { s.boot with repairs := s.boot.repairs ++ [(f.block, f.memId, true)] } }

/-- A block fails the BOOT self-test: event of kind 0x58 and the outcome of R41. -/
def bistBlock (f : BistFail) (b : Block) (s : State) : State :=
  let x := s.free 32
  let s := x.2.recordWith (bistSrc f b) (if b = .core then 3 else 2) 0x58 x.1 none false
  if b = .core then { s with boot := { s.boot with bound := true } } else s.owe (.fence b)

/-- One failure. -/
def bistFail (f : BistFail) (s : State) : State :=
  (bistTargets f).foldl (fun a b => bistBlock f b a) ((memFail f s).wr R.STW_BOOT_STAT_BIST_FAIL 1)

/-- The first failing memory shows in STW_SELFTEST_STAT and STW_SELFTEST_FAIL. -/
def failShow (l : List BistFail) (s : State) : State :=
  match l.find? fun f => f.memory with
  | some f => ((s.wr R.STW_SELFTEST_STAT_MEM_ID f.memId).wr R.STW_SELFTEST_FAIL_BIT f.bit).wr R.STW_SELFTEST_FAIL_ADDR f.addr
  | none => s

/-- A BIST of some blocks ends: failures take effect, and memories of these blocks that pass are usable again. -/
def bistEnd (mine : Block → Bool) (fails : List BistFail) (s : State) : State :=
  let l := fails.filter fun f => mine f.block
  let left := s.boot.unusable.filter fun u =>
    !mine u.1 || l.any fun f => f.memory && decide (f.block = u.1) && decide (f.memId = u.2)
  let s := { s with boot := { s.boot with unusable := left } }
  failShow l (l.foldl (fun a f => bistFail f a) s)

/-! ## The BOOT steps (R36 to R39) -/

/-- The boot ROM starts: fuses, repair record, the wiped strongroom, and the register fabric (steps 3 and 4). -/
def effRomStart (active : Nat) (s : State) : State :=
  if s.mode ≠ 0 ∨ 2 < s.boot.step then s
  else
    let n := (s.boot.repairs.filter fun r => r.2.2).length
    let done := s.boot.repairs.map fun r => (r.1, r.2.1, false)
    let s := { s with boot := { s.boot with step := 4, repairs := done }, sec := { s.sec with lcNow := s.rd R.SEC_LC_STATE } }
    tamperBoot active ((s.wr R.STW_BOOT_STAT_REPAIRS (min 15 n)).wr R.STW_BOOT_STAT_STAGE 1)

/-- Host-die BIST ends (steps 5 and 6). -/
def effHostSelftest (fails : List BistFail) (s : State) : State :=
  if s.mode ≠ 0 ∨ s.boot.step ≠ 4 then s
  else
    let s := bistEnd (fun b => (blkVale b).isNone) fails s
    { s.wr R.STW_BOOT_STAT_STAGE 2 with boot := { s.boot with step := 6 } }

/-- Word `i` of a firmware slot. -/
def fwWord (k i : Nat) (s : State) : Nat := ((tget [] s.sec.fw k).getD i 0).toNat

/-- VERSION of a firmware slot. -/
def fwVersion (k : Nat) (s : State) : Nat := fwWord k 1 s % 65536

/-- A slot whose COMMIT word stands is tried: does it verify? -/
def fwTried (k : Nat) (s : State) : Bool := fwWord k 2 s = 0x5A5AC3C3

/-- The slot verifies: its signature and its version. -/
def fwOk (k : Nat) (sig : Bool) (s : State) : Bool := sig && decide (s.rd R.SEC_STAT_FW_VER_FUSE ≤ fwVersion k s)

/-- The Steward starts from a slot: the key store loads and the vale transformers are powered (steps 8 and 9). -/
def stewardStart (k : Nat) (storeOk : Bool) (s : State) : State :=
  let s := ((s.wr R.STW_BOOT_STAT_FW_SLOT k).wr R.SEC_STAT_FW_VER_RUN (fwVersion k s)).wr R.STW_BOOT_STAT_STAGE 3
  let s := { s with boot := { s.boot with step := 9 } }
  let s := (upto 4).foldl (fun a v => a.modPass v fun x => { x with powered := true }) s
  keyLoad storeOk s

/-- The ROM has checked the firmware slots (R38). -/
def effFwVerify (sig1 sig2 storeOk : Bool) (s : State) : State :=
  if s.mode ≠ 0 ∨ s.boot.step ≠ 6 then s
  else
    let fail := fun (k : Nat) (s : State) => if fwTried k s then s.sat (R.SEC_CNT_COUNT 1) 1 else s
    if fwTried 1 s ∧ fwOk 1 sig1 s then stewardStart 1 storeOk s
    else
      let s := fail 1 s
      if fwTried 2 s ∧ fwOk 2 sig2 s then stewardStart 2 storeOk s
      else { (fail 2 s).wr R.STW_BOOT_STAT_STAGE 8 with boot := { s.boot with step := 7 } }

/-- The vales have ended their BIST (step 10). -/
def effValeSelftest (fails : List BistFail) (s : State) : State :=
  if s.mode ≠ 0 ∨ s.boot.step ≠ 10 then s
  else
    let s := bistEnd (fun b => (blkVale b).isSome) fails s
    { s.wr R.STW_BOOT_STAT_STAGE 5 with boot := { s.boot with step := 11 } }

/-! ## Selecting and applying the warp (03_warp R60, R61, R64, R68) -/

/-- The order in which the slots are tried: 1 A, 2 B, 3 Golden. -/
def slotOrderBoot (s : State) : List Nat :=
  let a := imgSeq (tget [] s.warp.slots 1)
  let b := imgSeq (tget [] s.warp.slots 2)
  let l := if a < b then [2, 1] else [1, 2]
  let once := s.rd R.WARP_BOOT_PREF_ONCE
  let l := if once = 0 then l else once :: l.filter fun k => k ≠ once
  if l.contains 3 then l else l ++ [3]

/-- The field that shows a slot's result. -/
def reasonFld (k : Nat) : Fld :=
  if k = 1 then R.WARP_STAT_REASON_A else if k = 2 then R.WARP_STAT_REASON_B else R.WARP_STAT_REASON_G

/-- Try slots in order until one passes; `v` gives what the keys decide about each. -/
def trySlots (v : Nat → Verdict) : List Nat → State → Option WImage × State
  | [], s => (none, s)
  | k :: l, s =>
    let img := tget [] s.warp.slots k
    let r := warpCheck k false img (v k) s
    let s := s.wr (reasonFld k) r.1
    let s := if r.1 = 6 ∨ r.1 = 7 then s.sat (R.SEC_CNT_COUNT 2) 1 else s
    if r.1 = 0 then (some { slot := k, words := img, recs := r.2 }, s) else trySlots v l s

/-- The Steward selects a warp, or the device enters PROVISION, or QUARANTINE where BOOT is bound for it (step 11). -/
def effWarpSelect (v : Nat → Verdict) (s : State) : State :=
  if s.mode ≠ 0 ∨ s.boot.step ≠ 11 then s
  else
    let s := s.wr R.WARP_FLOOR_FLOOR s.warp.floor
    let order := slotOrderBoot s
    let r := trySlots v order ([1, 2, 3].foldl (fun a k => a.wr (reasonFld k) 15) (s.wr R.WARP_BOOT_PREF_ONCE 0))
    match r.1 with
    | some img =>
      { r.2.wr R.STW_BOOT_STAT_STAGE 6 with boot := { r.2.boot with step := 12 }, warp := { r.2.warp with selected := some img } }
    | none =>
      let s := { r.2.wr R.STW_BOOT_STAT_STAGE 7 with boot := { r.2.boot with step := 13 } }
      if s.boot.bound then enterQuarantine s else s.setMode 1

/-- Unfenced lines leave the quiet state, and enabled lanes electrical idle (step 13). -/
def linesStart (s : State) : State :=
  let s := (upto 8).foldl (fun a t => trkStart t a) s
  let s := (upto 64).foldl (fun a d => drpStart d a) s
  (upto 6).foldl (fun a n =>
    if a.bit (R.HLN_CTL_ENABLE n) ∧ !a.isFenced (.hostLane n) then (a.wr (R.HLN_STAT_TX_IDLE n) 0).send (.hostBurst n) else a) s

/-- The records of an image take effect in order, but for those whose target is fenced, which are kept for its release. -/
def warpApply (img : WImage) (s : State) : State :=
  let seq := imgSeq img.words
  let skip := recSkip s
  let l := (dryPass seq skip img.recs).1
  let s := { s with warp := { s.warp with
    running := img.recs, runSeq := seq, skipped := (l.filter fun r => skip (r.type, r.inst)).map fun r => (r.type, r.inst) } }
  let s := (l.filter fun r => !skip (r.type, r.inst)).foldl (fun a r => recApply r a) s
  showHash R.WARP_HASH_HASH (warpHash img.words)
    (warpReport ((s.wr R.WARP_STAT_SLOT img.slot).wr R.WARP_SEQ_SEQ seq))

/-- A warp from A or B raises the floor (R61). -/
def floorRaise (img : WImage) (s : State) : State :=
  if img.slot = 3 then s
  else
    let f := max s.warp.floor (wGet img.recs 2 0 1 0 0)
    { s.wr R.WARP_FLOOR_FLOOR f with warp := { s.warp with floor := f } }

/-- The warp has been applied and BOOT ends (steps 12 and 13). -/
def effWarpApply (s : State) : State :=
  match s.warp.selected with
  | none => s
  | some img =>
    if s.mode ≠ 0 ∨ s.boot.step ≠ 12 then s
    else
      let s := floorRaise img ((warpApply img s).wr R.WARP_STAT_APPLIED 1)
      let s := { s.wr R.STW_BOOT_STAT_STAGE 7 with
        boot := { s.boot with step := 13, reactionsLive := true }, warp := { s.warp with selected := none } }
      let s := if s.fencedProper .macsec then fenceEffects .macsec s else s
      if s.boot.bound then enterQuarantine s
      else linesStart (s.setMode (if s.boot.fences.isEmpty then 2 else 3))

/-! ## Modes (R43, R44, R46) -/

/-- A write of 1 to STW_MODE_REQ.MAINT, which is served or refused at once. -/
def effMaint (s : State) : State :=
  let s := s.wr R.STW_MODE_REQ_MAINT 0
  if s.mode = 2 ∨ s.mode = 3 then lanesIdle (linesQuiet (s.setMode 4))
  else if s.mode = 4 then s else s.wr R.STW_MODE_REQ_REFUSED 1

/-- A write of 1 to STW_MODE_REQ.EXIT_MAINT in MAINTENANCE. -/
def effExitMaint (s : State) : State :=
  if s.mode = 4 then warmReset R.STW_RESET_CAUSE_MAINT_EXIT s else s.wr R.STW_MODE_REQ_EXIT_MAINT 0

/-- A write of 1 to STW_SCAN_CTL.REQ in MAINTENANCE: the Steward wipes the strongroom, the MACsec keys and the packet
store, whose frames count in DISC[2]; REQ stands until the wipe has been read back. -/
def effScanReq (s : State) : State :=
  if s.mode ≠ 4 then s.wr R.STW_SCAN_CTL_REQ 0
  else (s.mill.queues.map fun e => e.1).foldl (fun a q => flushQueue q 2 a) (roomWipe s)

/-- The wipe has been read back. -/
def effScanWiped (ok : Bool) (s : State) : State :=
  if s.mode ≠ 4 ∨ !s.bit R.STW_SCAN_CTL_REQ then s
  else
    let s := s.wr R.STW_SCAN_CTL_REQ 0
    if ok then
      let s := (s.wr R.STW_SCAN_CTL_WIPED 1).wr R.STW_SCAN_CTL_SCAN_EN 1
      { s with boot := { s.boot with keyReadOff := true } }
    else (s.wr R.STW_SCAN_CTL_REFUSED 1).recordFree 5 3 0x52 none

/-! ## Self-test and release (R48 to R51) -/

/-- The block that KIND and INDEX name. -/
def testBlock (kind index : Nat) : Option Block :=
  if kind = 0 ∧ index < 8 then some (.trunk index)
  else if kind = 1 ∧ index < 64 then some (.drop index)
  else if kind = 2 ∧ index < 4 then some (.vale index)
  else if kind = 3 ∧ index < 6 then some (.hostLane index)
  else if kind = 4 ∧ index = 0 then some .gran
  else if kind = 5 ∧ index < 4 then some (.surv index)
  else if kind = 6 ∧ index = 0 then some .macsec
  else if kind = 7 ∧ index = 0 then some .assayer
  else if kind = 8 ∧ index = 0 then some .pcie
  else if kind = 9 ∧ index < 4 then some (.agent index)
  else none

/-- Every queue of a port is empty: its egress queues, and no ingress queue holds a frame of it. -/
def portEmpty (p : Nat) (s : State) : Bool :=
  s.mill.queues.all fun e => e.2.frames.isEmpty ||
    (!portQueue p e.1 && (decide (e.1 < 4160) || e.2.frames.all fun f => decide (f.port ≠ p)))

/-- A port is idle. -/
def portIdle (p : Nat) (s : State) : Bool :=
  portEmpty p s &&
    (if p < 8 then !s.bit (R.TRK_CTL_ENABLE p) && !s.bit (R.TRK_STAT_LINK_UP p)
     else !s.bit (R.DRP_CTL_ENABLE (p - 8)) && decide (drpState (p - 8) s = 0))

/-- An item of the Assayer runs or slews. -/
def itemMoves (i : Nat) (s : State) : Bool := decide (itemState i s = 3) || decide (itemState i s = 4)

/-- A block is idle in SERVICE and DEGRADED. -/
def blockIdle (b : Block) (s : State) : Bool :=
  match b with
  | .trunk t => portIdle t s
  | .drop d => portIdle (8 + d) s
  | .vale v => (valePorts v).all fun p => portIdle p s
  | .hostLane n => !s.bit (R.HLN_CTL_ENABLE n) || !laneUp n s
  | .gran =>
    !s.bit R.MILL_CTL_PAGE_EN && decide (s.rd R.MILL_PAGE_STAT_BALES_USED = 0) && !s.warp.stageOpen &&
      s.warp.committing.isNone && !capHeld s
  | .surv v => !feBusy v s && (upto 2).all fun i =>
      let x := (s.trk (2 * v + i)).surv
      !x.passDue && !x.loopOnly && !x.pulsePend && x.loopMine.isNone
  | .macsec => (casUsed s).isEmpty
  | .assayer => !s.bit R.ASSAY_CTL_EN && (upto 113).all fun i => !itemMoves i s
  | .agent v => ((upto 113).all fun i => itemVale i ≠ some v || !itemMoves i s) &&
      (upto 2).all fun i => !(s.trk (2 * v + i)).surv.pulseRuns
  | .pcie | .core => false

/-- The start is refused: the first reason that applies, 0 for none. -/
def testRefuse (p : Port) (b : Option Block) (s : State) : Nat :=
  if s.mode ≠ 2 ∧ s.mode ≠ 3 ∧ s.mode ≠ 4 then 4
  else match b with
  | none => 2
  | some b =>
    if s.boot.selfTest.isSome then 3
    else if s.fencedProper b then 0
    else if b = .pcie then (if s.mode = 4 ∧ p = .spi then 0 else 1)
    else if s.mode = 4 ∨ blockIdle b s then 0 else 1

/-- A self-test of a block starts: it is held as fenced; its contents and link are lost with it. -/
def testStart (b : Block) (s : State) : State :=
  let was := s.fencedProper b
  let s := { s with boot := { s.boot with selfTest := some { block := b, wasFenced := was, aborted := false } } }
  let s := match b with
    | .gran => { (granFence s).wr R.GRAN_STAT_FILLED 0 with gran := granUndef (granFence s).gran }
    | .pcie => s.wr R.MGMT_PCIE_STAT_LINK_UP 0
    | .vale v => s.modPass v fun x => { x with powered := true, powerCut := false }
    | _ => s
  valeTell (.selfTest b) b (assayFence s)

/-- A write of 1 to STW_SELFTEST_CTL.START. -/
def effSelftestStart (p : Port) (s : State) : State :=
  let b := testBlock (s.rd R.STW_SELFTEST_CTL_KIND) (s.rd R.STW_SELFTEST_CTL_INDEX)
  let r := testRefuse p b s
  let s := (s.wr R.STW_SELFTEST_CTL_START 0).wr R.STW_SELFTEST_STAT_REFUSE r
  match b with
  | some b => if r = 0 then testStart b (s.wr R.STW_SELFTEST_STAT_STATE 1) else s
  | none => s

/-- The self-test ends; `res` is its failure, none where it passed. An aborted test reads failed. -/
def effSelftestDone (res : Option BistFail) (s : State) : State :=
  match s.boot.selfTest with
  | none => s
  | some t =>
    let bad := t.aborted || res.isSome
    let s := { s with boot := { s.boot with selfTest := none } }
    let s := ((s.wr R.STW_SELFTEST_STAT_MEM_ID 0).wr R.STW_SELFTEST_FAIL_BIT 0).wr R.STW_SELFTEST_FAIL_ADDR 0
    let s := failShow res.toList s
    if bad then
      let s := (s.wr R.STW_SELFTEST_STAT_STATE 3)
      let s := { s with boot := { s.boot with passes := s.boot.passes.filter fun x => x ≠ t.block } }
      let x := s.free 32
      let s := x.2.recordWith (blockSrc t.block) 2 0x58 x.1 none false
      fenceBlock t.block s
    else
      let s := s.wr R.STW_SELFTEST_STAT_STATE 2
      let s := { s with boot := { s.boot with passes := t.block :: s.boot.passes.filter fun x => x ≠ t.block } }
      let s := if t.block = .gran ∧ !s.fencedProper .gran then
        s.wr R.GRAN_STAT_STATE (if s.rd R.GRAN_FREQ_TRAINED ≠ 0 then rungGran (s.rd R.PWR_STAT_HOST_RUNG) else 0) else s
      assayFree s

/-- A release is refused: the first reason that applies, 0 for none. -/
def relRefuse (b : Option Block) (s : State) : Nat :=
  match b with
  | none => 4
  | some b =>
    if !s.fencedProper b then 4
    else if !s.boot.passes.contains b then 1
    else if s.boot.repairs.any (fun r => r.2.2 && decide (r.1 = b)) then 2
    else
      let vale := match b with
        | .vale _ => false
        | _ => match blkVale b with | some v => s.ownFence (.vale v) | none => false
      let mac := match b with
        | .trunk t => s.fencedProper .macsec && macRequired s.warp.running t
        | .drop d => s.fencedProper .macsec && macRequired s.warp.running (8 + d)
        | _ => false
      if vale || mac then 3 else 0

/-- An armed write of 1 to STW_RELEASE.GO. -/
def effRelease (s : State) : State :=
  let b := testBlock (s.rd R.STW_RELEASE_KIND) (s.rd R.STW_RELEASE_INDEX)
  let r := relRefuse b s
  let s := (s.wr R.STW_RELEASE_GO 0).wr R.STW_SELFTEST_STAT_REL_REFUSE r
  match b with
  | some b => if r = 0 then releaseBlock b s else s
  | none => s

end Sys2Proof.Machine
end

