-- ==== Sys2Proof/Machine/Boot.lean ====
section
/-! DEFINITION. Commands of start-up, the modes and self-test that no register write carries
(02_startup_modes_selftest R33 to R51). -/

namespace Sys2Proof.Machine

/-- COLD_RESET: R33. `pin` says whether RESET_N or VIN caused it. -/
def execColdReset (pin : Bool) (s : State) : Host.Outcome State Fault Refusal := done (coldReset pin s)

/-- The Steward runs: BOOT has passed step 8. -/
def stewardRuns (s : State) : Bool := decide (8 ≤ s.boot.step)

/-- STEWARD_WATCHDOG_EXPIRY: a warm reset in any mode, from step 8 on (R34, R35). -/
def execStewardWatchdogExpiry (s : State) : Host.Outcome State Fault Refusal :=
  done (if stewardRuns s then warmReset R.STW_RESET_CAUSE_WATCHDOG s else s)

/-- BOOT_ROM_START: steps 3 and 4 of BOOT (R36, R365). `active` are the tamper sources that are active. -/
def execBootRomStart (active : BitVec 5) (s : State) : Host.Outcome State Fault Refusal :=
  done (effRomStart active.toNat s)

/-- HOST_SELFTEST_DONE: steps 5 and 6 (R40 to R42). -/
def execHostSelftestDone (fails : List BistFail) (s : State) : Host.Outcome State Fault Refusal :=
  done (effHostSelftest fails s)

/-- FIRMWARE_VERIFY_DONE: steps 7 to 9 (R38). The operands say which slots' signatures verify and whether the key store's tag does. -/
def execFirmwareVerifyDone (sig1 sig2 storeOk : Bool) (s : State) : Host.Outcome State Fault Refusal :=
  done (effFwVerify sig1 sig2 storeOk s)

/-- VALE_SELFTEST_DONE: step 10 (R40 to R42). -/
def execValeSelftestDone (fails : List BistFail) (s : State) : Host.Outcome State Fault Refusal :=
  done (effValeSelftest fails s)

/-- WARP_SELECT: step 11 (03_warp R60). The operands are what the keys decide about slots A, B and Golden. -/
def execWarpSelect (a b g : Verdict) (s : State) : Host.Outcome State Fault Refusal :=
  done (effWarpSelect (fun k => if k = 1 then a else if k = 2 then b else g) s)

/-- WARP_APPLY_DONE: steps 12 and 13 (R43; 03_warp R64, R68). -/
def execWarpApplyDone (s : State) : Host.Outcome State Fault Refusal := done (effWarpApply s)

/-- SCAN_WIPE_DONE: the wipe has been read back (R46). -/
def execScanWipeDone (ok : Bool) (s : State) : Host.Outcome State Fault Refusal := done (effScanWiped ok s)

/-- SELFTEST_DONE: a self-test ends, with its failure if it has one (R50). -/
def execSelftestDone (res : Option BistFail) (s : State) : Host.Outcome State Fault Refusal :=
  done (effSelftestDone res s)

end Sys2Proof.Machine
end

