-- ==== Sys2Proof/Machine/Drop.lean ====
section
/-! DEFINITION. Drop commands in 10BASE-T1S mode and those both modes share (08_drop_segments). -/

namespace Sys2Proof.Machine

/-! ## Register writes that act (R176, R177, R181) -/

/-- DRP[d].CTL.ENABLE was written. -/
def effDrpEnable (d : Nat) (v : Bool) (s : State) : State := if v then drpStart d s else drpQuiet d s

/-- A write changed DRP[d].CTL.MODE: waiting frames are discarded and the drop restarts. -/
def effDrpMode (d : Nat) (s : State) : State := drpRestart d (drpDiscardBank d s)

/-- TEST was written: in MAINTENANCE a non-zero value takes the drop to TEST, zero takes it from TEST to DISABLED. -/
def effDrpTest (d v : Nat) (s : State) : State :=
  if s.mode ≠ 4 then s
  else if v ≠ 0 then
    if s.drpFenced d then s
    else (drpHalt d 6 s).send (.drpTest d (if v = 8 then 16 + s.rd (R.DRP_LD_CTL_TEST_PAT d) else v))
  else if drpState d s = 6 then drpSet d 0 s else s

/-- CYC_CTL was written: the figures in force show, and an opportunity beyond the new NODES ends the cycle when it ends
(`oppNext` reads NODES). -/
def effCycCtl (d : Nat) (s : State) : State := drpShow d s

/-! ## The cycle -/

/-- DROP_SETTLE_ELAPSED: R176. -/
def execDropSettleElapsed (d : Fin 64) (s : State) : Host.Outcome State Fault Refusal :=
  done (if drpState d s = 1 then drpSet d 2 s else s)

/-- DROP_BEACON: R179, R182, 09 R207. -/
def execDropBeacon (d : Fin 64) (s : State) : Host.Outcome State Fault Refusal :=
  done (if drpState d s = 2 ∧ (s.drp d).opp = none then dropCycle d s else s)

/-- OPPORTUNITY_TIMEOUT: an opportunity ends unused (R179, 09 R205). -/
def execOpportunityTimeout (d : Fin 64) (s : State) : Host.Outcome State Fault Refusal :=
  done (if drpState d s = 2 ∧ (s.drp d).line = [] then oppNext d s else s)

/-- The frame on the line has left it whole: counts, stamp report, credit, and the next frame of opportunity 0 (R175,
R182, R190). -/
def drpSent (d : Nat) (st : Option Stamp) (s : State) : State :=
  match (s.drp d).line with
  | [] => s
  | f :: l =>
    let s := ((s.add (R.DRP_TX_FRAMES_COUNT d) 1).add (R.DRP_TX_OCTETS_COUNT d) f.octets.length).modDrp d fun x =>
      { x with line := l, lastFrame := some s.age }
    let s := creditBack (dropPort d) f.octets.length (stampReport f st s)
    if drpLong d s then (if l.isEmpty then oppNext d s else s) else oppZeroNext d s

/-! ## Reception (R184 to R186) -/

/-- DROP_FRAME_RECEIVE: R185; a BEACON is a second coordinator (R184). `more` says that the station's burst goes on. -/
def effDropFrame (d : Nat) (r : DropRx) (more : Bool) (s : State) : State :=
  let st := drpState d s
  match r with
  | .beacon => if st = 2 ∨ st = 3 ∨ st = 4 then dupCoord d s else s
  | .frame f ok =>
    if (st ≠ 2 ∧ st ≠ 3) ∨ drpLong d s then s
    else
      let opp := (s.drp d).opp
      let good := ok && decide (64 ≤ f.octets.length) && fcsOk f.octets
      let s := if good then drpClassify d opp f s else drpErr d 0 s
      let s := s.modDrp d fun x => { x with lastFrame := some s.age }
      if more then s else oppNext d s

/-- DROP_FRAME_RECEIVE: R185. -/
def execDropFrameReceive (d : Fin 64) (r : DropRx) (more : Bool) (s : State) : Host.Outcome State Fault Refusal :=
  done (effDropFrame d r more s)

/-- The device's own frame meets a collision: cut, resent first in the next opportunity 0, discarded after the third
(R184). -/
def txCollision (d : Nat) (f : TxFrame) (s : State) : State :=
  let s := dupCount d 0 (drpErr d 1 s)
  let s := s.modDrp d fun x => { x with line := [] }
  let s := if 2 ≤ f.collisions then
      creditBack (dropPort d) f.octets.length (stampReport f none (drpErr d 2 s))
    else s.modDrp d fun x => { x with resend := some { f with collisions := f.collisions + 1 } }
  oppNext d s

/-- DROP_COLLISION: R184. -/
def execDropCollision (d : Fin 64) (s : State) : Host.Outcome State Fault Refusal :=
  done (if drpState d s ≠ 2 ∨ drpLong d s then s
    else match (s.drp d).line with
      | f :: _ => txCollision d f s
      | [] => oppNext d (drpCollide d (s.drp d).opp (drpErr d 1 s)))

/-! ## Jabber, jam, stuck transmitter (R187 to R189) -/

/-- DROP_JABBER: the reception is discarded and its opportunity's slot is barred (R187). -/
def execDropJabber (d : Fin 64) (s : State) : Host.Outcome State Fault Refusal :=
  done (let st := drpState d s
    if st = 2 ∨ st = 3 then
      let opp := if drpLong d s then (s.drp d).rxOpp else (s.drp d).opp
      let s := drpJabber d (oppSlot d opp s) s
      if drpLong d s then
        (s.wr (R.DRP_LD_STAT_RX_BUSY d) 0).modDrp d fun x =>
          { x with stage := if x.stage = .idle then .idle else .waitLoss }
      else s
    else s)

/-- SLOT_READMIT: a second after its cut-off a slot is re-admitted, or cut off again where the same reception goes on
(R187). -/
def execSlotReadmit (d : Fin 64) (slot : Fin 32) (still : Bool) (s : State) : Host.Outcome State Fault Refusal :=
  done (if drpBarred d slot s then (if still then drpJabber d slot s else setBar d slot false s) else s)

/-- DROP_JAM_ENTRY: R188. -/
def execDropJamEntry (d : Fin 64) (s : State) : Host.Outcome State Fault Refusal :=
  done (if drpState d s = 2 then
      ((drpHalt d 4 s).evt (R.DRP_EVT_JAM d)).recordFree (dropSrc d) 2 0x31 none
    else s)

/-- DROP_JAM_END: the line has been free for 1 ms and the next cycle starts with a BEACON (R188). -/
def execDropJamEnd (d : Fin 64) (s : State) : Host.Outcome State Fault Refusal :=
  done (if drpState d s = 4 then dropCycle d (drpSet d 2 s) else s)

/-- DROP_TX_STUCK: the line is silenced, ENABLE cleared, and a class F event of kind 0x33 takes its fixed reaction
INTERRUPT (R189, 18_watch R392). -/
def execDropTxStuck (d : Fin 64) (s : State) : Host.Outcome State Fault Refusal :=
  done (if drpState d s ≠ 0 then
      ((drpHalt d 0 s).wr (R.DRP_CTL_ENABLE d) 0).recordFree (dropSrc d) 3 0x33 (some 1)
    else s)

/-! ## Deferral (R183) -/

/-- DEFERRAL_START: after the last opportunity an activity that is due takes the engine, a calibration before a survey
part, and at most one between two beacons. -/
def execDeferralStart (d : Fin 64) (s : State) : Host.Outcome State Fault Refusal :=
  done (if drpState d s = 2 ∧ (s.drp d).opp = none ∧ !(s.drp d).deferred ∧ (drpCalDue d s ∨ drpSurvDue d s) then
      (drpSet d 3 s).modDrp d fun x => { x with deferred := true, defer := some (drpCalDue d s) }
    else s)

/-- A survey part that a deferral held is done (15_surveyor R325). -/
def survPart (d : Nat) (s : State) : State :=
  if (s.drp d).defer = some false then
    let x := tget ({} : DrpSurv) s.dsurv d
    { s with dsurv := tset {} s.dsurv d { x with parts := min 16 (x.parts + 1) } }
  else s

/-- DEFERRAL_END: the activity ends and the held BEACON is sent. -/
def execDeferralEnd (d : Fin 64) (s : State) : Host.Outcome State Fault Refusal :=
  done (if drpState d s = 3 then
      dropCycle d ((drpSet d 2 (survPart d s)).modDrp d fun x => { x with defer := none })
    else s)

/-! ## Energy wake (R192) -/

/-- DROP_ENERGY_WAKE: the armed detector of a sleeping drop fires. -/
def execDropEnergyWake (d : Fin 64) (s : State) : Host.Outcome State Fault Refusal :=
  done (if drpState d s = 5 && s.bit (R.DRP_PWR_WAKE_EN d) && tbit (s.rd R.PWR_WAKE_MASK) 1 && (s.drp d).detector then
      let s := (drpErr d 7 (s.evt (R.DRP_EVT_WAKE d))).modDrp d fun x => { x with detector := false }
      valeWake (d / 16) 1 s
    else s)

/-- DETECTOR_REARM: the line has been free of signal for 1 ms. -/
def execDetectorRearm (d : Fin 64) (s : State) : Host.Outcome State Fault Refusal :=
  done (s.modDrp d fun x => { x with detector := true })

end Sys2Proof.Machine
end

