-- ==== Sys2Proof/Machine/Equal.lean ====
section
/-! DEFINITION. Equaliser commands: reflection lists, placement and re-placement of the sparse windows, loop checks,
coefficient readback (06_trunk_equalisation R129 to R149). -/

namespace Sys2Proof.Machine

/-! ## Reflection lists (R129, R130) -/

/-- A delay in picoseconds as whole symbols, halves rounded up: the period is 1280/17 ps in CR-25 and 25GBASE-T1 and
3200/17 ps in the 5.3125 GBd modes. -/
def psToSymbols (mode ps : Nat) : Nat :=
  let p := if mode = 5 ∨ mode = 3 then 1280 else 3200
  (ps * 34 + p) / (2 * p)

/-- A Surveyor result as a reflection list. -/
def surveyList (mode : Nat) (l : List PsReflection) : List Reflection :=
  l.map fun r => { delay := psToSymbols mode r.delayPs, levelHdb := r.levelHdb, search := false }

/-- SURVEY_RESULT_LIST: a Surveyor result replaces the list; one produced in a window, or while a pass runs, waits for
its end (R129, R136, 07 R174). -/
def execSurveyResultList (t : Fin 8) (l : List PsReflection) (s : State) : Host.Outcome State Fault Refusal :=
  let r := surveyList (s.rd (R.TRK_STAT_RESOLVED t)) l
  done (if qwOpen t s then s.modEq t fun e => { e with held := some r } else s.modEq t fun e => { e with refl := r })

/-- A delay lies in a window that is not parked. -/
def inWindow (t d : Nat) (s : State) : Bool :=
  (upto 8).any fun w => decide (winState t w s ≠ 0) && decide (s.rd (R.TRK_EC_WIN_START t w) ≤ d ∧ d ≤ s.rd (R.TRK_EC_WIN_START t w) + 63)

/-- Add a finding to the list, or move the level of an entry within ±4 symbols of it. -/
def listFinding (d l : Nat) (r : List Reflection) : List Reflection :=
  if r.any (fun x => decide (x.delay ≤ d + 4 ∧ d ≤ x.delay + 4)) then
    r.map fun x => if x.delay ≤ d + 4 ∧ d ≤ x.delay + 4 then { x with levelHdb := l } else x
  else r ++ [{ delay := d, levelHdb := l, search := true }]

/-- The residual search runs: DATA, SEARCH_EN, and adaptation not stopped (R130). -/
def searchRuns (t : Nat) (s : State) : Bool :=
  decide (trkState t s = 8) && s.bit (R.TRK_EC_CTL_SEARCH_EN t) && !adaptStopped t s

/-- An active window turns outgoing: its gradient goes off (R132). -/
def winOutgoing (t w : Nat) (s : State) : State :=
  (winSet t w 3 s).modEq t fun e => { e with slides := tset none e.slides w none, fade := tset 0 e.fade w 0 }

/-- RESIDUAL_SEARCH_BLOCK: a block ends with its strongest delay and the level there; `levels` are the levels of the
eight windows. At the end of a sweep a window that stayed weak throughout turns outgoing (R130, R133). -/
def effSearchBlock (t d l : Nat) (levels : List (BitVec 8)) (s : State) : State :=
  if !searchRuns t s then s
  else
    let db := s.rd (R.TRK_EC_CTL_PLACE_DB t)
    let b := (s.trk t).eq.block
    let s := (upto 8).foldl (fun a w =>
      if winState t w a = 0 then a else a.wr (R.TRK_EC_WIN_LEVEL_HDB t w) (levels.getD w 0).toNat) s
    let found := decide (256 + 64 * b ≤ d ∧ d < 320 + 64 * b ∧ d ≤ 5999 ∧ l ≤ 2 * db) && !inWindow t d s
    let s := if found then
        (((s.wr (R.TRK_EC_SEARCH_NEW t) 1).wr (R.TRK_EC_SEARCH_DELAY t) d).wr (R.TRK_EC_SEARCH_LEVEL_HDB t) l).modEq t
          fun e => { e with refl := listFinding d l e.refl }
      else s
    let s := s.modEq t fun e => { e with
      strongSeen := (upto 8).foldl (fun a w =>
        if s.rd (R.TRK_EC_WIN_LEVEL_HDB t w) ≤ 2 * (db + 6) then tset false a w true else a) e.strongSeen }
    if b < 89 then s.modEq t fun e => { e with block := b + 1 }
    else
      let s := (unpinned t s).foldl (fun a w =>
        if winState t w a = 1 && !tget false (a.trk t).eq.strongSeen w then winOutgoing t w a else a) s
      s.modEq t fun e => { e with block := 0, strongSeen := [] }

/-- RESIDUAL_SEARCH_BLOCK: R130, R133. -/
def execResidualSearchBlock (t : Fin 8) (delay : Nat) (levelHdb : BitVec 8) (levels : List (BitVec 8)) (s : State) :
    Host.Outcome State Fault Refusal := done (effSearchBlock t delay levelHdb.toNat levels s)

/-! ## Placement (R131) -/

/-- Two windows of 64 delays overlap. -/
def overlap (a b : Nat) : Bool := decide (a < b + 64 ∧ b < a + 64)

/-- Insert a reflection before the first that is weaker, or as strong with a larger delay. -/
def reflInsert (x : Reflection) : List Reflection → List Reflection
  | [] => [x]
  | y :: r =>
    if x.levelHdb < y.levelHdb ∨ (x.levelHdb = y.levelHdb ∧ x.delay ≤ y.delay) then x :: y :: r else y :: reflInsert x r

/-- A reflection list in the order of placement: level descending, equal levels with the smaller delay first. -/
def reflOrder (l : List Reflection) : List Reflection := l.foldr reflInsert []

/-- The start that R131 gives a reflection among the placed starts, or none. -/
def placeStart (placed : List Nat) (d : Nat) : Option Nat :=
  let s := min (max (d - 16) 256) 5936
  match placed.find? fun w => overlap s w with
  | none => some s
  | some w =>
    let ok := fun (u : Nat) => decide (u + 4 ≤ d ∧ d ≤ u + 59 ∧ 256 ≤ u ∧ u ≤ 5936) && !placed.any (overlap u)
    if w < s then (if ok (w + 64) then some (w + 64) else none)
    else if 64 ≤ w ∧ ok (w - 64) then some (w - 64) else none

/-- The targets of a list, strongest first; `room` windows are free. -/
def placeGo : List Reflection → List Nat → Nat → List EcTarget
  | [], _, _ => []
  | _, _, 0 => []
  | r :: l, placed, room + 1 =>
    if placed.any (fun w => decide (w ≤ r.delay ∧ r.delay ≤ w + 63)) then placeGo l placed (room + 1)
    else match placeStart placed r.delay with
      | none => placeGo l placed (room + 1)
      | some u => { start := u, levelHdb := r.levelHdb, search := r.search } :: placeGo l (placed ++ [u]) room

/-- EXTEND: spare windows follow the strongest targets (R131). -/
def extendGo : List EcTarget → List Nat → Nat → List EcTarget
  | [], _, _ => []
  | _, _, 0 => []
  | g :: l, placed, room + 1 =>
    let u := g.start + 64
    if u ≤ 5936 ∧ !placed.any (overlap u) then { g with start := u } :: extendGo l (placed ++ [u]) room
    else extendGo l placed (room + 1)

/-- The starts of the pinned windows that are not parked. -/
def pinnedStarts (t : Nat) (s : State) : List Nat :=
  ((upto 8).filter fun w => s.bit (R.TRK_EC_WIN_PIN t w) && decide (winState t w s ≠ 0)).map fun w =>
    s.rd (R.TRK_EC_WIN_START t w)

/-- The target set that R131 computes. -/
def targetSet (t : Nat) (s : State) : List EcTarget :=
  let db := s.rd (R.TRK_EC_CTL_PLACE_DB t)
  let l := reflOrder ((s.trk t).eq.refl.filter fun r => decide (r.levelHdb ≤ 2 * db ∧ 256 ≤ r.delay ∧ r.delay ≤ 5999))
  let pins := pinnedStarts t s
  let room := (unpinned t s).length
  let g := placeGo l pins room
  if s.bit (R.TRK_EC_CTL_EXTEND t) then g ++ extendGo g (pins ++ g.map (·.start)) (room - g.length) else g

/-! ## Re-placement (R132 to R134) -/

/-- Targets that no window matches wait in `targets`; each takes a parked window, strongest first, where no window that
is not parked covers a delay of it (R128, R132). -/
def openTargets (t : Nat) (s : State) : State :=
  (s.trk t).eq.targets.foldl (fun a g =>
    match (unpinned t a).find? fun w => decide (winState t w a = 0) with
    | none => a
    | some w =>
      if (upto 8).any (fun u => decide (winState t u a ≠ 0) && overlap g.start (a.rd (R.TRK_EC_WIN_START t u))) then a
      else (winOpen t w g.start g.levelHdb g.search a).modEq t fun e => { e with targets := e.targets.filter (· ≠ g) }) s

/-- A re-placement still has work to do. -/
def replacing (t : Nat) (s : State) : Bool :=
  !(s.trk t).eq.targets.isEmpty || (upto 8).any fun w =>
    decide (2 ≤ winState t w s) || (tget none (s.trk t).eq.slides w).isSome

/-- Start a re-placement toward a target set: near windows slide, windows without a target turn outgoing, and targets
without a window wait for a parked one (R132). -/
def startReplace (t : Nat) (g : List EcTarget) (s : State) : State :=
  let live := (unpinned t s).filter fun w => winState t w s = 1 ∨ winState t w s = 2
  let near := fun (s : State) (ws : List Nat) (x : EcTarget) => ws.find? fun w =>
    decide (x.start ≤ s.rd (R.TRK_EC_WIN_START t w) + 16 ∧ s.rd (R.TRK_EC_WIN_START t w) ≤ x.start + 16)
  let r := g.foldl (fun (acc : State × List Nat × List EcTarget) x =>
    match near acc.1 acc.2.1 x with
    | some w =>
      let a := acc.1
      let a := if a.rd (R.TRK_EC_WIN_START t w) = x.start then a else
        a.modEq t fun e => { e with slides := tset none e.slides w (some x.start) }
      (a.wrb (R.TRK_EC_WIN_SOURCE t w) x.search, acc.2.1.filter (· ≠ w), acc.2.2)
    | none => (acc.1, acc.2.1, acc.2.2 ++ [x])) (s, live, [])
  let s := r.2.1.foldl (fun a w => winOutgoing t w a) r.1
  let s := s.modEq t fun e => { e with targets := r.2.2 }
  let s := openTargets t s
  s.wrb (R.TRK_EC_STAT_REPLACING t) (replacing t s)

/-- A step of a re-placement ended: waiting targets open; when all is done the pending set starts (R132, R134). -/
def replaceStep (t : Nat) (s : State) : State :=
  let s := openTargets t s
  if !s.bit (R.TRK_EC_STAT_REPLACING t) || replacing t s then s
  else
    let s := s.wr (R.TRK_EC_STAT_REPLACING t) 0
    match (s.trk t).eq.pend with
    | some g => startReplace t g ((s.wr (R.TRK_EC_STAT_PENDING t) 0).modEq t fun e => { e with pend := none })
    | none => s

/-- The current starts already are the targets. -/
def sameStarts (t : Nat) (g : List EcTarget) (s : State) : Bool :=
  let cur := ((unpinned t s).filter fun w => winState t w s = 1 ∨ winState t w s = 2).map fun w => s.rd (R.TRK_EC_WIN_START t w)
  decide (cur.length = g.length) && g.all fun x => cur.contains x.start

/-- PLACEMENT_COMPUTE: in SURVEY_QUIET the windows are placed at once; in DATA a re-placement starts, or the set is held
pending behind the one that runs (R131, R132, R134). -/
def effPlacement (t : Nat) (s : State) : State :=
  if !s.bit (R.TRK_EC_CTL_AUTO_PLACE t) || !s.bit (R.TRK_EC_CTL_SPARSE_EN t) || qwOpen t s then s
  else
    let g := targetSet t s
    if trkState t s = 2 then
      let s := (unpinned t s).foldl (fun a w => winPark t w a) s
      (List.zip (unpinned t s) g).foldl (fun a p =>
        winPlace t p.1 1 p.2.start p.2.levelHdb p.2.search a) s
    else if trkState t s = 8 then
      if s.bit (R.TRK_EC_STAT_REPLACING t) then
        (s.wr (R.TRK_EC_STAT_PENDING t) 1).modEq t fun e => { e with pend := some g }
      else if sameStarts t g s then s else startReplace t g s
    else s

/-- PLACEMENT_COMPUTE: R131, R132, R134. -/
def execPlacementCompute (t : Fin 8) (s : State) : Host.Outcome State Fault Refusal := done (effPlacement t s)

/-- One slide step: the window and its coefficients move by one symbol; a dropped tap of 2^-8 or more stops the slide
and the window turns outgoing (R132). -/
def effSlide (t w : Nat) (s : State) : State :=
  if adaptStopped t s then s
  else match tget none (s.trk t).eq.slides w with
  | none => s
  | some goal =>
    let c := winGet (s.trk t).eq.sparse w
    let p := s.rd (R.TRK_EC_WIN_START t w)
    let up := decide (p < goal)
    let dropped := if up then c.getD 0 0 else c.getD 63 0
    if p = goal then replaceStep t (s.modEq t fun e => { e with slides := tset none e.slides w none })
    else if 64 ≤ dropped.natAbs then
      let g : EcTarget := { start := goal, levelHdb := s.rd (R.TRK_EC_WIN_LEVEL_HDB t w), search := s.bit (R.TRK_EC_WIN_SOURCE t w) }
      replaceStep t ((winOutgoing t w s).modEq t fun e => { e with targets := e.targets ++ [g] })
    else
      let n := if up then p + 1 else p - 1
      let c' := if up then c.drop 1 ++ [0] else 0 :: c.take 63
      let s := (s.wr (R.TRK_EC_WIN_START t w) n).modEq t fun e =>
        { e with sparse := winPut e.sparse w c', slides := tset none e.slides w (if n = goal then none else some goal) }
      if n = goal then replaceStep t s else s

/-- WINDOW_SLIDE_STEP: R132. -/
def execWindowSlideStep (t w : Fin 8) (s : State) : Host.Outcome State Fault Refusal := done (effSlide t w s)

/-- An outgoing window parks and frees itself for a target (R132). -/
def effWindowOut (t w : Nat) (s : State) : State :=
  if winState t w s = 3 then replaceStep t ((winPark t w s).sat (R.TRK_EC_MOVE_CNT_RELEASED t) 1) else s

/-- WINDOW_FADE_STEP: one factor of 1 − 2^-12; the window parks when its level, as measured, lies below −60 dB (R132). -/
def execWindowFadeStep (t w : Fin 8) (levelHdb : BitVec 8) (s : State) : Host.Outcome State Fault Refusal :=
  done (if winState t w s ≠ 3 || adaptStopped t s then s
    else
      let s := (s.wr (R.TRK_EC_WIN_LEVEL_HDB t w) levelHdb.toNat).modEq t fun e =>
        { e with fade := tset 0 e.fade w (tget 0 e.fade w + 1) }
      if 120 < levelHdb.toNat then effWindowOut t w s else s)

/-- WINDOW_FADE_LIMIT: the window has faded for 2^20 symbols (R132). -/
def execWindowFadeLimit (t w : Fin 8) (s : State) : Host.Outcome State Fault Refusal := done (effWindowOut t w s)

/-- WINDOW_INCOMING_END: after 2^18 symbols the window is active at the DATA step (R132). -/
def execWindowIncomingEnd (t w : Fin 8) (levelHdb : BitVec 8) (s : State) : Host.Outcome State Fault Refusal :=
  done (if winState t w s ≠ 2 || adaptStopped t s then s
    else replaceStep t ((winSet t w 1 s).wr (R.TRK_EC_WIN_LEVEL_HDB t w) levelHdb.toNat))

/-- The tap of the strongest coefficient; of equals the lowest. -/
def strongestTap (c : List Int) : Nat :=
  (List.range c.length).foldl (fun b k => if (c.getD b 0).natAbs < (c.getD k 0).natAbs then k else b) 0

/-- WINDOW_RECENTRE: the strongest coefficient has stood outside taps 12 to 20; the window slides until it stands at
tap 16 (R133). -/
def execWindowRecentre (t w : Fin 8) (s : State) : Host.Outcome State Fault Refusal :=
  let k := strongestTap (winGet (s.trk t).eq.sparse w)
  let goal := min 5936 (max 256 (s.rd (R.TRK_EC_WIN_START t w) + k - 16))
  done (if winState t w s = 1 && !s.bit (R.TRK_EC_WIN_PIN t w) && (tget none (s.trk t).eq.slides w).isNone
      && (decide (k < 12) || decide (20 < k)) && !adaptStopped t s then
      s.modEq t fun e => { e with slides := tset none e.slides w (some goal) }
    else s)

/-! ## Register writes that act (R135, R138, R144) -/

/-- A start that a host may write: in range, and clear of every other window that is not parked (R135). -/
def winStartOk (t w start : Nat) (s : State) : Bool :=
  decide (256 ≤ start ∧ start ≤ 5936) && !(upto 8).any fun u =>
    decide (u ≠ w) && decide (winState t u s ≠ 0) && overlap start (s.rd (R.TRK_EC_WIN_START t u))

/-- EC_WIN[i].START was written: zero coefficients at the new start, as incoming (R135). -/
def effWinStart (t w start : Nat) (s : State) : State :=
  let l := s.rd (R.TRK_EC_WIN_LEVEL_HDB t w)
  winOpen t w start l (s.bit (R.TRK_EC_WIN_SOURCE t w)) s

/-- AUTO_PLACE was written 0: the re-placement ends where it stands, and the pending set goes (R135). -/
def effAutoPlaceOff (t : Nat) (s : State) : State :=
  let s := (s.wr (R.TRK_EC_STAT_REPLACING t) 0).wr (R.TRK_EC_STAT_PENDING t) 0
  s.modEq t fun e => { e with targets := [], pend := none, slides := [] }

/-- SPARSE_EN was written 0: every window parks and its coefficients clear (EC_CTL). -/
def effSparseOff (t : Nat) (s : State) : State := effAutoPlaceOff t ((upto 8).foldl (fun a w => winPark t w a) s)

/-- CURSOR was written: in DATA the FFE coefficients shift by the change; taps shifted in start at 0 (R138). -/
def effCursor (t old new : Nat) (s : State) : State :=
  if !s.bit (R.TRK_EQ_CTL_FFE_EN t) then s.modEq t fun e => { e with ffe := [(new, 16384)] }
  else if trkState t s ≠ 8 then s
  else s.modEq t fun e => { e with
    ffe := (upto 64).foldl (fun a k =>
      if old ≤ k + old ∧ new ≤ k + old ∧ k + old - new < 64 then tset 0 a k (tget 0 e.ffe (k + old - new)) else a) [] }

/-- FFE_EN was written: 0 holds a single tap of 1 at CURSOR (R144). -/
def effFfeEn (t : Nat) (v : Bool) (s : State) : State :=
  if v then s else s.modEq t fun e => { e with ffe := [(s.rd (R.TRK_EQ_CTL_CURSOR t), 16384)] }

/-- DFE_EN was written: 0 holds every tap at 0 (R144). -/
def effDfeEn (t : Nat) (v : Bool) (s : State) : State := if v then s else s.modEq t fun e => { e with dfe := [] }

/-! ## Loop checks (R140 to R142, R148, R149) -/

/-- IMPULSE_DETECT: the guard holds adaptation, and IMPULSE_CNT counts; not in ECHO_M and ECHO_S (R142). -/
def execImpulseDetect (t : Fin 8) (s : State) : Host.Outcome State Fault Refusal :=
  let st := trkState t s
  done (if (5 ≤ st ∧ st ≤ 9) ∨ st = 11 then (s.wr (R.TRK_EQ_STAT_IMPULSE t) 1).sat (R.TRK_EQ_STAT_IMPULSE_CNT t) 1 else s)

/-- IMPULSE_GUARD_END: 4,096 symbols have passed (R142). -/
def execImpulseGuardEnd (t : Fin 8) (s : State) : Host.Outcome State Fault Refusal :=
  done (s.wr (R.TRK_EQ_STAT_IMPULSE t) 0)

/-- GAIN_LOOP_CHECK: one step of 0.25 dB toward the target when the power stands more than 0.5 dB from it; `errQdb` is
power minus target in units of 0.25 dB (R137, R140). -/
def execGainLoopCheck (t : Fin 8) (errQdb : Int) (s : State) : Host.Outcome State Fault Refusal :=
  let g := s.rd (R.TRK_EQ_RX_GAIN_QDB t)
  done (if adaptStopped t s || !(loopsAdapt t s).2 then s
    else if 2 < errQdb then s.wr (R.TRK_EQ_RX_GAIN_QDB t) (g - 1)
    else if errQdb < -2 then s.wr (R.TRK_EQ_RX_GAIN_QDB t) (min 120 (g + 1))
    else s)

/-- CONVERGENCE_EVAL: in DATA the flags of EQ_STAT are evaluated (R141). -/
def execConvergenceEval (t : Fin 8) (ec ffe dfe timing : Bool) (s : State) : Host.Outcome State Fault Refusal :=
  done (if trkState t s = 8 then
      (((s.wrb (R.TRK_EQ_STAT_EC_CONV t) ec).wrb (R.TRK_EQ_STAT_FFE_CONV t) ffe).wrb (R.TRK_EQ_STAT_DFE_CONV t) dfe).wrb
        (R.TRK_EQ_STAT_TIMING_LOCK t) timing
    else s)

/-- SLICER_MARGIN_UPDATE: in DATA the three margins (R148). -/
def execSlicerMarginUpdate (t : Fin 8) (upper middle lower : BitVec 8) (s : State) : Host.Outcome State Fault Refusal :=
  done (if trkState t s = 8 then
      ((s.wr (R.TRK_SLICER_UPPER t) upper.toNat).wr (R.TRK_SLICER_MIDDLE t) middle.toNat).wr (R.TRK_SLICER_LOWER t)
        lower.toNat
    else s)

/-- FEC_SECOND_TICK: FEC_SEC takes the second that ends (R149). -/
def execFecSecondTick (t : Fin 8) (s : State) : Host.Outcome State Fault Refusal :=
  let x := s.trk t
  done (((s.wr (R.TRK_FEC_SEC_UNC_1S t) (min 0xFFFF x.secUnc)).wr (R.TRK_FEC_SEC_MAX_1S t) x.secMax).modTrk t fun x =>
    { x with secUnc := 0, secMax := 0 })

/-! ## Readback (R145) -/

/-- An outgoing window's coefficient after `n` fading steps, to the nearest unit. -/
def faded (c : Int) (n : Nat) : Int :=
  if n = 0 then c else
    let v := (2 * c.natAbs * 4095 ^ n + 4096 ^ n) / (2 * 4096 ^ n)
    if c < 0 then -(v : Int) else v

/-- The bank named by BANK and WIN, as it stands. -/
def coefBank (t : Nat) (s : State) : List Int :=
  let e := (s.trk t).eq
  let b := s.rd (R.TRK_COEF_SEL_BANK t)
  let w := s.rd (R.TRK_COEF_SEL_WIN t)
  if b = 0 then (upto 256).map (tget 0 e.dense)
  else if b = 1 then (winGet e.sparse w).map fun c => faded c (tget 0 e.fade w)
  else if b = 2 then (upto 64).map (tget 0 e.ffe)
  else (upto 24).map (tget 0 e.dfe)

/-- SNAP was written 1: the named bank is copied into the buffer. -/
def effCoefSnap (t : Nat) (s : State) : State := s.modEq t fun e => { e with snap := coefBank t s }

/-- The entry at INDEX of the buffer, in the two's complement of R137; 0 beyond the last. -/
def coefEntry (t : Nat) (s : State) : Nat := (((s.trk t).eq.snap.getD (s.rd (R.TRK_COEF_SEL_INDEX t)) 0) % 65536).toNat

/-- COEF_DATA was read: INDEX advances. -/
def effCoefRead (t : Nat) (s : State) : State := s.wr (R.TRK_COEF_SEL_INDEX t) (s.rd (R.TRK_COEF_SEL_INDEX t) + 1)

end Sys2Proof.Machine
end

