-- ==== Sys2Proof/Machine/Faults.lean ====
section
/-! DEFINITION. Commands of the Watch: errors, grace timers, pins, the log and its archive (18_watch_faults R384 to R399). -/

namespace Sys2Proof.Machine

/-- A source is one of R385, not reserved. -/
def srcKnown (src : Nat) : Bool :=
  src < 13 || (16 ≤ src && src < 22) || (32 ≤ src && src < 48) || (64 ≤ src && src < 72) || (128 ≤ src && src < 192)

/-- The class of a kind for a source (R386); none for a kind that is never recorded. -/
def kindClass (kind src : Nat) : Option Nat :=
  if [1, 2, 3, 4, 6, 7, 8, 0x10, 0x13, 0x15, 0x24, 0x26, 0x41, 0x42, 0x44, 0x48, 0x49, 0x59].contains kind then some 1
  else if [5, 0x11, 0x12, 0x14, 0x16, 0x20, 0x21, 0x22, 0x23, 0x25, 0x30, 0x31, 0x32, 0x34, 0x35, 0x36, 0x40, 0x43, 0x4A,
      0x51].contains kind then some 2
  else if kind = 0x33 ∨ kind = 0x50 ∨ kind = 0x52 then some 3
  else if kind = 0x58 then some (if srcBlock src = .core then 3 else 2)
  else none

/-- The fixed action of a kind at a source (R392). -/
def kindFixed (kind src : Nat) : Option Nat :=
  if kind = 0x33 then some 1
  else if kind = 0x35 ∨ kind = 0x36 then some 3
  else if kind = 0x50 then some 4
  else if kind = 0x11 ∧ 32 ≤ src then some (if src < 40 then 3 else 2)
  else none

/-- An error reaches the Watch. -/
def watchError (src cls kind detail : Nat) (s : State) : State :=
  s.recordWith src cls kind detail (kindFixed kind src) (kind ≠ 0x58)

/-- WATCH_ERROR_RECORD's effect: an error of a known source and kind. -/
def effErrorRecord (src kind detail : Nat) (s : State) : State :=
  if !srcKnown src then s
  else match kindClass kind src with
  | some c => watchError src c kind detail s
  | none => s

/-- WATCH_ERROR_RECORD: R384 to R395. -/
def execWatchErrorRecord (src : Fin 512) (kind : BitVec 8) (detail : Word) (s : State) :
    Host.Outcome State Fault Refusal := done (effErrorRecord src kind.toNat detail.toNat s)

/-! ## Grace timers (R391) -/

/-- A grace timer that runs expires: LATER is applied with an entry of kind 0xF0, or only logged in QUARANTINE. -/
def effGraceExpiry (src : Nat) (s : State) : State :=
  match tget none s.watch.grace src with
  | none => s
  | some g =>
    let act := if s.mode = 5 then 0 else g.2
    let f := s.free 32
    let s := (f.2.logEntry src 0 false 0xF0 act false s.mode f.1).sat (R.WATCH_CNT_COUNT 4) 1
    let s := s.wr (R.WATCH_SLOT_HDR_GRACE src) 0
    let s := { s with watch := { s.watch with grace := tset none s.watch.grace src none } }
    if s.mode = 5 then s
    else
      let s := s.wr (R.WATCH_SLOT_HDR_APPLIED src) act
      (if 1 ≤ act then s.message 0 else s).oweAction src act

/-- GRACE_EXPIRY: R391. -/
def execGraceExpiry (src : Fin 512) (s : State) : Host.Outcome State Fault Refusal := done (effGraceExpiry src s)

/-! ## Pins (R395) -/

/-- FLT_HOST_WIDTH_END: the minimum width ends; the latch may hold the pin. -/
def execFltHostWidthEnd (s : State) : Host.Outcome State Fault Refusal :=
  done { s with watch := { s.watch with widthRuns := false } }

/-- A write of 1 to WATCH_PIN.HOST_CLR clears the latch. -/
def hostClr (s : State) : State := { s with watch := { s.watch with latch := false } }

/-- A write to WATCH_IRQ.REARM sends again each vector whose condition holds (R396). -/
def irqRearm (bits : Nat) (s : State) : State :=
  ((upto 16).filter fun n => tbit bits n && tbit s.irq n).foldl (fun a n => a.message n) s

/-! ## The log and the archive (R398, R399) -/

/-- A write to WATCH_LOG_SEL selects a ring entry while ARCH is 0. -/
def logSelect (s : State) : State :=
  if s.bit R.WATCH_LOG_CTL_ARCH then s
  else { s with watch := { s.watch with ringSel := s.rd R.WATCH_LOG_SEL_SEQ } }

/-- A write to WATCH_LOG_CTL: with ARCH 1 an archive entry is sought, and READY falls. -/
def archSelect (s : State) : State := s.wrb R.WATCH_LOG_CTL_READY (!s.bit R.WATCH_LOG_CTL_ARCH)

/-- The entry that WATCH_LOG_DATA shows. -/
def logShown (s : State) : Option LogEntry :=
  if s.bit R.WATCH_LOG_CTL_ARCH then s.watch.archSel
  else match tget none s.watch.ring (s.watch.ringSel % 2048) with
    | some e => if e.seq = s.watch.ringSel then some e else none
    | none => none

/-- Word `i` that WATCH_LOG_DATA shows; while an archive entry is being fetched the spec states no value (log 2). -/
def logWord (i : Nat) (s : State) : Nat × State :=
  if s.bit R.WATCH_LOG_CTL_ARCH ∧ !s.bit R.WATCH_LOG_CTL_READY then s.free 32
  else (((logShown s).map fun e => e.word i).getD 0, s)

/-- ARCHIVE_READY: the entry that INDEX names, 0 the newest, has been fetched. -/
def execArchiveReady (s : State) : Host.Outcome State Fault Refusal :=
  done (if s.bit R.WATCH_LOG_CTL_ARCH && !s.bit R.WATCH_LOG_CTL_READY then
      { s with watch := { s.watch with archSel := s.archive[s.rd R.WATCH_LOG_CTL_INDEX]? } }.wr R.WATCH_LOG_CTL_READY 1
    else s)

/-- ARCHIVE_COPY: the oldest class F entry that waits becomes the newest of 4,096 in flash. -/
def execArchiveCopy (s : State) : Host.Outcome State Fault Refusal :=
  done (match s.watch.toArchive with
    | [] => s
    | e :: l => { s with archive := (e :: s.archive).take 4096, watch := { s.watch with toArchive := l } })

end Sys2Proof.Machine
end

