-- ==== Sys2Proof/Machine/Granary.lean ====
section
/-! DEFINITION. The memory scrubbers and the granary controller: requests, the pick, refresh, self-refresh, fills,
frequency changes, training and scrub (13_memory_granary R289 to R310). -/

namespace Sys2Proof.Machine

/-! ## Scrubbers (R289, R291) -/

/-- VALE_BANK_SCRUB: the next word of a bank of a vale that is powered and not fenced. -/
def effBankScrub (v bank : Nat) (f : WordFind) (s : State) : State :=
  if s.isFenced (.vale v) then s
  else
    let w := tget 0 s.memScrub.valeAt (8 * v + bank)
    bankFind v bank w f { s with memScrub := { s.memScrub with
      valeAt := tset 0 s.memScrub.valeAt (8 * v + bank) ((w + 1) % 16384) } }

/-- VALE_BANK_SCRUB: R289. -/
def execValeBankScrub (v : Fin 4) (bank : Fin 8) (f : WordFind) (s : State) : Host.Outcome State Fault Refusal :=
  done (effBankScrub v bank f s)

/-- PS_SCRUB_READ: the next of the 1,572,864 words; the last one ends the pass. `forced` is the read that a bank serves
after 4,096 cycles lost. -/
def effPsScrub (f : Option PsErr) (forced : Bool) (s : State) : State :=
  if !s.bit R.MEM_SCRUB_CTL_PS_EN then s
  else
    let s := if forced then s.add (R.MEM_PS_CNT_COUNT 2) 1 else s
    let s := match f with
      | some e => psFinding e s
      | none => s
    if s.memScrub.psAt + 1 = 1572864 then
      let s := (s.sat R.MEM_PS_STAT_PASSES 1).wr R.MEM_PS_STAT_LAST_MS (min 65535 ((s.age - s.memScrub.psStart) / msec))
      { s with memScrub := { s.memScrub with psAt := 0, psStart := s.age } }
    else { s with memScrub := { s.memScrub with psAt := s.memScrub.psAt + 1 } }

/-- PS_SCRUB_READ: R291, R292, 12_miller_queues R284. -/
def execPsScrubRead (f : Option PsErr) (forced : Bool) (s : State) : Host.Outcome State Fault Refusal :=
  done (effPsScrub f forced s)

/-! ## Channels -/

/-- Channel `c`. -/
def granChan (c : Nat) (s : State) : GChan := tget {} s.gran.chans c

/-- Edit channel `c`. -/
def modChan (c : Nat) (f : GChan → GChan) (s : State) : State :=
  { s with gran := { s.gran with chans := tset {} s.gran.chans c (f (granChan c s)) } }

/-- Edit a bank of a channel. -/
def modBank (c b : Nat) (f : GBank → GBank) (s : State) : State :=
  modChan c (fun x => { x with banks := tset {} x.banks b (f (tget {} x.banks b)) }) s

/-- A served request of a class still waits behind an earlier one of its class. -/
def reqEarlier (cls seq : Nat) (s : State) : Bool :=
  s.gran.chans.any fun c => (c.2.reads ++ c.2.writes).any fun r => r.cls = cls && decide (r.seq < seq)

/-- A request completes: a read returns its data, or is marked uncorrectable. -/
def reqOut (r : GReq) (ok : Bool) (s : State) : State :=
  s.send (if r.wr then .granWrite r.burst else .granRead r.cls r.burst (if ok then some r.data else none))

/-- Requests of one port complete in acceptance order (R300): deliver those that wait for no earlier one. -/
def deliver (s : State) : State :=
  let go := s.gran.ready.filter fun e => !reqEarlier e.1.cls e.1.seq s
  let s := { s with gran := { s.gran with ready := s.gran.ready.filter fun e => reqEarlier e.1.cls e.1.seq s } }
  go.foldl (fun a e => reqOut e.1 e.2 a) s

/-- A served request joins those that wait to complete, in acceptance order. -/
def served (r : GReq) (ok : Bool) (s : State) : State :=
  let l := s.gran.ready
  let before := l.filter fun e => decide (e.1.seq < r.seq)
  let after := l.filter fun e => decide (r.seq ≤ e.1.seq)
  deliver { s with gran := { s.gran with ready := before ++ (r, ok) :: after } }

/-! ## Requests (R297, R300) -/

/-- GRANARY_REQUEST: a one-burst request of a port joins its queue, unless the queue is full. A read that matches queued
writes is served from the latest; a write that matches a queued write replaces its data. -/
def effGranRequest (cls burst : Nat) (data : Option (List Byte)) (s : State) : State :=
  if s.isFenced .gran || decide (s.rd R.GRAN_STAT_STATE = 0) then s
  else
    let s := if cls = 4 then s else granWake s
    let s := effFill (burst / segBursts) s
    let p := burstPlace burst s
    let c := granChan p.ch s
    let r : GReq := { seq := s.gran.next, cls := cls, wr := data.isSome, burst := burst, data := data.getD [], lost := 0 }
    let took := fun a : State => { a with gran := { a.gran with next := a.gran.next + 1 } }
    match data with
    | some l =>
      if (c.writes.any fun w => w.burst = burst) then
        served r true (modChan p.ch (fun x => { x with writes := x.writes.map fun w =>
          if w.burst = burst then { w with data := l } else w }) (took s))
      else if 32 ≤ c.writes.length then s
      else modChan p.ch (fun x => { x with writes := x.writes ++ [r] }) (took s)
    | none =>
      match c.writes.reverse.find? fun w => w.burst = burst with
      | some w => served { r with data := w.data } true ((took s).add (R.GRAN_CNT_COUNT 2) 1)
      | none =>
        if 8 ≤ (c.reads.filter fun q => (burstPlace q.burst s).bank = p.bank).length then s
        else modChan p.ch (fun x => { x with reads := x.reads ++ [r] }) (took s)

/-- GRANARY_REQUEST: R297, R300, R302. -/
def execGranaryRequest (cls : Fin 5) (burst : Fin 29360128) (data : Option (List Byte)) (s : State) :
    Host.Outcome State Fault Refusal := done (effGranRequest cls burst data s)

/-! ## The pick (R298, R299) -/

/-- A request may be served: a write that matches an earlier read waits until that read has issued (R300). -/
def reqFree (c : GChan) (r : GReq) : Bool := !r.wr || !(c.reads.any fun q => q.burst = r.burst && decide (q.seq < r.seq))

/-- A request meets the open row of its bank. -/
def rowHit (c : GChan) (s : State) (r : GReq) : Bool :=
  let p := burstPlace r.burst s
  decide ((tget {} c.banks p.bank).row = some p.row)

/-- How far a request's bank lies after the rotating pointer. -/
def bankTurn (c : GChan) (s : State) (r : GReq) : Nat := ((burstPlace r.burst s).bank + 16 - c.ptr) % 16

/-- Request `a` is chosen before `b`: lower class, then a row hit, then the bank's turn, then age. -/
def reqBefore (c : GChan) (s : State) (a b : GReq) : Bool :=
  let ka := (a.cls, b2n (!rowHit c s a), bankTurn c s a, a.seq)
  let kb := (b.cls, b2n (!rowHit c s b), bankTurn c s b, b.seq)
  decide (ka.1 < kb.1) || (decide (ka.1 = kb.1) && (decide (ka.2.1 < kb.2.1) || (decide (ka.2.1 = kb.2.1) &&
    (decide (ka.2.2.1 < kb.2.2.1) || (decide (ka.2.2.1 = kb.2.2.1) && decide (ka.2.2.2 < kb.2.2.2))))))

/-- The first of a pool. -/
def poolBest (c : GChan) (s : State) : List GReq → Option GReq
  | [] => none
  | r :: l =>
    match poolBest c s l with
    | none => some r
    | some m => if reqBefore c s m r then some m else some r

/-- The oldest of a list. -/
def oldest : List GReq → Option GReq
  | [] => none
  | r :: l =>
    match oldest l with
    | none => some r
    | some m => if m.seq < r.seq then some m else some r

/-- The drain flag after the write queue's levels. -/
def drainNow (c : GChan) (s : State) : Bool :=
  let d := c.drain || decide (s.rd R.GRAN_WQ_CTL_WQ_HIGH ≤ c.writes.length)
  d && !decide (c.writes.length ≤ s.rd R.GRAN_WQ_CTL_WQ_LOW)

/-- The request that a channel's slot serves. -/
def pickReq (c : GChan) (s : State) : Option GReq :=
  let ws := c.writes.filter fun r => reqFree c r
  match oldest ((c.reads ++ ws).filter fun r => decide (4096 ≤ r.lost)) with
  | some r => some r
  | none =>
    let rt := c.reads.filter fun r => r.cls = 0
    if s.bit R.GRAN_STAT_PANIC && !rt.isEmpty then poolBest c s rt
    else if c.drain || c.reads.isEmpty then poolBest c s ws
    else poolBest c s c.reads

/-- The bank's row and history after an access to a row (R299). -/
def bankAccess (row policy : Nat) (b : GBank) : GBank :=
  let h := match b.row with
    | some r => if r = row then min 3 (b.hist + 1) else b.hist - 1
    | none => b.hist
  { b with hist := h, row := if policy = 1 ∨ (policy = 0 ∧ 2 ≤ h) then some row else none }

/-- The check column of a write (R300): cached, written whole with its group's data columns, or read first. -/
def checkColumn (p : GPlace) (c : GChan) (s : State) : State :=
  let k := p.row * 4 + p.col / 8
  if tget none c.cols p.bank = some k then s
  else
    let want := (upto 28).filter fun i => i / 8 = p.col / 8
    let whole := want.all fun i => c.writes.any fun w =>
      decide (burstPlace w.burst s = { p with col := i })
    let s := modChan p.ch (fun x => { x with cols := tset none x.cols p.bank (some k) }) s
    if whole then s else s.add (R.GRAN_CNT_COUNT 3) 1

/-- Serve a request in its channel's slot; every other request of the channel loses a pick. -/
def serveReq (ch : Nat) (r : GReq) (f : BurstFind) (s : State) : State :=
  let p := burstPlace r.burst s
  let s := if r.wr then checkColumn p (granChan ch s) s else s
  let lose := fun l : List GReq => (l.filter fun q => q.seq ≠ r.seq).map fun q => { q with lost := q.lost + 1 }
  let s := modChan ch (fun x => { x with reads := lose x.reads, writes := lose x.writes, ptr := (p.bank + 1) % 16 }) s
  let s := modBank ch p.bank (bankAccess p.row (s.rd R.GRAN_PAGE_CTL_POLICY)) s
  if r.wr then
    served r true (unpoison r.burst { s with gran := granPutAll (64 * r.burst) r.data s.gran })
  else
    let d := granBurst r.burst s.gran
    let x := granFind r.cls r.burst f (decide (3 ≤ r.cls)) s
    served { r with data := d } x.1 x.2

/-- The bank of a channel whose refresh is due. -/
def dueBank (c : GChan) : Option Nat := (upto 16).find? fun b => (tget {} c.banks b).due

/-- GRANARY_PICK: one command slot of a channel. -/
def effGranPick (ch : Nat) (f : BurstFind) (s : State) : State :=
  if s.isFenced .gran || decide (s.rd R.GRAN_STAT_STATE ≠ 2) then s
  else match dueBank (granChan ch s) with
    | some b =>
      (modBank ch b (fun x => { x with row := none, due := false, postponed := 0 }) s).send (.granRefresh ch b)
    | none =>
      let s := modChan ch (fun x => { x with drain := drainNow x s }) s
      match pickReq (granChan ch s) s with
      | some r => serveReq ch r f s
      | none => s

/-- GRANARY_PICK: R298. -/
def execGranaryPick (ch : Fin 2) (f : BurstFind) (s : State) : Host.Outcome State Fault Refusal := done (effGranPick ch f s)

/-- OPEN_ROW_IDLE_CLOSE: an open row closes after ROW_IDLE_NS without an access. -/
def execOpenRowIdleClose (ch : Fin 2) (bank : Fin 16) (s : State) : Host.Outcome State Fault Refusal :=
  done (modBank ch bank (fun x => { x with row := none }) s)

/-! ## Refresh and self-refresh (R301, R302) -/

/-- GRANARY_REFRESH_DUE: a bank's refresh falls due; while panic is raised it is postponed, up to REFRESH_POSTPONE times
in a row. -/
def effRefreshDue (ch bank : Nat) (s : State) : State :=
  if s.rd R.GRAN_STAT_STATE ≠ 2 then s
  else if s.bit R.GRAN_STAT_PANIC ∧
      (tget {} (granChan ch s).banks bank).postponed < s.rd R.GRAN_PAGE_CTL_REFRESH_POSTPONE then
    (modBank ch bank (fun x => { x with postponed := x.postponed + 1 }) s).add (R.GRAN_CNT_COUNT 4) 1
  else modBank ch bank (fun x => { x with due := true }) s

/-- GRANARY_REFRESH_DUE: R301, R298. -/
def execGranaryRefreshDue (ch : Fin 2) (bank : Fin 16) (s : State) : Host.Outcome State Fault Refusal :=
  done (effRefreshDue ch bank s)

/-- GRANARY_TEMP_POLL: the refresh-rate register reports a temperature above the limit. -/
def effTempPoll (high : Bool) (s : State) : State :=
  if high && !s.isFenced .gran then (s.evt R.GRAN_EVT_HOT).recordFree 9 2 0x16 none else s

/-- GRANARY_TEMP_POLL: R301. -/
def execGranaryTempPoll (high : Bool) (s : State) : Host.Outcome State Fault Refusal := done (effTempPoll high s)

/-- No request but scrub requests is queued. -/
def granQuiet (s : State) : Bool := s.gran.chans.all fun c => (c.2.reads ++ c.2.writes).all fun r => r.cls = 4

/-- GRANARY_SELF_REFRESH_ENTRY: automatic self-refresh. -/
def effSelfRefresh (s : State) : State :=
  if s.bit R.GRAN_SR_CTL_AUTO_EN && decide (s.rd R.GRAN_STAT_STATE = 2) && !s.bit R.GRAN_STAT_PANIC && granQuiet s then
    let shut := fun c : GChan => { c with banks := c.banks.map fun b => (b.1, { b.2 with row := none }) }
    { (s.wr R.GRAN_STAT_STATE 3) with gran := { s.gran with chans := s.gran.chans.map fun c => (c.1, shut c.2) } }
  else s

/-- GRANARY_SELF_REFRESH_ENTRY: R302. -/
def execGranarySelfRefreshEntry (s : State) : Host.Outcome State Fault Refusal := done (effSelfRefresh s)

/-- SEGMENT_FILL_DONE: R304. Fills need a trained granary that is not fenced. -/
def execSegmentFillDone (seg : Fin 8) (s : State) : Host.Outcome State Fault Refusal :=
  done (if s.rd R.GRAN_STAT_STATE = 2 ∨ s.rd R.GRAN_STAT_STATE = 3 then effFill seg s else s)

/-! ## Frequency changes and training (R305 to R308) -/

/-- Training of a point starts. -/
def trainStart (point : Nat) (s : State) : State :=
  { (s.wr R.GRAN_STAT_STATE 1) with gran := { s.gran with training := some point } }

/-- Every queued write of a channel is served: the drain of R307 step 3. -/
def drainWrites (ch : Nat) (s : State) : State :=
  (granChan ch s).writes.foldl (fun a r => serveReq ch r .clean a) s

/-- Steps 2 and 3 of a change: page-outs and fetches stop, the write queue drains, self-refresh. -/
def changeDrain (point : Nat) (s : State) : State :=
  let s := drainWrites 1 (drainWrites 0 s)
  { (s.wr R.GRAN_STAT_STATE 5) with gran := { s.gran with freqNow := some (2, point) } }

/-- A change starts: it waits for panic to clear. -/
def changeStart (point : Nat) (s : State) : State :=
  if s.bit R.GRAN_STAT_PANIC then { s with gran := { s.gran with freqNow := some (1, point) } } else changeDrain point s

/-- A write of 1 to GRAN_FREQ.REQ: a change to POINT starts, is held pending behind one that runs, or aborts a training
and acts at once (R307, R308). -/
def effFreqReq (s : State) : State :=
  let p := s.rd R.GRAN_FREQ_POINT
  if s.isFenced .gran || decide (s.rd R.GRAN_STAT_STATE = 0) then s
  else if s.gran.training.isSome then
    trainStart p ((s.sat R.GRAN_TRN_CNT_ABORTS 1).wr R.GRAN_STAT_POINT_ACT p)
  else if s.gran.freqNow.isSome then
    { (s.wr R.GRAN_FREQ_PENDING 1) with gran := { s.gran with freqPend := some p } }
  else changeStart p s

/-- FREQ_CHANGE_PANIC_WAIT: panic has cleared, or 1 ms has passed. -/
def effPanicWait (s : State) : State :=
  match s.gran.freqNow with
  | some (1, p) => changeDrain p s
  | _ => s

/-- FREQ_CHANGE_PANIC_WAIT: R307. -/
def execFreqChangePanicWait (s : State) : Host.Outcome State Fault Refusal := done (effPanicWait s)

/-- FREQ_CHANGE_DONE: the new point is in force; a pending request follows, else an untrained point is trained. -/
def effChangeDone (s : State) : State :=
  match s.gran.freqNow with
  | some (2, p) =>
    let s := { (s.wr R.GRAN_STAT_POINT_ACT p) with gran := histReset { s.gran with freqNow := none } }
    let s := s.wr R.GRAN_STAT_STATE 2
    match s.gran.freqPend with
    | some q => changeStart q { (s.wr R.GRAN_FREQ_PENDING 0) with gran := { s.gran with freqPend := none } }
    | none => if tbit (s.rd R.GRAN_FREQ_TRAINED) p then s else trainStart p s
  | _ => s

/-- FREQ_CHANGE_DONE: R307, R305. -/
def execFreqChangeDone (s : State) : Host.Outcome State Fault Refusal := done (effChangeDone s)

/-- GRANARY_TRAINING_DONE: the point counts as trained, or the granary is fenced. -/
def effTrainDone (ok : Bool) (s : State) : State :=
  match s.gran.training with
  | none => s
  | some p =>
    let s := { s with gran := histReset { s.gran with training := none } }
    if ok then
      ((s.wr R.GRAN_FREQ_TRAINED (setBit (s.rd R.GRAN_FREQ_TRAINED) p true)).sat R.GRAN_TRN_CNT_TRAININGS 1).wr
        R.GRAN_STAT_STATE 2
    else (s.evt R.GRAN_EVT_TRN_FAIL).owe (.fence .gran)

/-- GRANARY_TRAINING_DONE: R305. -/
def execGranaryTrainingDone (ok : Bool) (s : State) : Host.Outcome State Fault Refusal := done (effTrainDone ok s)

/-- A write of 1 to GRAN_TRN_CTL.GO: a run over the named range starts; it overwrites what the range held (R306). -/
def effTrnGo (s : State) : State :=
  if s.bit R.GRAN_TRN_CTL_BUSY then s else { (s.wr R.GRAN_TRN_CTL_BUSY 1) with gran := granUndef s.gran }

/-- GRAN_TRN_RUN_DONE: failing beats and DQs of the run. -/
def effTrnDone (beats : Nat) (dq : BitVec 16) (s : State) : State :=
  if s.bit R.GRAN_TRN_CTL_BUSY then
    ((s.wr R.GRAN_TRN_CTL_BUSY 0).wr R.GRAN_TRN_ERR_BEATS (min 65535 beats)).wr R.GRAN_TRN_ERR_DQ dq.toNat
  else s

/-- GRAN_TRN_RUN_DONE: R306. -/
def execGranTrnRunDone (beats : Nat) (dq : BitVec 16) (s : State) : Host.Outcome State Fault Refusal :=
  done (effTrnDone beats dq s)

/-- A write of GRAN_CTL.ORDER takes effect at once; the contents are undefined afterwards (R294). -/
def effOrder (v : Nat) (s : State) : State := { (s.wr R.GRAN_CTL_ORDER v) with gran := granUndef s.gran }

/-! ## The granary scrubber (R309, R310) -/

/-- The next burst of a filled segment at or after one, wrapping. -/
def scrubNext (filled b : Nat) : Option Nat :=
  let seg := b / segBursts % 8
  if tbit filled seg then some (b % (8 * segBursts))
  else ((upto 8).map fun i => (seg + 1 + i) % 8).find? (fun i => tbit filled i) |>.map fun i => i * segBursts

/-- GRANARY_SCRUB_READ: the next burst; an uncorrectable one enters the poison list, or poisons the Miller's frame at once
when the list is full. -/
def effScrubRead (f : BurstFind) (owner : Option (Nat × Nat)) (s : State) : State :=
  if !s.bit R.GRAN_CTL_SCRUB_EN || decide (s.rd R.GRAN_STAT_STATE ≠ 2) then s
  else match scrubNext (s.rd R.GRAN_STAT_FILLED) s.gran.scrubAt with
    | none => s
    | some b =>
      let s := match f with
        | .clean => s
        | .corrected two => granCorrected 4 b two s
        | .lost =>
          let s := granUncorrectable 4 b true s
          if s.gran.poison.contains b then s
          else if s.gran.poison.length < 64 then { s with gran := { s.gran with poison := s.gran.poison ++ [b] } }
          else match owner with
            | some (q, i) => if baleSeg (64 * b) s then poisonFrame q i s else s
            | none => s
      let last := (scrubNext (s.rd R.GRAN_STAT_FILLED) (b + 1)).getD 0
      if last ≤ b then
        let s := s.sat R.GRAN_SCRUB_PASSES 1
        { s with gran := { s.gran with scrubAt := last, scrubStart := s.age, rowCorr := [] } }
      else
        let s := { s with gran := { s.gran with scrubAt := last } }
        if s.gran.scrubStart + 4 * s.rd R.GRAN_SCRUB_PERIOD_H * 3600 * second < s.age then s.evt R.GRAN_EVT_SCRUB_SLOW else s

/-- GRANARY_SCRUB_READ: R310. -/
def execGranaryScrubRead (f : BurstFind) (owner : Option (Fin 4608 × Nat)) (s : State) :
    Host.Outcome State Fault Refusal := done (effScrubRead f (owner.map fun e => (e.1.val, e.2)) s)

end Sys2Proof.Machine
end

