-- ==== Sys2Proof/Machine/Ingress.lean ====
section
/-! DEFINITION. A frame from a line enters the Miller (01_architecture R20, 12_miller_queues R269, R270,
17_security R379). -/

namespace Sys2Proof.Machine

/-- The logical ingress queue of a frame: a drop's by its class; a trunk's class is named by no rule and is a free value
(log 7). -/
def ingressQueue (f : RxFrame) (s : State) : Nat × State :=
  if f.port < 8 then
    let c := s.free 3
    (4416 + 8 * f.port + c.1 % 8, c.2)
  else (4160 + 4 * (f.port - 8) + f.cls, s)

/-- A frame reaches the host die: a key-agreement frame goes to its internal queue, any other is verified with its CA and
enters its ingress queue, or is discarded. `clear` is what MACsec verification yields. -/
def ingressFrame (f : RxFrame) (clear : Option (List Byte)) (s : State) : State :=
  let put := fun (q : Nat) (l : List Byte) (sec : Bool) (s : State) =>
    (enqueue q { queue := q, octets := l, port := f.port, slot := f.slot, stamp := f.stamp, tsreq := false, tag := 0,
                 lane := 0, sec := sec, poison := false } s).2
  if f.bad then s
  else if frameType f.octets = 0x888E then put (4544 + f.port % 32) f.octets false s
  else
    let r := verify (caIndex f.port f.slot) f.octets clear s
    match r.1 with
    | none => r.2
    | some (l, sec) =>
      let q := ingressQueue f r.2
      put (physical q.1 q.2) l sec q.2

end Sys2Proof.Machine
end

