-- ==== Sys2Proof/Machine/Twin.lean ====
section
/-! DEFINITION. Twins: the stream grid, joining, deskew and selection (07_twinning_quiet_windows R152 to R164). -/

namespace Sys2Proof.Machine

/-! ## Joining (R157 to R159) -/

/-- The field of a member's PEER_ROLE. -/
def peerRoleFld (i : Nat) (b : Bool) : Fld := if b then R.TWIN_STAT_PEER_ROLE_B i else R.TWIN_STAT_PEER_ROLE_A i

/-- The field of a member's join cause. -/
def causeFld (i : Nat) (b : Bool) : Fld := if b then R.TWIN_JOIN_STAT_CAUSE_B i else R.TWIN_JOIN_STAT_CAUSE_A i

/-- A member of a twin. -/
def getMem (i : Nat) (b : Bool) (s : State) : Member := if b then (s.twin i).b else (s.twin i).a

/-- A HELLO fails to match the twin's other member, whose PEER_ROLE is known (R159). -/
def helloWrong (i : Nat) (b : Bool) (m : HelloMsg) (s : State) : Bool :=
  let o := getMem i (!b) s
  let r := s.rd (peerRoleFld i (!b))
  decide (r ≠ 0) && (decide (m.role = r) || decide (m.twin ≠ o.peerTwin) ||
    (decide (m.tag ≠ 0) && decide (o.peerTag ≠ 0) && decide (m.tag ≠ o.peerTag)))

/-- HELLO received by a member in SOLO: PEER_ROLE, and the check of R159. -/
def effHello (t : Nat) (m : HelloMsg) (s : State) : State :=
  match soloMember t s with
  | none => s
  | some (i, b) =>
    if m.role ≠ 1 ∧ m.role ≠ 2 then s
    else
      let wrong := helloWrong i b m s
      let s := s.wr (peerRoleFld i b) m.role
      let s := modMem i b (fun x => { x with
        peerTwin := m.twin, peerTag := m.tag, helloGot := true, helloGotSeen := x.helloGotSeen || m.seen,
        nonHelloRun := 0, wrong := wrong }) s
      if wrong then (s.evt (R.TWIN_EVT_WRONG_PEER i)).wr (causeFld i b) 2 else s

/-- HELLO: R157, R159. -/
def execHello (t : Fin 8) (m : HelloMsg) (s : State) : Host.Outcome State Fault Refusal := done (effHello t m s)

/-- The conditions of R157 for switching to the stream. -/
def soloReady (m : Member) : Bool :=
  decide (4 ≤ m.helloSeenSent) && (m.helloGotSeen || decide (2 ≤ m.nonHelloRun)) && !m.wrong

/-- TWIN_SOLO_SWITCH: the member sends the stream and enters VERIFY (R157). -/
def execTwinSoloSwitch (t : Fin 8) (s : State) : Host.Outcome State Fault Refusal :=
  done (match soloMember t s with
    | some (i, b) => if soloReady (getMem i b s) then setMem i b 2 s else s
    | none => s)

/-- A field of `w` bits read as two's complement. -/
def signed (w n : Nat) : Int := if 2 ^ (w - 1) ≤ n then (n : Int) - 2 ^ w else n

/-- A two's complement field of `w` bits. -/
def unsigned (w : Nat) (i : Int) : Nat := (i % 2 ^ w).toNat

/-- The arrival offset lies within ±8 µs (R158). -/
def offsetOk (i : Nat) (s : State) : Bool := decide ((signed 16 (s.rd (R.TWIN_ARRIVAL_OFFSET_NS i))).natAbs ≤ 8000)

/-- TWIN_VERIFY_TIMEOUT: 16 AM periods in VERIFY; JOIN_FAIL and its cause (R158). -/
def execTwinVerifyTimeout (t : Fin 8) (s : State) : Host.Outcome State Fault Refusal :=
  done (match twinOf t s with
    | some (i, b) =>
      if memState i b s = 2 then
        (s.evt (R.TWIN_EVT_JOIN_FAIL i)).wr (causeFld i b) (if offsetOk i s then 4 else 3)
      else s
    | none => s)

/-! ## Selection (R160, R161) -/

/-- The number of a position in the 2^20 positions that the AM counter and the index name. -/
def posNum (c : TwinCopy) : Nat := c.am % 256 * 4096 + c.index % 4096

/-- The corrected symbols of a copy that decoded. -/
def CwStatusCount : CwStatus → Option Nat
  | .corrected n => some n
  | .uncorrectable => none

/-- What R161 takes from the copies of A and B: the member to deliver (true for B), whether it is delivered
uncorrectable, and whether DISAGREE counts; none where no copy is there. -/
def twinChoice (a b : Option TwinCopy) (pref : Bool) : Option (Bool × Bool) × Bool :=
  let ga := a.bind fun c => CwStatusCount c.status
  let gb := b.bind fun c => CwStatusCount c.status
  let bad := if (if pref then b.isSome else a.isSome) then some (pref, true)
    else if a.isSome then some (false, true) else if b.isSome then some (true, true) else none
  match ga, gb with
  | some n, some m =>
    let differ := a.map (·.message) ≠ b.map (·.message)
    if differ ∧ n = m then (bad, true)
    else (some (if n < m then false else if m < n then true else pref, false), decide differ)
  | some _, none => (some (false, false), false)
  | none, some _ => (some (true, false), false)
  | none, none => (bad, false)

/-- The frames that a delivered copy completes enter the host die as frames of member A; stamps taken on member B have
SKEW subtracted (R152, R162). -/
def twinFrames (i : Nat) (b : Bool) (c : TwinCopy) (s : State) : State :=
  let sk := signed 32 (s.rd (R.TWIN_SKEW_SKEW_PS i))
  c.frames.foldl (fun a f =>
    let st := if b then stampShift f.1.stamp (-sk) else f.1.stamp
    ingressFrame
      { port := memTrunk i false a, cls := 0, octets := f.1.octets, stamp := st, slot := 0, bad := false } f.2 a) s

/-- Select position `p` from the copies at hand and deliver it (R161). -/
def twinSelect (i p : Nat) (a b : Option TwinCopy) (s : State) : State :=
  let pref := decide (s.rd (R.TWIN_STAT_PREF i) = 2)
  let c := twinChoice a b pref
  let s := s.modTwin i fun x => { x with lastSel := some p, copyHeld := none }
  let s := if c.2 then s.add (R.TWIN_CNT_COUNT i 3) 1 else s
  match c.1 with
  | none => s.add (R.TWIN_CNT_COUNT i 4) 1
  | some (m, bad) =>
    let s := s.add (R.TWIN_CNT_COUNT i (b2n m)) 1
    if bad then
      if a.isSome && b.isSome then (s.add (R.TWIN_CNT_COUNT i 2) 1).evt (R.TWIN_EVT_BOTH_BAD i) else s
    else
      let s := s.wr (R.TWIN_STAT_PREF i) (b2n m + 1)
      match (if m then b else a) with | some x => twinFrames i m x s | none => s

/-- The held copy as the copies of A and B. -/
def heldCopies (i : Nat) (s : State) : Option TwinCopy × Option TwinCopy :=
  match (s.twin i).copyHeld with
  | some (0, c) => (some c, none)
  | some (_, c) => (none, some c)
  | none => (none, none)

/-- Copies of members that are not JOINED take no part in selection. -/
def joinedOnly (i : Nat) (s : State) (c : Option TwinCopy × Option TwinCopy) : Option TwinCopy × Option TwinCopy :=
  (if joined i false s then c.1 else none, if joined i true s then c.2 else none)

/-- A held position is selected without waiting longer. -/
def twinFlush (i : Nat) (s : State) : State :=
  match (s.twin i).copyHeld with
  | none => s
  | some (_, c) =>
    let h := joinedOnly i s (heldCopies i s)
    if h.1.isNone && h.2.isNone then s.modTwin i fun x => { x with copyHeld := none }
    else twinSelect i (posNum c) h.1 h.2 s

/-- An average with weight 1/8 (R160). -/
def avg8 (old new : Int) : Int := old + (new - old) / 8

/-- Skew and arrival offset, measured once per AM (R160). -/
def twinMeasure (i : Nat) (stA stB arrivalNs : Int) (s : State) : State :=
  let s := s.wr (R.TWIN_SKEW_SKEW_PS i) (unsigned 32 (avg8 (signed 32 (s.rd (R.TWIN_SKEW_SKEW_PS i))) (stB - stA)))
  s.wr (R.TWIN_ARRIVAL_OFFSET_NS i)
    (unsigned 16 (avg8 (signed 16 (s.rd (R.TWIN_ARRIVAL_OFFSET_NS i))) arrivalNs))

/-- A member in VERIFY joins where a condition of R158 holds. -/
def twinJoin (i : Nat) (b : Bool) (s : State) : State :=
  let m := getMem i b s
  if memState i b s ≠ 2 then s
  else if joined i (!b) s then (if offsetOk i s && decide (64 ≤ m.matchRun) then setMem i b 3 s else s)
  else if 2 ≤ m.amRun then setMem i b 3 s else s

/-- A JOINED member whose arrival offset passes ±8 µs goes to VERIFY (R160). -/
def twinOffsetCheck (i : Nat) (b : Bool) (s : State) : State :=
  if joined i b s && joined i (!b) s && !offsetOk i s then setMem i b 2 s else s

/-- Both copies of a position are there: the run of matching positions, the measures of an AM, and joining. -/
def twinPair (i : Nat) (b : Bool) (first c : TwinCopy) (arrivalNs : Int) (s : State) : State :=
  let same := (CwStatusCount first.status).isSome && (CwStatusCount c.status).isSome && decide (first.message = c.message)
  let bump := fun (m : Member) => { m with matchRun := if same then m.matchRun + 1 else 0 }
  let s := modMem i true bump (modMem i false bump s)
  let st := if b then ((first.stampPs : Int), (c.stampPs : Int)) else ((c.stampPs : Int), (first.stampPs : Int))
  if c.index = 0 then twinMeasure i st.1 st.2 arrivalNs s else s

/-- The run of valid AMs of a member's stream (R158). -/
def copyAm (i : Nat) (b : Bool) (c : TwinCopy) (s : State) : State :=
  if c.index ≠ 0 then s
  else modMem i b (fun m => { m with amRun := if (CwStatusCount c.status).isSome then m.amRun + 1 else 0 }) s

/-- The held copy of the other member for the same position. -/
def copyPartner (i : Nat) (b : Bool) (c : TwinCopy) (s : State) : Option TwinCopy :=
  match (s.twin i).copyHeld with
  | some (w, f) => if w ≠ b2n b ∧ posNum f = posNum c then some f else none
  | none => none

/-- The second copy of a position is there: it is selected, unless a later position was. -/
def copyBoth (i : Nat) (b late : Bool) (f c : TwinCopy) (arrivalNs : Int) (s : State) : State :=
  let s := twinPair i b f c arrivalNs s
  let h := joinedOnly i s (if b then (some f, some c) else (some c, some f))
  if h.1.isNone && h.2.isNone then s.modTwin i fun x => { x with copyHeld := none }
  else if late then s else twinSelect i (posNum c) h.1 h.2 s

/-- The first copy of a position: an older one is selected, this one is held, or selected at once where no other copy can
come. -/
def copyFirst (i : Nat) (b : Bool) (c : TwinCopy) (s : State) : State :=
  let s := twinFlush i s
  if joined i b s && !joined i (!b) s && memState i (!b) s ≠ 2 then
    twinSelect i (posNum c) (if b then none else some c) (if b then some c else none) s
  else s.modTwin i fun x => { x with copyHeld := some (b2n b, c) }

/-- After a copy the members are looked at: the arrival offset, and joining. -/
def copyJoin (i : Nat) (b : Bool) (s : State) : State := twinJoin i true (twinJoin i false (twinOffsetCheck i b s))

/-- A copy is of a position before one that has been selected. -/
def copyLate (i : Nat) (c : TwinCopy) (s : State) : Bool :=
  match (s.twin i).lastSel with | some q => decide ((q + 2 ^ 20 - posNum c) % 2 ^ 20 < 2 ^ 19) | none => false

/-- TWIN_COPY_ARRIVAL (R158, R160, R161). -/
def effTwinCopy (i : Nat) (b : Bool) (c : TwinCopy) (arrivalNs : Int) (s : State) : State :=
  if !s.bit (R.TWIN_CFG_FORMED i) then s
  else if copyLate i c s && joined i b s then s.add (R.TWIN_CNT_COUNT i 5) 1
  else
    let t := copyAm i b c s
    copyJoin i b (match copyPartner i b c t with
      | some f => copyBoth i b (copyLate i c s) f c arrivalNs t
      | none => copyFirst i b c t)

/-- TWIN_COPY_ARRIVAL: R158, R160, R161. -/
def execTwinCopyArrival (i : Fin 4) (b : Bool) (c : TwinCopy) (arrivalNs : Int) (s : State) :
    Host.Outcome State Fault Refusal := done (effTwinCopy i b c arrivalNs s)

/-- TWIN_HOLD_EXPIRY: the hold runs out and the position is selected from the copies at hand (R160). -/
def execTwinHoldExpiry (i : Fin 4) (s : State) : Host.Outcome State Fault Refusal := done (twinFlush i s)

/-! ## The grid (R154) -/

/-- A member transmits the stream: in VERIFY or JOINED (R156). -/
def onStream (i : Nat) (b : Bool) (s : State) : Bool := memState i b s = 2 || memState i b s = 3

/-- What the position `idx` of the period `am` is to a member in state `st`: it transmits the stream in VERIFY and JOINED
(R156), so the message goes to its vale; in VERIFY it counts AM periods. -/
def gridMem (am idx st : Nat) (m : Member) : Member :=
  { m with flight := if st = 2 ∨ st = 3 then m.flight ++ [am * 4096 + idx] else m.flight,
           verifyAms := if idx = 0 ∧ st = 2 then m.verifyAms + 1 else m.verifyAms }

/-- TWIN_GRID_POSITION: the next position of the stream is reached; with no JOINED member it is MISSING (R154, R161,
R163). -/
def effTwinGrid (i : Nat) (s : State) : State :=
  if !s.bit (R.TWIN_CFG_FORMED i) then s
  else
    let idx := ((s.twin i).gridIndex + 1) % 4096
    let am := if idx = 0 then ((s.twin i).gridAm + 1) % 256 else (s.twin i).gridAm
    let t := s.modTwin i fun x => { x with
      gridIndex := idx, gridAm := am, a := gridMem am idx (memState i false s) x.a,
      b := gridMem am idx (memState i true s) x.b }
    if !joined i false s && !joined i true s then t.add (R.TWIN_CNT_COUNT i 4) 1 else t

/-- TWIN_GRID_POSITION: R154, R161. -/
def execTwinGridPosition (i : Fin 4) (s : State) : Host.Outcome State Fault Refusal := done (effTwinGrid i s)

end Sys2Proof.Machine
end

