-- ==== Sys2Proof/Machine/Mill.lean ====
section
/-! DEFINITION. The Miller: page-outs, fetches, the drop and trunk schedulers, pacing, panic, flushes
(12_miller_queues R274 to R285, R436). -/

namespace Sys2Proof.Machine

/-! ## Page-outs (R274, R276) -/

/-- KEEP of a queue. -/
def keepCells (q : Nat) (s : State) : Nat :=
  let k := s.rd (R.MILLQ_PAGE_HEAD_KEEP q)
  if queueIso q then max k (s.rd R.MILL_ISO_TH_REFILL_CELLS + 32) else k

/-- Where the next bale of a queue would begin: KEEP cells behind the head while nothing is paged or in write, else right
behind the last such bale. -/
def baleStart (q : Nat) (s : State) : Nat :=
  let x := s.que q
  if x.paged + x.writing = 0 then keepCells q s else x.front + 32 * (x.paged + x.writing)

/-- The queue may page and has a whole bale that lies KEEP cells behind the head. -/
def mayPage (q : Nat) (s : State) : Bool :=
  s.bit R.MILL_CTL_PAGE_EN && !s.bit (R.MILLQ_CFG_PIN q) && decide (queueRange q ≠ 4) &&
    decide (keepCells q s ≤ baleStart q s) && decide (baleStart q s + 32 ≤ (s.que q).total)

/-- The resident cells that count for the first cause: a bale in write counts no more. -/
def pagingResident (q : Nat) (s : State) : Nat := (s.que q).resident - 32 * (s.que q).writing

/-- The cells of every bale in write. -/
def writingCells (s : State) : Nat := (s.mill.queues.map fun e => 32 * e.2.writing).sum

/-- The queue with the most resident cells of a list, the lowest on a tie. -/
def mostResident (s : State) : List Nat → Option Nat
  | [] => none
  | q :: l =>
    match mostResident s l with
    | none => some q
    | some m => if pagingResident q s < pagingResident m s then some m else some q

/-- The queue that pages next: those above RES_MAX round-robin, then, while the shared pool is low, the one with the most
resident cells. -/
def pageNext (s : State) : Option Nat :=
  let l := (s.mill.queues.map fun e => e.1).filter fun q => mayPage q s
  let high := l.filter fun q => decide (s.rd (R.MILLQ_PAGE_RES_MAX q) < pagingResident q s)
  match (high.filter fun q => s.mill.pageAt ≤ q) ++ (high.filter fun q => q < s.mill.pageAt) with
  | q :: _ => some q
  | [] =>
    if s.rd R.MILL_STAT_FREE + writingCells s < s.rd R.MILL_PAGE_CTL_LOW_FREE then mostResident s l else none

/-- The bale slots of the segments that PAGE_SEG names. -/
def baleSlots (s : State) : Nat := 28672 * popCount (s.rd R.GRAN_SEG_PAGE_SEG) 8

/-- PAGE_OUT_START: the next queue that must page writes its next bale; with every slot in use GRAN_FULL is set and none
starts. -/
def effPageOut (s : State) : State :=
  if !granServes s then s
  else match pageNext s with
    | none => s
    | some q =>
      if baleSlots s ≤ s.rd R.MILL_PAGE_STAT_BALES_USED then s.evt R.MILL_EVT_GRAN_FULL
      else
        let b := baleStart q s
        let s := s.modQue q fun x => { x with writing := x.writing + 1, front := if x.paged + x.writing = 0 then b else x.front }
        let s := s.wr R.MILL_PAGE_STAT_BALES_USED (s.rd R.MILL_PAGE_STAT_BALES_USED + 1)
        { s with mill := { s.mill with pageAt := q + 1, written := true } }

/-- PAGE_OUT_START: R274. -/
def execPageOutStart (s : State) : Host.Outcome State Fault Refusal := done (effPageOut s)

/-- PAGE_OUT_DONE: the write of a queue's bale completes and its cells are freed. -/
def effPageOutDone (q : Nat) (s : State) : State :=
  if (s.que q).writing = 0 then s
  else
    let s := freeCells (queueRange q) 32 (s.modQue q fun x => { x with writing := x.writing - 1, paged := x.paged + 1 })
    isoCheck q (s.add (R.MILL_CNT_COUNT 0) 1)

/-- PAGE_OUT_DONE: R274. -/
def execPageOutDone (q : Fin 4608) (s : State) : Host.Outcome State Fault Refusal := done (effPageOutDone q s)

/-! ## Fetches (R275, R276) -/

/-- BALE_FETCH_REQUEST: R275. -/
def execBaleFetchRequest (q : Fin 4608) (s : State) : Host.Outcome State Fault Refusal := done (fetchTry q s)

/-- The frame that covers a cell of a queue. -/
def frameAt : Nat → List MFrame → Option Nat
  | _, [] => none
  | c, f :: l => if c < f.cells then some 0 else (frameAt (c - f.cells) l).map (· + 1)

/-- BALE_FETCH_DONE: the bale joins the head window and frees its slot; frames with a cell in a burst that did not decode
are poisoned. A bale of a flushed queue is discarded. -/
def effFetchDone (q : Nat) (bad : List (Fin 128)) (s : State) : State :=
  let x := s.que q
  if 0 < x.orphans then freeSlots 1 (s.modQue q fun x => { x with orphans := x.orphans - 1 })
  else if x.fetching = 0 then s
  else
    let hit := bad.filterMap fun b => frameAt (x.front + b.val / 4) x.frames
    let s := hit.foldl (fun a i => poisonFrame q i a) s
    let s := s.modQue q fun x => { x with
      fetching := x.fetching - 1, paged := x.paged - 1, front := if x.paged = 1 ∧ x.writing = 0 then 0 else x.front + 32 }
    isoCheck q ((freeSlots 1 s).add (R.MILL_CNT_COUNT (if queueIso q then 2 else 1)) 1)

/-- BALE_FETCH_DONE: R275, R284. -/
def execBaleFetchDone (q : Fin 4608) (bad : List (Fin 128)) (s : State) : Host.Outcome State Fault Refusal :=
  done (effFetchDone q bad s)

/-! ## Release (R278, R280, R281) -/

/-- The octets of a frame as it crosses the pass: protection adds 32 (17_security R380). -/
def crossOctets (p slot : Nat) (f : MFrame) (s : State) : Nat :=
  f.octets.length + (if frameType f.octets ≠ 0x888E ∧ caUsed (caIndex p slot) s then 32 else 0)

/-- The octets released to a port and not yet returned by CREDIT. -/
def outOctets (p : Nat) (s : State) : Nat :=
  64 * ((s.cred p).released + 2 ^ 19 - (s.cred p).reported) % (64 * 2 ^ 19)

/-- The queue's release interval and every pending event leave its head frame free to go. -/
def releasable (q : Nat) (s : State) : Option MFrame := if (s.que q).pacing then none else headOf q s

/-- Hand a frame to the pass egress engine of its vale, or to a twin's stream former; a frame that MACsec discards is not
sent whole. -/
def handOver (p : Nat) (twin : Option Nat) (q : Nat) (f : MFrame) (s : State) : State :=
  let r := egressProtect p f.slot f.octets s
  match r.1 with
  | none => frameReport q f r.2
  | some l =>
    let x : TxFrame :=
      { queue := f.queue, octets := l, tsreq := f.tsreq, tag := f.tag, lane := f.lane, slot := f.slot,
        iso := decide (queueClass q = 1), collisions := 0 }
    match twin with
    | some i => r.2.modTwin i fun t => { t with egress := t.egress ++ [x] }
    | none =>
      (r.2.modCred p fun c => { c with released := (c.released + units l.length) % 2 ^ 19 }).modPass (portVale p) fun v =>
        { v with down := v.down ++ [x] }

/-- Release the head frame of a queue: counts, shaper, pacing, hand-over; a poisoned frame is discarded instead. -/
def release (p el : Nat) (twin : Option Nat) (q : Nat) (s : State) : State :=
  match (s.que q).frames with
  | [] => s
  | f :: _ =>
    if f.poison then poisonDrop q s
    else
      let s := ((s.add (R.MILLQ_DEQ_FRAMES_COUNT q) 1).add (R.MILLQ_DEQ_OCTETS_COUNT q) f.octets.length)
      let s := popHead q (shaperTake p el f.octets.length s)
      let s := s.modQue q fun x => { x with pacing := decide (s.rd (R.MILLQ_CFG_PACE_US q) ≠ 0) }
      handOver p twin q f s

/-- The Miller releases frames: the device serves, the host die is in Run or Hush, and the port is not fenced. -/
def mayRelease (p : Nat) (s : State) : Bool :=
  s.serving && decide (s.rd R.PWR_STAT_HOST_RUNG < 2) && !s.isFenced (portBlock p)

/-- The length a head frame adds to OUT, where the queue may release. -/
def needOf (p q : Nat) (s : State) : Option Nat := (releasable q s).map fun f => crossOctets p f.slot f s

/-- The next isochronous queue of a drop, round-robin over slots. -/
def isoNext (d : Nat) (s : State) : Option Nat :=
  let p := 8 + d
  if !shaperOk p 1 s then none
  else (upto 32).findSome? fun k =>
    let slot := (tget 31 s.mill.isoAt d + 1 + k) % 32
    match needOf p (64 * d + 2 * slot + 1) s with
    | some n => if outOctets p s + n ≤ 8192 then some slot else none
    | none => none

/-- The bulk queues of a drop that may release, with length and quantum. -/
def bulkReady (d : Nat) (s : State) : List (Nat × Nat × Nat) :=
  let p := 8 + d
  if !shaperOk p 0 s then []
  else (upto 32).filterMap fun k =>
    let q := 64 * d + 2 * k
    match needOf p q s with
    | some n =>
      if outOctets p s + n ≤ s.rd R.MILL_DROP_CTL_BULK_SHARE then
        some (q, ((s.que q).frames.head?.map fun f => f.octets.length).getD 0, s.rd (R.MILLQ_QUANTUM_QUANTUM q))
      else none
    | none => none

/-- The loop of R280. -/
def dropLoop (d : Nat) : Nat → State → State
  | 0, s => s
  | n + 1, s =>
    match isoNext d s with
    | some slot =>
      let s := { s with mill := { s.mill with isoAt := tset 31 s.mill.isoAt d slot } }
      dropLoop d n (release (8 + d) 1 none (64 * d + 2 * slot + 1) s)
    | none =>
      let r := drrPick (8 + d) (bulkReady d s) s
      match r.1 with
      | some q => dropLoop d n (release (8 + d) 0 none q r.2)
      | none => r.2

/-- The frames that a port's egress queues hold. -/
def portFrames (p : Nat) (s : State) : Nat :=
  ((s.mill.queues.filter fun e => portQueue p e.1).map fun e => e.2.frames.length).sum

/-- DROP_RELEASE: R280. -/
def execDropRelease (d : Fin 64) (errs : List PsErr) (s : State) : Host.Outcome State Fault Refusal :=
  done (let s := liveSched (8 + d) (psFindings errs s)
    if mayRelease (8 + d) s then dropLoop d (portFrames (8 + d) s) s else s)

/-- Where a trunk's frames go: its vale, or the twin whose member A it is. -/
def trunkTwin (t : Nat) (s : State) : Option Nat :=
  match twinOf t s with | some (i, false) => some i | _ => none

/-- Space for a frame of so many octets: 160 KiB of bank 4, or 32 KiB of the stream former while a member transmits the
stream (R154, R281). -/
def trunkSpace (t octets : Nat) (s : State) : Bool :=
  match trunkTwin t s with
  | some i =>
    (onStream i false s || onStream i true s) &&
      decide ((((s.twin i).egress.map fun f => f.octets.length).sum) + octets ≤ 32768)
  | none => decide (outOctets t s + 64 * units octets ≤ 163840)

/-- Class `c` of a trunk may release its head frame. -/
def trunkReady (t c : Nat) (s : State) : Bool :=
  shaperOk t c s && (match needOf t (4096 + 8 * t + c) s with | some n => trunkSpace t n s | none => false)

/-- The class that R281 serves next by strict priority. -/
def strictNext (t : Nat) (s : State) : Option Nat :=
  ((upto 8).reverse).find? fun c => tbit (s.rd (R.MILL_TRK_SP_SP t)) c && trunkReady t c s

/-- The loop of R281. -/
def trunkLoop (t : Nat) : Nat → State → State
  | 0, s => s
  | n + 1, s =>
    match strictNext t s with
    | some c => trunkLoop t n (release t c (trunkTwin t s) (4096 + 8 * t + c) s)
    | none =>
      let l := ((upto 8).filter fun c => !tbit (s.rd (R.MILL_TRK_SP_SP t)) c && trunkReady t c s).map fun c =>
        let q := 4096 + 8 * t + c
        (q, ((s.que q).frames.head?.map fun f => f.octets.length).getD 0, 256 * tget 1 s.mill.weight (8 * t + c))
      let r := drrPick t l s
      match r.1 with
      | some q => trunkLoop t n (release t (q % 8) (trunkTwin t s) q r.2)
      | none => r.2

/-- A trunk's port is fenced: a twin only while both members are (R31). -/
def egressFenced (p : Nat) (s : State) : Bool :=
  if p < 8 then (portTrunks p s).all fun t => s.trkFenced t else s.drpFenced (p - 8)

/-- TRUNK_RELEASE: R281. -/
def execTrunkRelease (t : Fin 8) (errs : List PsErr) (s : State) : Host.Outcome State Fault Refusal :=
  done (let s := liveSched t (psFindings errs s)
    if s.serving && decide (s.rd R.PWR_STAT_HOST_RUNG < 2) && !egressFenced t s then trunkLoop t (portFrames t s) s else s)

/-! ## Timers (R277, R278, R436) -/

/-- PANIC_LONG: panic has been raised for PANIC_MAX_US (R277). -/
def execPanicLong (s : State) : Host.Outcome State Fault Refusal :=
  done (if s.rd R.MILL_ISO_CTL_PANIC_NOW ≠ 0 then (s.evt R.MILL_EVT_PANIC_LONG).recordFree 9 2 0x25 none else s)

/-- PACE_DUE: the interval since the queue's last release has passed (R278). -/
def execPaceDue (q : Fin 4608) (s : State) : Host.Outcome State Fault Refusal :=
  done (s.modQue q fun x => { x with pacing := false })

/-- SHAPER_BUCKET_REFILL: the bucket is not negative any more (R436). -/
def execShaperBucketRefill (p : Fin 72) (c : Fin 8) (s : State) : Host.Outcome State Fault Refusal :=
  done (if shaperOk p c s then s
    else { s with mill := { s.mill with
      buckets := tset {} s.mill.buckets (8 * p + c) { debt := bucketCap, stamp := s.age } } })

/-! ## Flush (R285) -/

/-- A write of 1 to MILL_FLUSH.GO on a queue outside the internal range. -/
def effMillFlush (q : Nat) (s : State) : State := flushQueue q 2 s

/-! ## Frames that leave a line (R21, R259) -/

/-- FRAME_TRANSMIT_COMPLETE: a frame from bank 4, or from a twin's stream former, has left a line whole: its credit is
returned and its stamp reported; for a twin the stamp is that of 07_twinning R162. -/
def effFrameSent (p : Nat) (st : Stamp) (s : State) : State :=
  if p < 8 then
    match twinOf p s with
    | some (i, _) =>
      match (s.twin i).egress with
      | [] => s
      | f :: l => stampReport f (some st) (s.modTwin i fun t => { t with egress := l })
    | none =>
      if trkState p s ≠ 8 then s
      else match (s.trk p).bank4 with
        | [] => s
        | f :: l => creditBack p f.octets.length (stampReport f (some st) (s.modTrk p fun x => { x with bank4 := l }))
  else s

end Sys2Proof.Machine
end

