-- ==== Sys2Proof/Machine/HostLane.lean ====
section
/-! DEFINITION. Host lanes: lock, records and waybills, reports, the lane scheduler (11_host_interfaces R246 to R260,
12_miller_queues R282). -/

namespace Sys2Proof.Machine

/-! ## Lanes (R249 to R252) -/

/-- The last octet of the lane's record has left: a frame leaves its queue and the queue is free for any lane (R282). -/
def laneEnd (n : Nat) (s : State) : State :=
  match (s.hln n).busy with
  | none => s
  | some r =>
    let s := s.modHln n fun x => { x with busy := none }
    match r with
    | .report _ => s
    | .frame q => qShow q (popHead q (s.modQue q fun x => { x with lane := none }))

/-- HOST_LANE_LOCK: LOCK rises; SEQ starts from 0 and the next record's SEQ is taken as the start (R249, R258). A receiver
that is off locks nothing (R252). -/
def execHostLaneLock (n : Fin 6) (s : State) : Host.Outcome State Fault Refusal :=
  done (if s.bit (R.HLN_STAT_LOCK n) ∨ 2 ≤ s.rd R.PWR_STAT_HOST_RUNG then s
    else
      let s := ((s.wr (R.HLN_STAT_LOCK n) 1).evt (R.HLN_EVT_LOCK_GAIN n)).wrb (R.HLN_STAT_AM_LOCK n)
        (!s.bit (R.HLN_CTL_RATE n))
      s.modHln n fun x => { x with txSeq := 0, seqSet := false })

/-- HOST_LANE_LOCK_LOSS: R249, R250. -/
def execHostLaneLockLoss (n : Fin 6) (s : State) : Host.Outcome State Fault Refusal :=
  done (if s.bit (R.HLN_STAT_LOCK n) then laneUnlock n s else s)

/-- A write of 1 to RELOCK, or to RATE or PRECODE. -/
def effHlnRelock (n : Nat) (s : State) : State := laneUnlock n s

/-- ENABLE was written: a lane out of use cuts its record. -/
def effHlnEnable (n : Nat) (v : Bool) (s : State) : State := if v then s else laneCut n s

/-- HOST_LANE_IDLE_ENTRY: with nothing to send, in Hush or where IDLE_US allows, the transmitter goes to electrical idle
(R251, R252). -/
def execHostLaneIdleEntry (n : Fin 6) (s : State) : Host.Outcome State Fault Refusal :=
  done (let s := laneEnd n s
    let rung := s.rd R.PWR_STAT_HOST_RUNG
    if s.bit (R.HLN_CTL_ENABLE n) && !s.bit (R.HLN_STAT_TX_IDLE n) &&
        (decide (1 ≤ rung) || decide (s.rd (R.HLN_CTL_IDLE_US n) ≠ 0)) then
      (s.wr (R.HLN_STAT_TX_IDLE n) 1).send (.hostIdle n)
    else s)

/-! ## Waybills (R254 to R256) -/

/-- CHK: the XOR of bits [63:4] taken as 15 nibbles, XOR 0b1111. -/
def waybillChk (w : Nat) : Nat := Nat.xor ((upto 15).foldl (fun a i => Nat.xor a (w / 16 ^ (i + 1) % 16)) 0) 15

/-- A waybill from its fields, with its CHK. -/
def waybill (queue port cls seq tsref : Nat) (xs rpt sec disc : Bool) : BitVec 64 :=
  let w := queue % 8192 * 2 ^ 51 + port % 128 * 2 ^ 44 + cls % 8 * 2 ^ 41 + seq % 65536 * 2 ^ 25 + tsref % 65536 * 2 ^ 9
    + b2n xs * 2 ^ 8 + b2n rpt * 2 ^ 6 + b2n sec * 2 ^ 5 + b2n disc * 2 ^ 4
  BitVec.ofNat 64 (w + waybillChk w)

/-- TSREF of a stamp: bits [27:12] of its nanoseconds. -/
def tsref (st : Stamp) : Nat := tbits st.ns 27 12

/-- A record of a queue carries the stamp extension (R256). -/
def wantsExt (n q : Nat) (f : MFrame) (s : State) : Bool :=
  let m := s.rd (R.HLN_CTL_XS_MODE n)
  decide (m = 2) || (decide (m = 1) &&
    ((decide (queueRange q = 2) && decide (queueClass q = 2)) ||
      (decide (queueRange q = 3) && decide (innerType f.octets = 0x88F7))))

/-- The waybill of an ingress record. -/
def recordWaybill (n q : Nat) (f : MFrame) (s : State) : BitVec 64 :=
  waybill q (if 4480 ≤ q then 0x7F else f.port) (queueClass q) (s.hln n).txSeq (tsref f.stamp) (wantsExt n q f s) false
    f.sec false

/-- The waybill of a report. -/
def reportWaybill (n : Nat) (r : Report) (s : State) : BitVec 64 :=
  waybill r.queue (queuePort r.queue) (queueClass r.queue) (s.hln n).txSeq r.tag true true false r.stamp.isNone

/-! ## The lane scheduler (R258, R259, R282) -/

/-- The lane starts a record: the next SEQ, TX_RECORDS, and a burst first where the transmitter was idle. -/
def laneSend (n : Nat) (r : HRec) (w : BitVec 64) (ext : Option Stamp) (l : List Byte) (s : State) : State :=
  let s := if s.bit (R.HLN_STAT_TX_IDLE n) then (s.wr (R.HLN_STAT_TX_IDLE n) 0).send (.hostBurst n) else s
  let s := (s.send (.hostRecord n w ext l)).add (R.HLN_TX_RECORDS_COUNT n) 1
  s.modHln n fun x => { x with busy := some r, txSeq := (x.txSeq + 1) % 65536 }

/-- The lowest lane that is up. -/
def lowestLane (s : State) : Option Nat := (upto 6).find? fun n => laneUp n s

/-- A report is due on a lane: its own while that lane is up, any other's on the lowest lane that is up. -/
def reportHere (n : Nat) (s : State) (r : Report) : Bool :=
  decide (r.lane = n) || (!laneUp r.lane s && decide (lowestLane s = some n))

/-- The ingress queues of a priority that the lane may serve, with the length of the head frame and the quantum. -/
def ingressReady (n prio : Nat) (s : State) : List (Nat × Nat × Nat) :=
  s.mill.queues.filterMap fun e =>
    let q := e.1
    if 4160 ≤ q ∧ e.2.lane = none ∧ s.rd (R.MILLQ_CFG_PRIO q) = prio ∧ tbit (s.rd (R.MILLQ_CFG_LANE_MASK q)) n
        ∧ !(decide (4544 ≤ q)) then
      match headOf q s with
      | some f => some (q, f.octets.length, s.rd (R.MILLQ_QUANTUM_QUANTUM q))
      | none => none
    else none

/-- The record of the queue that round-robin chose starts on the lane; a poisoned head is discarded and nothing is sent. -/
def laneRecord (n q : Nat) (s : State) : State :=
  match (s.que q).frames with
  | [] => s
  | f :: _ =>
    let s := (s.add (R.MILLQ_DEQ_FRAMES_COUNT q) 1).add (R.MILLQ_DEQ_OCTETS_COUNT q) f.octets.length
    let s := s.modQue q fun x => { x with lane := some n }
    qShow q (laneSend n (.frame q) (recordWaybill n q f s) (if wantsExt n q f s then some f.stamp else none) f.octets s)

/-- Poisoned head frames of the ingress queues that the lane may serve are discarded. -/
def ingressPoison (n : Nat) : Nat → State → State
  | 0, s => s
  | k + 1, s =>
    match ((upto 4).map fun p => ingressReady n p s).flatten.find? fun e =>
        match (s.que e.1).frames with | f :: _ => f.poison | [] => false with
    | some e => ingressPoison n k (poisonDrop e.1 s)
    | none => s

/-- The lane sends the oldest report due on it, else the head record of the queue chosen, highest priority first. -/
def laneSchedule (n : Nat) (s : State) : State :=
  match s.reports.find? fun r => reportHere n s r with
  | some r =>
    let s := { s with reports := s.reports.erase r }
    laneSend n (.report r) (reportWaybill n r s) (some (r.stamp.getD ⟨0, 0, 0⟩)) [] s
  | none =>
    let s := ingressPoison n ((s.mill.queues.map fun e => e.2.frames.length).sum) s
    match ([3, 2, 1, 0].find? fun p => !(ingressReady n p s).isEmpty) with
    | none => s
    | some p =>
      let r := drrPick (128 + 4 * n + p) (ingressReady n p s) s
      match r.1 with
      | some q => laneRecord n q r.2
      | none => r.2

/-- HOST_LANE_SCHEDULE: the transmitter of a lane that is up can take a record; the one before it has left. -/
def execHostLaneSchedule (n : Fin 6) (errs : List PsErr) (s : State) : Host.Outcome State Fault Refusal :=
  done (let s := laneEnd n (psFindings errs s)
    if laneUp n s ∧ s.rd R.PWR_STAT_HOST_RUNG < 2 then laneSchedule n s else s)

/-! ## Records from the host (R255 to R260) -/

/-- Count one of the lane's record counters. -/
def laneCnt (n k : Nat) (s : State) : State := s.sat (R.HLN_CNT_COUNT n k) 1

/-- SEQ of a record against the expected one (R258). -/
def seqCheck (n seq : Nat) (s : State) : State :=
  let diff := dist 16 seq (s.rd (R.HLN_STAT_EXP_SEQ n))
  let s := if !(s.hln n).seqSet ∨ diff = 0 then s
    else if diff < 32768 then (laneCnt n 6 s).evt (R.HLN_EVT_SEQ_GAP n) else laneCnt n 7 s
  (s.wr (R.HLN_STAT_EXP_SEQ n) (seq + 1)).modHln n fun x => { x with seqSet := true }

/-- The port of a queue is enabled and, on a drop, the queue's station is VALID or slot 31; member B of a twin is not
(01_architecture R22, 07 R152, 08 R186). -/
def queueEnabled (q : Nat) (s : State) : Bool :=
  let p := queuePort q
  if p < 8 then s.bit (R.TRK_CTL_ENABLE p) && (match twinOf p s with | some (_, true) => false | _ => true)
  else s.bit (R.DRP_CTL_ENABLE (p - 8)) &&
    (decide (queueSlot q = 31) || s.bit (R.DRP_STN_HI_VALID (p - 8) (queueSlot q)))

/-- An egress record is not sent whole: a report with DISC where TSREQ is 1. -/
def recordDrop (n : Nat) (w : Nat) (s : State) : State :=
  if tbit w 7 then
    { s with reports := s.reports ++ [{ lane := n, queue := tbits w 63 51, tag := tbits w 24 9, stamp := none }] }
  else s

/-- The frame's size is outside what its port takes (rule 6 of R257). -/
def sizeBad (q octets : Nat) : Bool := decide (octets < 64) || decide ((if q < 4096 then 2000 else 9216) < octets)

/-- The checks of R257 in their order. -/
def effRecord (n : Nat) (w : Nat) (l : List Byte) (aborted : Bool) (s : State) : State :=
  if !laneUp n s then s
  else if waybillChk (w / 16 * 16) ≠ w % 16 then
    ((laneCnt n 0 s).evt (R.HLN_EVT_CHK_ERR n)).recordFree (16 + n) 1 0x26 none
  else
    let s := seqCheck n (tbits w 40 25) s
    let q := tbits w 63 51
    if aborted then (laneCnt n 4 s).evt (R.HLN_EVT_RX_ABORT n)
    else if tbit w 8 || tbit w 6 || tbit w 5 || tbit w 4 then recordDrop n w (laneCnt n 1 s)
    else if 4160 ≤ q ∨ !queueEnabled q s then (recordDrop n w (laneCnt n 2 s)).record (16 + n) 2 0x20 q
    else
      let pq := physical q s
      if egressFenced (queuePort q) s then
        recordDrop n w ((laneCnt n 5 s).sat (R.MILLQ_DISC_COUNT pq 2) 1)
      else if sizeBad q l.length then (recordDrop n w (laneCnt n 3 s)).record (16 + n) 2 0x20 q
      else
        let f : MFrame :=
          { queue := q, octets := l, port := queuePort q, slot := queueSlot q, stamp := ⟨0, 0, 0⟩, tsreq := tbit w 7,
            tag := tbits w 24 9, lane := n, sec := false, poison := false }
        let r := enqueue pq f s
        if r.1 then frameQueued (queuePort q) (r.2.add (R.HLN_RX_RECORDS_COUNT n) 1) else recordDrop n w r.2

/-- HOST_RECORD_RECEIVE: R257. -/
def execHostRecordReceive (n : Fin 6) (waybill : BitVec 64) (frame : List Byte) (aborted : Bool) (s : State) :
    Host.Outcome State Fault Refusal := done (effRecord n waybill.toNat frame aborted s)

/-- FRAME_TRANSMIT_COMPLETE: R21, R259, 07 R162. -/
def execFrameTransmitComplete (p : Fin 72) (stamp : Stamp) (s : State) : Host.Outcome State Fault Refusal :=
  done (if p.val < 8 then effFrameSent p stamp s else drpSent (p.val - 8) (some stamp) s)

end Sys2Proof.Machine
end

