-- ==== Sys2Proof/Machine/Quiet.lean ====
section
/-! DEFINITION. Quiet windows and member windows (07_twinning_quiet_windows R165 to R174, R437). -/

namespace Sys2Proof.Machine

/-- The duration a purpose asks for (R167). -/
def qwDuration (t : Nat) (p : QwPurpose) (s : State) : Nat :=
  match p with
  | .calibration => 400
  | .contactCare => (s.trk t).surv.ccMs * 1000 + 400
  | .survey => 10400
  | .host => s.rd (R.TRK_QW_CTL_HOST_US t)

/-- An end may request a window: a CR trunk in DATA whose QW_EN is 1, or a member whose other member is JOINED (R167,
R173). A survey window needs a MAX_US of 10,400 µs on an unprotected trunk (R172). -/
def qwMayRequest (t : Nat) (p : QwPurpose) (s : State) : Bool :=
  decide (trkState t s = 8) && trkCR t s &&
    match twinOf t s with
    | some (i, b) => joined i (!b) s
    | none => s.bit (R.TRK_QW_LIM_QW_EN t) && (p ≠ .survey || decide (10400 ≤ s.rd (R.TRK_QW_LIM_MAX_US t)))

/-- This end's SCOPE: whole trunk, or its member (R166). -/
def qwScope (t : Nat) (s : State) : Nat := match twinOf t s with | some (_, b) => if b then 2 else 1 | none => 0

/-- The PAYLOAD of a quiet-window message (R166). -/
def qwPayload (scope purpose reason start dur ref : Nat) : Nat :=
  scope * 2 ^ 46 + purpose * 2 ^ 44 + reason * 2 ^ 40 + start * 2 ^ 32 + dur * 2 ^ 16 + ref * 2 ^ 8

/-- Send the request of a purpose: START is the counter of the AM that carries it first, plus LEAD_AM (R167). -/
def qwSend (t : Nat) (p : QwPurpose) (s : State) : State :=
  let start := ((s.trk t).amTx + 1 + s.rd (R.TRK_QW_CTL_LEAD_AM t)) % 256
  let s := lchRequest t 0x10 (qwPayload (qwScope t s) (purposeCode p) 0 start (qwDuration t p s) 0) (some p) s
  let s := ((s.wr (R.TRK_QW_STAT_STATE t) 1).wr (R.TRK_QW_STAT_LOCAL t) 1).wr (R.TRK_QW_STAT_SCOPE t) (qwScope t s)
  let s := (s.wr (R.TRK_QW_STAT_PURPOSE t) (purposeCode p)).wr (R.TRK_QW_STAT_START t) start
  if p = .host then s.wr (R.TRK_QW_CTL_REQ t) 0 else s

/-- The waiting request of highest precedence (R29). -/
def qwFirst (l : List QwPurpose) : Option QwPurpose :=
  [QwPurpose.calibration, .contactCare, .survey, .host].find? fun p => l.contains p

/-- A trunk without an open request or a grant sends its next waiting request. -/
def qwServe (t : Nat) (s : State) : State :=
  if (s.trk t).lch.isSome || (s.trk t).qw.grant.isSome then s
  else match qwFirst (s.trk t).qw.waiting with
  | none => s
  | some p => qwSend t p (s.modQw t fun q => { q with waiting := q.waiting.filter (· ≠ p) })

/-- A request is made, or refused locally: nothing is sent and QW_CNT.FAILED rises (R167). -/
def effQwRequest (t : Nat) (p : QwPurpose) (s : State) : State :=
  if qwMayRequest t p s then
    qwServe t (s.modQw t fun q => { q with waiting := if q.waiting.contains p then q.waiting else q.waiting ++ [p] })
  else
    let s := s.sat (R.TRK_QW_CNT_FAILED t) 1
    if p = .host then s.wr (R.TRK_QW_CTL_REQ t) 0 else s

/-- A part of the device asks for a window where it has an activity that waits for one; a survey pass that may have none
ends with outcome "no window" (15_surveyor R340). -/
def effQwDevice (t : Nat) (p : QwPurpose) (s : State) : State :=
  match p with
  | .calibration => if calWants t s then effQwRequest t p s else s
  | .contactCare => if survWants t true s then effQwRequest t p s else s
  | .survey =>
    if !survWants t false s then s
    else if qwMayRequest t p s then effQwRequest t p s
    else
      let op := if (s.trk t).surv.passDue then 0 else 2
      let s := (effQwRequest t p s).modSurv t fun x => { x with passDue := false, loopOnly := false }
      survDone t op 0 (survLoop t s) (survContact t s) (s.rd (R.SURV_TRK_STAT_PEAKS t)) 1 s
  | .host => s

/-- QW_DEVICE_REQUEST: R167, R173. -/
def execQwDeviceRequest (t : Fin 8) (p : QwPurpose) (s : State) : Host.Outcome State Fault Refusal :=
  done (effQwDevice t p s)

/-- The responder's own trunk for a request: the trunk, or the member wired to the one that SCOPE names (R166). -/
def qwTarget (t scope : Nat) (s : State) : Nat :=
  match twinOf t s with
  | some (i, _) =>
    if scope = 0 then t
    else if s.rd (R.TWIN_STAT_PEER_ROLE_A i) = scope then memTrunk i false s
    else if s.rd (R.TWIN_STAT_PEER_ROLE_B i) = scope then memTrunk i true s else t
  | none => t

/-- The first reason of R166 that applies to a request, 0 for none (R168). -/
def qwReason (t scope start dur : Nat) (s : State) : Nat :=
  let x := s.trk t
  let d := (start + 256 - x.amRx.getD 0) % 256
  let gap := match x.qw.lastEnd with
    | some a => decide (s.age < a + s.rd (R.TRK_QW_CTL_MIN_GAP_MS t) * msec)
    | none => false
  if scope = 0 && !s.bit (R.TRK_QW_LIM_QW_EN t) then 1
  else if (if scope = 0 then s.rd (R.TRK_QW_LIM_MAX_US t) else 25000) < dur then 2
  else if d < 2 ∨ 127 < d then 3
  else if x.qw.grant.isSome then 4
  else if (match x.lch with | some r => r.type = 0x10 | none => false) && s.bit (R.TRK_STAT_MASTER t) then 5
  else if gap then 6
  else if scope ≠ 0 && !otherJoined t s then 7
  else if x.sleepSeq.isSome || x.sleepNext || rungBusy (t / 2) s then 8
  else if s.bit (R.TRK_QW_CTL_REFUSE t) then 9 else 0

/-- QW_REQ received: QW_ACK and a grant, or QW_NAK with the first reason that applies; repeats are answered again and
acted on once (R103, R168). -/
def effQwReq (t seq payload : Nat) (s : State) : State :=
  if trkState t s ≠ 8 || !trkCR t s then s
  else
    let u := qwTarget t (tbits payload 47 46) s
    let scope := tbits payload 47 46
    let purpose := tbits payload 45 44
    let start := tbits payload 39 32
    let dur := tbits payload 31 16
    let mine := if scope = 0 then 0 else qwScope u s
    let reply := fun (s : State) (r : Nat) =>
      lchSend u (if r = 0 then 0x11 else 0x12) seq (qwPayload mine purpose r start dur 0) s
    let again := match (s.trk u).lchDone with | some (ty, q, r) => if ty = 0x10 ∧ q = seq then some r else none | none => none
    match again with
    | some r => reply s r
    | none =>
      let r := qwReason u scope start dur s
      let s := (reply s r).modTrk u fun x => { x with lchDone := some (0x10, seq, r) }
      if r = 0 then
        let s := ((s.wr (R.TRK_QW_STAT_STATE u) 2).wr (R.TRK_QW_STAT_LOCAL u) 0).wr (R.TRK_QW_STAT_SCOPE u) mine
        let s := (s.wr (R.TRK_QW_STAT_PURPOSE u) purpose).wr (R.TRK_QW_STAT_START u) start
        let g : QwGrant :=
          { isLocal := false, scope := mine, purpose := purpose, start := start, durUs := dur, seq := seq,
            opened := false, openAge := 0 }
        loopAsk u (s.modQw u fun q => { q with grant := some g })
      else (s.wr (R.TRK_QW_STAT_NAK_TX u) r).sat (R.TRK_QW_CNT_FAILED u) 1

/-- QW_REQ: R168. -/
def execQwReq (t : Fin 8) (seq : BitVec 8) (payload : BitVec 48) (s : State) : Host.Outcome State Fault Refusal :=
  done (effQwReq t seq.toNat payload.toNat s)

/-- The open quiet-window request with a SEQ. -/
def qwOpenReq (t seq : Nat) (s : State) : Option LchReq :=
  match (s.trk t).lch with
  | some r => if r.type = 0x10 ∧ r.seq = seq then some r else none
  | none => none

/-- The trunk of a port whose open request has a SEQ: on a twin the messages travel on both members (R103). -/
def qwReqTrunk (t seq : Nat) (s : State) : Nat :=
  ((portTrunks t s).find? fun u => (qwOpenReq u seq s).isSome).getD t

/-- QW_ACK: the initiator commits to the window (R169) and may ask for a loop closure (15_surveyor R332). -/
def execQwAck (t : Fin 8) (seq : BitVec 8) (_payload : BitVec 48) (s : State) : Host.Outcome State Fault Refusal :=
  let u := qwReqTrunk t seq.toNat s
  done (match qwOpenReq u seq.toNat s with
    | none => s
    | some r =>
      let s := (s.wr (R.TRK_QW_STAT_STATE u) 2).modTrk u fun x => { x with lch := none }
      let g : QwGrant :=
        { isLocal := true, scope := tbits r.payload 47 46, purpose := tbits r.payload 45 44,
          start := tbits r.payload 39 32, durUs := tbits r.payload 31 16, seq := r.seq, opened := false, openAge := 0 }
      loopAsk u (s.modQw u fun q => { q with grant := some g }))

/-- QW_NAK: the request ends, its reason is recorded, and its requester asks again later (R437). -/
def execQwNak (t : Fin 8) (seq : BitVec 8) (payload : BitVec 48) (s : State) : Host.Outcome State Fault Refusal :=
  let u := qwReqTrunk t seq.toNat s
  let r := tbits payload.toNat 43 40
  done (match qwOpenReq u seq.toNat s with
    | none => s
    | some _ => qwServe u (qwDropRequest u (r = 1 ∨ r = 2 ∨ r = 9) (s.wr (R.TRK_QW_STAT_NAK_RX u) r)))

/-- The peer's grant that a QW_CANCEL names by its SEQ, not yet open. -/
def qwCancels (ref : Nat) (g : QwGrant) : Bool := !g.isLocal && g.seq = ref && !g.opened

/-- The trunk of a port whose grant a QW_CANCEL names. -/
def qwCancelTrunk (t ref : Nat) (s : State) : Nat :=
  ((portTrunks t s).find? fun u => ((s.trk u).qw.grant.map (qwCancels ref)).getD false).getD t

/-- The responder drops its grant (R169). -/
def effQwCancel (u ref : Nat) (s : State) : State :=
  match (s.trk u).qw.grant with
  | some g =>
    if qwCancels ref g then
      ((actAbort u (s.wr (R.TRK_QW_STAT_STATE u) 0)).sat (R.TRK_QW_CNT_FAILED u) 1).modQw u fun q => { q with grant := none }
    else s
  | none => s

/-- QW_CANCEL: R169. -/
def execQwCancel (t : Fin 8) (payload : BitVec 48) (s : State) : Host.Outcome State Fault Refusal :=
  done (effQwCancel (qwCancelTrunk t (tbits payload.toNat 15 8) s) (tbits payload.toNat 15 8) s)

/-- QW_RETRY: the requester whose retry time has come asks again (R437). -/
def execQwRetry (t : Fin 8) (s : State) : Host.Outcome State Fault Refusal :=
  done (match (s.trk t).qw.retry.find? fun r => decide (r.2 ≤ s.age) with
    | none => s
    | some r => (if r.1 = .host then effQwRequest else effQwDevice) t r.1 (s.modQw t fun q => { q with retry := q.retry.filter (· ≠ r) }))

/-- The AM that START names has passed at this end: the initiator counts the AMs it sends, the responder those it
receives (R170). -/
def qwAtStart (t : Nat) (g : QwGrant) (s : State) : Bool :=
  if g.isLocal then (s.trk t).amTx = g.start else (s.trk t).amRx = some g.start

/-- QW_WINDOW_OPEN: both ends stop sending codewords, the named member rests, and the pending activities that fit the
purpose start (R170 to R173). -/
def execQwWindowOpen (t : Fin 8) (s : State) : Host.Outcome State Fault Refusal :=
  done (match (s.trk t).qw.grant with
    | none => s
    | some g =>
      if g.opened || !qwAtStart t g s || trkState t s ≠ 8 then s
      else
        let s := s.modQw t fun q => { q with grant := some { g with opened := true, openAge := s.age } }
        let s := (s.wr (R.TRK_QW_STAT_STATE t) 3).sat (R.TRK_QW_CNT_GRANTED t) 1
        let s := match twinOf t s with | some (i, b) => if joined i b s then setMem i b 4 s else s | none => s
        actWindow t g.purpose g.isLocal s)

/-- A reflection list that waited for the end of a window takes effect. -/
def eqUnhold (e : Eq) : Eq :=
  match e.held with
  | some l => { e with refl := l, held := none }
  | none => e

/-- QW_WINDOW_CLOSE: the duration ends, transmission resumes, a member goes to VERIFY, and a reflection list produced in
the window is applied (R136, R170, R173). -/
def execQwWindowClose (t : Fin 8) (s : State) : Host.Outcome State Fault Refusal :=
  done (match (s.trk t).qw.grant with
    | none => s
    | some g =>
      if !g.opened then s
      else
        let s := qwRest t (qwEnd t g (actAbort t s))
        qwServe t (s.modEq t eqUnhold))

/-- QW_AM_RESUME_TIMEOUT: two periods after a window without a matched AM, the triggers apply again (R171). -/
def execQwAmResumeTimeout (t : Fin 8) (s : State) : Host.Outcome State Fault Refusal :=
  done (s.modQw t fun q => { q with suspended := false })

end Sys2Proof.Machine
end

