-- ==== Sys2Proof/Machine/LongDrop.lean ====
section
/-! DEFINITION. The Long-Drop receiver (09_long_drop_modem R204 to R216) and its coefficient readback. -/

namespace Sys2Proof.Machine

/-- The drop cycles in Long-Drop mode and does not transmit, so it listens (R216). -/
def ldListens (d : Nat) (s : State) : Bool :=
  drpLong d s && (drpState d s = 2 || drpState d s = 3) && (s.drp d).line.isEmpty

/-- The receiver takes a stage; RX_BUSY shows a burst being received. -/
def ldStage (d : Nat) (g : LdStage) (s : State) : State :=
  let busy := match g with | .burst _ _ => true | _ => false
  (s.wrb (R.DRP_LD_STAT_RX_BUSY d) busy).modDrp d fun x => { x with stage := g }

/-- The slot of an opportunity by its ID (R212); slot 31 outside a station's opportunity. -/
def ldSlotOf (opp : Option Nat) : Nat := match opp with | some (k + 1) => min k 31 | _ => 31

/-- LD_CARRIER_DETECT: R213. -/
def execLdCarrierDetect (d : Fin 64) (s : State) : Host.Outcome State Fault Refusal :=
  done (if ldListens d s ∧ (s.drp d).stage = .idle then
      let s := (s.wr (R.DRP_LD_STAT_CARRIER d) 1).modDrp d fun x => { x with rxOpp := x.opp }
      ldStage d .search s
    else s)

/-- LD_SYNC_TIMEOUT: R213. -/
def execLdSyncTimeout (d : Fin 64) (s : State) : Host.Outcome State Fault Refusal :=
  done (if (s.drp d).stage = .search then ldStage d .waitLoss (ldCount d 1 s) else s)

/-- A valid header starts reception: LAST_ID and ID_MISMATCH of a DATA header, a second coordinator of a BEACON (R214,
R216). -/
def ldHeaderGood (d : Nat) (h : LdHdr) (s : State) : State :=
  let s := if h.type = 1 then dupCoord d s
    else
      let s := s.wr (R.DRP_LD_STAT_LAST_ID d) h.node
      match (s.drp d).rxOpp with
      | some k => if k = h.node then s else ldCount d 6 s
      | none => s
  ldStage d (.burst h.cwQ h.cw16) s

/-- LD_HEADER_CHECK: a sync word is found within SYNC_TOL, directly or complemented, and its header is checked; on a
failure the second correlator's lock is taken, else the search starts afresh (R213, R214). A lock of the second
correlator or of a capture is not counted in SYNC_FOUND. -/
def effLdHeader (d : Nat) (sync : BitVec 48) (hdr : BitVec 64) (second : Option (BitVec 48)) (s : State) : State :=
  let tol := s.rd (R.DRP_LD_CTL_SYNC_TOL d)
  match (s.drp d).stage, ldSyncMatch tol sync with
  | .search, some rot | .header, some rot =>
    let s := if (s.drp d).stage = .search then ldCount d 0 s else s
    let s := s.modDrp d fun x => { x with rotated := rot }
    match ldHdrDecode hdr with
    | some h => ldHeaderGood d h s
    | none =>
      let s := ldCount d 2 s
      let lock := match second with
        | some w => s.bit (R.DRP_LD_CTL_SHADOW_EN d) && (ldSyncMatch tol w).isSome
        | none => false
      if lock then ldStage d .header (ldCount d 3 s) else ldStage d .search s
  | _, _ => s

/-- LD_HEADER_CHECK: R214. -/
def execLdHeaderCheck (d : Fin 64) (sync : BitVec 48) (hdr : BitVec 64) (second : Option (BitVec 48)) (s : State) :
    Host.Outcome State Fault Refusal := done (effLdHeader d sync hdr second s)

/-- The symbols that a codeword had corrected. -/
def cwSyms (c : LdCw) : Nat := match c.status with | .corrected n => n | .uncorrectable => 0

/-- The codewords that did not decode. -/
def cwBad (l : List LdCw) : Nat := (l.filter fun c => c.status = .uncorrectable).length

/-- One record of the stream: a frame is classified; a discarded one is counted. How many frames the discarded rest of a
segment held is not stated: a free value (log 6). -/
def ldRecTake (d : Nat) (opp : Option Nat) (st : Stamp) (r : LdRec) (s : State) : State :=
  match r with
  | .good f => drpClassify d opp { octets := f, stamp := st } s
  | .bad => drpErr d 0 s
  | .rest => let f := s.free 8; f.2.sat (R.DRP_ERR_CNT_COUNT d 0) f.1

/-- The frames of a burst's codewords are delivered or discarded, and the codewords counted (R204). -/
def ldDeliver (d : Nat) (b : LdBurst) (s : State) : State :=
  let s := ((s.add (R.DRP_LD_CW_CNT_COUNT d) (b.qpsk.length + b.qam.length)).add (R.DRP_LD_CORR_SYM_CNT_COUNT d)
    ((b.qpsk ++ b.qam).map cwSyms).sum).add (R.DRP_LD_UNC_CNT_COUNT d) (cwBad (b.qpsk ++ b.qam))
  (ldSegment b.qpsk ++ ldSegment b.qam).foldl (fun a r => ldRecTake d (s.drp d).rxOpp b.stamp r a) s

/-- The slot's statistics and its RATE bit follow the burst (R208). -/
def ldRateUpdate (d slot : Nat) (b : LdBurst) (s : State) : State :=
  let up := decide (s.rd (R.DRP_LD_RATE_UP_QDB d) ≤ b.snr)
  let s := s.wr (R.DRP_LD_SLOT_RUN d slot) (if up then min 127 (s.rd (R.DRP_LD_SLOT_RUN d slot) + 1) else 0)
  if s.rd (R.DRP_LD_CTL_LD_MOD d) ≠ 2 ∨ slot = 31 then s
  else if b.snr < s.rd (R.DRP_LD_RATE_DOWN_QDB d) ∨ cwBad b.qam ≠ 0 then
    if ldRate d slot s then
      (ldRateSet d slot false s).modDrp d fun x => { x with fell := tset none x.fell slot (some s.age) }
    else s
  else
    let held := match tget none (s.drp d).fell slot with
      | some a => decide (s.age < a + s.rd (R.DRP_LD_RATE_HOLD_100MS d) * 100 * msec)
      | none => false
    if s.rd (R.DRP_LD_RATE_UP_RUN d) ≤ s.rd (R.DRP_LD_SLOT_RUN d slot) ∧ !held then ldRateSet d slot true s else s

/-- LD_BURST_END: codewords, frames, statistics, stored loops, and the next opportunity (R204, R205, R208, R212). -/
def effLdBurstEnd (d : Nat) (b : LdBurst) (s : State) : State :=
  match (s.drp d).stage with
  | .burst _ _ =>
    let slot := ldSlotOf (s.drp d).rxOpp
    let s := ldRateUpdate d slot b (ldDeliver d b s)
    let s := ((s.wr (R.DRP_LD_STAT_LAST_SNR_QDB d) b.snr).wr (R.DRP_LD_SLOT_SNR_QDB d slot) b.snr).wr
      (R.DRP_LD_SLOT_CFO_HZ d slot) (b.cfo % 65536).toNat
    let g : LdLoops := { ffe := b.ffe, dfe := b.dfe }
    let s := s.modDrp d fun x =>
      { x with loops := tset {} x.loops slot g, last := g, lastSlot := slot, lastFrame := some s.age }
    oppNext d (ldStage d .idle (s.wr (R.DRP_LD_STAT_CAP_ARMED d) 0))
  | _ => s

/-- LD_BURST_END: R204. -/
def execLdBurstEnd (d : Fin 64) (b : LdBurst) (s : State) : Host.Outcome State Fault Refusal :=
  done (effLdBurstEnd d b s)

/-- LD_LOSS_OF_CARRIER: a burst without a valid header ends its opportunity here; one with a valid header ends where
the header implies (R205). -/
def execLdLossOfCarrier (d : Fin 64) (s : State) : Host.Outcome State Fault Refusal :=
  done (let s := s.wr (R.DRP_LD_STAT_CARRIER d) 0
    match (s.drp d).stage with
    | .search | .waitLoss | .header => oppNext d (ldStage d .idle s)
    | _ => s)

/-! ## Capture (R215, R216) -/

/-- LD_CAPTURE_ARM: the power rose by more than CAPTURE_DB while a burst is received. -/
def execLdCaptureArm (d : Fin 64) (s : State) : Host.Outcome State Fault Refusal :=
  done (match (s.drp d).stage with
    | .burst _ _ => if s.bit (R.DRP_LD_CTL_CAP_EN d) then s.wr (R.DRP_LD_STAT_CAP_ARMED d) 1 else s
    | _ => s)

/-- LD_CAPTURE_SYNC: the weaker burst is aborted, its frames that passed their FCS stay delivered, and the stronger
burst's header is awaited. -/
def execLdCaptureSync (d : Fin 64) (sync : BitVec 48) (b : LdBurst) (s : State) : Host.Outcome State Fault Refusal :=
  done (if s.bit (R.DRP_LD_STAT_CAP_ARMED d) && (ldSyncMatch (s.rd (R.DRP_LD_CTL_SYNC_TOL d)) sync).isSome then
      let opp := (s.drp d).rxOpp
      let s := drpCollide d opp (ldCount d 4 (ldDeliver d b s))
      ldStage d .header (s.wr (R.DRP_LD_STAT_CAP_ARMED d) 0)
    else s)

/-- LD_CAPTURE_SEARCH_END: no sync was found; the weaker burst goes on. -/
def execLdCaptureSearchEnd (d : Fin 64) (s : State) : Host.Outcome State Fault Refusal :=
  done (if s.bit (R.DRP_LD_STAT_CAP_ARMED d) then
      drpCollide d (s.drp d).rxOpp (drpErr d 1 (ldCount d 5 (s.wr (R.DRP_LD_STAT_CAP_ARMED d) 0)))
    else s)

/-! ## Coefficient readback -/

/-- SNAP copies the bank named by BANK that ended the last burst, with its slot (06_trunk_equalisation R145). -/
def effLdSnap (d : Nat) (s : State) : State :=
  let x := s.drp d
  let l := if s.rd (R.DRP_LD_COEF_SEL_BANK d) = 1 then x.last.dfe else x.last.ffe
  (s.wr (R.DRP_LD_COEF_SEL_SNAP_SLOT d) x.lastSlot).modDrp d fun x => { x with snap := l }

/-- The buffer entry at INDEX; 0 beyond the last. -/
def ldCoefEntry (d : Nat) (s : State) : Nat :=
  let e := (s.drp d).snap.getD (s.rd (R.DRP_LD_COEF_SEL_INDEX d)) (0, 0)
  (e.1 % 65536).toNat * 65536 + (e.2 % 65536).toNat

/-- LD_COEF_DATA was read: INDEX advances. -/
def effLdCoefRead (d : Nat) (s : State) : State :=
  s.wr (R.DRP_LD_COEF_SEL_INDEX d) (s.rd (R.DRP_LD_COEF_SEL_INDEX d) + 1)

end Sys2Proof.Machine
end

