-- ==== Sys2Proof/Machine/Power.lean ====
section
/-! DEFINITION. Commands of the power ladder (19_power R406 to R416). Those that end a time (entry, climb, delay, retry,
hold, timer) are sent when the time has passed (log 4). -/

namespace Sys2Proof.Machine

/-- RUNG_ENTRY_ATTEMPT: an idle domain whose target is deeper asks its clients, outside a wake hold and a retry time. -/
def effEntryAttempt (k : Nat) (s : State) : State :=
  if s.serving && domTakes k s && decide (domOf k s = .idle) && decide (domRung k s < targetOf k s) &&
      !s.bit R.PWR_STAT_HOLD && !tget false s.power.barred k then domAttempt k s
  else s

/-- RUNG_ENTRY_ATTEMPT: R407. -/
def execRungEntryAttempt (dom : Fin 5) (s : State) : Host.Outcome State Fault Refusal := done (effEntryAttempt dom s)

/-- A committed entry's time has passed. -/
def effEntryDone (k : Nat) (s : State) : State :=
  match domOf k s with
  | .committed r => domEntered k r s
  | _ => s

/-- RUNG_ENTRY_DONE: R402, R403, R409. -/
def execRungEntryDone (dom : Fin 5) (s : State) : Host.Outcome State Fault Refusal := done (effEntryDone dom s)

/-- The delay limit passes: refused with reason 0x0D by no numbered client. -/
def effDelayTimeout (k : Nat) (s : State) : State :=
  match domOf k s with
  | .asked r _ => domRefuse k r 0x7F 0x0D true s
  | _ => s

/-- RUNG_DELAY_TIMEOUT: R407. -/
def execRungDelayTimeout (dom : Fin 5) (s : State) : Host.Outcome State Fault Refusal := done (effDelayTimeout dom s)

/-- RUNG_RETRY: attempts may be made again (R407). -/
def effRetry (k : Nat) (s : State) : State :=
  { s with power := { s.power with barred := tset false s.power.barred k false } }

/-- RUNG_RETRY: R407. -/
def execRungRetry (dom : Fin 5) (s : State) : Host.Outcome State Fault Refusal := done (effRetry dom s)

/-- A climb's time has passed. -/
def effClimbDone (k : Nat) (s : State) : State :=
  match domOf k s with
  | .climbing r => domClimbed k r s
  | _ => s

/-- RUNG_CLIMB_DONE: R406, R412. -/
def execRungClimbDone (dom : Fin 5) (s : State) : Host.Outcome State Fault Refusal := done (effClimbDone dom s)

/-- WAKE_N held low for 1 µs: nothing until the detector is armed again after a wake that it caused (R410). -/
def effWakeN (s : State) : State :=
  if s.power.wakeNOff then s
  else
    let s := wakeDetect 0 s
    { s with power := { s.power with wakeNOff := tbit (s.rd R.PWR_WAKE_MASK) 0 } }

/-- WAKE_N_ASSERT: R410. -/
def execWakeNAssert (s : State) : Host.Outcome State Fault Refusal := done (effWakeN s)

/-- WAKE_N_REARM: R410. -/
def execWakeNRearm (s : State) : Host.Outcome State Fault Refusal :=
  done { s with power := { s.power with wakeNOff := false } }

/-- The detector of a wake code stands where it can detect: masked drop and tone detectors detect nothing, PCIe counts in
Still and below, PPS_IN while it is enabled, and code 7 and the reserved ones stand for no source. -/
def wakeSourceArmed (code : Nat) (s : State) : Bool :=
  if code = 1 ∨ code = 2 then tbit (s.rd R.PWR_WAKE_MASK) code
  else if code = 3 then decide (2 ≤ s.rd R.PWR_STAT_HOST_RUNG)
  else if code = 5 then s.bit R.TIME_CTL_PPS_IN_EN
  else code = 4 || code = 6

/-- WAKE_SOURCE_DETECT: R410, R411. -/
def execWakeSourceDetect (code : Fin 8) (s : State) : Host.Outcome State Fault Refusal :=
  done (if code = 0 then effWakeN s else if wakeSourceArmed code s then wakeDetect code s else s)

/-- One tick of 1/32,768 s, in eighths of a picosecond. -/
abbrev aonTickAge : Nat := 244140625

/-- The always-on timer starts: LEFT takes TICKS (R410). -/
def timerLoad (s : State) : State :=
  let s := s.wr R.PWR_TIMER_LEFT_LEFT (s.rd R.PWR_TIMER_TICKS_TICKS)
  { s with power := { s.power with timerEnd := some (s.age + s.rd R.PWR_TIMER_TICKS_TICKS * aonTickAge) } }

/-- The ticks that the timer has left. -/
def timerLeft (s : State) : Nat :=
  match s.power.timerEnd with
  | some a => (a - s.age + (aonTickAge - 1)) / aonTickAge
  | none => s.rd R.PWR_TIMER_LEFT_LEFT

/-- The timer stops where it stands. -/
def timerStop (s : State) : State :=
  { s.wr R.PWR_TIMER_LEFT_LEFT (timerLeft s) with power := { s.power with timerEnd := none } }

/-- The timer reaches 0: EXPIRED, reload or stop, and wake source 4. -/
def effTimerExpiry (s : State) : State :=
  if s.bit R.PWR_TIMER_CTL_EN then
    let s := s.evt R.PWR_TIMER_CTL_EXPIRED
    let s := if s.bit R.PWR_TIMER_CTL_PERIODIC then timerLoad s
      else { (s.wr R.PWR_TIMER_CTL_EN 0).wr R.PWR_TIMER_LEFT_LEFT 0 with power := { s.power with timerEnd := none } }
    wakeDetect 4 s
  else s

/-- PWR_TIMER_EXPIRY: R410. -/
def execPwrTimerExpiry (s : State) : Host.Outcome State Fault Refusal := done (effTimerExpiry s)

/-- WAKE_HOLD_END: entries may be attempted again (R411). -/
def execWakeHoldEnd (s : State) : Host.Outcome State Fault Refusal := done (s.wr R.PWR_STAT_HOLD 0)

/-- VIN_LOW: the event is set and no rung changes (R416). -/
def execVinLow (s : State) : Host.Outcome State Fault Refusal := done (s.evt R.PWR_EVT_VIN_LOW)

end Sys2Proof.Machine
end

