-- ==== Sys2Proof/Machine/WarpLoad.lean ====
section
/-! DEFINITION. Loading a warp, live re-warp, and the clamp report's readout (03_warp R62, R63, R70, R72, R74, R75). -/

namespace Sys2Proof.Machine

/-! ## Staging (R62, R63) -/

/-- A load of the warp, of a bundle or of firmware is in progress. -/
def loadRuns (s : State) : Bool := s.warp.stageOpen || s.warp.committing.isSome || s.sec.loadOpen || s.sec.loadBusy

/-- The load of a slot is refused with code 0b1110. -/
def loadBarred (slot : Nat) (s : State) : Bool :=
  loadRuns s || decide (slot = s.rd R.WARP_STAT_SLOT) || decide (slot = 0) ||
    (decide (slot = 3) && !(decide (s.mode = 1) || (decide (s.mode = 4) && decide (s.sec.lcNow = 2)))) ||
    s.isFenced .gran || (stageSeg s).isNone

/-- LOAD_STAT.STATE and LOAD_BUSY. -/
def loadState (st : Nat) (s : State) : State :=
  (s.wr R.WARP_LOAD_STAT_STATE st).wrb R.WARP_STAT_LOAD_BUSY (st = 1 || st = 2)

/-- The staged image is discarded. -/
def stageDrop (s : State) : State :=
  { s with warp := { s.warp with stage := [], stageOpen := false, stageSlot := 0, stageLen := 0 } }

/-- A write of 1 to WARP_LOAD_CTL.BEGIN. -/
def effLoadBegin (s : State) : State :=
  let s := s.wr R.WARP_LOAD_CTL_BEGIN 0
  let slot := s.rd R.WARP_LOAD_CTL_SLOT
  if loadBarred slot s then s.wr R.WARP_LOAD_STAT_REASON 14
  else
    let s := loadState 1 ((s.wr R.WARP_LOAD_STAT_REASON 0).wr R.WARP_LOAD_STAT_WORDS 0)
    { s with warp := { s.warp with
      stage := [], stageOpen := true, stageSlot := slot, stageLen := s.rd R.WARP_LOAD_LEN_LENGTH } }

/-- A write to WARP_LOAD_DATA: the next four octets, which stand in the staging buffer, highest octet first. -/
def effLoadData (v : Word) (s : State) : State :=
  if !s.warp.stageOpen then s
  else
    let i := s.rd R.WARP_LOAD_STAT_WORDS
    let s := s.wr R.WARP_LOAD_STAT_WORDS (i + 1)
    let s := if 4 * i < min s.warp.stageLen 1048576 then
        match stageBase s with
        | some b => { s with gran := granPutAll (b + 4 * i) (bytesOf 4 v.toNat) s.gran }
        | none => s
      else s
    if 4 * i < s.warp.stageLen then { s with warp := { s.warp with stage := s.warp.stage ++ [v] } } else s

/-- ABORT, or 10 s without data. -/
def effLoadAbort (s : State) : State :=
  let s := s.wr R.WARP_LOAD_CTL_ABORT 0
  if s.warp.stageOpen then loadState 0 (stageDrop s) else s

/-- A load ends refused with a code. -/
def loadRefuse (code : Nat) (s : State) : State := loadState 3 ((stageDrop s).wr R.WARP_LOAD_STAT_REASON code)

/-! ## Commit (R62, R74) -/

/-- The records outside the live class, entry for entry. -/
def fixedRecs (l : List WRecord) : List WRecord := l.filter fun r => !wLive r.type

/-- A live commit is refused (R74). -/
def liveBarred (img : List Word) (recs : List WRecord) (s : State) : Bool :=
  !s.serving || decide (imgSeq img ≤ s.warp.runSeq) || decide (fixedRecs recs ≠ fixedRecs s.warp.running)

/-- An armed write of 1 to WARP_LOAD_CTL.COMMIT; `v` is what the keys decide about an image. -/
def effLoadCommit (v : List Word → Verdict) (s : State) : State :=
  let s := s.wr R.WARP_LOAD_CTL_COMMIT 0
  if !s.warp.stageOpen then s
  else if 4 * s.warp.stage.length < s.warp.stageLen then loadRefuse 3 s
  else
    let img := s.warp.stage
    let slot := s.warp.stageSlot
    let live := s.bit R.WARP_LOAD_CTL_LIVE
    let r := warpCheck slot true img (v img) s
    if r.1 ≠ 0 then loadRefuse r.1 (if r.1 = 6 ∨ r.1 = 7 then s.sat (R.SEC_CNT_COUNT 2) 1 else s)
    else if live ∧ liveBarred img r.2 s then loadRefuse 13 s
    else
      let s := loadState 2 ((stageDrop s).wr R.WARP_LOAD_STAT_REASON 0)
      let w : WImage := { slot := slot, words := imgCommit img commitWord, recs := r.2 }
      { s with warp := { s.warp with slots := tset [] s.warp.slots slot [], committing := some (w, live) } }

/-! ## Live re-warp (R74, R75) -/

/-- One live record takes effect: a station table waits for the next cycle start, a schedule for the port's next round. -/
def liveRecord (r : WRecord) (s : State) : State :=
  if r.type = 0x60 ∧ drpState r.inst s = 2 then
    { s with warp := { s.warp with pendStn := s.warp.pendStn ++ [(r.inst, r)] } }
  else if r.type = 0x71 ∧ !portEmpty r.inst s ∧
      (if r.inst < 8 then s.bit (R.TRK_STAT_LINK_UP r.inst) else decide (drpState (r.inst - 8) s = 2)) = true then
    { s with warp := { s.warp with pendSched := s.warp.pendSched ++ [(r.inst, r)] } }
  else recApply r s

/-- The live records of a committed image take effect in stage order, but for those of fenced targets. -/
def liveApply (img : WImage) (s : State) : State :=
  let seq := imgSeq img.words
  let kept := (dryPass seq (fun _ => false) img.recs).1
  let live := kept.filter fun r => wLive r.type
  let gone := (live.filter fun r => recSkip s (r.type, r.inst)).map fun r => (r.type, r.inst)
  let s := { s with warp := { s.warp with
    running := img.recs, runSeq := seq, skipped := (s.warp.skipped.filter (fun (k : Nat × Nat) => !wLive k.1)) ++ gone } }
  let s := (s.wr R.WARP_STAT_LIVE_BUSY 1).wr R.WARP_STAT_SLOT img.slot
  let s := (live.filter fun r => !recSkip s (r.type, r.inst)).foldl (fun a r => liveRecord r a) (s.wr R.WARP_SEQ_SEQ seq)
  floorRaise img (showHash R.WARP_HASH_HASH (warpHash img.words) (warpReport s))

/-- The slot has been erased, programmed and read back, and its COMMIT word programmed. -/
def effCommitDone (s : State) : State :=
  match s.warp.committing with
  | none => s
  | some (img, live) =>
    if s.mode = 5 then s
    else
      let s := { s with warp := { s.warp with slots := tset [] s.warp.slots img.slot img.words, committing := none } }
      let s := loadState 3 s
      if s.mode = 1 then warmReset R.STW_RESET_CAUSE_WARP_ACCEPT s
      else if live ∧ s.serving then liveApply img s else s

/-- WARP_STAGING_TIMEOUT: no data for 10 s (R62). -/
def execWarpStagingTimeout (s : State) : Host.Outcome State Fault Refusal := done (effLoadAbort s)

/-- WARP_COMMIT_DONE: R62, R34, R75. -/
def execWarpCommitDone (s : State) : Host.Outcome State Fault Refusal := done (effCommitDone s)

/-! ## The clamp report (R70, R72) -/

/-- The word that WARP_CLAMP_DATA[i] shows: the entry IDX of those stored. -/
def clampWord (i : Nat) (s : State) : Nat :=
  match (s.warp.clamps.take 512)[s.rd R.WARP_CLAMP_IDX_IDX]? with
  | some c => c.word i
  | none => 0

/-- A read of WARP_CLAMP_DATA[3] advances IDX. -/
def effClampRead (s : State) : State := s.add R.WARP_CLAMP_IDX_IDX 1

end Sys2Proof.Machine
end

