-- ==== Sys2Proof/Machine/Views.lean ====
section
/-! DEFINITION. Registers whose value follows from the rest of the state when they are read (04_register_interface R92,
18_watch_faults R394, R396; 19_power R406, R409). -/

namespace Sys2Proof.Machine

/-! ## Fences (04_register_interface R92) -/

/-- GLB_FENCE_TRK.SURV: bit v, Surveyor front end of vale v. -/
def fenceSurv (s : State) : Nat := maskOf (fun v => s.isFenced (.surv v)) 4

/-- GLB_FENCE_TRK.VALE: bit v, vale v. -/
def fenceVale (s : State) : Nat := maskOf (fun v => s.isFenced (.vale v)) 4

/-- GLB_FENCE_TRK.TRK: bit t, trunk t, alone or with its vale. -/
def fenceTrk (s : State) : Nat := maskOf (fun t => s.trkFenced t) 8

/-- GLB_FENCE_DRP[i]: bit j, drop 32 × i + j, alone or with its vale. -/
def fenceDrp (i : Nat) (s : State) : Nat := maskOf (fun j => s.drpFenced (32 * i + j)) 32

/-- GLB_FENCE_HOST.HL: bit n, host lane n. -/
def fenceLane (s : State) : Nat := maskOf (fun n => s.isFenced (.hostLane n)) 6

/-- The word of GLB_FENCE_TRK. -/
def fenceTrkWord (s : State) : Nat := fenceSurv s * 2 ^ 24 + fenceVale s * 2 ^ 16 + fenceTrk s

/-- The word of GLB_FENCE_HOST. -/
def fenceHostWord (s : State) : Nat :=
  b2n (s.isFenced .macsec) * 2 ^ 10 + b2n (s.isFenced .assayer) * 2 ^ 9 + b2n (s.isFenced .gran) * 2 ^ 8 +
    b2n (s.isFenced .pcie) * 2 ^ 7 + fenceLane s

/-! ## The Watch -/

/-- WATCH_STAT.HELD_UF: slots that hold a record of class U or F. -/
def heldUfCount (s : State) : Nat := ((upto 192).filter fun i => s.heldUF i).length

/-- WATCH_STAT.GRACE_RUN: grace timers that run. -/
def graceCount (s : State) : Nat := (s.watch.grace.filter fun e => e.2.isSome).length

/-- WATCH_HELD[i]: the held slots among sources 32 × i to 32 × i + 31. -/
def heldMask (i : Nat) (s : State) : Nat := maskOf (fun j => s.slotHeld (32 * i + j)) 32

/-- Time left on a source's grace timer, in ms, rounded up (log 60). -/
def graceLeft (src : Nat) (s : State) : Nat :=
  match tget none s.watch.grace src with
  | some g => min 65535 ((g.1 - s.age + (msec - 1)) / msec)
  | none => 0

/-! ## Power -/

/-- A committed transition of any domain is in flight. -/
def ladderBusy (s : State) : Bool := (upto 5).any fun k =>
  match domOf k s with
  | .committed _ | .climbing _ => true
  | _ => false

/-- A request is held behind a transition: a target that has moved, or a wake (19_power R409). -/
def ladderPending (s : State) : Bool := (upto 5).any fun k =>
  match domOf k s with
  | .committed r | .climbing r => decide (targetOf k s ≠ r) || tget false s.power.wakeHeld k
  | _ => false

/-! ## The time base -/

/-- TIME_NOW: the fraction in the lowest word, then nanoseconds, then seconds. -/
def timeNow (s : State) : Nat := s.time.sec * 2 ^ 64 + s.time.ns * 2 ^ 32 + s.time.frac

end Sys2Proof.Machine
end

