-- ==== Sys2Proof/Machine/Security.lean ====
section
/-! DEFINITION. Security: the life cycle, tamper, keys, bundles and firmware, and attestation (17_security R357 to
R375). -/

namespace Sys2Proof.Machine

/-- A Steward notice that names no CA: attestation ready (3) or load result (4). -/
def stewardNotice (kind : Nat) (s : State) : State :=
  if s.bit R.SEC_CTL_NOTICE_EN then
    deviceFrame 4480 0x7F (noticeFrame ([BitVec.ofNat 8 kind, 0, 0, 0] ++ timeOctets s)) s
  else s

/-! ## SEC loads (R370, R372) -/

/-- A SEC load ends with a result: REASON, SEC_EVT.LOAD and a notice. -/
def secResult (code : Nat) (s : State) : State := stewardNotice 4 ((s.wr R.SEC_LOAD_STAT_REASON code).evt R.SEC_EVT_LOAD)

/-- What is staged or checked is gone. -/
def secClose (st : Nat) (s : State) : State :=
  { s.wr R.SEC_LOAD_STAT_STATE st with sec := { s.sec with loadOpen := false, loadBusy := false, loadWords := [] } }

/-- A load is refused with a code; a refused bundle counts in SEC_CNT[3]. -/
def secRefuse (code : Nat) (s : State) : State :=
  let s := if s.sec.loadTarget = 0 then s.sat (R.SEC_CNT_COUNT 3) 1 else s
  secResult code (secClose 3 s)

/-- A write of 1 to SEC_LOAD_CTL.BEGIN. A firmware slot is erased, since it is programmed while the data arrives. -/
def effSecBegin (s : State) : State :=
  let s := s.wr R.SEC_LOAD_CTL_BEGIN 0
  let k := s.rd R.SEC_LOAD_CTL_TARGET
  if loadRuns s then secResult 9 s
  else if k ≠ 0 ∧ k = s.rd R.STW_BOOT_STAT_FW_SLOT then secResult 7 s
  else
    let s := ((s.wr R.SEC_LOAD_STAT_REASON 15).wr R.SEC_LOAD_STAT_STATE 1).wr R.SEC_LOAD_STAT_WORDS 0
    { s with sec := { s.sec with
      loadOpen := true, loadTarget := k, loadLen := s.rd R.SEC_LOAD_LEN_LENGTH, loadWords := [],
      fw := if k = 0 then s.sec.fw else tset [] s.sec.fw k [] } }

/-- A write to SEC_LOAD_DATA: the next four octets. A firmware slot's COMMIT word is programmed last. -/
def effSecData (v : Word) (s : State) : State :=
  if !s.sec.loadOpen then s
  else
    let i := s.rd R.SEC_LOAD_STAT_WORDS
    let s := s.wr R.SEC_LOAD_STAT_WORDS (i + 1)
    if s.sec.loadLen ≤ 4 * i then s
    else
      let k := s.sec.loadTarget
      let w : Word := if i = 2 ∧ k ≠ 0 then 0xFFFFFFFF else v
      { s with sec := { s.sec with
        loadWords := s.sec.loadWords ++ [v], fw := if k = 0 then s.sec.fw else tset [] s.sec.fw k (tget [] s.sec.fw k ++ [w]) } }

/-- ABORT, or 10 s without data. -/
def effSecAbort (s : State) : State :=
  let s := s.wr R.SEC_LOAD_CTL_ABORT 0
  if s.sec.loadOpen then secClose 0 s else s

/-- An armed write of 1 to SEC_LOAD_CTL.COMMIT: what has been staged goes to the Steward. -/
def effSecCommit (s : State) : State :=
  let s := s.wr R.SEC_LOAD_CTL_COMMIT 0
  if !s.sec.loadOpen then s
  else if 4 * s.sec.loadWords.length < s.sec.loadLen then secRefuse 2 s
  else { s.wr R.SEC_LOAD_STAT_STATE 2 with sec := { s.sec with loadOpen := false, loadBusy := true } }

/-- SEC_LOAD_TIMEOUT: R370. -/
def execSecLoadTimeout (s : State) : Host.Outcome State Fault Refusal := done (effSecAbort s)

/-! ## The life cycle (R358, R359) -/

/-- The Steward changes the life-cycle state, in the order of R359. -/
def lcChange (target : Nat) (s : State) : State :=
  let s := roomWipe (s.wr R.SEC_LC_STATE target)
  let s := if target = 3 ∨ target = 4 then { s with sec := { s.sec with storageDead := true } } else s
  let s := if target = 3 then { s.wr R.WARP_FLOOR_FLOOR 0 with warp := { s.warp with floor := 0 } } else s
  let s := if target = 1 ∨ target = 2 then keyLoad true s else s
  let s := if s.warp.stageOpen then loadRefuse 14 s else s
  let s := if s.sec.loadOpen then secRefuse 7 s else s
  (s.evt R.SEC_EVT_LC).sat (R.SEC_CNT_COUNT 6) 1

/-- A requested change is one that R358 lists, with its mode and its authorisation. -/
def lcAllowed (target confirm : Nat) (s : State) : Bool :=
  let cur := s.rd R.SEC_LC_STATE
  let held := decide (cur = 1) || decide (cur = 2)
  if target = 2 then decide (cur = 1) && (decide (s.mode = 1) || decide (s.mode = 4)) && decide (s.sec.token = some (2, false))
  else if target = 3 then held && decide (s.mode = 4) && decide (s.sec.token = some (3, true))
  else if target = 4 then
    decide (cur < 4) && (decide (s.mode = 1) || decide (s.mode = 4)) && decide (confirm = 0xA5) &&
      (!held || decide (s.sec.token = some (4, false)))
  else false

/-- An armed write of 1 to SEC_LC_REQ.GO. -/
def effLcReq (s : State) : State :=
  let s := s.wr R.SEC_LC_REQ_GO 0
  let t := s.rd R.SEC_LC_REQ_TARGET
  if lcAllowed t (s.rd R.SEC_LC_REQ_CONFIRM) s then lcChange t { s with sec := { s.sec with token := none } } else s

/-! ## Tamper and keys (R364, R367) -/

/-- TAMPER_DETECT: R364. -/
def execTamperDetect (src : Fin 5) (active : Bool) (s : State) : Host.Outcome State Fault Refusal :=
  done (effTamper src active s)

/-- An armed write of 1 to SEC_PROV_CTL.GENKEY starts key generation in BLANK and PROVISION. -/
def effGenkey (s : State) : State :=
  let s := s.wr R.SEC_PROV_CTL_GENKEY 0
  if s.rd R.SEC_LC_STATE = 0 ∧ s.mode = 1 then s.wr R.SEC_PROV_CTL_BUSY 1 else s

/-- Put a key in the place of that of its type and index. -/
def keyPut (k : Key) (l : List Key) : List Key := l.filter (fun x => !(x.type = k.type ∧ x.index = k.index)) ++ [k]

/-- Key generation has ended with a public key of 96 octets; the private key is a free value (log 2). -/
def effGenkeyDone (pub : List Byte) (s : State) : State :=
  if !s.bit R.SEC_PROV_CTL_BUSY then s
  else
    let s := s.wr R.SEC_PROV_CTL_BUSY 0
    let s := (octetWords 24 pub).zipIdx.foldl (fun a e => a.wr (R.SEC_ID_PUB_KEY e.2) e.1) s
    let f := s.freeOctets 48
    let tag := ((sha384 pub).take 8).foldl (fun (a : Nat) o => a * 256 + o.toNat) 0
    let s := f.2
    { s with sec := { s.sec with
      devTag := tag, storageKey := true, store := keyPut { type := 0, index := 0, value := f.1 } s.sec.store } }

/-- GENKEY_DONE: R367. -/
def execGenkeyDone (pub : BitVec 768) (s : State) : Host.Outcome State Fault Refusal :=
  done (effGenkeyDone (octetsOf 96 pub.toNat) s)

/-! ## Bundles (R368, R369) -/

/-- An entry of a bundle. -/
structure BEntry where
  type : Nat
  index : Nat
  value : List Byte
  deriving DecidableEq, Repr

/-- The entries of a body; none where it does not divide into entries. `n` bounds their number. -/
def readBundle : Nat → List Word → Option (List BEntry)
  | _, [] => some []
  | 0, _ => none
  | n + 1, a :: b :: l =>
    let len := b.toNat / 65536
    let words := (len + 7) / 8 * 2
    if l.length < words then none
    else
      (readBundle n (l.drop words)).map fun r =>
        { type := a.toNat / 65536, index := a.toNat % 65536, value := (wordOctets (l.take words)).take len } :: r
  | _ + 1, _ => none

/-- An entry is known, of its kind of bundle, with its INDEX and LEN in range. -/
def entryOk (kind : Nat) (e : BEntry) : Bool :=
  let n := e.value.length
  if e.type = 0x01 then kind = 1 && n = 96
  else if e.type = 0x02 then (kind = 1 || kind = 2) && 1 ≤ n && n ≤ 4096
  else if e.type = 0x10 then kind = 2 && e.index < 4 && n = 32
  else if e.type = 0x20 then kind = 2 && e.index < 8 && n = 48
  else if e.type = 0x21 then kind = 2 && e.index < 64 && n = 44
  else if e.type = 0x30 then kind = 2 && n = 4
  else if e.type = 0x40 then kind = 3 && n = 1 && 2 ≤ (e.value.getD 0 0).toNat && (e.value.getD 0 0).toNat ≤ 4
  else false

/-- The entries of a bundle are those that its kind allows, and the ones it needs are there. -/
def entriesOk (kind : Nat) (l : List BEntry) : Bool :=
  l.all (fun e => entryOk kind e) &&
    (if kind = 1 then (l.filter fun e => e.type = 0x01).length = 1 else if kind = 3 then l.length = 1 else true)

/-- The CAs whose CAK an entry changes. -/
def entryCas (e : BEntry) : List Nat :=
  let t := if e.type = 0x30 then (e.value.getD 0 0).toNat * 256 + (e.value.getD 1 0).toNat else e.type
  let i := if e.type = 0x30 then (e.value.getD 2 0).toNat * 256 + (e.value.getD 3 0).toNat else e.index
  if t = 0x20 ∧ i < 8 then [i] else if t = 0x21 ∧ i < 64 then portCas (8 + i) else []

/-- One entry takes effect in the key store. -/
def entryApply (e : BEntry) (l : List Key) : List Key :=
  if e.type = 0x30 then
    let o := fun (i : Nat) => (e.value.getD i 0).toNat
    l.filter fun x => !(x.type = o 0 * 256 + o 1 ∧ x.index = o 2 * 256 + o 3)
  else if e.type = 0x40 then l
  else keyPut { type := e.type, index := e.index, value := e.value } l

/-- A CA whose CAK changed restarts MKA: it has no SAK and no peer. -/
def mkaRestart (e : Nat) (s : State) : State :=
  if caUsed e s then caNoSak e ((s.wr (R.MSEC_STAT_PEERS e) 0).modCa e fun x => { x with peers := [] }) else s

/-- KIND of the bundle in `l`. -/
def bundleKind (l : List Word) : Nat := imgWord l 1 / 65536

/-- The checks of SEC_LOAD_STAT.REASON in ascending order of code, and the entries; `v` is what the keys decide. -/
def bundleCheck (l : List Word) (v : Verdict) (s : State) : Nat × List BEntry :=
  let kind := bundleKind l
  let len := imgWord l 5
  let tail := if kind = 2 then 112 else 96
  if imgWord l 0 ≠ 0x4B424E44 ∨ kind = 0 ∨ 3 < kind then (1, [])
  else if len % 8 ≠ 0 ∨ 65536 < len ∨ len < 144 + tail ∨ len ≠ s.sec.loadLen then (2, [])
  else if imgWord l 2 * 2 ^ 32 + imgWord l 3 ≠ s.sec.devTag then (3, [])
  else if (kind ≠ 1 ∧ !s.bit R.SEC_STAT_AUTH_FUSED) ∨ !v.sigOk then (4, [])
  else if kind = 2 ∧ !v.tagOk then (5, [])
  else if imgWord l 4 ≤ s.sec.floor then (6, [])
  else
    let st := s.rd R.SEC_LC_STATE
    if (kind = 1 ∧ (s.mode ≠ 1 ∨ st ≠ 0 ∨ !(s.sec.store.any fun k => k.type = 0))) ∨ (kind ≠ 1 ∧ st ≠ 1 ∧ st ≠ 2) then (7, [])
    else match readBundle 8192 (if kind = 2 then v.plain else (l.take ((len - tail) / 4)).drop 36) with
      | none => (8, [])
      | some es => if entriesOk kind es then (0, es) else (8, [])

/-- An accepted bundle takes effect. -/
def bundleAccept (l : List Word) (es : List BEntry) (s : State) : State :=
  let store := es.foldl (fun a e => entryApply e a) s.sec.store
  let s := { s with sec := { s.sec with store := store, floor := imgWord l 4 } }
  let s := secResult 0 (secClose 3 s)
  if bundleKind l = 1 then lcChange 1 (s.wr R.SEC_STAT_AUTH_FUSED 1)
  else if bundleKind l = 3 then
    let t := match es with | e :: _ => (e.value.getD 0 0).toNat | [] => 0
    { s with sec := { s.sec with token := some (t, t = 3) } }
  else
    let s := if s.bit R.SEC_STAT_KEYSTORE_OK then { s with sec := { s.sec with room := store } } else s
    (es.flatMap entryCas).foldl (fun a e => mkaRestart e a) s

/-- BUNDLE_COMMIT_DONE's effect. -/
def effBundleDone (v : Verdict) (s : State) : State :=
  if !s.sec.loadBusy ∨ s.sec.loadTarget ≠ 0 ∨ s.mode = 5 then s
  else
    let l := s.sec.loadWords
    let r := bundleCheck l v s
    if r.1 ≠ 0 then secRefuse r.1 s else bundleAccept l r.2 s

/-- BUNDLE_COMMIT_DONE: R368, R369. -/
def execBundleCommitDone (v : Verdict) (s : State) : Host.Outcome State Fault Refusal := done (effBundleDone v s)

/-! ## Firmware (R371 to R373) -/

/-- The checks of a firmware image in ascending order of code; `sig` says whether its signature verifies. -/
def fwCheck (l : List Word) (sig ok : Bool) (s : State) : Nat :=
  let len := imgLen l
  let tail := len / 4 - 26
  let ver := imgWord l 1 % 65536
  if imgWord l 0 ≠ 0x4B465752 ∨ imgWord l 1 / 65536 ≠ 1 ∨ 64 < ver then 1
  else if len % 4 ≠ 0 ∨ 4194304 < len ∨ len < 168 ∨ len ≠ s.sec.loadLen ∨ imgWord l (tail + 1) ≠ len then 2
  else if imgWord l tail ≠ 0x454E4446 then 1
  else if imgWord l 3 ≠ 0x8264 ∨ s.rd R.GLB_ID_REV < imgWord l 4 / 65536 then 3
  else if !sig then 4
  else if ver < s.rd R.SEC_STAT_FW_VER_FUSE then 10
  else if !ok then 11 else 0

/-- FIRMWARE_COMMIT_DONE's effect: the COMMIT word is programmed, and a commit of slot 2 retires slot 1. -/
def effFirmwareDone (sig ok : Bool) (s : State) : State :=
  let k := s.sec.loadTarget
  if !s.sec.loadBusy ∨ k = 0 ∨ s.mode = 5 then s
  else
    let l := tget [] s.sec.fw k
    let c := fwCheck l sig ok s
    if c ≠ 0 then secRefuse c s
    else
      let fw := tset [] s.sec.fw k (imgCommit l commitWord)
      let fw := if k = 2 then tset [] fw 1 (imgCommit (tget [] fw 1) 0) else fw
      secResult 0 (secClose 3 { s with sec := { s.sec with fw := fw } })

/-- FIRMWARE_COMMIT_DONE: R372. -/
def execFirmwareCommitDone (sig ok : Bool) (s : State) : Host.Outcome State Fault Refusal :=
  done (effFirmwareDone sig ok s)

/-- An armed write of 1 to SEC_FW_CTL.ROLL_FWD. -/
def effRollFwd (s : State) : State :=
  let s := s.wr R.SEC_FW_CTL_ROLL_FWD 0
  if s.rd R.SEC_STAT_FW_VER_FUSE < s.rd R.SEC_STAT_FW_VER_RUN then
    s.wr R.SEC_STAT_FW_VER_FUSE (s.rd R.SEC_STAT_FW_VER_RUN)
  else s.wr R.SEC_FW_CTL_REFUSED 1

/-! ## Attestation (R374, R375) -/

/-- The nonce in force. -/
def nonceNow (s : State) : List Word := (upto 8).map fun i => BitVec.ofNat 32 (s.rd (R.SEC_ATT_NONCE_NONCE i))

/-- A write of 1 to SEC_ATT_CTL.GO. -/
def effAttGo (s : State) : State :=
  let s := s.wr R.SEC_ATT_CTL_GO 0
  if s.bit R.SEC_ATT_CTL_BUSY ∨ s.mode = 5 ∨ !s.bit R.SEC_STAT_ID_VALID then s.wr R.SEC_ATT_CTL_REFUSED 1
  else { (s.wr R.SEC_ATT_CTL_BUSY 1).wr R.SEC_ATT_CTL_DONE 0 with sec := { s.sec with attNonce := nonceNow s } }

/-- Twelve registers of a hash. -/
def hashOctets (f : Nat → Fld) (s : State) : List Byte := (upto 12).flatMap fun i => octetsOf 4 (s.rd (f i))

/-- STW_BOOT_STAT. -/
def bootStatWord (s : State) : Nat :=
  s.rd R.STW_BOOT_STAT_BOOT_MS * 2 ^ 16 + s.rd R.STW_BOOT_STAT_REPAIRS * 2 ^ 8 + s.rd R.STW_BOOT_STAT_BIST_FAIL * 2 ^ 7 +
    s.rd R.STW_BOOT_STAT_FW_SLOT * 2 ^ 4 + s.rd R.STW_BOOT_STAT_STAGE

/-- STW_SELFTEST_STAT. -/
def selfStatWord (s : State) : Nat :=
  s.rd R.STW_SELFTEST_STAT_MEM_ID * 2 ^ 16 + s.rd R.STW_SELFTEST_STAT_REL_REFUSE * 2 ^ 8 +
    s.rd R.STW_SELFTEST_STAT_REFUSE * 2 ^ 4 + s.rd R.STW_SELFTEST_STAT_STATE

/-- Octets 0 to 239 of a report. -/
def reportOctets (s : State) : List Byte :=
  let fw := tget [] s.sec.fw (s.rd R.STW_BOOT_STAT_FW_SLOT)
  octetsOf 4 0x41545354 ++ octetsOf 2 1 ++ octetsOf 1 (s.rd R.SEC_LC_STATE) ++ octetsOf 1 s.mode ++ octetsOf 8 s.sec.devTag ++
    wordOctets s.sec.attNonce ++ warpHash fw ++ hashOctets R.WARP_HASH_HASH s ++ hashOctets R.WARP_CLAMP_HASH_HASH s ++
    octetsOf 2 (s.rd R.SEC_STAT_FW_VER_RUN) ++ octetsOf 1 (s.rd R.STW_BOOT_STAT_FW_SLOT) ++ octetsOf 1 (s.rd R.WARP_STAT_SLOT) ++
    octetsOf 4 (s.rd R.WARP_SEQ_SEQ) ++ octetsOf 4 (bootStatWord s) ++ octetsOf 4 (selfStatWord s) ++
    octetsOf 4 (fenceTrkWord s) ++ octetsOf 4 (fenceDrp 0 s) ++ octetsOf 4 (fenceDrp 1 s) ++ octetsOf 4 (fenceHostWord s) ++
    timeOctets s ++ octetsOf 4 (s.rd (R.SEC_CNT_COUNT 4))

/-- The signed report is ready; its signature of 96 octets is a free value (log 2). -/
def effAttested (s : State) : State :=
  if !s.bit R.SEC_ATT_CTL_BUSY ∨ s.mode = 5 then s
  else
    let s := s.sat (R.SEC_CNT_COUNT 4) 1
    let f := s.freeOctets 96
    let s := (octetWords 84 (reportOctets s ++ f.1)).zipIdx.foldl (fun a e => a.wr (R.SEC_ATT_REPORT_DATA e.2) e.1) f.2
    stewardNotice 3 (((s.wr R.SEC_ATT_CTL_BUSY 0).wr R.SEC_ATT_CTL_DONE 1).evt R.SEC_EVT_ATT)

/-- ATTESTATION_DONE: R374, R375. -/
def execAttestationDone (s : State) : Host.Outcome State Fault Refusal := done (effAttested s)

end Sys2Proof.Machine
end

