-- ==== Sys2Proof/Machine/Mka.lean ====
section
/-! DEFINITION. Key agreement and the rotation of SAKs (17_security R381, R382). -/

namespace Sys2Proof.Machine

/-! ## Key agreement (R377, R381) -/

/-- The strongroom holds the CAK of a CA, or the root that it is derived from. -/
def cakHeld (e : Nat) (s : State) : Bool :=
  let p := caPort e
  s.sec.room.any fun k => if p < 8 then k.type = 0x20 && k.index = p else k.type = 0x21 && k.index = p - 8

/-- The group CA of a drop. -/
def caGroup (e : Nat) : Bool := decide (8 ≤ e) && decide ((e - 8) % 32 = 31)

/-- The port of a CA is up, not fenced and not in SLEEP. -/
def caPortUp (e : Nat) (s : State) : Bool :=
  let p := caPort e
  !s.isFenced (portBlock p) &&
    (if p < 8 then s.bit (R.TRK_STAT_LINK_UP p) else decide (2 ≤ drpState (p - 8) s) && decide (drpState (p - 8) s ≤ 3))

/-- The MKA timers of a CA are suspended: its port is in SLEEP. -/
def caAsleep (e : Nat) (s : State) : Bool :=
  let p := caPort e
  if p < 8 then decide (trkState p s = 10) else decide (drpState (p - 8) s = 5)

/-- A new SAK is installed for receive under the next AN; every peer has yet to install it. -/
def rotStart (e : Nat) (s : State) : State :=
  let c := s.ca e
  let an := if c.rx.isEmpty then 0 else (s.rd (R.MSEC_STAT_RX_AN e) + 1) % 4
  let s := s.modCa e fun x => { x with
    rx := x.rx.filter (fun a => a.1 ≠ an) ++ [(an, 1)], newAn := some an, oldAn := x.oldAn.filter (fun a => a ≠ an),
    peers := x.peers.map (fun p => { p with installed := false, used := false }) }
  let s := s.wr (R.MSEC_STAT_RX_AN e) an
  if c.txReady then caState e 3 s else s

/-- A rotation is due: it starts, or waits with ROTATE set. -/
def rotAsk (e : Nat) (s : State) : State :=
  if !caUsed e s ∨ (s.ca e).newAn.isSome then s
  else if !(s.ca e).txReady ∨ !caPortUp e s then s.wr (R.MSEC_CTL_ROTATE e) 1
  else rotStart e (s.wr (R.MSEC_CTL_ROTATE e) 1)

/-- A write of 1 to MSEC[e].CTL.ROTATE. -/
def effRotate (e : Nat) (s : State) : State := rotAsk e s

/-- PEERS shows the live peers. -/
def peersShow (e : Nat) (s : State) : State := s.wr (R.MSEC_STAT_PEERS e) (s.ca e).peers.length

/-- An MKA frame of a peer: it becomes live, and reports whether it has installed the newest SAK and sends under it. -/
def effMkaFrame (e peer : Nat) (installed used : Bool) (s : State) : State :=
  if !caUsed e s ∨ !cakHeld e s ∨ !s.serving ∨ s.isFenced (portBlock (caPort e)) ∨ s.isFenced .macsec then s
  else
    let c := s.ca e
    if c.peers.any fun p => p.id = peer then
      s.modCa e fun x => { x with peers := x.peers.map (fun p =>
        if p.id = peer then { p with installed := p.installed || installed, used := p.used || used } else p) }
    else if 32 ≤ c.peers.length then s
    else
      let s := peersShow e (s.modCa e fun x => { x with peers := x.peers ++ [{ id := peer, installed := false, used := false }] })
      if !c.txReady then (if c.newAn.isSome then s else rotStart e s)
      else if caGroup e then rotAsk e s else s

/-- MKA_FRAME_RECEIVE: R381, R382. -/
def execMkaFrameReceive (e : Fin 2056) (peer : BitVec 96) (installed used : Bool) (s : State) :
    Host.Outcome State Fault Refusal := done (effMkaFrame e peer.toNat installed used s)

/-- The egress queue of a CA's port for the Steward's own frames (12_miller_queues R270). -/
def caQueue (e : Nat) : Nat := let p := caPort e; if p < 8 then 4096 + 8 * p + 7 else 64 * (p - 8) + 62

/-- A hello of the Steward as key server: what its parameter sets hold is a free value. -/
def mkaHello (e : Nat) (s : State) : State :=
  let f := s.freeOctets 46
  let p := caPort e
  let l := octetsOf 6 0x0180C2000003 ++ octetsOf 6 (portSci p s / 65536) ++ [0x88, 0x8E] ++ f.1
  deviceFrame (caQueue e) p (l ++ fcsOctets l) f.2

/-- The hello time of a CA: a hello is sent, and a rotation that waits, or that the transmit PN asks for, starts. -/
def effMkaHello (e : Nat) (s : State) : State :=
  if !cakHeld e s ∨ s.isFenced (portBlock (caPort e)) ∨ s.isFenced .macsec ∨ caAsleep e s then s
  else
    let s := mkaHello e s
    if s.bit (R.MSEC_CTL_ROTATE e) ∨ 2 ^ 62 ≤ s.rd (R.MSEC_TX_PN_PN e) then rotAsk e s else s

/-- MKA_HELLO_TICK: R381. -/
def execMkaHelloTick (s : State) : Host.Outcome State Fault Refusal :=
  done (if s.serving then (casUsed s).foldl (fun a e => effMkaHello e a) s else s)

/-- A peer leaves: the group CA rotates; a CA with no live peer has no SAK in use. -/
def effPeerLost (e peer : Nat) (s : State) : State :=
  if caAsleep e s ∨ !((s.ca e).peers.any fun p => p.id = peer) then s
  else
    let s := peersShow e (s.modCa e fun x => { x with peers := x.peers.filter (fun p => p.id ≠ peer) })
    if (s.ca e).peers.isEmpty then caNoSak e s
    else if caGroup e then rotAsk e s else s

/-- MKA_LIFE_EXPIRY: R381. -/
def execMkaLifeExpiry (e : Fin 2056) (peer : BitVec 96) (s : State) : Host.Outcome State Fault Refusal :=
  done (effPeerLost e peer.toNat s)

/-! ## Rotation (R382) -/

/-- SAK_LIFETIME_EXPIRY: R382. -/
def execSakLifetimeExpiry (e : Fin 2056) (s : State) : Host.Outcome State Fault Refusal :=
  done (if (s.ca e).txReady then rotAsk e s else s)

/-- The identifiers of a new SAK are free values. -/
def kiFresh (e : Nat) (s : State) : State :=
  (upto 4).foldl (fun a i => let f := a.free 32; f.2.wr (R.MSEC_KI_KI e i) f.1) s

/-- Every live peer has installed the SAK: transmit changes AN; a rotation counts and is noticed. -/
def effRotated (e : Nat) (s : State) : State :=
  let c := s.ca e
  match c.newAn with
  | none => s
  | some an =>
    if c.peers.isEmpty ∨ !(c.peers.all fun p => p.installed) then s
    else
      let old := if c.txReady then some (s.rd (R.MSEC_STAT_TX_AN e)) else none
      let s := kiFresh e ((s.wr (R.MSEC_STAT_TX_AN e) an).wr (R.MSEC_TX_PN_PN e) 1)
      let s := s.modCa e fun x => { x with newAn := none, oldAn := old, txReady := true }
      let s := caState e 2 (s.wr (R.MSEC_CTL_ROTATE e) 0)
      if c.txReady then secNotice 2 e (s.sat (R.SEC_CNT_COUNT 5) 1) else s

/-- SAK_ROTATION_DONE: R382. -/
def execSakRotationDone (e : Fin 2056) (s : State) : Host.Outcome State Fault Refusal := done (effRotated e s)

/-- OLD_SA_RETIRE: the old receive SA goes. -/
def execOldSaRetire (e : Fin 2056) (s : State) : Host.Outcome State Fault Refusal :=
  done (match (s.ca e).oldAn with
    | some an => s.modCa e fun x => { x with rx := x.rx.filter (fun a => a.1 ≠ an), oldAn := none }
    | none => s)

end Sys2Proof.Machine
end

