-- ==== Sys2Proof/Machine/FabCore.lean ====
section
/-! DEFINITION. The register fabric: the map, arming, the service of an access, and reading a word
(04_register_interface R76 to R92, R435). -/

namespace Sys2Proof.Machine

/-! ## The map (R76) -/

/-- The windows of the BAR0 map. -/
inductive Win
  | glb | warp | watch | pwr | stw | sec | time | assay | surv | mill | gran | mem | hln | pass | mgmt | millq
  | trk (t : Nat) | twin | drp (d : Nat) | msec | aper
  deriving DecidableEq, Repr

/-- The windows of 64 KiB from 0x000_0000, in order. -/
def lowWins : List Win :=
  [.glb, .warp, .watch, .pwr, .stw, .sec, .time, .assay, .surv, .mill, .gran, .mem, .hln, .pass, .mgmt]

/-- The window of an address. -/
def winOf (a : Nat) : Option Win :=
  if a < 0x100000 then lowWins[a / 0x10000]?
  else if a < 0x200000 then some .millq
  else if a < 0x280000 then some (.trk ((a - 0x200000) / 0x10000))
  else if a < 0x290000 then some .twin
  else if 0x300000 ≤ a ∧ a < 0x340000 then some (.drp ((a - 0x300000) / 0x1000))
  else if 0x400000 ≤ a ∧ a < 0x500000 then some .msec
  else if 0x800000 ≤ a ∧ a < 0x1000000 then some .aper
  else none

/-- The first address of the window of an address, which names it in a snapshot. -/
def winBase (a : Nat) : Nat :=
  match winOf a with
  | some .millq => 0x100000
  | some .msec => 0x400000
  | some .aper => 0x800000
  | some (.drp _) => a / 0x1000 * 0x1000
  | _ => a / 0x10000 * 0x10000

/-- A word of a register: its descriptor, its indices (0 where it has none), and the word's place in a wide register. -/
structure RegAt where
  d : RegDesc
  i : Nat
  j : Nat
  k : Nat
  deriving DecidableEq, Repr

/-- The word at an address, within one descriptor. -/
def RegDesc.find (d : RegDesc) (a : Nat) : Option RegAt :=
  if a < d.base then none
  else
    let o := a - d.base
    let at1 := if d.ndims = 0 then (0, o) else (o / d.dim1.2.2, o % d.dim1.2.2)
    let at2 := if d.ndims < 2 then (0, at1.2) else (at1.2 / d.dim2.2.2, at1.2 % d.dim2.2.2)
    if at1.1 ≤ d.dim1.2.1 - d.dim1.1 ∧ at2.1 ≤ d.dim2.2.1 - d.dim2.1 ∧ at2.2 < 4 * ((d.width + 31) / 32) then
      some { d := d, i := d.dim1.1 + at1.1, j := d.dim2.1 + at2.1, k := at2.2 / 4 }
    else none

/-- The word at an address, in a list of descriptors. -/
def findIn (a : Nat) : List RegDesc → Option RegAt
  | [] => none
  | d :: l => match d.find a with | some r => some r | none => findIn a l

/-- The register word at an address. -/
def regAt (a : Nat) : Option RegAt := findIn a regCat

/-- The BAR0 offset of a word. -/
def RegAt.addr (r : RegAt) : Nat :=
  r.d.base + (r.i - r.d.dim1.1) * r.d.dim1.2.2 + (r.j - r.d.dim2.1) * r.d.dim2.2.2 + 4 * r.k

/-- The register that holds a field, in a list of descriptors. -/
def ownerIn (id : Nat) : List RegDesc → Option RegDesc
  | [] => none
  | d :: l => if d.fields.any fun f => f.id = id then some d else ownerIn id l

/-- The word that holds bit 0 of a field. -/
def fieldAt (f : Fld) : Option RegAt :=
  match ownerIn f.id regCat with
  | some d =>
    let lo := ((d.fields.find? fun x => x.id = f.id).map FldDesc.lo).getD 0
    some { d := d, i := if d.ndims = 2 then f.ix / 64 else f.ix, j := if d.ndims = 2 then f.ix % 64 else 0, k := lo / 32 }
  | none => none

/-- The index of a register's fields. -/
def RegAt.ix (r : RegAt) : Nat := if r.d.ndims = 2 then 64 * r.i + r.j else if r.d.ndims = 1 then r.i else 0

/-- A field of a register. -/
def RegAt.fld (r : RegAt) (f : FldDesc) : Fld := ⟨f.id, r.ix, f.width, f.rst.value r.ix⟩

/-- The vale that holds a register (R76; 15_surveyor, the SURV block). -/
def valeAt (a : Nat) : Option Nat :=
  match winOf a with
  | some (.trk t) => some (t / 2)
  | some (.drp d) => some (d / 16)
  | some .surv =>
    if a < 0x81000 then none
    else if a < 0x81800 then some ((a - 0x81000) / 0x200)
    else if 0x82000 ≤ a ∧ a < 0x83000 then some ((a - 0x82000) / 0x400)
    else if 0x83000 ≤ a ∧ a < 0x83040 then some ((a - 0x83000) / 0x10) else none
  | _ => none

/-- The block whose fence closes a register (R88). -/
def blockAt (a : Nat) : Option Block :=
  match winOf a with
  | some (.trk t) => some (.trunk t)
  | some (.drp d) => some (.drop d)
  | some .surv => (valeAt a).map fun v => .surv v
  | some .gran | some .aper => some .gran
  | some .msec => some .macsec
  | some .assay => some .assayer
  | some .hln => if (a - 0xC0000) / 0x100 < 6 then some (.hostLane ((a - 0xC0000) / 0x100)) else none
  | _ => none

/-- The source that an access's event is charged to (18_watch_faults R385); the blocks that have no source of their own
are charged to the fabric (log 61). -/
def sourceAt (a : Nat) : Nat :=
  match winOf a with
  | some .warp => 1 | some .watch => 2 | some .pwr => 3 | some .stw => 4 | some .sec => 5 | some .time => 6
  | some .assay => 7 | some .mill | some .millq => 8 | some .gran | some .aper => 9 | some .mem => 10
  | some .mgmt => 11 | some .msec => 12
  | some .hln => 16 + min 5 ((a - 0xC0000) / 0x100)
  | some .pass => if a < 0xD0400 then 36 + (a - 0xD0000) / 0x100 else 0
  | some (.trk t) => 64 + t
  | some (.drp d) => 128 + d
  | some .surv => match valeAt a with | some v => 40 + v | none => 0
  | _ => 0

/-! ## Recording and arming (R84, GLB_ACC_STAT) -/

/-- The number of a port. -/
def portCode : Port → Nat
  | .pcie => 0 | .mdio => 1 | .spi => 2 | .steward => 3

/-- GLB_ACC_STAT records an access: 1 partial write, 2 keyed unarmed, 3 key mismatch, 4 reserved value, 5 unmapped,
6 fenced, 7 asleep, 8 mode, 9 vale timeout. -/
def accNote (kind : Nat) (p : Port) (wr : Bool) (a : Nat) (s : State) : State :=
  ((((s.wr R.GLB_ACC_STAT_KIND kind).wr R.GLB_ACC_STAT_PORT (portCode p)).wrb R.GLB_ACC_STAT_WRITE wr).wr R.GLB_ACC_STAT_ADDR
    (a / 4 * 4)).sat R.GLB_ACC_CNT_COUNT 1

/-- A port is armed: its arming has not lapsed. -/
def armed (p : Port) (s : State) : Bool := decide (s.age < tget 0 s.fabric.arm (portCode p))

/-- A port's arming ends. -/
def disarm (p : Port) (s : State) : State := { s with fabric := { s.fabric with arm := tset 0 s.fabric.arm (portCode p) 0 } }

/-- A write to GLB_KEYGATE arms the port for 1 ms, or disarms it. -/
def keygate (p : Port) (v : Nat) (s : State) : State :=
  if v = 0xC0A51E5D then
    { s with fabric := { s.fabric with arm := tset 0 s.fabric.arm (portCode p) (s.age + msec) } }
  else accNote 3 p true 8 (disarm p s)

/-! ## How an access is served (R88, R435) -/

/-- How an access is served: not at all, all ones and a write dropped with a record of some kind, reads only, as in the
table of R88 for a sleeping block, or normally. -/
inductive Service
  | silent
  | closed (kind : Nat)
  | readOnly
  | asleep
  | shadow (v : Nat)
  | normal
  deriving DecidableEq, Repr

/-- GLB_KEYGATE and STW_RESET_CTL, whose writes no mode drops. -/
def alwaysWritten (a : Nat) : Bool := a = 8 || a = 0x40010

/-- The training registers, which a host port reaches only in MAINTENANCE with the granary under self-test
(13_memory_granary R306). -/
def trainReg (a : Nat) : Bool := (0xA0100 ≤ a && a < 0xA0118) || (0xA0200 ≤ a && a < 0xA0300)

/-- The training registers are open: to the Steward, and to a host port in a self-test of the granary in MAINTENANCE. -/
def trainOpen (p : Port) (s : State) : Bool :=
  p = .steward || (decide (s.mode = 4) && (s.boot.selfTest.map fun t => t.block) == some .gran)

/-- A register word holds a wake-safe field. -/
def RegAt.wakeSafe (r : RegAt) : Bool := r.d.fields.any fun f => f.wakeSafe

/-- How an access to an address is served; `r` is the word there, where there is one. -/
def service (p : Port) (wr : Bool) (a : Nat) (r : Option RegAt) (s : State) : Service :=
  if s.mode = 0 then
    if s.boot.step < 4 then .silent
    else if s.rd R.STW_BOOT_STAT_STAGE = 8 then
      match winOf a with
      | some .glb | some .stw | some .mgmt => .readOnly
      | _ => .closed 8
    else match winOf a with
      | some (.trk _) | some .twin | some (.drp _) | some .millq | some .msec => .closed 8
      | _ => .readOnly
  else
    let fenced := match blockAt a with | some b => s.isFenced b | none => false
    if fenced && !(trainReg a && trainOpen p s) then .closed (if s.mode = 5 ∧ wr then 8 else 6)
    else if s.mode = 5 then .readOnly
    else if winOf a = some .aper then (if 2 ≤ s.rd R.PWR_STAT_HOST_RUNG then .closed 7 else .normal)
    else match valeAt a with
      | none => if 3 ≤ s.rd R.PWR_STAT_HOST_RUNG then .asleep else .normal
      | some v =>
        if 3 ≤ s.valeRung v then
          (if (r.map RegAt.wakeSafe).getD false then .asleep else .shadow v)
        else .normal

/-! ## Reading (R10, R78, R81) -/

/-- The field that a view belongs to. -/
def isFld (f : Fld) (g : Fld) : Bool := f.id = g.id

/-- Fields that the device measures and no command sets: a read yields a free value (log 62). -/
def measured (f : Fld) : Bool :=
  [R.TRK_EQ_RX_PHASE 0, R.PASS_PWR_P_MW 0, R.PASS_PWR_V_10MV 0, R.HLN_STAT_RX_IDLE 0, R.HLN_FEC_CORR_SYM_COUNT 0,
   R.HLN_FEC_UNC_COUNT 0].any fun g => isFld f g

/-- Fields that follow from the rest of the state. -/
def viewed (p : Port) (f : Fld) (s : State) : Option Nat :=
  let is := isFld f
  if is R.GLB_KEY_STAT_ARMED then some (b2n (armed p s))
  else if is R.GLB_KEY_STAT_REMAIN_US then some ((tget 0 s.fabric.arm (portCode p) - s.age) / usec)
  else if is R.GLB_FENCE_TRK_SURV then some (fenceSurv s)
  else if is R.GLB_FENCE_TRK_VALE then some (fenceVale s)
  else if is R.GLB_FENCE_TRK_TRK then some (fenceTrk s)
  else if is (R.GLB_FENCE_DRP_DRP 0) then some (fenceDrp f.ix s)
  else if is R.GLB_FENCE_HOST_MACSEC then some (b2n (s.isFenced .macsec))
  else if is R.GLB_FENCE_HOST_ASSAY then some (b2n (s.isFenced .assayer))
  else if is R.GLB_FENCE_HOST_GRAN then some (b2n (s.isFenced .gran))
  else if is R.GLB_FENCE_HOST_PCIE then some (b2n (s.isFenced .pcie))
  else if is R.GLB_FENCE_HOST_HL then some (fenceLane s)
  else if is R.WATCH_STAT_FIELD then some (b2n s.fltField)
  else if is R.WATCH_STAT_HOST then some (b2n s.fltHost)
  else if is R.WATCH_STAT_HELD_UF then some (heldUfCount s)
  else if is R.WATCH_STAT_GRACE_RUN then some (graceCount s)
  else if is R.WATCH_IRQ_PEND then some s.irq
  else if is (R.WATCH_HELD_HELD 0) then some (heldMask f.ix s)
  else if is (R.WATCH_SLOT_HDR_GRACE_LEFT_MS 0) then some (graceLeft f.ix s)
  else if is R.PWR_STAT_TARGET then some (targetOf 0 s)
  else if is R.PWR_STAT_BUSY then some (b2n (ladderBusy s))
  else if is R.PWR_STAT_PENDING then some (b2n (ladderPending s))
  else if is R.PWR_TIMER_LEFT_LEFT then some (timerLeft s)
  else if is R.TIME_NOW_SEC then some s.time.sec
  else if is R.TIME_NOW_NS then some s.time.ns
  else if is R.TIME_NOW_FRAC then some s.time.frac
  else if is (R.WARP_CLAMP_DATA_WORD 0) then some (clampWord f.ix s)
  else if is (R.TRK_COEF_DATA_COEF 0) then some (coefEntry f.ix s)
  else if is (R.DRP_LD_COEF_DATA_REAL 0) then some (ldCoefEntry f.ix s / 65536)
  else if is (R.DRP_LD_COEF_DATA_IMAG 0) then some (ldCoefEntry f.ix s % 65536)
  else none

/-- The value that a read of a field yields; a voted field yields its majority, a write-only field 0. -/
def fieldRead (p : Port) (r : RegAt) (x : FldDesc) (s : State) : Nat × State :=
  let f := r.fld x
  if x.acc = .wo then (0, s)
  else if measured f then s.free x.width
  else if isFld f (R.WATCH_LOG_DATA_WORD 0) then logWord f.ix s
  else match viewed p f s with
    | some v => (cut x.width v, s)
    | none => (if x.voted then s.rdV f else s.rd f, s)

/-- The entry of a CA that is not in use reads 0 (17_security, MSEC registers). -/
def caHidden (r : RegAt) (s : State) : Bool := winOf r.addr = some .msec && !caUsed r.i s

/-- A whole register: every field at its place; Reserved bits read 0. -/
def regRead (p : Port) (r : RegAt) (s : State) : Nat × State :=
  if caHidden r s then (0, s)
  else r.d.fields.foldl (fun a x => let v := fieldRead p r x a.2; (a.1 + v.1 * 2 ^ x.lo, v.2)) (0, s)

/-- Disagreeing copies of the voted fields of a register are found and rewritten (R86). -/
def regVote (r : RegAt) (s : State) : State :=
  r.d.fields.foldl (fun a x => if x.voted then a.voteRepair (r.fld x) (sourceAt r.addr) r.addr else a) s

/-- A read clears the RC fields of the word: each returns to its Reset value. -/
def regClear (r : RegAt) (s : State) : State :=
  r.d.fields.foldl (fun a x => if x.acc = .rc then a.wr (r.fld x) (x.rst.value r.ix) else a) s

/-- What else a read does: an index advances. -/
def readEffect (r : RegAt) (s : State) : State :=
  if r.d.base = 0x10208 ∧ r.i = 3 then effClampRead s
  else if r.d.base = 0x20014C then effCoefRead r.i s
  else if r.d.base = 0x300A04 then effLdCoefRead r.i s else s

/-- A register wider than one word that host software does not write: it is read through a snapshot. -/
def wideRead (r : RegAt) : Bool := 32 < r.d.width && !(r.d.fields.any fun x => x.acc = .rw)

/-- The snapshot of a port in a window. -/
def snapOf (p : Port) (w : Nat) (s : State) : Option Snap := s.fabric.snaps.find? fun x => x.port = p ∧ x.window = w

/-- A port takes a snapshot. -/
def snapPut (x : Snap) (s : State) : State :=
  { s with fabric := { s.fabric with
    snaps := s.fabric.snaps.filter (fun y => !(y.port = x.port ∧ y.window = x.window)) ++ [x] } }

/-- The lowest offset of the register that a word belongs to. -/
def RegAt.low (r : RegAt) : Nat := r.addr - 4 * r.k

/-- Read one word: the data and the state afterwards. -/
def wordRead (p : Port) (r : RegAt) (s : State) : Nat × State :=
  let s := regVote r s
  let w := winBase r.addr
  if wideRead r then
    match (if r.k = 0 then none else (snapOf p w s).filter fun x => x.addr = r.low) with
    | some x => (tbits x.value (32 * r.k + 31) (32 * r.k), s)
    | none =>
      let v := regRead p r s
      let s := snapPut { port := p, window := w, addr := r.low, value := v.1 } v.2
      (tbits v.1 (32 * r.k + 31) (32 * r.k), if r.k = 0 then regClear r s else s)
  else
    let v := regRead p r s
    (tbits v.1 (32 * r.k + 31) (32 * r.k), readEffect r (regClear r v.2))

/-- A word of a vale read from the host die's shadow of it (R88). -/
def shadowRead (v : Nat) (p : Port) (r : RegAt) (s : State) : Nat × State :=
  let x := wordRead p r { s with regs := tget [] s.fabric.shadow v }
  (x.1, s)

end Sys2Proof.Machine
end

