-- ==== Sys2Proof/Machine/Recov.lean ====
section
/-! DEFINITION. Firmware recovery over SPI (11_host_interfaces R268). -/

namespace Sys2Proof.Machine

/-- The boot ROM serves recovery: BOOT stands in the recovery stage. -/
def recovering (s : State) : Bool := decide (s.mode = 0) && decide (s.rd R.STW_BOOT_STAT_STAGE = 8)

/-- The MGMT_RECOV registers. -/
def recovReg (a : Nat) : Bool := 0xE0100 ≤ a && a < 0xE0110

/-- A write of BEGIN: staging opens for the slot and length that stand now. -/
def effRecovBegin (s : State) : State :=
  if s.rd R.MGMT_RECOV_STAT_STATE = 2 then s
  else
    let s := ((s.wr R.MGMT_RECOV_STAT_STATE 1).wr R.MGMT_RECOV_STAT_WORDS 0).wr R.MGMT_RECOV_STAT_DONE 0
    { s.wr R.MGMT_RECOV_STAT_REASON 0 with mgmt := { s.mgmt with
      recov := [], recLen := s.rd R.MGMT_RECOV_LEN_LEN, recSlot := s.rd R.MGMT_RECOV_CTL_SLOT } }

/-- A write of DATA: the next four octets; what lies past LEN is counted and dropped. -/
def effRecovData (v : Word) (s : State) : State :=
  if s.rd R.MGMT_RECOV_STAT_STATE ≠ 1 then s
  else
    let s := s.add R.MGMT_RECOV_STAT_WORDS 1
    if 4 * s.mgmt.recov.length < s.mgmt.recLen then { s with mgmt := { s.mgmt with recov := s.mgmt.recov ++ [v] } } else s

/-- Why a recovery image is refused: 1 its length, 2 its signature, 3 a version below the fuse count; 0 it is not. -/
def recovCheck (sig : Bool) (s : State) : Nat :=
  let n := s.mgmt.recLen
  if n % 4 ≠ 0 ∨ 4194304 < n ∨ 4 * s.mgmt.recov.length < n then 1
  else if !sig then 2
  else if (s.mgmt.recov.getD 1 0).toNat % 65536 < s.rd R.SEC_STAT_FW_VER_FUSE then 3 else 0

/-- A write of COMMIT: the image is checked; one that passes is programmed into its slot, which is erased first. -/
def effRecovCommit (sig : List Word → Bool) (s : State) : State :=
  if s.rd R.MGMT_RECOV_STAT_STATE ≠ 1 then s
  else
    let c := recovCheck (sig s.mgmt.recov) s
    if c ≠ 0 then
      { (s.wr R.MGMT_RECOV_STAT_REASON c).wr R.MGMT_RECOV_STAT_STATE 3 with mgmt := { s.mgmt with recov := [] } }
    else
      { s.wr R.MGMT_RECOV_STAT_STATE 2 with sec := { s.sec with fw := tset [] s.sec.fw s.mgmt.recSlot [] } }

/-- Programming and read-back end, the COMMIT word last; a slot that could not be programmed stays blank. -/
def effRecovDone (ok : Bool) (s : State) : State :=
  if !recovering s ∨ s.rd R.MGMT_RECOV_STAT_STATE ≠ 2 then s
  else
    let l := s.mgmt.recov
    let s := { s.wr R.MGMT_RECOV_STAT_STATE 3 with mgmt := { s.mgmt with recov := [] } }
    if ok then
      { s.wr R.MGMT_RECOV_STAT_DONE 1 with sec := { s.sec with fw := tset [] s.sec.fw s.mgmt.recSlot (imgCommit l commitWord) } }
    else s.wr R.MGMT_RECOV_STAT_REASON 4

/-- RECOVERY_COMMIT_DONE: R268. The operand says whether programming and read-back succeeded. -/
def execRecoveryCommitDone (ok : Bool) (s : State) : Host.Outcome State Fault Refusal := done (effRecovDone ok s)

end Sys2Proof.Machine
end

