-- ==== Sys2Proof/Machine/Pass.lean ====
section
/-! DEFINITION. The pass: data-lane blocks, lock and striping, frames and twin messages across it, credit, latency, and
what fences a vale (10_pass R219 to R245). -/

namespace Sys2Proof.Machine

/-! ## Blocks (R219 to R224, R231) -/

/-- An item that an uncorrectable block touches (R231): frames are discarded with a class U event each, a twin message is
late or uncorrectable, and a shadow image or capture is invalid as a whole. -/
def itemSpoil (v : Nat) (x : PassItem) (s : State) : State :=
  match x with
  | .ingress p =>
    let banks := if p < 8 then [p % 2] else [drpBank (p - 8)]
    match banks.find? fun b => (tget [] s.rxBank (8 * v + b)).any fun f => f.port = p with
    | some b =>
      let l := tget [] s.rxBank (8 * v + b)
      let f := l.find? fun f => f.port = p
      let s := { s with rxBank := tset [] s.rxBank (8 * v + b) (match f with | some f => l.erase f | none => l) }
      s.recordFree (36 + v) 2 0x20 none
    | none => s
  | .egress p =>
    match (s.pas v).down.find? fun f => queuePort f.queue = p with
    | some f =>
      let s := s.modPass v fun x => { x with down := x.down.erase f }
      (frameLost p f s).recordFree (36 + v) 2 0x20 none
    | none => s
  | .twinDown i b =>
    modMem i b (fun m => { m with
      flight := m.flight.drop 1, await := m.await ++ (m.flight.take 1).map fun q => (q, true) }) s
  | .twinUp _ _ => s
  | .capture => s.modPass v fun x => { x with spoiled := x.spoiled ++ [4] }
  | .shadow => s.modPass v fun x => { x with shadowBad := x.shadowBad + 1 }

/-- A block whose codeword does not decode. -/
def blockBad (v : Nat) (b : PassBlock) (s : State) : State :=
  b.touched.foldl (fun a x => itemSpoil v x a) ((s.add (R.PASS_RS_UNC_COUNT v) 1).evt (R.PASS_EVT_RS_UNC v))

/-- A marker gives the latency of its direction, averaged with weight 1/8 while the vale's time is locked (R224, R244). -/
def markerTake (v : Nat) (down : Bool) (b : PassBlock) (s : State) : State :=
  let n := octetsNat (b.msg.take 4)
  let s := s.modPass v fun x => if down then { x with markDn := n } else { x with markUp := n }
  if !valeLocked v s then s
  else
    let f := if down then R.PASS_LAT_DATA_DN_NS v else R.PASS_LAT_DATA_UP_NS v
    let ns := stampDiffNs (octetsStamp ((b.msg.drop 4).take 12)) b.arrive
    s.wr f (((s.rd f : Nat) : Int) + (ns - (s.rd f : Nat)) / 8).toNat

/-- PASS_BLOCK_RECEIVE: R219, R221, R224, R225, R231. A lane that is not locked loses the blocks sent on it. -/
def effPassBlock (v : Nat) (down : Bool) (lane : Nat) (b : PassBlock) (s : State) : State :=
  let use := if down then (s.pas v).dnUse else (s.pas v).upUse
  let lock := if down then (s.pas v).dnLock else upLock v s
  if !tbit lock lane then (if tbit use lane then blockBad v b s else s)
  else if !hdrValid b.hdr lane ∨ b.stuffBad then blockBad v b s
  else match b.status with
    | .uncorrectable => blockBad v b s
    | .corrected n =>
      let s := s.add (R.PASS_RS_CORR_SYM_COUNT v) n
      if hdrKind b.hdr = 2 then markerTake v down b s else s

/-- PASS_BLOCK_RECEIVE: R219. -/
def execPassBlockReceive (v : Fin 4) (down : Bool) (lane : Fin 3) (blk : PassBlock) (s : State) :
    Host.Outcome State Fault Refusal := done (effPassBlock v down lane blk s)

/-! ## Lock and striping (R223, R225, R226) -/

/-- PASS_LANE_LOCK: 64 consecutive valid headers at one position. -/
def execPassLaneLock (v : Fin 4) (down : Bool) (lane : Fin 3) (s : State) : Host.Outcome State Fault Refusal :=
  done (if down then s.modPass v fun x => { x with dnLock := setBit x.dnLock lane true }
    else s.wr (R.PASS_STAT_UP_LOCK v) (setBit (upLock v s) lane true))

/-- PASS_LANE_LOCK_LOSS: 16 of 64 headers are invalid. -/
def execPassLaneLockLoss (v : Fin 4) (down : Bool) (lane : Fin 3) (s : State) : Host.Outcome State Fault Refusal :=
  done (if tbit (if down then (s.pas v).dnLock else upLock v s) lane then laneDrop v down lane s else s)

/-- STRIPING_SET_CHANGE: the sender takes the enabled lanes that the far receiver last reported locked. -/
def execStripingSetChange (v : Fin 4) (down : Bool) (s : State) : Host.Outcome State Fault Refusal :=
  done (let n := if down then Nat.land (s.rd (R.PASS_STAT_DN_LOCK v)) (s.rd (R.PASS_CTL_DN_EN v))
      else Nat.land (s.pas v).upRep (s.rd (R.PASS_CTL_UP_EN v))
    let s := s.modPass v fun x => if down then { x with dnUse := n } else { x with upUse := n }
    if laneCount n < 3 then s.evt (R.PASS_EVT_CAPACITY v) else s)

/-- PASS_NO_LANE_TICK: a direction has no lane. -/
def execPassNoLaneTick (v : Fin 4) (s : State) : Host.Outcome State Fault Refusal :=
  done (if (s.pas v).dnUse = 0 ∨ (s.pas v).upUse = 0 then s.recordFree (32 + v) 2 0x34 none else s)

/-- LANE: the lanes locked at the sender's receiver become known at the other end. -/
def execLane (v : Fin 4) (down : Bool) (s : State) : Host.Outcome State Fault Refusal :=
  done (if down then s.modPass v fun x => { x with upRep := upLock v s }
    else (hostGot v s).wr (R.PASS_STAT_DN_LOCK v) (s.pas v).dnLock)

/-- LANE_REPORT: an end sends LANE (R238). -/
def execLaneReport (v : Fin 4) (down : Bool) (s : State) : Host.Outcome State Fault Refusal :=
  done (if down then hostSend v 0x80 0 s else s.send (.tally v 0x80 0))

/-! ## Frames and twin messages (R20, R226 to R230) -/

/-- The banks that the ingress engine reads before a bank while fewer than three lanes are in use (R226). -/
def banksBefore (bank : Nat) : List Nat := if bank = 0 ∨ bank = 1 then [2, 3] else if bank = 5 then [2, 3, 0, 1] else []

/-- PASS_INGRESS_FRAME: the oldest frame of a receive bank reaches the host die. -/
def execPassIngressFrame (v : Fin 4) (bank : Fin 8) (clear : Option (List Byte)) (s : State) : Host.Outcome State Fault Refusal :=
  done (let bankOf := fun (b : Nat) => tget [] s.rxBank (8 * v.val + b)
    if laneCount (s.pas v).upUse < 3 && laneCount (s.pas v).upUse ≠ 0 &&
        (banksBefore bank).any fun b => !(bankOf b).isEmpty then s
    else match bankOf bank with
      | [] => s
      | f :: l => ingressFrame f clear { s with rxBank := tset [] s.rxBank (8 * v.val + bank) l })

/-- PASS_EGRESS_FRAME: the oldest frame crossing arrives in bank 4, in its trunk's or its drop's share. -/
def execPassEgressFrame (v : Fin 4) (s : State) : Host.Outcome State Fault Refusal :=
  done (match (s.pas v).down with
    | [] => s
    | f :: l =>
      let s := s.modPass v fun x => { x with down := l }
      let p := queuePort f.queue
      if p < 8 then s.modTrk p fun x => { x with bank4 := x.bank4 ++ [f] }
      else s.modDrp (p - 8) fun x => { x with lists := x.lists ++ [f] })

/-- TWIN_MESSAGE_EGRESS: a position's message arrives at the member's vale. -/
def execTwinMessageEgress (i : Fin 4) (b : Bool) (s : State) : Host.Outcome State Fault Refusal :=
  done (modMem i b (fun m => { m with
    flight := m.flight.drop 1, await := m.await ++ (m.flight.take 1).map fun q => (q, false) }) s)

/-- TWIN_POSITION_LAUNCH: the next position goes on the line; one whose message is late or not there is sent spoiled and
counted. -/
def execTwinPositionLaunch (i : Fin 4) (b : Bool) (s : State) : Host.Outcome State Fault Refusal :=
  done (let t := memTrunk i b s
    let m := if b then (s.twin i).b else (s.twin i).a
    let go := fun (p : Nat) (late : Bool) (s : State) =>
      let s := if late then s.sat (R.PASS_DISC_CNT_LATE (t / 2)) 1 else s
      s.send (.twinWord t p late)
    match m.await, m.flight with
    | (p, late) :: _, _ => go p late (modMem i b (fun m => { m with await := m.await.drop 1 }) s)
    | [], p :: _ => go p true (modMem i b (fun m => { m with flight := m.flight.drop 1 }) s)
    | [], [] => s)

/-! ## Credit (R21, R238) -/

/-- CREDIT: the cumulative counts of up to four ports reach the Miller. -/
def execCredit (v : Fin 4) (ls : List (Fin 18)) (s : State) : Host.Outcome State Fault Refusal :=
  done ((ls.take 4).foldl (fun a l => a.modCred (portOf v l) fun c => { c with reported := c.returned }) (hostGot v s))

/-- CREDIT_REPORT: the vale sends CREDIT for ports with returned credit. -/
def execCreditReport (v : Fin 4) (ls : List (Fin 18)) (s : State) : Host.Outcome State Fault Refusal :=
  done (if (ls.take 4).any fun l => (s.cred (portOf v l)).returned ≠ (s.cred (portOf v l)).reported then
      s.send (.tally v 0x20 0)
    else s)

/-! ## Beacon mode (R25, R241) -/

/-- BEACON: an end sees the sender's rung. -/
def execBeacon (v : Fin 4) (down : Bool) (s : State) : Host.Outcome State Fault Refusal :=
  done (if !s.bit (R.PASS_STAT_BEACON v) then s
    else if down then s.modPass v fun x => { x with rungDn := s.rd R.PWR_STAT_HOST_RUNG }
    else (hostGot v s).modPass v fun x => { x with rungUp := s.valeRung v })

/-- BEACON_SEND: every 2,048 ticks each end sends a BEACON. -/
def execBeaconSend (v : Fin 4) (down : Bool) (s : State) : Host.Outcome State Fault Refusal :=
  done (if !s.bit (R.PASS_STAT_BEACON v) then s
    else if down then hostSend v 0x01 0 s else s.send (.tally v 0x01 0))

/-! ## Time exchange (R243) -/

/-- TIME_EXCHANGE_TICK: the host die sends TIME_SYNC with T1 in Run, Hush and Still. -/
def execTimeExchangeTick (v : Fin 4) (t1 : Int) (s : State) : Host.Outcome State Fault Refusal :=
  done (if s.valeRung v ≤ 2 ∧ !s.isFenced (.vale v) then
      (hostSend v 0x30 0 s).modPass v fun x => { x with t1 := some t1, t2 := none, t3 := none, t4 := none }
    else s)

/-- TIME_SYNC: the vale takes T2 and answers TIME_DREQ with T3. -/
def execTimeSync (v : Fin 4) (t2 t3 : Int) (s : State) : Host.Outcome State Fault Refusal :=
  done (if (s.pas v).t1.isSome then
      (s.modPass v fun x => { x with t2 := some t2, t3 := some t3, t4 := none }).send (.tally v 0x31 0)
    else s)

/-- The delays and the offset of an exchange in picoseconds, from T1 to T4 and ASYM (R243); halves round down. -/
def exchange (t1 t2 t3 t4 asym : Int) : Int × Int × Int :=
  let sum := (t2 - t1) + (t4 - t3)
  let dn := (sum + asym) / 2
  let up := (sum - asym) / 2
  (dn, up, (t2 - t1) - dn)

/-- A picosecond figure in a 16-bit field of 10 ps. -/
def tenPs (ps : Int) : Nat := (ps / 10 % 65536).toNat

/-- The four times of an exchange are there: delays, offset, discipline. -/
def exchangeDone (v : Nat) (s : State) : State :=
  match (s.pas v).t1, (s.pas v).t2, (s.pas v).t3, (s.pas v).t4 with
  | some a, some b, some c, some d =>
    let asym := let n := s.rd (R.PASS_ASYM_ASYM_PS v); if n < 32768 then (n : Int) else (n : Int) - 65536
    let e := exchange a b c d asym
    let s := (s.wr (R.PASS_LAT_TALLY_DN v) (tenPs e.1)).wr (R.PASS_LAT_TALLY_UP v) (tenPs e.2.1)
    let s := s.wr (R.PASS_OFFSET_OFFSET_PS v) (e.2.2 % 2 ^ 32).toNat
    let s := s.modPass v fun x => { x with t1 := none, t2 := none, t3 := none, t4 := none }
    valeDiscipline v e.2.2 s
  | _, _, _, _ => s

/-- TIME_DRSP: the vale has T4 and disciplines its copy. -/
def execTimeDrsp (v : Fin 4) (s : State) : Host.Outcome State Fault Refusal := done (exchangeDone v s)

/-- TIME_DREQ_ABANDON: no TIME_DRSP came; the vale skips the measurement (R237). -/
def execTimeDreqAbandon (v : Fin 4) (s : State) : Host.Outcome State Fault Refusal :=
  done (if (s.pas v).t3.isSome then s.modPass v fun x => { x with t2 := none, t3 := none, t4 := none } else s)

/-! ## Resends (R236, R237) -/

/-- TALLY_RESEND: a request is sent again with its SEQ, at most three times. -/
def execTallyResend (v : Fin 4) (seq : BitVec 8) (s : State) : Host.Outcome State Fault Refusal :=
  done (match hostFind v seq.toNat s with
    | some r =>
      if r.sends < 4 then
        let s := s.modPass v fun x =>
          { x with out := x.out.map fun q => if q = r then { q with sends := q.sends + 1 } else q }
        hostSend v (bodyType r.body) r.seq (tallyCnt v 3 s)
      else s
    | none => s)

/-- VALE_TALLY_RESEND: the vale sends again what it still holds; nothing at the host die moves until it arrives. -/
def execValeTallyResend (v : Fin 4) (s : State) : Host.Outcome State Fault Refusal :=
  done (let x := s.pas v
    let l := (if x.dones.isEmpty then [] else [0x52]) ++ (if x.rungAns.isSome then [0x62] else []) ++
      (if x.wakes.isEmpty then [] else [0x70])
    l.foldl (fun a ty => a.send (.tally v ty 0)) s)

/-! ## Tally lanes (R239, R240) -/

/-- The field that shows a tally lane's lock. -/
def tallyLockFld (v : Nat) (down : Bool) : Fld := if down then R.PASS_STAT_TDN_LOCK v else R.PASS_STAT_TUP_LOCK v

/-- TALLY_LANE_LOCK: with both directions locked, tallies leave the data lanes. -/
def execTallyLaneLock (v : Fin 4) (down : Bool) (s : State) : Host.Outcome State Fault Refusal :=
  done (if !(s.pas v).powered then s
    else
      let s := s.wr (tallyLockFld v down) 1
      if s.bit (R.PASS_STAT_TDN_LOCK v) && s.bit (R.PASS_STAT_TUP_LOCK v) then s.wr (R.PASS_STAT_FALLBACK v) 0 else s)

/-- TALLY_LANE_UNLOCK: tallies move to the data lanes while FALLBACK_EN is 1. -/
def execTallyLaneUnlock (v : Fin 4) (down : Bool) (s : State) : Host.Outcome State Fault Refusal :=
  done (if s.bit (tallyLockFld v down) then
      let s := s.wr (tallyLockFld v down) 0
      if s.bit (R.PASS_CTL_FALLBACK_EN v) then (s.wr (R.PASS_STAT_FALLBACK v) 1).evt (R.PASS_EVT_FALLBACK v) else s
    else s)

/-- TALLY_LANE_LOST: a tally lane stays unlocked, or beacon mode falls silent: the vale is fenced whatever the warp sets
(R240, 18_watch R392). -/
def execTallyLaneLost (v : Fin 4) (s : State) : Host.Outcome State Fault Refusal :=
  done (if (s.pas v).powered && (s.bit (R.PASS_STAT_BEACON v) || !s.bit (R.PASS_STAT_TDN_LOCK v) ||
      !s.bit (R.PASS_STAT_TUP_LOCK v)) then
      s.recordFree (32 + v) 2 0x35 (some 3)
    else s)

/-! ## Power (R245) -/

/-- VALE_POWER_FAULT: the vale is fenced and its power removed, whatever the warp sets (R245, 18_watch R392). -/
def execValePowerFault (v : Fin 4) (s : State) : Host.Outcome State Fault Refusal :=
  done (if (s.pas v).powered then valePowerOff v (s.recordFree (32 + v) 2 0x36 (some 3)) else s)

end Sys2Proof.Machine
end

