-- ==== Sys2Proof/Machine/Surveyor.lean ====
section
/-! DEFINITION. The Surveyor: passes, loop measurements, contact care, shield current and sensors
(15_surveyor R325 to R342, 19_power R414). -/

namespace Sys2Proof.Machine

/-! ## Passes (R325 to R328, R340) -/

/-- The estimates of a trunk in DATA: insertion loss and worst return loss in units of 0.25 dB (R328). -/
def survEstimate (p : Nat) (est : Option (Nat × Nat)) (s : State) : State :=
  match est with
  | some (il, rl) =>
    if p < 8 ∧ trkState p s = 8 then (s.wr (R.SURV_TRK_STAT_IL_QDB p) il).wr (R.SURV_TRK_SHIELD_LIM_RL_QDB p) rl else s
  | none => s

/-- A pass of the port is pending or runs. -/
def survPending (p : Nat) (s : State) : Bool :=
  if p < 8 then let x := (s.trk p).surv; x.passDue || x.passRuns || x.loopWait else (tget ({} : DrpSurv) s.dsurv (p - 8)).due

/-- The port whose pass is next: a twin's members take turns. -/
def survTarget (p : Nat) (s : State) : Nat :=
  if p < 8 then
    match twinOf p s with
    | some (i, _) => memTrunk i (decide (tget 0 s.survTurn i = 1)) s
    | none => p
  else p

/-- A twin's next pass goes to the other member. -/
def survFlip (p : Nat) (s : State) : State :=
  if p < 8 then
    match twinOf p s with
    | some (i, _) => { s with survTurn := tset 0 s.survTurn i (1 - tget 0 s.survTurn i) }
    | none => s
  else s

/-- A pass falls due: the estimates are taken, and the pass is commanded where the line is in a state that gives it one;
else it waits, except on a standard link in DATA, which gets the estimates alone. -/
def effPassDue (p : Nat) (est : Option (Nat × Nat)) (s : State) : State :=
  let q := survTarget p s
  let s := survFlip p (survEstimate q est s)
  if survPending q s || s.isFenced (portBlock q) || !feServes (portVale q) s then s
  else if q < 8 then
    if trkState q s = 8 ∧ !trkCR q s then s
    else if inRun (q / 2) s && (decide (trkState q s = 8) || decide (trkState q s = 12)) then survCommand 0 q s
    else s.modSurv q fun x => { x with passDue := true }
  else if inRun ((q - 8) / 16) s then survCommand 0 q s
  else s.modDsurv (q - 8) fun x => { x with due := true, parts := 0 }

/-- An operand of estimates as numbers. -/
def estNat (e : Option (BitVec 16 × BitVec 16)) : Option (Nat × Nat) := e.map fun x => (x.1.toNat, x.2.toNat)

/-- SURVEY_PASS_DUE: R340, R328. -/
def execSurveyPassDue (p : Fin 72) (est : Option (BitVec 16 × BitVec 16)) (s : State) :
    Host.Outcome State Fault Refusal :=
  done (if p.val < 8 ∨ s.rd (R.SURV_DRP_CTL_PERIOD_S (p.val - 8)) ≠ 0 then effPassDue p (estNat est) s else s)

/-- A write of 1 to START makes a pass due at once, unless one is pending or runs (R337). -/
def effSurvStart (p : Nat) (est : Option (Nat × Nat)) (s : State) : State :=
  if survPending (survTarget p s) s then survEstimate p est s else effPassDue p est s

/-- Insert a peak by a measure. -/
def peakInsert (f : PsReflection → Nat) (x : PsReflection) : List PsReflection → List PsReflection
  | [] => [x]
  | y :: l => if f x ≤ f y then x :: y :: l else y :: peakInsert f x l

/-- Peaks in ascending order of a measure. -/
def peakSort (f : PsReflection → Nat) (l : List PsReflection) : List PsReflection := l.foldr (peakInsert f) []

/-- The peaks that a pass reports: at or above −50 dB, at most `n`, the strongest, in ascending order of delay (R327). -/
def passPeaks (n : Nat) (l : List PsReflection) : List PsReflection :=
  peakSort PsReflection.delayPs ((peakSort PsReflection.levelHdb (l.filter fun x => decide (x.levelHdb ≤ 100))).take n)

/-- Show a list of peaks in its registers; the rest read 0. -/
def showPeaks (n : Nat) (level delay : Nat → Fld) (l : List PsReflection) (s : State) : State :=
  (upto n).foldl (fun a i =>
    let x := l.getD i { delayPs := 0, levelHdb := 0 }
    (a.wr (level i) x.levelHdb).wr (delay i) x.delayPs) s

/-- A pass completes on a trunk, or is cut short and reports nothing. -/
def trkPassDone (t : Nat) (peaks : List PsReflection) (cutShort : Bool) (capture : List (BitVec 16)) (s : State) : State :=
  if !(s.trk t).surv.passRuns then s
  else if cutShort then survAbort t s
  else
    let l := passPeaks 16 peaks
    let s := showPeaks 16 (R.SURV_TRK_REFL_LEVEL_HDB t) (R.SURV_TRK_REFL_DELAY_PS t) l s
    let s := (s.wr (R.SURV_TRK_STAT_PEAKS t) l.length).sat (R.SURV_TRK_CNT_PASSES t) 1
    let s := if s.bit (R.SURV_TRK_CTL_CAPTURE t) || (s.trk t).surv.capArm then capStore (t / 2) capture s else s
    let s := survBusy t (s.modSurv t fun x => { x with passRuns := false, capArm := false })
    if (s.trk t).surv.loopWait then s
    else survDone t 0 0 (survLoop t s) (survContact t s) l.length (if qwOpen t s then 2 else 0) s

/-- The last part of a drop's pass is done. -/
def drpPassDone (d : Nat) (peaks : List PsReflection) (cutShort : Bool) (capture : List (BitVec 16)) (s : State) : State :=
  let x := tget ({} : DrpSurv) s.dsurv d
  let fin := fun s : State => s.modDsurv d fun x => { x with due := false, parts := 0, capArm := false }
  if !x.due then s
  else if cutShort then survDone (8 + d) 0 2 0 0 0 4 (fin s)
  else if x.parts < 16 then s
  else
    let l := passPeaks 8 peaks
    let s := showPeaks 8 (R.SURV_DRP_REFL_LEVEL_HDB d) (R.SURV_DRP_REFL_DELAY_PS d) l s
    let s := if s.bit (R.SURV_DRP_CTL_CAPTURE d) || x.capArm then capStore (d / 16) capture s else s
    survDone (8 + d) 0 0 0 0 l.length 0 (fin s)

/-- SURVEY_PASS_DONE: R327, R341. -/
def execSurveyPassDone (p : Fin 72) (peaks : List PsReflection) (cutShort : Bool) (capture : List (BitVec 16))
    (s : State) : Host.Outcome State Fault Refusal :=
  done (if p.val < 8 then trkPassDone p peaks cutShort capture s else drpPassDone (p.val - 8) peaks cutShort capture s)

/-- SURVEY_QUIET_PASS_START: the pass of full training starts in SURVEY_QUIET (R325, 05_trunk_signalling R113). -/
def execSurveyQuietPassStart (t : Fin 8) (s : State) : Host.Outcome State Fault Refusal :=
  done (if trkState t s = 2 ∧ survMay t s ∧ !(s.trk t).surv.passRuns then
      survBusy t (s.modSurv t fun x => { x with passRuns := true, passDue := false })
    else s)

/-! ## Loop messages (R330 to R332) -/

/-- The responder's own trunk for a SCOPE (07_twinning_quiet_windows R166). -/
def loopTarget (t scope : Nat) (s : State) : Nat :=
  match twinOf t s with
  | some (i, _) =>
    if scope = 0 then t
    else if s.rd (R.TWIN_STAT_PEER_ROLE_A i) = scope then memTrunk i false s
    else if s.rd (R.TWIN_STAT_PEER_ROLE_B i) = scope then memTrunk i true s else t
  | none => t

/-- Two intervals intervalsMeet. -/
def intervalsMeet (a b : Nat × Nat) : Bool := decide (a.1 < b.1 + b.2) && decide (b.1 < a.1 + a.2)

/-- The first reason of R331 that applies to LOOP_REQ, 0 for none. -/
def loopReason (u start off hold : Nat) (s : State) : Nat :=
  if !feServes (u / 2) s then 1
  else match (s.trk u).qw.grant with
    | none => 2
    | some g =>
      if g.start ≠ start then 2
      else if (match (s.trk u).surv.loopMine with | some m => intervalsMeet m (off, hold) | none => false) then 3
      else if g.durUs < off + hold then 4 else 0

/-- LOOP_REQ received: LOOP_ACK and a closure interval, or LOOP_NAK; a repeat is answered again (05_trunk_signalling
R103). -/
def effLoopReq (t seq payload : Nat) (s : State) : State :=
  if trkState t s ≠ 8 || !trkCR t s then s
  else
    let u := loopTarget t (tbits payload 47 46) s
    let off := tbits payload 31 17
    let hold := tbits payload 16 2
    let start := tbits payload 39 32
    let reply := fun (s : State) (r : Nat) =>
      lchSend u (if r = 0 then 0x21 else 0x22) seq (loopPayload (ownScope u s) (tbit payload 45) r start off hold) s
    match (s.trk u).lchDone with
    | some (0x20, q, r) =>
      if q = seq then reply s r
      else
        let r := loopReason u start off hold s
        let s := (reply s r).modTrk u fun x => { x with lchDone := some (0x20, seq, r) }
        if r = 0 then s.modSurv u fun x => { x with closure := some (off, hold) } else s
    | _ =>
      let r := loopReason u start off hold s
      let s := (reply s r).modTrk u fun x => { x with lchDone := some (0x20, seq, r) }
      if r = 0 then s.modSurv u fun x => { x with closure := some (off, hold) } else s

/-- LOOP_REQ: R332. -/
def execLoopReq (t : Fin 8) (seq : BitVec 8) (payload : BitVec 48) (s : State) : Host.Outcome State Fault Refusal :=
  done (effLoopReq t seq.toNat payload.toNat s)

/-- The trunk of a port that has LOOP_REQ open with a SEQ. -/
def loopOpenReq (t seq : Nat) (s : State) : Option Nat :=
  (portTrunks t s).find? fun u => match (s.trk u).lch with
    | some r => decide (r.type = 0x20) && decide (r.seq = seq)
    | none => false

/-- No closure is agreed: the window is counted in NO_LOOP. -/
def loopNone (u : Nat) (s : State) : State :=
  ((s.sat (R.SURV_TRK_CNT_NO_LOOP u) 1).modTrk u fun x => { x with lch := none }).modSurv u fun x =>
    { x with loopMine := none, loopOk := false }

/-- LOOP_ACK: the interval is agreed where at least 2 AMs remain before START. -/
def execLoopAck (t : Fin 8) (seq : BitVec 8) (_payload : BitVec 48) (s : State) : Host.Outcome State Fault Refusal :=
  done (match loopOpenReq t seq.toNat s with
    | none => s
    | some u =>
      match (s.trk u).qw.grant with
      | none => loopNone u s
      | some g =>
        let now := if g.isLocal then (s.trk u).amTx else (s.trk u).amRx.getD 0
        let d := (g.start + 256 - now) % 256
        if g.opened ∨ d < 2 ∨ 127 < d then loopNone u s
        else (s.modTrk u fun x => { x with lch := none }).modSurv u fun x => { x with loopOk := true })

/-- LOOP_NAK: the requester skips the loop measurement and the pulse. -/
def execLoopNak (t : Fin 8) (seq : BitVec 8) (_payload : BitVec 48) (s : State) : Host.Outcome State Fault Refusal :=
  done (match loopOpenReq t seq.toNat s with | none => s | some u => loopNone u s)

/-- LOOP_RESULT: the peer's LOOP is recorded. -/
def execLoopResult (t : Fin 8) (payload : BitVec 48) (s : State) : Host.Outcome State Fault Refusal :=
  done (if trkState t s = 8 then
      s.wr (R.SURV_TRK_LOOP_PEER_MOHM (loopTarget t (tbits payload.toNat 47 46) s)) (tbits payload.toNat 31 16)
    else s)

/-- LOOP_CLOSURE_START: the responder closes its loop switch. -/
def execLoopClosureStart (t : Fin 8) (s : State) : Host.Outcome State Fault Refusal :=
  done (let x := (s.trk t).surv
    if qwOpen t s && x.closure.isSome && !x.closed && feServes (t.val / 2) s then
      (s.modSurv t fun x => { x with closed := true }).send (.loopSwitch t true)
    else s)

/-- LOOP_CLOSURE_END: the responder opens its loop switch. -/
def execLoopClosureEnd (t : Fin 8) (s : State) : Host.Outcome State Fault Refusal :=
  done (if (s.trk t).surv.closed then
      (s.modSurv t fun x => { x with closed := false, closure := none }).send (.loopSwitch t false)
    else s)

/-! ## Loop measurements and contact care (R329, R334 to R336) -/

/-- A LOOP in mΩ is recorded with CONTACT, a baseline is learned, and LOOP_RESULT goes to the peer. -/
def loopTake (t loop : Nat) (pulse : Bool) (s : State) : State :=
  let loop := min 10000 loop
  let s := if s.rd (R.SURV_TRK_BASE_BASE_MOHM t) = 0 ∧ (s.trk t).surv.trained then
      (s.wr (R.SURV_TRK_BASE_BASE_MOHM t) loop).modSurv t fun x => { x with trained := false }
    else s
  let s := s.wr (R.SURV_TRK_LOOP_LOOP_MOHM t) loop
  let c := loop - s.rd (R.SURV_TRK_BASE_BASE_MOHM t)
  let s := s.wr (R.SURV_TRK_BASE_CONTACT_MOHM t) c
  let s := if (s.trk t).surv.ccMohm ≤ c then s.evt R.SURV_EVT_CONTACT else s
  let start := match (s.trk t).qw.grant with | some g => g.start | none => 0
  lchSend t 0x23 0 (ownScope t s * 2 ^ 46 + b2n pulse * 2 ^ 45 + start * 2 ^ 32 + loop * 65536) s

/-- A treatment starts where CONTACT has reached CC_MOHM (R334). -/
def treatStart (t : Nat) (s : State) : State :=
  let x := (s.trk t).surv
  if x.ccMohm ≤ survContact t s ∧ x.ccEn ∧ !s.bit (R.SURV_TRK_CC_STAT_ACTIVE t) ∧ !s.bit (R.SURV_TRK_CC_STAT_FAIL t) then
    pulseAsk t ((s.wr (R.SURV_TRK_CC_STAT_ACTIVE t) 1).wr (R.SURV_TRK_CC_STAT_PULSES t) 0)
  else s

/-- LOOP_MEASUREMENT_DONE: the loop measurement of a survey window ends. -/
def effLoopDone (t loop : Nat) (s : State) : State :=
  if !(s.trk t).surv.loopWait then s
  else
    let op := if (s.trk t).surv.loopOnly then 2 else 0
    let s := loopTake t loop false s
    let s := survBusy t (s.modSurv t fun x => { x with loopWait := false, loopOnly := false })
    let s := if survContact t s < (s.trk t).surv.ccMohm then s.wr (R.SURV_TRK_CC_STAT_FAIL t) 0 else s
    let s := survDone t op 0 (survLoop t s) (survContact t s) (s.rd (R.SURV_TRK_STAT_PEAKS t)) 0 s
    treatStart t s

/-- LOOP_MEASUREMENT_DONE: R329, R334. -/
def execLoopMeasurementDone (t : Fin 8) (loop : BitVec 16) (s : State) : Host.Outcome State Fault Refusal :=
  done (effLoopDone t loop.toNat s)

/-- CONTACT_CARE_PULSE_START: the wetting current ramps up in a contact-care window with an agreed closure. -/
def effPulseStart (t : Nat) (s : State) : State :=
  let s := dayPrune t s
  let x := (s.trk t).surv
  let mine := match (s.trk t).qw.grant with
    | some g => g.opened && g.isLocal && decide (g.purpose = 1)
    | none => false
  if mine && x.loopOk && x.pulsePend && !x.pulseRuns && survMay t s && dayFree t s then
    let ma : Int := if x.negative then -(x.ccMa : Int) else x.ccMa
    let s := (s.send (.pulse t ma)).modSurv t fun x =>
      { x with pulseRuns := true, pulsePend := false, negative := !x.negative, dayPulses := dayNow s :: x.dayPulses }
    survBusy t (dayPrune t s)
  else s

/-- CONTACT_CARE_PULSE_START: R335. -/
def execContactCarePulseStart (t : Fin 8) (s : State) : Host.Outcome State Fault Refusal := done (effPulseStart t s)

/-- CONTACT_CARE_PULSE_END: the pulse has run and its loop measurement decides the treatment. -/
def effPulseEnd (t loop : Nat) (s : State) : State :=
  if !(s.trk t).surv.pulseRuns then s
  else
    let s := survBusy t ((s.send (.pulse t 0)).modSurv t fun x => { x with pulseRuns := false })
    let s := loopTake t loop true ((s.sat (R.SURV_TRK_CNT_CC_PULSE_CNT t) 1).sat (R.SURV_TRK_CC_STAT_PULSES t) 1)
    let c := survContact t s
    let s := survDone t 1 0 (survLoop t s) c 0 0 s
    if !s.bit (R.SURV_TRK_CC_STAT_ACTIVE t) then s
    else if 4 * c < 3 * (s.trk t).surv.ccMohm then s.wr (R.SURV_TRK_CC_STAT_ACTIVE t) 0
    else if s.rd (R.SURV_TRK_CC_CTL_MAX_PULSES t) ≤ s.rd (R.SURV_TRK_CC_STAT_PULSES t) then
      (((s.wr (R.SURV_TRK_CC_STAT_ACTIVE t) 0).wr (R.SURV_TRK_CC_STAT_FAIL t) 1).evt R.SURV_EVT_CC_FAIL).recordFree
        (64 + t) 1 0x44 none
    else pulseAsk t s

/-- CONTACT_CARE_PULSE_END: R335, R336. -/
def execContactCarePulseEnd (t : Fin 8) (loop : BitVec 16) (s : State) : Host.Outcome State Fault Refusal :=
  done (effPulseEnd t loop.toNat s)

/-- LOOP_COMPLIANCE: the driver reaches 6 V for 20 µs: the current ramps down, LOOP reads 0xFFFF, and a treatment ends
without FAIL. -/
def effCompliance (t : Nat) (s : State) : State :=
  let x := (s.trk t).surv
  if !x.pulseRuns && !x.loopWait then s
  else
    let op := if x.pulseRuns then 1 else if x.loopOnly then 2 else 0
    let s := if x.pulseRuns then
        ((s.send (.pulse t 0)).wr (R.SURV_TRK_CC_STAT_ACTIVE t) 0).modSurv t fun x => { x with pulseRuns := false }
      else s.modSurv t fun x => { x with loopWait := false, loopOnly := false }
    let s := survBusy t ((s.wr (R.SURV_TRK_LOOP_LOOP_MOHM t) 0xFFFF).evt R.SURV_EVT_LOOP_OPEN)
    survDone t op 0 0xFFFF (survContact t s) (if op = 1 then 0 else s.rd (R.SURV_TRK_STAT_PEAKS t)) 3 s

/-- LOOP_COMPLIANCE: R329, R335. -/
def execLoopCompliance (t : Fin 8) (s : State) : Host.Outcome State Fault Refusal := done (effCompliance t s)

/-- A write of 1 to CC_CTL.CLEAR. -/
def effCcClear (t : Nat) (s : State) : State := s.wr (R.SURV_TRK_CC_STAT_FAIL t) 0

/-- CONTACT_CARE_DAY_HELD_END: pulses age out of the day and a waiting treatment asks for its window (R336). -/
def execContactCareDayHeldEnd (t : Fin 8) (s : State) : Host.Outcome State Fault Refusal :=
  done (let s := dayPrune t s
    if s.bit (R.SURV_TRK_CC_STAT_DAY_HELD t) && dayFree t s then s.wr (R.SURV_TRK_CC_STAT_DAY_HELD t) 0 else s)

/-! ## Shield current and sensors (R338, R339, 19_power R414) -/

/-- SHIELD_SAMPLE: one window of shield current; 100 above the limit in a run are an event. -/
def effShield (t : Nat) (dc : Int) (ac : Nat) (s : State) : State :=
  if !feServes (t / 2) s then s
  else
    let s := (s.wr (R.SURV_TRK_SHIELD_DC_MA t) (dc % 65536).toNat).wr (R.SURV_TRK_SHIELD_AC_MA t) (min 65535 ac)
    let lim := s.rd (R.SURV_TRK_SHIELD_LIM_LIM_MA t)
    let n := if lim < dc.natAbs ∨ lim < ac then (s.trk t).surv.shieldRun + 1 else 0
    let s := s.modSurv t fun x => { x with shieldRun := n }
    if n = 100 then (s.evt R.SURV_EVT_SHIELD).recordFree (64 + t) 1 0x42 none else s

/-- SHIELD_SAMPLE: R338. -/
def execShieldSample (t : Fin 8) (dc : Int) (ac : Nat) (s : State) : Host.Outcome State Fault Refusal :=
  done (effShield t dc ac s)

/-- A 16-bit two's complement figure. -/
def int16 (n : Nat) : Int := if n < 32768 then (n : Int) else (n : Int) - 65536

/-- One sensor's sample: number `k` of the list of all sensors, its fields, source and detail, whether it is a
temperature. The condition is an event when it begins; a temperature ends it 2 °C below LIMIT. -/
def sensorTake (k : Nat) (limit value : Fld) (src detail : Nat) (temp : Bool) (v : Nat) (s : State) : State :=
  let s := s.wr value v
  let was := tget false s.sensorHot k
  let lim := s.rd limit
  let high := if temp then decide (int16 lim < int16 v) else decide (lim < v)
  let low := if temp then decide (int16 v ≤ int16 lim - 16) else decide (v ≤ lim)
  let s := if temp && decide (8 * (s.rd R.PWR_THERM_WARN_C : Int) ≤ int16 v) then s.evt R.PWR_EVT_HOT else s
  let s := { s with sensorHot := tset false s.sensorHot k (high || (was && !low)) }
  if high && !was then (s.evt R.SURV_EVT_ENV).record src 2 0x43 detail else s

/-- SENSOR_SAMPLE: the eight host sensors, three of each vale, and the input power (log 1). -/
def effSensors (host : List (BitVec 16)) (vale : List (List (BitVec 16))) (power : Word) (s : State) : State :=
  let s := (host.take 8).zipIdx.foldl (fun a e =>
    sensorTake e.2 (R.SURV_ENV_LIMIT e.2) (R.SURV_ENV_VALUE e.2) 3 e.2 (decide (e.2 < 4)) e.1.toNat a) s
  let s := (vale.take 4).zipIdx.foldl (fun a r =>
    if (a.pas r.2).powered then
      (r.1.take 3).zipIdx.foldl (fun a e =>
        sensorTake (8 + 3 * r.2 + e.2) (R.SURV_VALE_ENV_LIMIT r.2 e.2) (R.SURV_VALE_ENV_VALUE r.2 e.2) (32 + r.2) e.2
          (decide (e.2 < 2)) e.1.toNat a) a
    else a) s
  (s.wr R.PWR_INPUT_P_MW (power.toNat / 65536)).wr R.PWR_INPUT_I_MA (power.toNat % 65536)

/-- SENSOR_SAMPLE: R339, 19_power R414. -/
def execSensorSample (host : List (BitVec 16)) (vale : List (List (BitVec 16))) (power : Word) (s : State) :
    Host.Outcome State Fault Refusal := done (effSensors host vale power s)

/-- VALE_OVERTEMP_CUT: a vale temperature of 130 °C or more: its power is removed under the over-temperature fence
(19_power R414, 01_architecture R30). -/
def execValeOvertempCut (v : Fin 4) (s : State) : Host.Outcome State Fault Refusal :=
  done (if (s.pas v).powered && ((upto 2).any fun k =>
      decide (8 * (s.rd R.PWR_THERM_CUT_C : Int) ≤ int16 (s.rd (R.SURV_VALE_ENV_VALUE v k)))) then
      valePowerOff v (s.owe (.fence (.vale v)))
    else s)

end Sys2Proof.Machine
end

