-- ==== Sys2Proof/Machine/Time.lean ====
section
/-! DEFINITION. The references, adjustments, PPS_IN and PPS_OUT of the time base (14_time R312 to R321). -/

namespace Sys2Proof.Machine

/-! ## The reference (R312) -/

/-- REFCLK_LOSS: the device moves to the resonator. -/
def effRefLoss (s : State) : State :=
  if s.bit R.TIME_STAT_REF_ACT then
    ((s.wr R.TIME_STAT_REF_ACT 0).evt R.TIME_EVT_REF_LOSS).recordFree 6 2 0x40 none
  else s

/-- REFCLK_LOSS: R312. -/
def execRefclkLoss (s : State) : Host.Outcome State Fault Refusal := done (effRefLoss s)

/-- A write of 1 to TIME_CTL.REF_RESTORE returns the time base to REFCLK while it is present and selected. -/
def effRefRestore (present : Bool) (s : State) : State :=
  if present && s.bit R.TIME_CFG_REFCLK_SEL then s.wr R.TIME_STAT_REF_ACT 1 else s

/-! ## Adjustments by the host (R313) -/

/-- The host's adjustments are refused while the time base is disciplined to PPS_IN. -/
def timeBarred (s : State) : Bool := decide (s.rd R.TIME_CTL_SRC = 1)

/-- An armed write of 1 to TIME_STEP.GO loads TIME_SET. -/
def effTimeStep (s : State) : State :=
  timeStep { sec := s.rd R.TIME_SET_SEC, ns := s.rd R.TIME_SET_NS, frac := s.rd R.TIME_SET_FRAC, sub := 0 } s

/-- A write of TIME_ADJ_PHASE starts a slew of so many nanoseconds. -/
def effAdjPhase (s : State) : State :=
  let n := s.rd R.TIME_ADJ_PHASE_PHASE_NS
  let ns : Int := if n < 2 ^ 31 then (n : Int) else (n : Int) - 2 ^ 32
  slewStart (ns * 65536 * subUnit) s

/-! ## PPS_IN (R319, R320) -/

/-- A stamp laid out as TIME_NOW. -/
def stampWords (x : Stamp) : Nat := x.sec % 2 ^ 48 * 2 ^ 64 + x.ns % 2 ^ 32 * 2 ^ 32 + x.frac % 65536

/-- The distance of a stamp from the nearest whole second, in units of 2^-16 ns, from −0.5 s on. -/
def ppsErr (x : Stamp) : Int :=
  let u : Int := ((x.ns * 65536 + x.frac : Nat) : Int)
  if x.ns < 500000000 then u else u - 1000000000 * 65536

/-- TIME_ADJ_FREQ after a change by so many units of 2^-40, kept within ±500 ppm. -/
def freqMove (d : Int) (s : State) : State :=
  let f := max (-549755813) (min 549755813 (freqAdj s + d))
  s.wrV R.TIME_ADJ_FREQ_FREQ (f % 2 ^ 32).toNat

/-- The discipline to an accepted edge: step or slew, frequency, PPS_LOCK (R320). -/
def ppsDiscipline (err : Int) (s : State) : State :=
  let ns := 65536
  let s := if !s.bit R.TIME_STAT_PPS_LOCK ∧ 1000000 * ns < err.natAbs then
      timeStep (timeOf ((s.time.total : Int) - err * subUnit).toNat) s
    else freqMove (-(err * 2 ^ 40) / (16 * 65536 * 1000000000)) (slewStart (-(err * subUnit) / 2) s)
  let run := if err.natAbs < 1000 * ns then s.clock.ppsRun + 1 else 0
  let s := { s with clock := { s.clock with ppsRun := run } }
  let s := if 4 ≤ run then s.wr R.TIME_STAT_PPS_LOCK 1 else s
  if 10000 * ns < err.natAbs ∨ s.bit R.TIME_EVT_PPS_LOST then s.wr R.TIME_STAT_PPS_LOCK 0 else s

/-- PPS_IN_EDGE: a rising edge, stamped with an error of at most 2 ns (its picoseconds are the operand, log 1). -/
def effPpsEdge (ps : Int) (s : State) : State :=
  if !s.bit R.TIME_CTL_PPS_IN_EN then s
  else if (match s.clock.ppsAt with | some a => decide (s.age < a + second / 2) | none => false) then
    s.sat R.TIME_PPS_CNT_IGNORED 1
  else
    let x : Stamp := ⟨s.time.sec, s.time.ns, s.time.frac⟩
    let x := if s.clock.coarse then x else stampShift x (max (-2000) (min 2000 ps))
    let s := (s.wr R.TIME_PPS_IN_STAMP (stampWords x)).sat R.TIME_PPS_CNT_ACCEPTED 1
    let s := { s with clock := { s.clock with ppsAt := some s.age } }
    let s := s.owe (.wake 5)
    if s.rd R.TIME_CTL_SRC = 1 then ppsDiscipline (ppsErr x) s else s

/-- PPS_IN_EDGE: R319, R320. -/
def execPpsInEdge (ps : Int) (s : State) : Host.Outcome State Fault Refusal := done (effPpsEdge ps s)

/-- PPS_LOST: no edge has been accepted for 1.5 s. -/
def execPpsLost (s : State) : Host.Outcome State Fault Refusal :=
  done (if s.bit R.TIME_CTL_PPS_IN_EN then (s.evt R.TIME_EVT_PPS_LOST).wr R.TIME_STAT_PPS_LOCK 0 else s)

/-! ## PPS_OUT (R321) -/

/-- PPS_OUT_RISE: the nanoseconds wrap; no rise comes within 0.5 s of the last. -/
def effPpsRise (s : State) : State :=
  if s.bit R.TIME_CTL_PPS_OUT_EN && !s.clock.out &&
      (match s.clock.outAt with | some a => decide (a + second / 2 ≤ s.age) | none => true) then
    { s with clock := { s.clock with out := true, outAt := some s.age } }.send (.ppsOut true)
  else s

/-- PPS_OUT_RISE: R321. -/
def execPpsOutRise (s : State) : Host.Outcome State Fault Refusal := done (effPpsRise s)

/-- PPS_OUT_FALL: PPS_OUT falls after WIDTH_NS. -/
def execPpsOutFall (s : State) : Host.Outcome State Fault Refusal :=
  done (if s.clock.out then { s with clock := { s.clock with out := false } }.send (.ppsOut false) else s)

end Sys2Proof.Machine
end

