-- ==== Sys2Proof/Machine/Trunk.lean ====
section
/-! DEFINITION. Trunk commands: auto-negotiation, training, coding, fast retrain, sleep and wake (05_trunk_signalling). -/

namespace Sys2Proof.Machine

/-! ## Register writes that act (R115, R116, R124) -/

/-- TRK[t].CTL.ENABLE was written (R113, R115). -/
def effTrkEnable (t : Nat) (v : Bool) (s : State) : State := if v then trkStart t s else trkQuiet t s

/-- A new MODE, or RESTART_AN, abandons the state and starts AN (R115); a trunk in TEST, or one that may not run,
stays. -/
def effTrkRestart (t : Nat) (s : State) : State :=
  if trkState t s ≠ 14 && trkMayRun t s then trkEnter t 1 (actAbort t s) else s

/-- RETRAIN written 1 in DATA (R116). -/
def effTrkRetrain (t : Nat) (s : State) : State := trkTrigger t 7 true true s

/-- TEST was written: in MAINTENANCE a non-zero value takes the trunk to TEST, zero takes it from TEST to DISABLED
(R113, R124). -/
def effTrkTest (t v : Nat) (s : State) : State :=
  if s.mode ≠ 4 then s
  else if v ≠ 0 then (if s.trkFenced t then s else (trkEnter t 14 s).send (.trkTest t v))
  else if trkState t s = 14 then trkEnter t 0 s else s

/-! ## Auto-negotiation (R95, R106 to R108) -/

/-- The modes advertised: those at or below CTL.MODE in priority whose ADV_MASK bit is set; a twin member advertises its
twin's mode alone. -/
def advertised (t : Nat) (s : State) : Nat :=
  let mode := s.rd (R.TRK_CTL_MODE t)
  let mask := s.rd (R.TRK_CTL_ADV_MASK t)
  match twinOf t s with
  | some _ => maskOf (fun m => m = mode && tbit mask m) 6
  | none => maskOf (fun m => decide (modeRank m ≤ modeRank mode) && tbit mask m) 6

/-- The CR ability word sent; 0 where no CR mode is advertised and no CR page is sent (R106). -/
def localCrWord (t : Nat) (s : State) : Nat :=
  let a := advertised t s
  if tbit a 4 || tbit a 5 then
    crAbility (tbit a 5) (tbit a 4) (twinOf t s).isSome (s.bit (R.TRK_QW_LIM_QW_EN t)) (s.bit (R.TRK_CTL_EEE_EN t))
  else 0

/-- The CR ability word received, where its VERSION is 0b0001. -/
def peerCrWord (r : AnResult) : Nat :=
  match r.crWord with | some w => if w.toNat / 2 ^ 28 = 1 then w.toNat else 0 | none => 0

/-- The highest-priority mode of a set, if any. -/
def bestMode (m : Nat) : Option Nat := [5, 3, 4, 2, 1, 0].find? fun i => tbit m i

/-- The master role: forced by MS_CFG, else as Clause 98 resolves it (R107). -/
def anMaster (t : Nat) (r : AnResult) (s : State) : Bool :=
  if s.rd (R.TRK_CTL_MS_CFG t) = 1 then true else if s.rd (R.TRK_CTL_MS_CFG t) = 2 then false else r.master

/-- A twin member's peer does not agree: its cause in JOIN_STAT reads 0b0001 (07_twinning R153). -/
def anTwinCause (t : Nat) (s : State) : State :=
  match twinOf t s with
  | some (i, b) => s.wr (if b then R.TWIN_JOIN_STAT_CAUSE_B i else R.TWIN_JOIN_STAT_CAUSE_A i) 1
  | none => s

/-- The modes that the peer advertised: its standard modes, and the CR modes of its ability word. -/
def peerModes (r : AnResult) : Nat :=
  r.lpModes % 16 + b2n (tbit (peerCrWord r) 26) * 16 + b2n (tbit (peerCrWord r) 27) * 32

/-- The modes that both ends advertised. -/
def bothModes (t : Nat) (r : AnResult) (s : State) : Nat :=
  maskOf (fun m => tbit (advertised t s) m && tbit (peerModes r) m) 6

/-- What AN exchanged is recorded. -/
def anRecord (t : Nat) (r : AnResult) (s : State) : State :=
  let loc := advertised t s
  let s := (s.wr (R.TRK_AN_CR_LOC_WORD t) (localCrWord t s)).wr (R.TRK_AN_CR_LP_WORD t) (peerCrWord r)
  let s := ((s.wr (R.TRK_AN_STAT_DONE t) 1).wr (R.TRK_AN_STAT_LOC_MODES t) loc).wr (R.TRK_AN_STAT_LP_MODES t) (peerModes r)
  (s.wrb (R.TRK_STAT_PEER_CR t) (peerCrWord r ≠ 0)).wrb (R.TRK_STAT_TWIN_PEER t) (tbit (peerCrWord r) 24)

/-- The mode and the master role are resolved. -/
def anResolve (t : Nat) (r : AnResult) (m : Nat) (s : State) : State :=
  let s := (s.wr (R.TRK_STAT_RESOLVED t) m).wr (R.TRK_STAT_VALID t) 1
  let s := s.wrb (R.TRK_STAT_MASTER t) (anMaster t r s)
  s.wr (R.TRK_SNR_REF_QDB t) (refQdb t s)

/-- AN_COMPLETE (R108): the abilities are recorded, and the trunk goes to SURVEY_QUIET, STD_TRAIN or FAIL_HOLD. -/
def effAnComplete (t : Nat) (r : AnResult) (s : State) : State :=
  if trkState t s ≠ 1 then s
  else
    let best := if r.msFault then none else bestMode (bothModes t r s)
    let s := anRecord t r s
    match best with
    | none => trkFail t 5 (if r.msFault then s else anTwinCause t s)
    | some m =>
      if (twinOf t s).isSome && !tbit (peerCrWord r) 24 then trkFail t 5 (anTwinCause t s)
      else trkEnter t (if 4 ≤ m then 2 else 13) (anResolve t r m s)

/-- AN_COMPLETE: R106 to R108. -/
def execAnComplete (t : Fin 8) (r : AnResult) (s : State) : Host.Outcome State Fault Refusal :=
  done (effAnComplete t r s)

/-- AN_PAGE_RECEIVE: the attempt has a peer (R113, R115). -/
def execAnPageReceive (t : Fin 8) (s : State) : Host.Outcome State Fault Refusal :=
  done (if trkState t s = 1 then s.modTrk t fun x => { x with anPeer := true } else s)

/-! ## Training (R109 to R114) -/

/-- TRAINING_STATE_TIMER: the fixed time of SURVEY_QUIET, ECHO_M or ECHO_S elapses (R113). -/
def execTrainingStateTimer (t : Fin 8) (s : State) : Host.Outcome State Fault Refusal :=
  let st := trkState t s
  done (if 2 ≤ st ∧ st ≤ 4 then trkEnter t (st + 1) s else s)

/-- One FIR step of a field kept as a two's complement octet: `c` is 1 increment, 2 decrement, 3 preset (R111). -/
def firStep (v c lo hi preset : Int) : Int :=
  if c = 3 then preset
  else if c = 1 ∧ v + 1 ≤ hi then v + 1
  else if c = 2 ∧ lo ≤ v - 1 then v - 1 else v

/-- An octet read as two's complement. -/
def octetInt (n : Nat) : Int := if 128 ≤ n then (n : Int) - 256 else n

/-- A two's complement octet. -/
def intOctet (i : Int) : Nat := (i % 256).toNat

/-- The FIR answers the requests of a valid InfoField, except in RETRAIN and RESUME (R111). An amplitude increment lowers
the attenuation by one step. -/
def firRequest (t : Nat) (f : Info) (s : State) : State :=
  if trkState t s = 9 ∨ trkState t s = 11 then s
  else
    let pre := firStep (octetInt (s.rd (R.TRK_TX_FIR_PRE t))) f.cPre (-8) 0 0
    let post := firStep (octetInt (s.rd (R.TRK_TX_FIR_POST t))) f.cPost (-12) 0 (-4)
    let amp := firStep (-(s.rd (R.TRK_TX_FIR_AMP_HDB t) : Int)) f.cAmp (-12) 0 0
    ((s.wr (R.TRK_TX_FIR_PRE t) (intOctet pre)).wr (R.TRK_TX_FIR_POST t) (intOctet post)).wr
      (R.TRK_TX_FIR_AMP_HDB t) (-amp).toNat

/-- The trunk transmits training frames in its state (R109, R113). -/
def sendsFrames (t : Nat) (s : State) : Bool :=
  let st := trkState t s
  let m := s.bit (R.TRK_STAT_MASTER t)
  (st = 3 && m) || (st = 4 && !m) || (5 ≤ st && st ≤ 7) || st = 9 || st = 11

/-- The trunk sends PAM-4 frames. -/
def inPam4 (t : Nat) (s : State) : Bool := trkState t s = 6 || trkState t s = 7 || decide (1 ≤ (s.trk t).phase)

/-- The trunk counts down: COUNTDOWN, or the last phase of a fast retrain (R113, R117). -/
def counting (t : Nat) (s : State) : Bool := trkState t s = 7 || (s.trk t).phase = 2

/-- The trunk's receiver is ready (R112). -/
def rxReady (t : Nat) (s : State) : Bool := decide (16 ≤ (s.trk t).selfRun)

/-- The trunk sends one training frame: its InfoField leaves, PRBS-15 runs on, and a countdown falls by one (R109,
R110). The equaliser's own FIR requests are free values, made only before COUNTDOWN. -/
def sendFrame (t : Nat) (s : State) : State :=
  if !sendsFrames t s then s
  else
    let x := s.trk t
    let ask := trkState t s = 5 || trkState t s = 6
    let f := s.free 6
    let c := if ask then f.1 else 0
    let s := if ask then f.2 else s
    let i : Info :=
      { state := trkState t s, countdown := if counting t s then x.cdTx else 0xFF, rxReady := rxReady t s,
        precodeRq := x.wantPrecode, cPre := c / 16, cAmp := c / 4 % 4, cPost := c % 4,
        snr := s.rd (R.TRK_SNR_SNR_QDB t) }
    let bits := if inPam4 t s then 8064 else 4032
    let n := counting t s
    (s.send (.trkFrame t (infoEncode i))).modTrk t fun x => { x with
      prbs := (x.prbs + bits) % 32767, shown := if 16 ≤ x.selfRun then x.shown + 1 else 0,
      cdSent := x.cdSent || (n && x.cdTx = 0), cdTx := if n then x.cdTx - 1 else x.cdTx }

/-- A receiver's measures over a frame: convergence flags, SNR, and the run of ready frames (R112, 06 R141, R147). -/
def frameMeasure (t : Nat) (m : FrameMeas) (s : State) : State :=
  let s := (((s.wrb (R.TRK_EQ_STAT_EC_CONV t) m.ecConv).wrb (R.TRK_EQ_STAT_FFE_CONV t) m.ffeConv).wrb
    (R.TRK_EQ_STAT_DFE_CONV t) m.dfeConv).wrb (R.TRK_EQ_STAT_TIMING_LOCK t) m.timing
  let s := s.wr (R.TRK_SNR_SNR_QDB t) (min 255 m.snr)
  let need : Int := (s.rd (R.TRK_RETRAIN_CTL_MARGIN_QDB t) : Int) + 4
  let ok := decide (need ≤ m.margin) && m.ecConv && m.ffeConv && m.dfeConv && m.timing && !m.gainStep
  s.modTrk t fun x => { x with selfRun := if ok then x.selfRun + 1 else 0 }

/-- Both ends have shown RX_READY for 16 frames. -/
def bothReady (t : Nat) (s : State) : Bool := decide (16 ≤ (s.trk t).shown) && decide (16 ≤ (s.trk t).peerRun)

/-- A twin member that is ready waits for the stream's grid before it counts down (07_twinning R155, R117 step 6). -/
def startCountdown (t : Nat) (s : State) : State :=
  if (twinOf t s).isSome then s.modTrk t fun x => { x with alignWait := true }
  else if trkState t s = 6 then trkEnter t 7 s
  else s.modTrk t fun x => { x with phase := 2, cdTx := 255, cdSent := false, cdGot := false }

/-- The moves that readiness and the countdown bring (R113, R117). -/
def trainAdvance (t : Nat) (s : State) : State :=
  let x := s.trk t
  let st := trkState t s
  if counting t s then (if x.cdSent && x.cdGot then trkEnter t 8 s else s)
  else if !bothReady t s then s
  else if st = 5 then trkEnter t 6 s
  else if st = 6 then startCountdown t s
  else if (st = 9 ∨ st = 11) ∧ 512 ≤ x.phaseFrames then
    if x.phase = 0 then s.modTrk t fun x => { x with phase := 1, phaseFrames := 0, selfRun := 0, shown := 0, peerRun := 0 }
    else startCountdown t s
  else s

/-- A valid InfoField in a training state, RETRAIN or RESUME. -/
def infoTraining (t : Nat) (f : Info) (s : State) : State :=
  if f.state = 1 ∨ f.state = 12 ∨ f.state = 0 then (if trkState t s = 11 then resumeFail t s else trkFail t 6 s)
  else
    let s := firRequest t f s
    let s := if trkState t s = 6 ∧ f.state = 6 ∧ (s.trk t).phaseFrames = 0 then
        s.wrb (R.TRK_STAT_PRECODE_TX t) f.precodeRq else s
    s.modTrk t fun x => { x with
      peerPrecode := f.precodeRq, peerRun := if f.rxReady then x.peerRun + 1 else 0,
      cdGot := x.cdGot || (f.countdown = 0 && counting t s), phaseFrames := x.phaseFrames + 1 }

/-- A valid InfoField in DATA: peer retrain, or the peer's notice of leaving (R116). -/
def infoData (t : Nat) (f : Info) (s : State) : State :=
  if f.state = 1 ∨ f.state = 12 ∨ f.state = 0 then trkFail t 6 s
  else if f.state = 9 then
    let n := (s.trk t).rtRun + 1
    let s := s.modTrk t fun x => { x with rtRun := n }
    if 2 ≤ n then trkTrigger t 6 false true s else s
  else s

/-- TRAINING_FRAME_RECEIVE (R110). -/
def effTrainingFrame (t : Nat) (info : BitVec 64) (m : FrameMeas) (s : State) : State :=
  let st := trkState t s
  let i := infoDecode info
  if st = 8 then
    if !trkCR t s then s else match i with | some f => infoData t f s | none => s
  else if st = 10 then (if (s.trk t).wake = 2 then trkResume t s else s)
  else if (3 ≤ st ∧ st ≤ 7) ∨ st = 9 ∨ st = 11 then
    let s := sendFrame t (adaptApply t m.adapt (frameMeasure t m s))
    let s := match i with | some f => infoTraining t f s | none => s.modTrk t fun x => { x with peerRun := 0 }
    if trkState t s = st ∧ 5 ≤ st then trainAdvance t s else s
  else s

/-- TRAINING_FRAME_RECEIVE: R109 to R117. -/
def execTrainingFrameReceive (t : Fin 8) (info : BitVec 64) (m : FrameMeas) (s : State) :
    Host.Outcome State Fault Refusal := done (effTrainingFrame t info m s)

/-- TWIN_COUNTDOWN_ALIGN: the stream reaches the point from which 256 frames end on a position of index 0 (07 R155). -/
def execTwinCountdownAlign (t : Fin 8) (s : State) : Host.Outcome State Fault Refusal :=
  done (if !(s.trk t).alignWait then s
    else if trkState t s = 6 then trkEnter t 7 s
    else s.modTrk t fun x => { x with alignWait := false, phase := 2, cdTx := 255, cdSent := false, cdGot := false })

/-- TRAINING_LIMIT_EXPIRY: the limit of a state of R113 expires (R114). RETRAIN and RESUME fail as R118 and R123 give;
AN has a limit only while it has a peer, and a ready twin member's wait does not count (R155). -/
def execTrainingLimitExpiry (t : Fin 8) (s : State) : Host.Outcome State Fault Refusal :=
  let st := trkState t s
  done (if st = 9 then trkFail t 7 (s.evt (R.TRK_LINK_EVT_RETRAIN_FAIL t))
    else if st = 11 then resumeFail t s
    else if (st = 1 ∧ (s.trk t).anPeer) ∨ (5 ≤ st ∧ st ≤ 7 ∧ !(s.trk t).alignWait) then trkFail t 1 s
    else s)

/-- INFOFIELD_LOSS: 64 consecutive expected frames without a valid InfoField (R114). -/
def execInfofieldLoss (t : Fin 8) (s : State) : Host.Outcome State Fault Refusal :=
  let st := trkState t s
  done (if st = 11 then resumeFail t s else if (3 ≤ st ∧ st ≤ 7) ∨ st = 9 then trkFail t 4 s else s)

/-- FAIL_HOLD_ELAPSED: the hold ends and AN starts again (R108, R113). -/
def execFailHoldElapsed (t : Fin 8) (s : State) : Host.Outcome State Fault Refusal :=
  done (if trkState t s = 12 then trkEnter t 1 s else s)

/-- STD_LINK_UP: the standard's training completes (R96, R113). -/
def execStdLinkUp (t : Fin 8) (s : State) : Host.Outcome State Fault Refusal :=
  done (if trkState t s = 13 then trkEnter t 8 s else s)

/-- STD_LINK_FAIL: a standard-mode link fails, in its training or in DATA (R96, R113, R116). -/
def execStdLinkFail (t : Fin 8) (los : Bool) (s : State) : Host.Outcome State Fault Refusal :=
  done (if (trkState t s = 8 ∧ !trkCR t s) ∨ trkState t s = 13 then trkFail t (if los then 2 else 9) s else s)

/-! ## Codewords (R99 to R103, 06 R147, R149) -/

/-- TYPE values of the link channel that are not reserved (R103, 07 R165, 15 R331). -/
def lchKnown (ty : Nat) : Bool :=
  ty = 0 || (2 ≤ ty && ty ≤ 4) || (0x10 ≤ ty && ty ≤ 0x14) || (0x20 ≤ ty && ty ≤ 0x23)

/-- An expected AM: matched or missed; its link-channel message is taken, or its CRC error or unknown TYPE counted. The
expected counter moves on with each period of the grid (log 40). -/
def amReceive (t : Nat) (blk : BitVec 257) (s : State) : State :=
  let x := s.trk t
  let got := tbits blk.toNat 140 133
  let last := x.amRx.getD ((got + 255) % 256)
  if amMatches blk last then
    let s := (s.wr (R.TRK_STAT_AM_LOCK t) 1).modTrk t fun x =>
      { x with amRx := some got, missRun := 0, qw := { x.qw with suspended := false } }
    let s := match soloMember t s with
      | some (i, b) => modMem i b (fun m =>
          { m with nonHelloRun := if tbits blk.toNat 204 197 = 0x14 then 0 else m.nonHelloRun + 1 }) s
      | none => s
    match amMessage blk with
    | none => s.sat (R.TRK_LCH_ERR_CRC_ERR t) 1
    | some m =>
      if lchKnown (m / 2 ^ 56) then s.modTrk t fun x => { x with lchIn := some m }
      else s.sat (R.TRK_LCH_ERR_UNKNOWN t) 1
  else
    (s.sat (R.TRK_AM_MISS_CNT_COUNT t) 1).modTrk t fun x =>
      { x with amRx := x.amRx.map fun a => (a + 1) % 256, missRun := x.missRun + 1 }

/-- The FEC counters take one codeword, unless a window suspends them (06 R149, R171). -/
def fecCount (t : Nat) (c : CwStatus) (s : State) : State :=
  if (s.trk t).qw.suspended then s
  else
    let s := s.add (R.TRK_FEC_CW_CNT_COUNT t) 1
    match c with
    | .corrected n =>
      let s := if n = 0 then s else
        ((s.add (R.TRK_FEC_CORR_CW_CNT_COUNT t) 1).add (R.TRK_FEC_CORR_SYM_CNT_COUNT t) n).sat
          (R.TRK_FEC_HIST_COUNT t n) 1
      s.modTrk t fun x => { x with secMax := max x.secMax n }
    | .uncorrectable =>
      (s.add (R.TRK_FEC_UNC_CNT_COUNT t) 1).modTrk t fun x =>
        { x with secUnc := x.secUnc + 1, secMax := 16, uncPeriod := x.uncPeriod + 1 }

/-- The margin of a codeword: MARGIN_QDB, MIN_MARGIN and the run below the threshold (06 R147, R116). -/
def marginTake (t : Nat) (margin : Int) (s : State) : State :=
  let m := max (-128) (min 127 margin)
  let low := decide (m < (s.rd (R.TRK_RETRAIN_CTL_MARGIN_QDB t) : Int))
  let s := s.wr (R.TRK_SNR_MARGIN_QDB t) (intOctet m)
  let s := s.wr (R.TRK_SNR_MIN_MARGIN t) (intOctet (min m (octetInt (s.rd (R.TRK_SNR_MIN_MARGIN t)))))
  s.modTrk t fun x => { x with lowRun := if low then x.lowRun + 1 else 0 }

/-- Frames that end in a codeword go to the slice's receive bank; a twin's frames are reassembled on the host die. -/
def framesIn (t : Nat) (frames : List LineFrame) (s : State) : State :=
  if (twinOf t s).isSome then s
  else frames.foldl (fun a f =>
    a.rxPush (t / 2) (t % 2) { port := t, cls := 0, octets := f.octets, stamp := f.stamp, slot := 0, bad := false }) s

/-- At the AM a trunk whose sleep exchange ended with SLEEP_ACK enters SLEEP (R122). -/
def sleepAtAm (t : Nat) (s : State) : State :=
  if (s.trk t).sleepNext then
    let ask := (s.trk t).rungAsk.isSome
    let s := (trkEnter t 10 s).modTrk t fun x => { x with sleepNext := false, rungAsk := none }
    if ask then clientAnswer (2 + t) true 0 s else s
  else s

/-- Counters, margin and the peer's LPI of a codeword. -/
def codewordCount (t : Nat) (c : CwStatus) (margin : Int) (lpi : Bool) (s : State) : State :=
  ((marginTake t margin (fecCount t c s)).wrb (R.TRK_STAT_LPI_RX t) lpi).modTrk t fun x =>
    { x with refreshLeft := x.refreshLeft - 1 }

/-- The frames of a codeword; an uncorrectable one delivers none. -/
def codewordFrames (t : Nat) (c : CwStatus) (frames : List LineFrame) (s : State) : State :=
  match c with | .corrected _ => framesIn t frames s | .uncorrectable => s

/-- Adaptation, and the next place in the period. -/
def codewordNext (t pos : Nat) (part : Bool) (adapt : List CoefUpd) (s : State) : State :=
  (adaptApply t adapt s).modTrk t fun x => { x with cwPos := (pos + 1) % 4096, rxPart := part }

/-- What a codeword brings beside an AM. -/
def codewordTake (t : Nat) (c : CwStatus) (margin : Int) (lpi part : Bool) (frames : List LineFrame)
    (adapt : List CoefUpd) (s : State) : State :=
  codewordNext t (s.trk t).cwPos part adapt (codewordFrames t c frames (codewordCount t c margin lpi s))

/-- CR_CODEWORD_RECEIVE: one codeword in each direction (R99 to R103). While a window is in force the positions keep
counting and nothing else happens (07 R170). -/
def effCodeword (t : Nat) (c : CwStatus) (blk : BitVec 257) (margin : Int) (lpi part : Bool) (frames : List LineFrame)
    (adapt : List CoefUpd) (s : State) : State :=
  let pos := (s.trk t).cwPos
  if trkState t s ≠ 8 ∨ !trkCR t s then s
  else if qwOpen t s then
    let s := if pos = 0 then s.modTrk t fun x =>
      { x with amTx := (x.amTx + 1) % 256, amRx := x.amRx.map fun a => (a + 1) % 256 } else s
    s.modTrk t fun x => { x with cwPos := (pos + 1) % 4096 }
  else if pos = 0 then
    let s := amReceive t blk (s.modTrk t fun x => { x with uncPeriod := 0 })
    sleepAtAm t (amSend t (codewordTake t c margin lpi part frames adapt s))
  else codewordTake t c margin lpi part frames adapt s

/-- CR_CODEWORD_RECEIVE: R99 to R103. -/
def execCrCodewordReceive (t : Fin 8) (st : CwStatus) (blk : BitVec 257) (margin : Int) (lpi part : Bool)
    (frames : List LineFrame) (adapt : List CoefUpd) (s : State) : Host.Outcome State Fault Refusal :=
  done (effCodeword t st blk margin lpi part frames adapt s)

/-- STD_FRAME_RECEIVE: a frame of a standard mode is stamped at the wire and written to its receive bank (R96). -/
def execStdFrameReceive (t : Fin 8) (f : LineFrame) (s : State) : Host.Outcome State Fault Refusal :=
  done (if trkState t s = 8 ∧ !trkCR t s then framesIn t [f] s else s)

/-! ## Triggers (R116 to R118) -/

/-- AM_LOSS: four consecutive expected AMs failed to match. -/
def execAmLoss (t : Fin 8) (s : State) : Host.Outcome State Fault Refusal :=
  done (if 4 ≤ (s.trk t).missRun then trkTrigger t 9 false false s else s)

/-- UNCORRECTABLE_BURST: UNC_LIM uncorrectable codewords within one AM period. -/
def execUncorrectableBurst (t : Fin 8) (s : State) : Host.Outcome State Fault Refusal :=
  done (if s.rd (R.TRK_RETRAIN_CTL_UNC_LIM t) ≤ (s.trk t).uncPeriod then trkTrigger t 9 false false s else s)

/-- LOW_MARGIN: the margin stayed below MARGIN_QDB for 1,024 consecutive codewords. -/
def execLowMargin (t : Fin 8) (s : State) : Host.Outcome State Fault Refusal :=
  done (if 1024 ≤ (s.trk t).lowRun then trkTrigger t 3 false false s else s)

/-- LOSS_OF_SIGNAL: the level stayed below the threshold for 1 µs. -/
def execLossOfSignal (t : Fin 8) (s : State) : Host.Outcome State Fault Refusal :=
  done (trkTrigger t 2 false false s)

/-- FAST_RETRAIN_TIMEOUT: DATA is not regained 2 ms after the trigger (R118); a resume goes to AN (R123). A member that
waits for its twin's grid is not late. -/
def execFastRetrainTimeout (t : Fin 8) (s : State) : Host.Outcome State Fault Refusal :=
  let st := trkState t s
  done (if (s.trk t).alignWait then s
    else if st = 9 then trkFail t 7 (s.evt (R.TRK_LINK_EVT_RETRAIN_FAIL t))
    else if st = 11 then resumeFail t s else s)

/-! ## Sleep and wake (R120 to R123, 07 R164) -/

/-- The trunks that enter SLEEP together: the trunk, or every JOINED member of its twin. -/
def sleepers (t : Nat) (s : State) : List Nat :=
  match twinOf t s with
  | none => [t]
  | some (i, _) => ([false, true].filter fun b => joined i b s).map fun b => memTrunk i b s

/-- Every trunk of the port enters SLEEP at the next AM. -/
def sleepArm (t : Nat) (s : State) : State :=
  (sleepers t s).foldl (fun a u => a.modTrk u fun x => { x with sleepNext := true }) s

/-- SLEEP_REQ received (R122): SLEEP_ACK where the power client may go to Still or lower, the Miller holds no frame and
no window is granted (07 R174); SLEEP_NAK otherwise. A repeat is answered again and acted on once (R103). -/
def effSleepReq (t seq : Nat) (s : State) : State :=
  if trkState t s ≠ 8 ∨ !trkCR t s then s
  else
    let answer := fun (s : State) (ok : Bool) =>
      (lchSend t (if ok then 3 else 4) seq 0 s).modTrk t fun x => { x with lchDone := some (2, seq, b2n ok) }
    match (s.trk t).lchDone with
    | some (2, q, r) => if q = seq then lchSend t (if r = 1 then 3 else 4) seq 0 s else
        let ok := decide (2 ≤ s.rd (R.PWR_LOWEST_LOWEST (2 + t))) && !millHolds t s && (s.trk t).qw.grant.isNone && twinRested t s
        answer (if ok then sleepArm t s else s) ok
    | _ =>
        let ok := decide (2 ≤ s.rd (R.PWR_LOWEST_LOWEST (2 + t))) && !millHolds t s && (s.trk t).qw.grant.isNone && twinRested t s
        answer (if ok then sleepArm t s else s) ok

/-- SLEEP_REQ: R122. -/
def execSleepReq (t : Fin 8) (seq : BitVec 8) (s : State) : Host.Outcome State Fault Refusal :=
  done (effSleepReq t seq.toNat s)

/-- SLEEP_ACK: the exchange of this SEQ ends and the port enters SLEEP at the next AM (R122, R164). -/
def execSleepAck (t : Fin 8) (seq : BitVec 8) (s : State) : Host.Outcome State Fault Refusal :=
  done (if (s.trk t).sleepSeq = some seq.toNat then
      sleepArm t (s.modTrk t fun x => { x with sleepSeq := none, lch := none }) else s)

/-- The exchange ends without sleep: SLEEP_NAK is set and the rung is refused, "peer awake" (reason 3; 19_power R408). -/
def sleepRefused (t : Nat) (s : State) : State :=
  let ask := (s.trk t).rungAsk.isSome
  let s := (s.modTrk t fun x => { x with sleepSeq := none, lch := none, rungAsk := none }).evt
    (R.TRK_LINK_EVT_SLEEP_NAK t)
  if ask then clientAnswer (2 + t) false 3 s else s

/-- SLEEP_NAK: R122. -/
def execSleepNak (t : Fin 8) (seq : BitVec 8) (s : State) : Host.Outcome State Fault Refusal :=
  done (if (s.trk t).sleepSeq = some seq.toNat then sleepRefused t s else s)

/-- LINK_CHANNEL_TIMEOUT: no reply after 8 AMs (R103); a sleep request is refused, a window request is dropped and, by
QW_CANCEL until its START, not taken (07 R169); a loop request is given up (15_surveyor R332). -/
def execLinkChannelTimeout (t : Fin 8) (s : State) : Host.Outcome State Fault Refusal :=
  done (match (s.trk t).lch with
    | some r =>
      if r.left = 0 then
        let s := s.evt (R.TRK_LINK_EVT_LCH_TIMEOUT t)
        if r.type = 2 then sleepRefused t s
        else if r.type = 0x10 then
          (qwDropRequest t false s).modQw t fun q => { q with cancelling := some (r.seq, r.payload / 2 ^ 32 % 256) }
        else (s.sat (R.SURV_TRK_CNT_NO_LOOP t) 1).modTrk t fun x =>
          { x with lch := none, surv := { x.surv with loopMine := none } }
      else s
    | none => s)

/-- LPI_IDLE_EXPIRY: nothing to send for IDLE_US, and the LPI client asserts low-power idle (R120). -/
def execLpiIdleExpiry (t : Fin 8) (s : State) : Host.Outcome State Fault Refusal :=
  done (if trkState t s = 8 && eeeInUse t s && (s.trk t).bank4.isEmpty then s.wr (R.TRK_STAT_LPI_TX t) 1 else s)

/-- LPI_QUIET_EXPIRY: a quiet interval ends; 16 refresh codewords follow, in which the loops adapt (R120). -/
def execLpiQuietExpiry (t : Fin 8) (s : State) : Host.Outcome State Fault Refusal :=
  done (if trkState t s = 8 && trkCR t s && (s.bit (R.TRK_STAT_LPI_TX t) || s.bit (R.TRK_STAT_LPI_RX t)) then
      let s := if s.bit (R.TRK_STAT_LPI_TX t) then s.send (.trkRefresh t) else s
      s.modTrk t fun x => { x with refreshLeft := 16 }
    else s)

/-- The detector of a trunk that does not sleep stays armed in Still and below: DISABLED, FAIL_HOLD, or AN with no peer
(R121). -/
def toneArmed (t : Nat) (s : State) : Bool :=
  decide (2 ≤ s.valeRung (t / 2)) &&
    (trkState t s = 0 || trkState t s = 12 || (trkState t s = 1 && !(s.trk t).anPeer))

/-- WAKE_TONE_DETECT: an initiator stops its bursts; any other trunk in SLEEP answers as responder, sets TONE_SEEN and
wakes its node (R123); the other member of a twin starts the exchange too (07 R164). A masked detector detects nothing
(19_power R410). -/
def execWakeToneDetect (t : Fin 8) (s : State) : Host.Outcome State Fault Refusal :=
  done (if trkState t s = 10 ∧ (s.trk t).wake = 1 then s.modTrk t fun x => { x with wake := 2 }
    else if !tbit (s.rd R.PWR_WAKE_MASK) 2 then s
    else if trkState t s = 10 ∧ (s.trk t).wake = 0 then
      let s := (s.evt (R.TRK_LINK_EVT_TONE_SEEN t)).send (.trkTone t)
      valeWake (t / 2) 2 (trkWake t (s.modTrk t fun x => { x with wake := 3 }))
    else if toneArmed t s then valeWake (t / 2) 2 (s.evt (R.TRK_LINK_EVT_TONE_SEEN t))
    else s)

/-- WAKE_TONE_BURST: an initiator sends its 1 ms burst (R123). -/
def execWakeToneBurst (t : Fin 8) (s : State) : Host.Outcome State Fault Refusal :=
  done (if trkState t s = 10 ∧ (s.trk t).wake = 1 then s.send (.trkTone t) else s)

/-- WAKE_JOIN_TIMEOUT: 2 ms after the detection without training frames (R123). -/
def execWakeJoinTimeout (t : Fin 8) (s : State) : Host.Outcome State Fault Refusal :=
  done (if trkState t s = 10 ∧ (s.trk t).wake = 2 then trkResume t s else s)

/-- WAKE_TONE_ANSWER_END: the responder's single answering tone ends (R123). -/
def execWakeToneAnswerEnd (t : Fin 8) (s : State) : Host.Outcome State Fault Refusal :=
  done (if trkState t s = 10 ∧ (s.trk t).wake = 3 then trkResume t s else s)

/-- WAKE_NO_ANSWER: no tone within 1 s; the initiator goes to AN (R123). -/
def execWakeNoAnswer (t : Fin 8) (s : State) : Host.Outcome State Fault Refusal :=
  done (if trkState t s = 10 ∧ (s.trk t).wake = 1 then trkEnter t 1 s else s)

end Sys2Proof.Machine
end

