-- ==== Sys2Proof/Machine/Fabric.lean ====
section
/-! DEFINITION. Writes of the register fabric: what a word stores, what each field's write does, and how the fabric issues
an access (04_register_interface R77 to R88, R435). -/

namespace Sys2Proof.Machine

/-! ## What comes with an access -/

/-- What a command supplies for the effects of an access beside its word, where it does: the line estimates of a survey,
the presence of REFCLK, the code's finding in a granary burst; and what the keys decide about an image. What a command
does not supply is a free value (log 1). -/
structure Ext where
  est : Option (Option (Nat × Nat))
  refclk : Option Bool
  find : Option BurstFind
  verdict : List Word → Verdict

/-- An access that supplies nothing but its word. -/
def Ext.plain : Ext := { est := none, refclk := none, find := none, verdict := Config.imageVerdict }

/-- The line estimates of a survey. -/
def Ext.estOf (e : Ext) (s : State) : Option (Nat × Nat) × State :=
  match e.est with
  | some x => (x, s)
  | none =>
    let a := s.free 1
    let b := a.2.free 16
    let c := b.2.free 16
    (if a.1 = 1 then some (b.1, c.1) else none, c.2)

/-- The presence of REFCLK. -/
def Ext.refOf (e : Ext) (s : State) : Bool × State :=
  match e.refclk with
  | some b => (b, s)
  | none => let a := s.free 1; (a.1 = 1, a.2)

/-- What the code finds in a granary burst. -/
def Ext.findOf (e : Ext) (s : State) : BurstFind × State :=
  match e.find with
  | some f => (f, s)
  | none =>
    let a := s.free 2
    (if a.1 = 0 then .clean else if a.1 = 1 then .corrected false else if a.1 = 2 then .corrected true else .lost, a.2)

/-! ## What the write of a field does (R82) -/

/-- The Steward's registers. -/
def hookStw (p : Port) (f : Fld) (s : State) : State :=
  let is := isFld f
  if is R.STW_RESET_CTL_WARM then warmReset (warmCause s) s
  else if is R.STW_MODE_REQ_EXIT_MAINT then effExitMaint s
  else if is R.STW_MODE_REQ_MAINT then effMaint s
  else if is R.STW_SCAN_CTL_REQ then effScanReq (s.wr R.STW_SCAN_CTL_REQ 1)
  else if is R.STW_SELFTEST_CTL_START then effSelftestStart p s
  else if is R.STW_RELEASE_GO then effRelease s else s

/-- The warp's registers. -/
def hookWarp (e : Ext) (f : Fld) (new : Nat) (s : State) : State :=
  let is := isFld f
  if is R.WARP_LOAD_CTL_COMMIT then effLoadCommit e.verdict s
  else if is R.WARP_LOAD_CTL_ABORT then effLoadAbort s
  else if is R.WARP_LOAD_CTL_BEGIN then effLoadBegin s
  else if is R.WARP_LOAD_DATA_DATA then effLoadData (BitVec.ofNat 32 new) s else s

/-- The security registers, and the MSEC window. -/
def hookSec (f : Fld) (new : Nat) (s : State) : State :=
  let is := isFld f
  if is R.SEC_LC_REQ_GO then effLcReq s
  else if is R.SEC_PROV_CTL_GENKEY then effGenkey s
  else if is R.SEC_LOAD_CTL_COMMIT then effSecCommit s
  else if is R.SEC_LOAD_CTL_ABORT then effSecAbort s
  else if is R.SEC_LOAD_CTL_BEGIN then effSecBegin s
  else if is R.SEC_LOAD_DATA_DATA then effSecData (BitVec.ofNat 32 new) s
  else if is R.SEC_FW_CTL_ROLL_FWD then effRollFwd s
  else if is R.SEC_ATT_CTL_GO then effAttGo s
  else if is (R.MSEC_CTL_ROTATE 0) then effRotate f.ix s else s

/-- A trunk's registers; `t` is the trunk. -/
def hookTrk (t : Nat) (f : Fld) (old new : Nat) (s : State) : State :=
  let is := isFld f
  if is (R.TRK_CTL_RESTART_AN 0) then effTrkRestart t s
  else if is (R.TRK_CTL_RETRAIN 0) then effTrkRetrain t s
  else if is (R.TRK_CTL_TEST 0) then effTrkTest t new s
  else if is (R.TRK_CTL_MODE 0) then (if old = new then s else effTrkRestart t s)
  else if is (R.TRK_CTL_ENABLE 0) then effTrkEnable t (new = 1) s
  else if is (R.TRK_EC_CTL_SPARSE_EN 0) then (if new = 0 then effSparseOff t s else s)
  else if is (R.TRK_EC_CTL_AUTO_PLACE 0) then (if new = 0 then effAutoPlaceOff t s else s)
  else if is (R.TRK_EC_WIN_START 0 0) then effWinStart t (f.ix % 64) new s
  else if is (R.TRK_EQ_CTL_CURSOR 0) then (if old = new then s else effCursor t old new s)
  else if is (R.TRK_EQ_CTL_FFE_EN 0) then effFfeEn t (new = 1) s
  else if is (R.TRK_EQ_CTL_DFE_EN 0) then effDfeEn t (new = 1) s
  else if is (R.TRK_COEF_SEL_SNAP 0) then effCoefSnap t s
  else if is (R.TRK_QW_CTL_REQ 0) then effQwRequest t .host (s.wr (R.TRK_QW_CTL_REQ t) 1) else s

/-- A drop's registers; `d` is the drop. -/
def hookDrp (d : Nat) (f : Fld) (old new : Nat) (s : State) : State :=
  let is := isFld f
  if is (R.DRP_CTL_RESTART 0) then drpRestart d s
  else if is (R.DRP_CTL_TEST 0) then effDrpTest d new s
  else if is (R.DRP_CTL_MODE 0) then (if old = new then s else effDrpMode d s)
  else if is (R.DRP_CTL_ENABLE 0) then effDrpEnable d (new = 1) s
  else if is (R.DRP_CYC_CTL_MIN_CYCLE_US 0) then effCycCtl d s
  else if is (R.DRP_LD_CTL_TO_SYM 0) then drpShow d s
  else if is (R.DRP_LD_COEF_SEL_SNAP 0) then effLdSnap d s
  else if is (R.DRP_STN_HI_VALID 0 0) then caSync (8 + 32 * d + f.ix % 64) s
  else if is (R.DRP_STN_HI_MAC_HI 0 0) || is (R.DRP_STN_LO_MAC_LO 0 0) then
    (if old = new then s else mkaRestart (8 + 32 * d + f.ix % 64) s)
  else s

/-- The registers of the pass and of the host lanes. -/
def hookLanes (f : Fld) (new : Nat) (s : State) : State :=
  let is := isFld f
  if is (R.PASS_CTL_RETRAIN 0) then effPassRetrain f.ix s
  else if is (R.HLN_CTL_RELOCK 0) || is (R.HLN_CTL_RATE 0) || is (R.HLN_CTL_PRECODE 0) then effHlnRelock f.ix s
  else if is (R.HLN_CTL_ENABLE 0) then effHlnEnable f.ix (new = 1) s else s

/-- The registers of the Miller and of the granary. -/
def hookMill (p : Port) (f : Fld) (old new : Nat) (s : State) : State :=
  let is := isFld f
  if is R.MILL_FLUSH_GO then
    (if s.rd R.MILL_FLUSH_Q < 4480 then effMillFlush (s.rd R.MILL_FLUSH_Q) s else accNote 4 p true 0x90070 s)
  else if is R.GRAN_CTL_ORDER then (if old = new then s else effOrder new s)
  else if is R.GRAN_FREQ_REQ then effFreqReq s
  else if is R.GRAN_TRN_CTL_GO then effTrnGo s else s

/-- The registers of the time base. -/
def hookTime (e : Ext) (f : Fld) (s : State) : State :=
  let is := isFld f
  if is R.TIME_CTL_REF_RESTORE then effRefRestore (e.refOf s).1 (e.refOf s).2
  else if is R.TIME_STEP_GO then effTimeStep s
  else if is R.TIME_ADJ_PHASE_PHASE_NS then effAdjPhase s else s

/-- The registers of the Surveyor and of the Assayer. -/
def hookSurv (e : Ext) (f : Fld) (s : State) : State :=
  let is := isFld f
  if is (R.SURV_TRK_CTL_START 0) then effSurvStart f.ix (e.estOf s).1 (e.estOf s).2
  else if is (R.SURV_DRP_CTL_START 0) then effSurvStart (8 + f.ix) (e.estOf s).1 (e.estOf s).2
  else if is (R.SURV_TRK_CC_CTL_CLEAR 0) then effCcClear f.ix s
  else if is R.SURV_CAP_CTL_FREE then effCapFree s
  else if is R.ASSAY_RUN_GO then effAssayRun s
  else if is R.ASSAY_ACCEPT_GO then effAssayAccept s else s

/-- A vote has changed: attempts may be made again (19_power R407). -/
def voteMoved (s : State) : State := { s with power := { s.power with barred := [] } }

/-- The registers of the Watch, of the power manager and of the management ports. -/
def hookWatch (e : Ext) (f : Fld) (old new : Nat) (s : State) : State :=
  let is := isFld f
  if is R.WATCH_PIN_HOST_CLR then hostClr s
  else if is R.WATCH_IRQ_REARM then irqRearm new s
  else if is R.WATCH_LOG_CTL_INDEX then archSelect s
  else if is R.WATCH_LOG_SEL_SEQ then logSelect s
  else if is (R.WATCH_SLOT_HDR_VALID 0) then s.releaseSlot f.ix
  else if is R.PWR_CTL_NIGHT_EN || is (R.PWR_LOWEST_LOWEST 0) then (if old = new then s else voteMoved s)
  else if is R.PWR_TIMER_CTL_EN then (if new = 1 then timerLoad s else timerStop s)
  else if is R.MGMT_RECOV_CTL_COMMIT then effRecovCommit (fun l => (e.verdict l).sigOk) s
  else if is R.MGMT_RECOV_CTL_BEGIN then effRecovBegin s
  else if is R.MGMT_RECOV_DATA_DATA then effRecovData (BitVec.ofNat 32 new) s else s

/-- What the write of a field does beside storing it: `old` and `new` are its values, for a W1S field the bits written. -/
def hook (e : Ext) (p : Port) (r : RegAt) (f : Fld) (old new : Nat) (s : State) : State :=
  match winOf r.addr with
  | some .stw => hookStw p f s
  | some .warp => hookWarp e f new s
  | some .sec | some .msec => hookSec f new s
  | some (.trk t) => hookTrk t f old new s
  | some (.drp d) => hookDrp d f old new s
  | some .pass | some .hln => hookLanes f new s
  | some .mill | some .gran => hookMill p f old new s
  | some .time => hookTime e f s
  | some .surv | some .assay => hookSurv e f s
  | some .watch | some .pwr | some .mgmt => hookWatch e f old new s
  | _ => s

/-! ## Writing a word (R78, R82 to R85, R435; 00_scope R10, R11) -/

/-- What a write has met: a keyed field that it would have changed unarmed, a value that is reserved, a field that is not
wake-safe in Keep or Night, a field that the mode bars; and the fields written, with their values before and after. -/
structure WHit where
  key : Bool := false
  res : Bool := false
  sleep : Bool := false
  mode : Bool := false
  hooks : List (Fld × Nat × Nat) := []
  deriving DecidableEq, Repr

/-- The part of a field that word `k` holds: its place in the field, its place in the word, its width. -/
def fldPart (x : FldDesc) (k : Nat) : Option (Nat × Nat × Nat) :=
  let lo := max x.lo (32 * k)
  let hi := min (x.lo + x.width) (32 * k + 32)
  if lo < hi then some (lo - x.lo, lo - 32 * k, hi - lo) else none

/-- A value with the bits that a field's description reserves cut off (GRAN_TRN_ADDR; SEC_SCI[1]). -/
def fldMask (f : Fld) (v : Nat) : Nat :=
  if isFld f R.GRAN_TRN_ADDR_ADDR then v / 256 * 256
  else if isFld f (R.SEC_SCI_MAC 0) ∧ f.ix = 1 then v / 65536 * 65536 else v

/-- A value that the mode or the time base's discipline bars: a test outside MAINTENANCE (05 R124, 08 R177), a step or an
adjustment while PPS_IN disciplines the time base (14 R313). -/
def modeBar (f : Fld) (new : Nat) (s : State) : Bool :=
  let is := isFld f
  if is (R.TRK_CTL_TEST 0) || is (R.DRP_CTL_TEST 0) then decide (new ≠ 0) && decide (s.mode ≠ 4)
  else if is R.TIME_STEP_GO || is R.TIME_ADJ_FREQ_FREQ || is R.TIME_ADJ_PHASE_PHASE_NS then timeBarred s
  else false

/-- A value that a field may take (R11, R83); `v` is the whole word written. -/
def encOk (x : FldDesc) (f : Fld) (old new v : Nat) (s : State) : Bool :=
  let is := isFld f
  (x.ranges.isEmpty || x.ranges.any fun g => decide (g.1 ≤ new) && decide (new ≤ g.2)) &&
  (if is (R.TRK_EC_WIN_START 0 0) then winStartOk (f.ix / 64) (f.ix % 64) new s
   else if is (R.WATCH_REACT_U_ACTION 0) then !reactBad 2 new
   else if is (R.WATCH_REACT_F_ACTION 0) then !reactBad 3 new
   else if is R.GRAN_CTL_ORDER then decide (old = new) || !orderHeld s
   else if is R.MILL_ISO_TH_REFILL_CELLS || is R.MILL_ISO_TH_PANIC_CELLS then
     decide (tbits v 7 0 + 2 ≤ tbits v 23 16)
   else if is R.GRAN_WQ_CTL_WQ_HIGH then decide (tbits v 5 0 < new)
   else true)

/-- Store a field, in all its copies where it is voted. -/
def fldPut (x : FldDesc) (f : Fld) (v : Nat) (s : State) : State := if x.voted then s.wrV f v else s.wr f v

/-- The value of a field, its majority where it is voted. -/
def fldGet (x : FldDesc) (f : Fld) (s : State) : Nat := if x.voted then s.rdV f else s.rd f

/-- One field of a word is written. -/
def fldWrite (arm sleep : Bool) (r : RegAt) (v : Nat) (a : State × WHit) (x : FldDesc) : State × WHit :=
  match fldPart x r.k with
  | none => a
  | some (b, i, w) =>
    let s := a.1
    let h := a.2
    let f := r.fld x
    let old := fldGet x f s
    let put := v / 2 ^ i % 2 ^ w * 2 ^ b
    let new := match x.acc with
      | .rw => fldMask f (old - old / 2 ^ b % 2 ^ w * 2 ^ b + put)
      | .w1c => old - Nat.land old put
      | _ => put
    let change := if x.acc = .w1s then decide (put ≠ 0) else decide (new ≠ old)
    if x.acc = .ro ∨ x.acc = .rc then a
    else if sleep && !x.wakeSafe then (s, { h with sleep := h.sleep || change })
    else if x.keyed && !arm then (s, { h with key := h.key || change })
    else match x.acc with
    | .w1s => if put = 0 then a
        else if modeBar f new s then (s, { h with mode := true })
        else (s, { h with hooks := h.hooks ++ [(f, old, put)] })
    | .w1c => if put = 0 then a else (s.wr f new, { h with hooks := h.hooks ++ [(f, old, put)] })
    | .rw =>
      if modeBar f new s then (s, { h with mode := true })
      else if encOk x f old new v s then (if new = old then s else fldPut x f new s, { h with hooks := h.hooks ++ [(f, old, new)] })
      else (s, { h with res := true })
    | _ => (s, { h with hooks := h.hooks ++ [(f, old, put)] })

/-- What the Watch and GLB_ACC_STAT record of a write (R11, R85, R124, R435). -/
def hitNote (p : Port) (a : Nat) (h : WHit) (s : State) : State :=
  let s := if h.key then accNote 2 p true a (s.record 0 1 0x02 a) else s
  let s := if h.res then accNote 4 p true a (s.record (sourceAt a) 1 0x03 a) else s
  let s := if h.sleep then accNote 7 p true a (s.record (sourceAt a) 1 0x07 a) else s
  if h.mode then accNote 8 p true a s else s

/-- A register is shut to a port: the entry of a CA that is not in use, or a training register (13_memory_granary R306). -/
def regShut (p : Port) (r : RegAt) (s : State) : Bool := caHidden r s || (trainReg r.addr && !trainOpen p s)

/-- The fields of a word are written in order, the most significant first. -/
def writeFields (arm sleep : Bool) (r : RegAt) (v : Nat) (s : State) : State × WHit :=
  r.d.fields.foldl (fldWrite arm sleep r v) (regVote r s, {})

/-- A write of a whole word is executed; `arm` is the arming result of its issue (R85), `sleep` says that the register's
block is in Keep or Night. -/
def writeExec (e : Ext) (p : Port) (arm sleep : Bool) (r : RegAt) (v : Nat) (s : State) : State :=
  let a := r.addr
  if a = 8 then keygate p v s
  else if regShut p r s then s
  else if sleep && !r.wakeSafe then accNote 7 p true a (s.record (sourceAt a) 1 0x07 a)
  else
    let x := writeFields arm sleep r v s
    x.2.hooks.foldl (fun s h => hook e p r h.1 h.2.1 h.2.2 s) (hitNote p a x.2 x.1)

/-- STATUS of a write that a vale executes (10_pass R234): 0 done, 1 refused asleep, 3 reserved value. -/
def writeStatus (p : Port) (arm sleep : Bool) (r : RegAt) (v : Nat) (s : State) : Nat :=
  if regShut p r s then 0
  else if sleep && !r.wakeSafe then 1
  else
    let h := (writeFields arm sleep r v s).2
    if h.sleep then 1 else if h.res then 3 else 0

/-! ## Issuing an access (R77 to R80, R88) -/

/-- A register holds a keyed field. -/
def RegAt.keyed (r : RegAt) : Bool := r.d.fields.any fun f => f.keyed

/-- The data of an access that is not served. -/
abbrev allOnes : Nat := 2 ^ 32 - 1

/-- How a port's access is served: the MGMT_RECOV registers only to SPI in the recovery stage, and there their writes are
let through. -/
def serviceAt (p : Port) (wr : Bool) (a : Nat) (r : Option RegAt) (s : State) : Service :=
  let x := service p wr a r s
  if x = .silent then x
  else if recovReg a then (if p = .spi && recovering s then .normal else .closed 8)
  else x

/-- The fabric drops a write in a mode that serves reads only; a MAINTENANCE request made so sets REFUSED (R44). -/
def modeDrop (p : Port) (arm : Bool) (a v : Nat) (s : State) : State :=
  let s := accNote 8 p true a s
  if a = 0x40020 ∧ arm ∧ tbit v 0 then s.wr R.STW_MODE_REQ_REFUSED 1 else s

/-- A word of the granary aperture is written (13_memory_granary R296). -/
def aperPut (e : Ext) (p : Port) (a v : Nat) (s : State) : State :=
  let w := (a - 0x800000) / 4
  if apertureBarred w s then accNote 4 p true a s
  else let f := e.findOf s; apertureWrite w v f.1 f.2

/-- A word of the granary aperture is read. -/
def aperGet (e : Ext) (a : Nat) (s : State) : Nat × State :=
  let f := e.findOf s
  apertureRead ((a - 0x800000) / 4) f.1 f.2

/-- A word of the mirror of the MMD registers in a trunk's window (11_host_interfaces R264): trunk, MMD, word. -/
def mirrorAt (a : Nat) : Option (Nat × Nat × Nat) :=
  match winOf a with
  | some (.trk t) =>
    let o := a % 0x10000
    if 0x4000 ≤ o ∧ o < 0xA000 then
      some (t, if o < 0x6000 then 1 else if o < 0x8000 then 3 else 7, o % 0x2000 / 4)
    else none
  | _ => none

/-- The mirrored word that selects the mode: MMD 1 register 2100 of IEEE 802.3 (log 32). -/
def mirrorMode (a : Nat) : Bool := match mirrorAt a with | some (_, 1, 1050) => true | _ => false

/-- The mode that a type selection of MMD 1 register 2100 names, and the reverse (log 32). -/
def typeMode (v : Nat) : Option Nat := if 4 ≤ v % 16 ∧ v % 16 ≤ 7 then some (v % 16 - 4) else none

/-- A mirrored word is written (R266): the AN restart bit, MMD 7 register 512 bit 9, acts; the type selection writes the
keyed field MODE; what else the standards define there leaves nothing that the spec names. -/
def mirrorPut (p : Port) (arm : Bool) (a v : Nat) (s : State) : State :=
  match mirrorAt a with
  | some (t, 7, 256) => if tbit v 9 then effTrkRestart t s else s
  | some (t, 1, 1050) =>
    match typeMode v with
    | none => s
    | some m =>
      if m = s.rd (R.TRK_CTL_MODE t) then s
      else if arm then effTrkRestart t (s.wr (R.TRK_CTL_MODE t) m)
      else accNote 2 p true a (s.record 0 1 0x02 a)
  | _ => s

/-- A vector of the MSI-X table by its word, from 0x1000 of the MGMT window (R261). -/
def msixWord (a : Nat) : Option Nat := if 0xE1000 ≤ a ∧ a < 0xE1100 then some ((a - 0xE1000) / 4) else none

/-- A word of the pending bits, from 0x1800. -/
def pbaWord (a : Nat) : Option Nat := if 0xE1800 ≤ a ∧ a < 0xE1808 then some ((a - 0xE1800) / 4) else none

/-- Vectors that are no longer held back send their pending messages. -/
def msixFlush (s : State) : State :=
  (upto 16).foldl (fun s n =>
    if !s.msixOff && tget false s.msixPend n && !tget true s.msixMask n then
      { s with msixPend := tset false s.msixPend n false }.send (.msix n)
    else s) s

/-- A word of the MSI-X table is written: address, data, or vector control, whose bit 0 masks. -/
def msixPut (w v : Nat) (s : State) : State :=
  if w % 4 = 3 then msixFlush { s with msixMask := tset true s.msixMask (w / 4) (tbit v 0) }
  else { s with mgmt := { s.mgmt with table := tset 0 s.mgmt.table w v } }

/-- A word of the MSI-X table. -/
def msixGet (w : Nat) (s : State) : Nat :=
  if w % 4 = 3 then b2n (tget true s.msixMask (w / 4)) else tget 0 s.mgmt.table w

/-- An address that is mapped and holds no register of the catalogue: the aperture, the mirror, the MSI-X table and its
pending bits. -/
def plainAt (a : Nat) : Bool :=
  decide (winOf a = some .aper) || (mirrorAt a).isSome || (msixWord a).isSome || (pbaWord a).isSome

/-- A write to such an address. -/
def plainPut (e : Ext) (p : Port) (arm sleep : Bool) (a v : Nat) (s : State) : State :=
  if winOf a = some .aper then aperPut e p a v s
  else if (mirrorAt a).isSome then mirrorPut p arm a v s
  else match msixWord a with
  | some w => if sleep then accNote 7 p true a (s.record (sourceAt a) 1 0x07 a) else msixPut w v s
  | none => s

/-- A read of such an address; the standards' registers behind the mirror read as a free value (log 32). -/
def plainGet (e : Ext) (a : Nat) (s : State) : Nat × State :=
  if winOf a = some .aper then aperGet e a s
  else if (mirrorAt a).isSome then s.free 32
  else match msixWord a, pbaWord a with
  | some w, _ => (msixGet w s, s)
  | _, some 0 => (maskOf (fun n => tget false s.msixPend n) 16, s)
  | _, _ => (0, s)

/-- A write that is served where it is issued. -/
def writeNow (e : Ext) (p : Port) (arm : Bool) (a v : Nat) (x : Service) (s : State) : State :=
  match regAt a with
  | none => plainPut e p arm (x = .asleep) a v s
  | some r => writeExec e p arm (x = .asleep) r v s

/-- A write arrives at the fabric and is issued: the arming is checked and consumed, R88 decides how it is served, and
byte enables that are not all set drop it. `go` serves a write that passes. -/
def writeIssue (p : Port) (be a v : Nat) (go : Bool → Service → State → State) (s : State) : State :=
  let r := regAt a
  let x := serviceAt p true a r s
  let arm := armed p s
  let s := if x ≠ .silent ∧ ((r.map RegAt.keyed).getD false || mirrorMode a) = true then disarm p s else s
  match x with
  | .silent => s
  | .closed k => accNote k p true a s
  | .readOnly =>
    if alwaysWritten a ∧ !recovering s then go arm .normal s else modeDrop p arm a v s
  | _ =>
    if r.isNone && !plainAt a then accNote 5 p true a s
    else if be ≠ 15 then accNote 1 p true a (s.record 0 1 0x01 a)
    else match x with
    | .shadow _ => accNote 7 p true a (s.record (sourceAt a) 1 0x07 a)
    | _ => go arm x s

/-- A write that takes effect in the cycle in which it is issued. -/
def writeAt (e : Ext) (p : Port) (be a v : Nat) (s : State) : State :=
  writeIssue p be a v (fun arm x s => writeNow e p arm a v x s) s

/-- A read that is served where it is issued: its data, none where the fabric gives no response. -/
def readAt (e : Ext) (p : Port) (a : Nat) (s : State) : Option Nat × State :=
  let r := regAt a
  match serviceAt p false a r s with
  | .silent => (none, s)
  | .closed k => (some allOnes, accNote k p false a s)
  | x =>
    match r with
    | some r =>
      match x with
      | .shadow v => let y := shadowRead v p r (accNote 7 p false a s); (some y.1, y.2)
      | _ => let y := wordRead p r s; (some y.1, y.2)
    | none =>
      if plainAt a then let y := plainGet e a s; (some y.1, y.2)
      else (some 0, accNote 5 p false a s)

/-- The answer to a read goes to its port. -/
def answerTo (p : Port) (a : Nat) (x : Option Nat × State) : State :=
  match x.1 with
  | some d => x.2.send (.answer p (a / 4 * 4) d)
  | none => x.2

end Sys2Proof.Machine
end

