-- ==== Sys2Proof/Machine/Issue.lean ====
section
/-! DEFINITION. Accesses that cross the pass: in flight, stalled, answered, timed out (04_register_interface R79, R80,
R88; 01_architecture R19; 10_pass R236). -/

namespace Sys2Proof.Machine

/-- The accesses in flight to a vale, oldest first. -/
def inFlight (v : Nat) (s : State) : List ValeAcc := tget [] s.fabric.flight v

/-- The accesses in flight to a vale are replaced. -/
def flightSet (v : Nat) (l : List ValeAcc) (s : State) : State :=
  { s with fabric := { s.fabric with flight := tset [] s.fabric.flight v l } }

/-- An access crosses to its vale. -/
def flightAdd (v : Nat) (x : ValeAcc) (s : State) : State := hostRequest v (.reg x) (flightSet v (inFlight v s ++ [x]) s)

/-- The vale that serves an access by tally, where one does: an access to a register of it that R88 does not serve
otherwise. -/
def crossVale (a : Nat) (x : Service) : Option Nat :=
  match x with
  | .normal | .asleep => if (regAt a).isSome || (mirrorAt a).isSome then valeAt a else none
  | _ => none

/-- A port's access is issued. -/
def accIssue (p : Port) (x : PortAcc) (s : State) : State :=
  match x.write with
  | some v =>
    writeIssue p x.be x.addr v (fun arm y s =>
      match crossVale x.addr y with
      | some k => flightAdd k { port := p, addr := x.addr, write := some v, armed := arm } s
      | none => writeNow Ext.plain p arm x.addr v y s) s
  | none =>
    match crossVale x.addr (serviceAt p false x.addr (regAt x.addr) s) with
    | some k => flightAdd k { port := p, addr := x.addr, write := none, armed := false } s
    | none => answerTo p x.addr (readAt Ext.plain p x.addr s)

/-- An access must wait: its vale has 16 in flight (R80). -/
def accBlocked (p : Port) (x : PortAcc) (s : State) : Bool :=
  match crossVale x.addr (serviceAt p x.write.isSome x.addr (regAt x.addr) s) with
  | some k => decide (16 ≤ (inFlight k s).length)
  | none => false

/-- The accesses that wait at a port. -/
def stalledAt (p : Port) (s : State) : List PortAcc := tget [] s.fabric.stalled (portCode p)

/-- The accesses that wait at a port are replaced. -/
def stalledSet (p : Port) (l : List PortAcc) (s : State) : State :=
  { s with fabric := { s.fabric with stalled := tset [] s.fabric.stalled (portCode p) l } }

/-- An access arrives at a port: in order of arrival, behind those that wait. -/
def portAccess (p : Port) (x : PortAcc) (s : State) : State :=
  if stalledAt p s ≠ [] ∨ accBlocked p x s = true then stalledSet p (stalledAt p s ++ [x]) s else accIssue p x s

/-- The first access that waits at a port is issued where it may be. -/
def stallOne (p : Port) (s : State) : State :=
  match stalledAt p s with
  | [] => s
  | x :: l => if accBlocked p x s then s else accIssue p x (stalledSet p l s)

/-- The ports that wait are served round-robin, one access at a time, in the order of R79. -/
def stallPump : Nat → State → State
  | 0, s => s
  | n + 1, s => stallPump n (stallOne .steward (stallOne .spi (stallOne .mdio (stallOne .pcie s))))

/-- An access in flight has ended: those that waited for its place follow. -/
def flightDrop (v : Nat) (x : ValeAcc) (s : State) : State :=
  stallPump 32 (flightSet v ((inFlight v s).erase x) s)

/-- An access gets no reply tally: a read returns all ones, and the Watch logs a class C event (R88). -/
def accTimeout (v : Nat) (x : ValeAcc) (s : State) : State :=
  let s := accNote 9 x.port x.write.isSome x.addr (s.record 0 1 0x06 x.addr)
  let s := if x.write.isSome then s else s.send (.answer x.port (x.addr / 4 * 4) allOnes)
  flightDrop v x s

/-- VALE_ACCESS_TIMEOUT: 50 µs have passed for the oldest access in flight to the vale (R88). -/
def execValeAccessTimeout (v : Fin 4) (s : State) : Host.Outcome State Fault Refusal :=
  done (match inFlight v s with
    | [] => s
    | x :: _ => accTimeout v x s)

/-- The reply to a register access reaches the host die: a read completes on its port. -/
def accReply (v seq data status : Nat) (x : ValeAcc) (s : State) : State :=
  let s := hostDrop v seq (hostGot v s)
  if !(inFlight v s).contains x then s
  else
    let s := if status = 4 then accNote 6 x.port x.write.isSome x.addr s else s
    let s := if x.write.isSome then s
      else s.send (.answer x.port (x.addr / 4 * 4) (if status = 4 then allOnes else data))
    flightDrop v x s

/-- A reply of the vale to a register request that is outstanding. -/
def accAnswered (v seq : Nat) (wr : Bool) (s : State) : State :=
  match hostFind v seq s, cacheGet v seq s with
  | some r, some (.reg d st) =>
    match r.body with
    | .reg x => if x.write.isSome = wr then accReply v seq d st x s else s
    | _ => s
  | _, _ => s

/-- REG_RD_RSP: the read completes on its management port (01_architecture R19). -/
def execRegRdRsp (v : Fin 4) (seq : BitVec 8) (s : State) : Host.Outcome State Fault Refusal :=
  done (accAnswered v seq.toNat false s)

/-- REG_WR_RSP: the write completes. -/
def execRegWrRsp (v : Fin 4) (seq : BitVec 8) (s : State) : Host.Outcome State Fault Refusal :=
  done (accAnswered v seq.toNat true s)

end Sys2Proof.Machine
end

