-- ==== Sys2Proof/Machine/Ports.lean ====
section
/-! DEFINITION. The fabric's own commands, and the commands of the PCIe endpoint, the MDIO port and the SPI port
(04_register_interface R78 to R91; 11_host_interfaces R261 to R268). -/

namespace Sys2Proof.Machine

/-! ## The register fabric -/

/-- REGISTER_WRITE: a write of a word over a port that reaches it; MDIO reaches the mirror alone (R90). -/
def execRegisterWrite (p : Port) (addr : BitVec 24) (be : BitVec 4) (v : Word) (s : State) :
    Host.Outcome State Fault Refusal :=
  done (if p = .mdio ∧ mirrorAt addr.toNat = none then s
    else writeAt Ext.plain p be.toNat (addr.toNat / 4 * 4) v.toNat s)

/-- GLB_KEYGATE_WRITE: R84; MDIO does not reach GLB_KEYGATE (R90). -/
def execGlbKeygateWrite (p : Port) (v : Word) (s : State) : Host.Outcome State Fault Refusal :=
  done (if p = .mdio then s else writeAt Ext.plain p 15 8 v.toNat s)

/-- KEYGATE_ARM_EXPIRY: 1 ms after the arming write (R84). -/
def execKeygateArmExpiry (p : Port) (s : State) : Host.Outcome State Fault Refusal := done (disarm p s)

/-- A word is read over a port that reaches it. -/
def effRead (e : Ext) (p : Port) (a : Nat) (s : State) : State :=
  if p = .mdio ∧ mirrorAt a = none then s else answerTo p a (readAt e p (a / 4 * 4) s)

/-- REGISTER_READ_CLEAR: R78. -/
def execRegisterReadClear (p : Port) (addr : BitVec 24) (s : State) : Host.Outcome State Fault Refusal :=
  done (effRead Ext.plain p addr.toNat s)

/-- WIDE_COUNTER_READ: R81. -/
def execWideCounterRead (p : Port) (addr : BitVec 24) (s : State) : Host.Outcome State Fault Refusal :=
  done (effRead Ext.plain p addr.toNat s)

/-- The voted fields in ascending order of BAR0 offset, the most significant of a register first: those of WATCH_REACT,
then TIME_ADJ_FREQ; with the source and the offset of each (R86). -/
def votedAt (n : Nat) : Fld × Nat × Nat :=
  if 1536 ≤ n then (R.TIME_ADJ_FREQ_FREQ, 6, ((fieldAt R.TIME_ADJ_FREQ_FREQ).map RegAt.addr).getD 0)
  else
    let src := n / 3
    let f := if n % 3 = 0 then R.WATCH_REACT_GRACE_MS src else if n % 3 = 1 then R.WATCH_REACT_F_ACTION src
      else R.WATCH_REACT_U_ACTION src
    (f, 2, 0x23000 + 4 * src)

/-- VOTED_FIELD_SCRUB: the scrubber visits the next voted field (R86). -/
def execVotedFieldScrub (s : State) : Host.Outcome State Fault Refusal :=
  done (let x := votedAt s.fabric.scrubAt
    let s := { s with fabric := { s.fabric with scrubAt := (s.fabric.scrubAt + 1) % 1537 } }
    s.voteRepair x.1 x.2.1 x.2.2)

/-! ## The PCIe endpoint (R261 to R263) -/

/-- The endpoint answers: its link is up and it is not fenced. -/
def pcieUp (s : State) : Bool := s.bit R.MGMT_PCIE_STAT_LINK_UP && !s.isFenced .pcie

/-- A request from the root port is a wake source in Still and below (19_power R410). -/
def pcieWake (s : State) : State := if 2 ≤ s.rd R.PWR_STAT_HOST_RUNG then wakeDetect 3 s else s

/-- PCIE_MEMORY_READ: each DW in ascending order of address, at most the 1,024 that a request names. -/
def execPcieMemoryRead (addr : BitVec 24) (dws : Nat) (s : State) : Host.Outcome State Fault Refusal :=
  done (if pcieUp s then
      (upto (min dws 1024)).foldl (fun a i =>
        portAccess .pcie { addr := (addr.toNat / 4 * 4 + 4 * i) % 2 ^ 24, be := 15, write := none } a) (pcieWake s)
    else s)

/-- PCIE_MEMORY_WRITE: each DW in ascending order of address, judged on its own byte enables; poisoned data is dropped and
logged. -/
def execPcieMemoryWrite (addr : BitVec 24) (data : List (Word × BitVec 4)) (poisoned : Bool) (s : State) :
    Host.Outcome State Fault Refusal :=
  done (if pcieUp s then
      if poisoned then (pcieWake s).recordFree 11 1 0x08 none
      else data.zipIdx.foldl (fun a e =>
        portAccess .pcie
          { addr := (addr.toNat / 4 * 4 + 4 * e.2) % 2 ^ 24, be := e.1.2.toNat, write := some e.1.1.toNat } a) (pcieWake s)
    else s)

/-- A word of the configuration space: the identifiers and class of R261, the Command register and BAR0; the rest is the
PCI Express specification's (log 31). -/
def configWord (dw : Nat) (s : State) : Nat :=
  let spec := (Config.pcieConfigWord dw).toNat
  if dw = 0 then 0x8264 * 65536 + spec % 65536
  else if dw = 1 then spec / 65536 * 65536 + s.mgmt.cmd
  else if dw = 2 then 0x028000 * 256 + s.rd R.GLB_ID_REV
  else if dw = 4 then s.mgmt.bar0 % 2 ^ 32 + 4
  else if dw = 5 then s.mgmt.bar0 / 2 ^ 32
  else if 6 ≤ dw ∧ dw ≤ 9 ∨ dw = 12 then 0
  else spec

/-- A configuration request. -/
def effConfig (r : CfgReq) (s : State) : State :=
  match r with
  | .read dw => s.send (.config dw.toNat (configWord dw.toNat s))
  | .command v => { s with mgmt := { s.mgmt with cmd := v.toNat } }
  | .bar0 v => { s with mgmt := { s.mgmt with bar0 := v.toNat / 2 ^ 24 * 2 ^ 24 } }
  | .power d3 => { s.wr R.MGMT_PCIE_STAT_DSTATE (if d3 then 3 else 0) with mgmt := { s.mgmt with d3 := d3 } }
  | .msix enable mask => msixFlush { s with msixOff := !enable || mask }
  | .deviceControl v => { s with mgmt := { s.mgmt with devCtl := v.toNat } }
  | .other _ _ => s

/-- PCIE_CONFIG_REQUEST: R261. -/
def execPcieConfigRequest (r : CfgReq) (s : State) : Host.Outcome State Fault Refusal :=
  done (if pcieUp s then effConfig r (pcieWake s) else s)

/-- PCIE_UNSUPPORTED_REQUEST: R262. -/
def execPcieUnsupportedRequest (s : State) : Host.Outcome State Fault Refusal :=
  done (if pcieUp s then (pcieWake s).send .unsupported else s)

/-- PCIE_PERST: the endpoint's link and configuration space are reset, and nothing else (R263). -/
def execPciePerst (s : State) : Host.Outcome State Fault Refusal :=
  done (let s := s.wrAll [R.MGMT_PCIE_STAT_LINK_UP, R.MGMT_PCIE_STAT_SPEED, R.MGMT_PCIE_STAT_WIDTH,
      R.MGMT_PCIE_STAT_DSTATE] 0
    { s with
      mgmt := { s.mgmt with cmd := 0, bar0 := 0, d3 := false, devCtl := 0, table := [] },
      msixOff := true, msixMask := [], msixPend := [] })

/-- PCIE_LINK_UP: the link completes training or leaves L0 and L1; it trains from BOOT step 4 on (R263). -/
def execPcieLinkUp (up : Bool) (speed : BitVec 4) (width : BitVec 2) (s : State) : Host.Outcome State Fault Refusal :=
  done (if up then
      if s.isFenced .pcie ∨ (s.mode = 0 ∧ s.boot.step < 4) then s
      else ((s.wr R.MGMT_PCIE_STAT_LINK_UP 1).wr R.MGMT_PCIE_STAT_SPEED speed.toNat).wr R.MGMT_PCIE_STAT_WIDTH width.toNat
    else s.wr R.MGMT_PCIE_STAT_LINK_UP 0)

/-! ## The MDIO port (R264 to R266; 04_register_interface R90) -/

/-- The trunk that a port address selects, for the device addresses served. -/
def mdioTrunk (prtad devad : Nat) (s : State) : Option Nat :=
  let b := s.rd R.MGMT_MDIO_PRTAD_BASE
  if (devad = 1 ∨ devad = 3 ∨ devad = 7) ∧ b ≤ prtad ∧ prtad < b + 8 then some (prtad - b) else none

/-- The word that holds an MMD register; an address above 4,095 lies in no mirror. -/
def mdioAddr (t dev a : Nat) : Nat :=
  0x200000 + 0x10000 * t + (if dev = 1 then 0x4000 else if dev = 3 then 0x6000 else 0x8000) + 4 * (a / 2)

/-- The MMD address that stands for a trunk and device address. -/
def mmdOf (t dev : Nat) (s : State) : Nat := tget 0 s.mgmt.mmd (32 * t + dev)

/-- The MMD address is set and the read ahead of it starts. -/
def mdioSeek (t dev a : Nat) (s : State) : State :=
  { s with mgmt := { s.mgmt with
    mmd := tset 0 s.mgmt.mmd (32 * t + dev) a,
    pre := some { trunk := t, dev := dev, addr := a, word := none } } }

/-- MDIO_ADDRESS_FRAME: R265. -/
def execMdioAddressFrame (prtad devad : BitVec 5) (addr : BitVec 16) (s : State) : Host.Outcome State Fault Refusal :=
  done (match mdioTrunk prtad.toNat devad.toNat s with
    | some t => mdioSeek t devad.toNat addr.toNat s
    | none => s)

/-- MDIO_PREFETCH_COMPLETE: the 32-bit read has completed; one that the fabric does not answer has not. -/
def execMdioPrefetchComplete (s : State) : Host.Outcome State Fault Refusal :=
  done (match s.mgmt.pre with
    | some x =>
      if x.word.isSome then s
      else
        let a := mdioAddr x.trunk x.dev x.addr
        let y := if 4096 ≤ x.addr then (some 0, accNote 5 .mdio false a s) else readAt Ext.plain .mdio a s
        let z := y.2
        { z with mgmt := { z.mgmt with pre := some { x with word := y.1 } } }
    | none => s)

/-- A word is written from MDIO: never armed (R90). -/
def mdioPut (t dev a v : Nat) (s : State) : State :=
  let b := mdioAddr t dev a
  if 4096 ≤ a then accNote 5 .mdio true b s else writeAt Ext.plain .mdio 15 b v s

/-- A lower half of a mirrored word that changes nothing where it is written. -/
def mirrorNow (t dev a : Nat) (s : State) : Nat :=
  if dev = 1 ∧ a / 2 = 1050 ∧ s.rd (R.TRK_CTL_MODE t) < 4 then 4 + s.rd (R.TRK_CTL_MODE t) else 0

/-- A lower half that is held is written alone, with the current upper half. -/
def mdioFlush (s : State) : State :=
  match s.mgmt.wrHeld with
  | some (t, dev, a, lo) => mdioPut t dev a lo { s with mgmt := { s.mgmt with wrHeld := none } }
  | none => s

/-- A read frame returns a half: the held upper half, a half of the word read ahead, or 0xFFFF with LATE set. -/
def mdioRead (t dev : Nat) (s : State) : State :=
  let s := mdioFlush s
  let a := mmdOf t dev s
  let held := match s.mgmt.rdHeld with
    | some (u, e, b, hi) => if u = t ∧ e = dev ∧ a = b + 1 ∧ a % 2 = 1 then some hi else none
    | none => none
  match held with
  | some hi => { s with mgmt := { s.mgmt with rdHeld := none } }.send (.mdio hi)
  | none =>
    match s.mgmt.pre with
    | some x =>
      match (if x.trunk = t ∧ x.dev = dev ∧ x.addr = a then x.word else none) with
      | some w =>
        let keep := if a % 2 = 0 then some (t, dev, a, w / 65536) else none
        { s with mgmt := { s.mgmt with rdHeld := keep } }.send (.mdio (if a % 2 = 0 then w % 65536 else w / 65536))
      | none => ({ s with mgmt := { s.mgmt with pre := none, rdHeld := none } }.evt R.MGMT_MDIO_LATE).send (.mdio 0xFFFF)
    | none => ({ s with mgmt := { s.mgmt with rdHeld := none } }.evt R.MGMT_MDIO_LATE).send (.mdio 0xFFFF)

/-- MDIO_READ_FRAME: R90, R265. -/
def execMdioReadFrame (prtad devad : BitVec 5) (s : State) : Host.Outcome State Fault Refusal :=
  done (match mdioTrunk prtad.toNat devad.toNat s with
    | some t => mdioRead t devad.toNat s
    | none => s)

/-- MDIO_POST_READ_INCREMENT: the half is returned and the read ahead of the next address starts (R265). -/
def execMdioPostReadIncrement (prtad devad : BitVec 5) (s : State) : Host.Outcome State Fault Refusal :=
  done (match mdioTrunk prtad.toNat devad.toNat s with
    | some t =>
      let s := mdioRead t devad.toNat s
      mdioSeek t devad.toNat (min 65535 (mmdOf t devad.toNat s + 1)) s
    | none => s)

/-- A write frame: a lower half is held; an upper half writes the whole word. -/
def mdioWrite (t dev v : Nat) (s : State) : State :=
  let a := mmdOf t dev s
  let s := { s with mgmt := { s.mgmt with rdHeld := none } }
  if a % 2 = 0 then
    let s := mdioFlush s
    { s with mgmt := { s.mgmt with wrHeld := some (t, dev, a, v) } }
  else match s.mgmt.wrHeld with
  | some (u, e, b, lo) =>
    if u = t ∧ e = dev ∧ a = b + 1 then
      mdioPut t dev a (v * 65536 + lo) { s with mgmt := { s.mgmt with wrHeld := none } }
    else let s := mdioFlush s; mdioPut t dev a (v * 65536 + mirrorNow t dev a s) s
  | none => mdioPut t dev a (v * 65536 + mirrorNow t dev a s) s

/-- MDIO_WRITE_FRAME: R90. -/
def execMdioWriteFrame (prtad devad : BitVec 5) (data : BitVec 16) (s : State) : Host.Outcome State Fault Refusal :=
  done (match mdioTrunk prtad.toNat devad.toNat s with
    | some t => mdioWrite t devad.toNat data.toNat s
    | none => s)

/-! ## The SPI port (R267) -/

/-- SPI_WRITE_FRAME: bits [1:0] of the offset are ignored. -/
def execSpiWriteFrame (addr : BitVec 24) (v : Word) (s : State) : Host.Outcome State Fault Refusal :=
  done (portAccess .spi { addr := addr.toNat / 4 * 4, be := 15, write := some v.toNat } s)

/-- SPI_READ_FRAME. -/
def execSpiReadFrame (addr : BitVec 24) (s : State) : Host.Outcome State Fault Refusal :=
  done (portAccess .spi { addr := addr.toNat / 4 * 4, be := 15, write := none } s)

/-- SPI_FRAME_ERROR: a frame is ignored and counted. -/
def execSpiFrameError (s : State) : Host.Outcome State Fault Refusal := done (s.sat R.MGMT_SPI_STAT_FRAME_ERR 1)

end Sys2Proof.Machine
end

