-- ==== Sys2Proof/Machine/RegRows.lean ====
section
/-! DEFINITION. Commands that are the write or the read of one register: each composes the word, with the register's other
writable fields as they stand, and the fabric issues it (04_register_interface R78 to R88). -/

namespace Sys2Proof.Machine

/-- The value that a row gives a field. -/
def rowValue (f : Fld) (l : List (Fld × Nat)) : Option Nat := (l.find? fun e => e.1.id = f.id ∧ e.1.ix = f.ix).map fun e => e.2

/-- What a field adds to the word of a row: the value that the row gives it, else its own where it is RW, else 0. -/
def rowPart (r : RegAt) (l : List (Fld × Nat)) (s : State) (x : FldDesc) : Nat :=
  match fldPart x r.k with
  | none => 0
  | some (b, i, w) =>
    (match rowValue (r.fld x) l with
      | some v => v
      | none => if x.acc = .rw then fldGet x (r.fld x) s else 0) / 2 ^ b % 2 ^ w * 2 ^ i

/-- The word of a write that gives some fields a value: the other RW fields as they stand, 0 elsewhere. -/
def rowWord (r : RegAt) (l : List (Fld × Nat)) (s : State) : Nat := (r.d.fields.map (rowPart r l s)).sum

/-- A port writes the register of the listed fields; MDIO reaches none of them (R90). -/
def rowWrite (e : Ext) (p : Port) (l : List (Fld × Nat)) (s : State) : State :=
  match l with
  | [] => s
  | (f, _) :: _ =>
    match fieldAt f with
    | some r => if p = .mdio then s else writeAt e p 15 r.addr (rowWord r l s) s
    | none => s

/-- A port writes a whole register word. -/
def rowPut (e : Ext) (p : Port) (f : Fld) (v : Nat) (s : State) : State :=
  match fieldAt f with
  | some r => if p = .mdio then s else writeAt e p 15 r.addr v s
  | none => s

/-- A port reads a register word. -/
def rowRead (p : Port) (f : Fld) (s : State) : State :=
  match fieldAt f with
  | some r => effRead Ext.plain p r.addr s
  | none => s

/-! ## Writes -/

/-- TRK_ENABLE_WRITE: 05_trunk R115. -/
def execTrkEnableWrite (p : Port) (t : Fin 8) (v : Bool) (s : State) : Host.Outcome State Fault Refusal :=
  done (rowWrite Ext.plain p [(R.TRK_CTL_ENABLE t, b2n v)] s)

/-- TRK_MODE_WRITE: 05_trunk R95, R115. -/
def execTrkModeWrite (p : Port) (t : Fin 8) (m : BitVec 3) (s : State) : Host.Outcome State Fault Refusal :=
  done (rowWrite Ext.plain p [(R.TRK_CTL_MODE t, m.toNat)] s)

/-- TRK_RESTART_AN: 05_trunk R115. -/
def execTrkRestartAn (p : Port) (t : Fin 8) (s : State) : Host.Outcome State Fault Refusal :=
  done (rowWrite Ext.plain p [(R.TRK_CTL_RESTART_AN t, 1)] s)

/-- TRK_RETRAIN: 05_trunk R116. -/
def execTrkRetrain (p : Port) (t : Fin 8) (s : State) : Host.Outcome State Fault Refusal :=
  done (rowWrite Ext.plain p [(R.TRK_CTL_RETRAIN t, 1)] s)

/-- TRK_TEST_WRITE: 05_trunk R124. -/
def execTrkTestWrite (p : Port) (t : Fin 8) (v : BitVec 4) (s : State) : Host.Outcome State Fault Refusal :=
  done (rowWrite Ext.plain p [(R.TRK_CTL_TEST t, v.toNat)] s)

/-- EC_WIN_START_WRITE: 06_trunk R135. -/
def execEcWinStartWrite (p : Port) (t w : Fin 8) (start : BitVec 13) (s : State) : Host.Outcome State Fault Refusal :=
  done (rowWrite Ext.plain p [(R.TRK_EC_WIN_START t w, start.toNat)] s)

/-- EC_AUTO_PLACE_OFF: 06_trunk R135. -/
def execEcAutoPlaceOff (p : Port) (t : Fin 8) (s : State) : Host.Outcome State Fault Refusal :=
  done (rowWrite Ext.plain p [(R.TRK_EC_CTL_AUTO_PLACE t, 0)] s)

/-- EQ_CURSOR_WRITE: 06_trunk R138. -/
def execEqCursorWrite (p : Port) (t : Fin 8) (cursor : BitVec 6) (s : State) : Host.Outcome State Fault Refusal :=
  done (rowWrite Ext.plain p [(R.TRK_EQ_CTL_CURSOR t, cursor.toNat)] s)

/-- EQ_FFE_EN_WRITE: 06_trunk R144. -/
def execEqFfeEnWrite (p : Port) (t : Fin 8) (v : Bool) (s : State) : Host.Outcome State Fault Refusal :=
  done (rowWrite Ext.plain p [(R.TRK_EQ_CTL_FFE_EN t, b2n v)] s)

/-- EQ_DFE_EN_WRITE: 06_trunk R144. -/
def execEqDfeEnWrite (p : Port) (t : Fin 8) (v : Bool) (s : State) : Host.Outcome State Fault Refusal :=
  done (rowWrite Ext.plain p [(R.TRK_EQ_CTL_DFE_EN t, b2n v)] s)

/-- COEF_SNAP: 06_trunk R145. -/
def execCoefSnap (p : Port) (t : Fin 8) (s : State) : Host.Outcome State Fault Refusal :=
  done (rowWrite Ext.plain p [(R.TRK_COEF_SEL_SNAP t, 1)] s)

/-- QW_HOST_REQUEST: 07_twinning R167. -/
def execQwHostRequest (p : Port) (t : Fin 8) (s : State) : Host.Outcome State Fault Refusal :=
  done (rowWrite Ext.plain p [(R.TRK_QW_CTL_REQ t, 1)] s)

/-- DRP_ENABLE_WRITE: 08_drop R176. -/
def execDrpEnableWrite (p : Port) (d : Fin 64) (v : Bool) (s : State) : Host.Outcome State Fault Refusal :=
  done (rowWrite Ext.plain p [(R.DRP_CTL_ENABLE d, b2n v)] s)

/-- DRP_MODE_WRITE: 08_drop R176. -/
def execDrpModeWrite (p : Port) (d : Fin 64) (v : Bool) (s : State) : Host.Outcome State Fault Refusal :=
  done (rowWrite Ext.plain p [(R.DRP_CTL_MODE d, b2n v)] s)

/-- DRP_RESTART: 08_drop R176. -/
def execDrpRestart (p : Port) (d : Fin 64) (s : State) : Host.Outcome State Fault Refusal :=
  done (rowWrite Ext.plain p [(R.DRP_CTL_RESTART d, 1)] s)

/-- DRP_TEST_WRITE: 08_drop R177. -/
def execDrpTestWrite (p : Port) (d : Fin 64) (v : BitVec 4) (s : State) : Host.Outcome State Fault Refusal :=
  done (rowWrite Ext.plain p [(R.DRP_CTL_TEST d, v.toNat)] s)

/-- LD_COEF_SNAP: 09_long_drop R212. -/
def execLdCoefSnap (p : Port) (d : Fin 64) (s : State) : Host.Outcome State Fault Refusal :=
  done (rowWrite Ext.plain p [(R.DRP_LD_COEF_SEL_SNAP d, 1)] s)

/-- PASS_RETRAIN: 10_pass R223. -/
def execPassRetrain (p : Port) (v : Fin 4) (s : State) : Host.Outcome State Fault Refusal :=
  done (rowWrite Ext.plain p [(R.PASS_CTL_RETRAIN v, 1)] s)

/-- HLN_RELOCK: 11_host R250. -/
def execHlnRelock (p : Port) (n : Fin 6) (s : State) : Host.Outcome State Fault Refusal :=
  done (rowWrite Ext.plain p [(R.HLN_CTL_RELOCK n, 1)] s)

/-- HLN_RATE_WRITE: 11_host R250. -/
def execHlnRateWrite (p : Port) (n : Fin 6) (rate precode : Bool) (s : State) : Host.Outcome State Fault Refusal :=
  done (rowWrite Ext.plain p [(R.HLN_CTL_RATE n, b2n rate), (R.HLN_CTL_PRECODE n, b2n precode)] s)

/-- HLN_ENABLE_WRITE: 11_host R250. -/
def execHlnEnableWrite (p : Port) (n : Fin 6) (v : Bool) (s : State) : Host.Outcome State Fault Refusal :=
  done (rowWrite Ext.plain p [(R.HLN_CTL_ENABLE n, b2n v)] s)

/-- MILL_FLUSH: 12_miller R285. -/
def execMillFlush (p : Port) (q : BitVec 13) (s : State) : Host.Outcome State Fault Refusal :=
  done (rowWrite Ext.plain p [(R.MILL_FLUSH_GO, 1), (R.MILL_FLUSH_Q, q.toNat)] s)

/-- GRAN_FREQ_REQ: 13_memory R307. -/
def execGranFreqReq (p : Port) (point : BitVec 2) (s : State) : Host.Outcome State Fault Refusal :=
  done (rowWrite Ext.plain p [(R.GRAN_FREQ_REQ, 1), (R.GRAN_FREQ_POINT, point.toNat)] s)

/-- TIME_STEP: 14_time R313. -/
def execTimeStep (p : Port) (s : State) : Host.Outcome State Fault Refusal :=
  done (rowWrite Ext.plain p [(R.TIME_STEP_GO, 1)] s)

/-- SURV_CC_CLEAR: 15_surveyor R336. -/
def execSurvCcClear (p : Port) (t : Fin 8) (s : State) : Host.Outcome State Fault Refusal :=
  done (rowWrite Ext.plain p [(R.SURV_TRK_CC_CTL_CLEAR t, 1)] s)

/-- SURV_CAP_FREE: 15_surveyor R341. -/
def execSurvCapFree (p : Port) (idx : Fin 8) (s : State) : Host.Outcome State Fault Refusal :=
  done (rowWrite Ext.plain p [(R.SURV_CAP_CTL_FREE, 1), (R.SURV_CAP_CTL_IDX, idx.val)] s)

/-- ASSAY_RUN_GO: 16_assayer R344. -/
def execAssayRunGo (p : Port) (item : BitVec 8) (s : State) : Host.Outcome State Fault Refusal :=
  done (rowWrite Ext.plain p [(R.ASSAY_RUN_GO, 1), (R.ASSAY_RUN_ITEM, item.toNat)] s)

/-- ASSAY_ACCEPT_GO: 16_assayer R350. -/
def execAssayAcceptGo (p : Port) (item : BitVec 8) (s : State) : Host.Outcome State Fault Refusal :=
  done (rowWrite Ext.plain p [(R.ASSAY_ACCEPT_GO, 1), (R.ASSAY_ACCEPT_ITEM, item.toNat)] s)

/-- STW_RESET_WARM: 02_startup R34. -/
def execStwResetWarm (p : Port) (s : State) : Host.Outcome State Fault Refusal :=
  done (rowWrite Ext.plain p [(R.STW_RESET_CTL_WARM, 1)] s)

/-- STW_MODE_MAINT: 02_startup R44. -/
def execStwModeMaint (p : Port) (s : State) : Host.Outcome State Fault Refusal :=
  done (rowWrite Ext.plain p [(R.STW_MODE_REQ_MAINT, 1)] s)

/-- STW_MODE_EXIT_MAINT: 02_startup R34. -/
def execStwModeExitMaint (p : Port) (s : State) : Host.Outcome State Fault Refusal :=
  done (rowWrite Ext.plain p [(R.STW_MODE_REQ_EXIT_MAINT, 1)] s)

/-- STW_SCAN_REQ: 02_startup R46. -/
def execStwScanReq (p : Port) (s : State) : Host.Outcome State Fault Refusal :=
  done (rowWrite Ext.plain p [(R.STW_SCAN_CTL_REQ, 1)] s)

/-- STW_SELFTEST_START: 02_startup R48. -/
def execStwSelftestStart (p : Port) (kind : BitVec 4) (index : BitVec 8) (s : State) :
    Host.Outcome State Fault Refusal :=
  done (rowWrite Ext.plain p 
    [(R.STW_SELFTEST_CTL_START, 1), (R.STW_SELFTEST_CTL_KIND, kind.toNat), (R.STW_SELFTEST_CTL_INDEX, index.toNat)] s)

/-- STW_RELEASE: 02_startup R50. -/
def execStwRelease (p : Port) (kind : BitVec 4) (index : BitVec 8) (s : State) : Host.Outcome State Fault Refusal :=
  done (rowWrite Ext.plain p 
    [(R.STW_RELEASE_GO, 1), (R.STW_RELEASE_KIND, kind.toNat), (R.STW_RELEASE_INDEX, index.toNat)] s)

/-- WARP_LOAD_BEGIN: 03_warp R62. -/
def execWarpLoadBegin (p : Port) (slot : BitVec 2) (live : Bool) (s : State) : Host.Outcome State Fault Refusal :=
  done (rowWrite Ext.plain p 
    [(R.WARP_LOAD_CTL_BEGIN, 1), (R.WARP_LOAD_CTL_SLOT, slot.toNat), (R.WARP_LOAD_CTL_LIVE, b2n live)] s)

/-- WARP_LOAD_DATA: 03_warp R62. -/
def execWarpLoadData (p : Port) (v : Word) (s : State) : Host.Outcome State Fault Refusal :=
  done (rowWrite Ext.plain p [(R.WARP_LOAD_DATA_DATA, v.toNat)] s)

/-- WARP_LOAD_ABORT: 03_warp R62. -/
def execWarpLoadAbort (p : Port) (s : State) : Host.Outcome State Fault Refusal :=
  done (rowWrite Ext.plain p [(R.WARP_LOAD_CTL_ABORT, 1)] s)

/-- SEC_LC_REQ: 17_security R358. -/
def execSecLcReq (p : Port) (target : BitVec 3) (confirm : BitVec 8) (s : State) : Host.Outcome State Fault Refusal :=
  done (rowWrite Ext.plain p 
    [(R.SEC_LC_REQ_GO, 1), (R.SEC_LC_REQ_TARGET, target.toNat), (R.SEC_LC_REQ_CONFIRM, confirm.toNat)] s)

/-- SEC_GENKEY: 17_security R367. -/
def execSecGenkey (p : Port) (s : State) : Host.Outcome State Fault Refusal :=
  done (rowWrite Ext.plain p [(R.SEC_PROV_CTL_GENKEY, 1)] s)

/-- SEC_LOAD_BEGIN: 17_security R370. -/
def execSecLoadBegin (p : Port) (target : BitVec 2) (s : State) : Host.Outcome State Fault Refusal :=
  done (rowWrite Ext.plain p [(R.SEC_LOAD_CTL_BEGIN, 1), (R.SEC_LOAD_CTL_TARGET, target.toNat)] s)

/-- SEC_LOAD_DATA: 17_security R370. -/
def execSecLoadData (p : Port) (v : Word) (s : State) : Host.Outcome State Fault Refusal :=
  done (rowWrite Ext.plain p [(R.SEC_LOAD_DATA_DATA, v.toNat)] s)

/-- SEC_LOAD_COMMIT: 17_security R370. -/
def execSecLoadCommit (p : Port) (s : State) : Host.Outcome State Fault Refusal :=
  done (rowWrite Ext.plain p [(R.SEC_LOAD_CTL_COMMIT, 1)] s)

/-- SEC_LOAD_ABORT: 17_security R370. -/
def execSecLoadAbort (p : Port) (s : State) : Host.Outcome State Fault Refusal :=
  done (rowWrite Ext.plain p [(R.SEC_LOAD_CTL_ABORT, 1)] s)

/-- SEC_ROLL_FWD: 17_security R373. -/
def execSecRollFwd (p : Port) (s : State) : Host.Outcome State Fault Refusal :=
  done (rowWrite Ext.plain p [(R.SEC_FW_CTL_ROLL_FWD, 1)] s)

/-- SEC_ATT_GO: 17_security R375. -/
def execSecAttGo (p : Port) (s : State) : Host.Outcome State Fault Refusal :=
  done (rowWrite Ext.plain p [(R.SEC_ATT_CTL_GO, 1)] s)

/-- MSEC_ROTATE: 17_security R382. -/
def execMsecRotate (p : Port) (e : Fin 2056) (s : State) : Host.Outcome State Fault Refusal :=
  done (rowWrite Ext.plain p [(R.MSEC_CTL_ROTATE e, 1)] s)

/-- MGMT_RECOV_BEGIN: 11_host R268. -/
def execMgmtRecovBegin (p : Port) (slot : BitVec 2) (s : State) : Host.Outcome State Fault Refusal :=
  done (rowWrite Ext.plain p [(R.MGMT_RECOV_CTL_BEGIN, 1), (R.MGMT_RECOV_CTL_SLOT, slot.toNat)] s)

/-- MGMT_RECOV_DATA: 11_host R268. -/
def execMgmtRecovData (p : Port) (v : Word) (s : State) : Host.Outcome State Fault Refusal :=
  done (rowWrite Ext.plain p [(R.MGMT_RECOV_DATA_DATA, v.toNat)] s)

/-- WATCH_SLOT_RELEASE: 18_watch R387. -/
def execWatchSlotRelease (p : Port) (src : Fin 512) (s : State) : Host.Outcome State Fault Refusal :=
  done (rowWrite Ext.plain p [(R.WATCH_SLOT_HDR_VALID src, 1)] s)

/-- WATCH_HOST_CLR: 18_watch R395. -/
def execWatchHostClr (p : Port) (s : State) : Host.Outcome State Fault Refusal :=
  done (rowWrite Ext.plain p [(R.WATCH_PIN_HOST_CLR, 1)] s)

/-- WATCH_IRQ_REARM: 18_watch R396. -/
def execWatchIrqRearm (p : Port) (bits : BitVec 16) (s : State) : Host.Outcome State Fault Refusal :=
  done (rowWrite Ext.plain p [(R.WATCH_IRQ_REARM, bits.toNat)] s)

/-- WATCH_LOG_SELECT: 18_watch R398. -/
def execWatchLogSelect (p : Port) (seq : Word) (s : State) : Host.Outcome State Fault Refusal :=
  done (rowWrite Ext.plain p [(R.WATCH_LOG_SEL_SEQ, seq.toNat)] s)

/-- ARCHIVE_SELECT: 18_watch R399. -/
def execArchiveSelect (p : Port) (index : BitVec 12) (s : State) : Host.Outcome State Fault Refusal :=
  done (rowWrite Ext.plain p [(R.WATCH_LOG_CTL_INDEX, index.toNat), (R.WATCH_LOG_CTL_ARCH, 1)] s)

/-- PWR_LOWEST_WRITE: 19_power R405. -/
def execPwrLowestWrite (p : Port) (c : Fin 75) (rung : BitVec 3) (s : State) : Host.Outcome State Fault Refusal :=
  done (rowWrite Ext.plain p [(R.PWR_LOWEST_LOWEST c, rung.toNat)] s)

/-- PWR_NIGHT_EN_WRITE: 19_power R405. -/
def execPwrNightEnWrite (p : Port) (v : Bool) (s : State) : Host.Outcome State Fault Refusal :=
  done (rowWrite Ext.plain p [(R.PWR_CTL_NIGHT_EN, b2n v)] s)

/-- PWR_TIMER_START: 19_power R410. -/
def execPwrTimerStart (p : Port) (periodic : Bool) (s : State) : Host.Outcome State Fault Refusal :=
  done (rowWrite Ext.plain p [(R.PWR_TIMER_CTL_EN, 1), (R.PWR_TIMER_CTL_PERIODIC, b2n periodic)] s)

/-- DRP_CYC_CTL_WRITE: the whole word (08_drop R181). -/
def execDrpCycCtlWrite (p : Port) (d : Fin 64) (v : Word) (s : State) : Host.Outcome State Fault Refusal :=
  done (rowPut Ext.plain p (R.DRP_CYC_CTL_NODES d) v.toNat s)

/-- GRAN_TRN_GO: the whole word, with GO 1 (13_memory R306). -/
def execGranTrnGo (p : Port) (v : Word) (s : State) : Host.Outcome State Fault Refusal :=
  done (rowPut Ext.plain p R.GRAN_TRN_CTL_GO (setBit v.toNat 31 true) s)

/-- GRAN_ORDER_WRITE: the whole word of GRAN_CTL (13_memory R294). -/
def execGranOrderWrite (p : Port) (v : Word) (s : State) : Host.Outcome State Fault Refusal :=
  done (rowPut Ext.plain p R.GRAN_CTL_ORDER v.toNat s)

/-- TIME_ADJ_FREQ_WRITE: 14_time R313. -/
def execTimeAdjFreqWrite (p : Port) (v : Word) (s : State) : Host.Outcome State Fault Refusal :=
  done (rowPut Ext.plain p R.TIME_ADJ_FREQ_FREQ v.toNat s)

/-- TIME_ADJ_PHASE_WRITE: 14_time R313. -/
def execTimeAdjPhaseWrite (p : Port) (v : Word) (s : State) : Host.Outcome State Fault Refusal :=
  done (rowPut Ext.plain p R.TIME_ADJ_PHASE_PHASE_NS v.toNat s)

/-- TIME_REF_RESTORE: the operand says whether REFCLK is present (14_time R312). -/
def execTimeRefRestore (p : Port) (present : Bool) (s : State) : Host.Outcome State Fault Refusal :=
  done (rowWrite { Ext.plain with refclk := some present } p [(R.TIME_CTL_REF_RESTORE, 1)] s)

/-- SURV_START: the operand holds the line estimates of the pass (15_surveyor R328, R340). -/
def execSurvStart (pt : Port) (p : Fin 72) (est : Option (BitVec 16 × BitVec 16)) (s : State) :
    Host.Outcome State Fault Refusal :=
  done (rowWrite { Ext.plain with est := some (estNat est) } pt
    [(if p.val < 8 then R.SURV_TRK_CTL_START p else R.SURV_DRP_CTL_START (p.val - 8), 1)] s)

/-- WARP_LOAD_COMMIT: the operand is what the keys decide about the staged image (03_warp R56, R62). -/
def execWarpLoadCommit (p : Port) (v : Verdict) (s : State) : Host.Outcome State Fault Refusal :=
  done (rowWrite { Ext.plain with verdict := fun _ => v } p [(R.WARP_LOAD_CTL_COMMIT, 1)] s)

/-- MGMT_RECOV_COMMIT: the operand says whether the staged image's signature verifies (11_host R268). -/
def execMgmtRecovCommit (p : Port) (sig : Bool) (s : State) : Host.Outcome State Fault Refusal :=
  done (rowWrite { Ext.plain with verdict := fun _ => ⟨sig, false, []⟩ } p [(R.MGMT_RECOV_CTL_COMMIT, 1)] s)

/-- APERTURE_WRITE: the operand is what the code finds in the burst (13_memory R296). -/
def execApertureWrite (p : Port) (word : Fin 2097152) (v : Word) (f : BurstFind) (s : State) :
    Host.Outcome State Fault Refusal :=
  done (if p = .mdio then s else writeAt { Ext.plain with find := some f } p 15 (0x800000 + 4 * word.val) v.toNat s)

/-! ## Reads -/

/-- APERTURE_READ: 13_memory R296. -/
def execApertureRead (p : Port) (word : Fin 2097152) (f : BurstFind) (s : State) : Host.Outcome State Fault Refusal :=
  done (effRead { Ext.plain with find := some f } p (0x800000 + 4 * word.val) s)

/-- WARP_CLAMP_DATA_READ: a read of WARP_CLAMP_DATA[3] (03_warp R72). -/
def execWarpClampDataRead (p : Port) (s : State) : Host.Outcome State Fault Refusal :=
  done (rowRead p (R.WARP_CLAMP_DATA_WORD 3) s)

/-- COEF_DATA_READ: 06_trunk R145. -/
def execCoefDataRead (p : Port) (t : Fin 8) (s : State) : Host.Outcome State Fault Refusal :=
  done (rowRead p (R.TRK_COEF_DATA_COEF t) s)

/-- LD_COEF_DATA_READ: 09_long_drop R212. -/
def execLdCoefDataRead (p : Port) (d : Fin 64) (s : State) : Host.Outcome State Fault Refusal :=
  done (rowRead p (R.DRP_LD_COEF_DATA_REAL d) s)

end Sys2Proof.Machine
end

