-- ==== Sys2Proof/Machine/Tally.lean ====
section
/-! DEFINITION. Requests across the tally lanes: order, duplicates, gaps, the vale's execution, and the vale's own requests
(10_pass R234 to R237; 15_surveyor R340, R342; 19_power R407). -/

namespace Sys2Proof.Machine

/-! ## The vale executes a request -/

/-- A register access in the vale. -/
def valeReg (v : Nat) (x : ValeAcc) (s : State) : Reply × State :=
  let fenced := match blockAt x.addr with | some b => s.isFenced b | none => false
  if fenced then (.reg 0 4, s)
  else
    match regAt x.addr with
    | none =>
      if !plainAt x.addr then (.reg 0 2, s)
      else match x.write with
      | some w => (.reg 0 0, plainPut Ext.plain x.port x.armed false x.addr w s)
      | none => let y := plainGet Ext.plain x.addr s; (.reg y.1 0, y.2)
    | some r =>
      let sleep := decide (3 ≤ s.valeRung v)
      match x.write with
      | some w => (.reg 0 (writeStatus x.port x.armed sleep r w s), writeExec Ext.plain x.port x.armed sleep r w s)
      | none => let y := wordRead x.port r s; (.reg y.1 0, y.2)

/-- A command in the vale: CMD_RSP 0 accepted, 1 refused, 2 busy. The host die has put a fence in force with its own
effects; the vale completes them while the fence stands. -/
def valeCmd (v : Nat) (c : ValeCmd) (s : State) : Reply × State :=
  match c with
  | .surv op l _ => let x := valeSurv op (portOf v l) s; (.cmd x.1, x.2)
  | .assay i start => let x := valeAssay i start s; (.cmd x.1, x.2)
  | .selfTest _ => (.cmd 0, s)
  | .fence b => (.cmd 0, if s.fencedProper b then fenceEffects b s else s)
  | .release b => (.cmd 0, valeResume b s)

/-- A rung asked of the vale: its own rung or one above it ends an exchange; else its clients answer, and trunks that must
sleep ask their peers (R242; 19_power R407, R409). -/
def valeRungAsk (v rung : Nat) (s : State) : Reply × State :=
  if rung ≤ s.valeRung v then (.rung rung 0 31 0, valeRelease v s)
  else
    let s := s.modPass v fun x => { x with rungDelay := none, rungAns := none }
    let a := valeAnswer v rung s
    let c := answerCode a
    let s := s.modPass v fun x => { x with shadowBad := 0 }
    let s := match a.2 with
      | .accept => valeAccept v rung s
      | .refuse _ => s
      | .delay => [2 * v, 2 * v + 1].foldl (fun b t => trkSleepAsk t rung b)
          (s.modPass v fun x => { x with rungDelay := some rung })
    (.rung rung c.1 c.2.1 c.2.2, s)

/-- The vale executes a request of the host die. -/
def bodyExec (v : Nat) (b : HostBody) (s : State) : Reply × State :=
  match b with
  | .reg x => valeReg v x s
  | .cmd c => valeCmd v c s
  | .rung r => valeRungAsk v r s
  | .wake => (.ack, s)

/-- TYPE of a reply. -/
def replyType (b : HostBody) : Nat :=
  match b with
  | .reg x => if x.write.isSome then 0x13 else 0x12
  | .cmd _ => 0x51
  | .rung _ => 0x61
  | .wake => 0x02

/-- The vale executes the request of a SEQ, keeps its reply and sends it. -/
def valeExec (v seq : Nat) (b : HostBody) (s : State) : State :=
  let x := bodyExec v b s
  let s := cachePut v seq x.1 x.2
  (s.modPass v fun y => { y with rx := (seq + 1) % 256 }).send (.tally v (replyType b) seq)

/-- Held requests whose turn has come are executed. -/
def valeDrain (v : Nat) : Nat → State → State
  | 0, s => s
  | n + 1, s =>
    match (s.pas v).held.find? fun e => e.1 = (s.pas v).rx with
    | some e => valeDrain v n (valeExec v e.1 e.2 (s.modPass v fun x => { x with held := x.held.filter fun h => h.1 ≠ e.1 }))
    | none => s

/-- A request of the host die arrives at its powered vale: executed in SEQ order, once for each SEQ; one ahead of a gap is
held, a duplicate is answered from the cache (R236). -/
def valeArrive (v seq : Nat) (kind : HostBody → Bool) (s : State) : State :=
  match hostFind v seq s with
  | none => s
  | some r =>
    if !kind r.body || !(s.pas v).powered then s
    else
      let d := dist 8 seq (s.pas v).rx
      if d = 0 then valeDrain v 16 (valeExec v seq r.body s)
      else if d < 128 then
        s.modPass v fun x => { x with held := if x.held.any (fun h => h.1 = seq) then x.held else x.held ++ [(seq, r.body)] }
      else if (cacheGet v seq s).isSome then s.send (.tally v (replyType r.body) seq)
      else s

/-- The request is a register access, a read or a write. -/
def isReg (wr : Bool) (b : HostBody) : Bool := match b with | .reg x => x.write.isSome == wr | _ => false

/-- The request is a Surveyor command. -/
def isSurv (op : Nat) (b : HostBody) : Bool := match b with | .cmd (.surv o _ _) => decide (o = op) | _ => false

/-- REG_RD_REQ: 01_architecture R19. -/
def execRegRdReq (v : Fin 4) (seq : BitVec 8) (s : State) : Host.Outcome State Fault Refusal :=
  done (valeArrive v seq.toNat (isReg false) s)

/-- REG_WR_REQ: 01_architecture R19. -/
def execRegWrReq (v : Fin 4) (seq : BitVec 8) (s : State) : Host.Outcome State Fault Refusal :=
  done (valeArrive v seq.toNat (isReg true) s)

/-- CMD with OP pass (15_surveyor R340). -/
def execCmdSurveyPass (v : Fin 4) (seq : BitVec 8) (s : State) : Host.Outcome State Fault Refusal :=
  done (valeArrive v seq.toNat (isSurv 0) s)

/-- CMD with OP pulse (15_surveyor R335, R340). -/
def execCmdSurveyPulse (v : Fin 4) (seq : BitVec 8) (s : State) : Host.Outcome State Fault Refusal :=
  done (valeArrive v seq.toNat (isSurv 1) s)

/-- CMD with OP loop measurement only (15_surveyor R340). -/
def execCmdSurveyLoop (v : Fin 4) (seq : BitVec 8) (s : State) : Host.Outcome State Fault Refusal :=
  done (valeArrive v seq.toNat (isSurv 2) s)

/-- CMD with OP abort (15_surveyor R340). -/
def execCmdSurveyAbort (v : Fin 4) (seq : BitVec 8) (s : State) : Host.Outcome State Fault Refusal :=
  done (valeArrive v seq.toNat (isSurv 3) s)

/-- CMD with OP arm capture (15_surveyor R340, R341). -/
def execCmdSurveyArmCapture (v : Fin 4) (seq : BitVec 8) (s : State) : Host.Outcome State Fault Refusal :=
  done (valeArrive v seq.toNat (isSurv 4) s)

/-- CMD to the Assayer's agent (16_assayer R348). -/
def execCmdAssayerAgent (v : Fin 4) (seq : BitVec 8) (s : State) : Host.Outcome State Fault Refusal :=
  done (valeArrive v seq.toNat (fun b => match b with | .cmd (.assay _ _) => true | _ => false) s)

/-- CMD of a self-test (02_startup_modes_selftest R48). -/
def execCmdSelfTest (v : Fin 4) (seq : BitVec 8) (s : State) : Host.Outcome State Fault Refusal :=
  done (valeArrive v seq.toNat (fun b => match b with | .cmd (.selfTest _) => true | _ => false) s)

/-- CMD of a fence (01_architecture R31). -/
def execCmdFence (v : Fin 4) (seq : BitVec 8) (s : State) : Host.Outcome State Fault Refusal :=
  done (valeArrive v seq.toNat (fun b => match b with | .cmd (.fence _) => true | _ => false) s)

/-- CMD of a release (01_architecture R32). -/
def execCmdRelease (v : Fin 4) (seq : BitVec 8) (s : State) : Host.Outcome State Fault Refusal :=
  done (valeArrive v seq.toNat (fun b => match b with | .cmd (.release _) => true | _ => false) s)

/-- RUNG_REQ: 19_power R407. -/
def execRungReq (v : Fin 4) (seq : BitVec 8) (s : State) : Host.Outcome State Fault Refusal :=
  done (valeArrive v seq.toNat (fun b => match b with | .rung _ => true | _ => false) s)

/-! ## Replies to the host die -/

/-- A command that the vale turns away: a calibration that did not start stays due. -/
def cmdRefused (c : ValeCmd) (s : State) : State :=
  match c with
  | .assay i true => if itemState i s = 3 then calOff i (busySet i false (itemSet i 2 s)) else s
  | _ => s

/-- CMD_RSP: the vale's answer to a command reaches the host die (R234). -/
def execCmdRsp (v : Fin 4) (seq : BitVec 8) (s : State) : Host.Outcome State Fault Refusal :=
  done (match hostFind v seq.toNat s, cacheGet v seq.toNat s with
    | some r, some (.cmd code) =>
      let s := hostDrop v seq.toNat (hostGot v s)
      match r.body with
      | .cmd c => if code = 0 then s else cmdRefused c s
      | _ => s
    | _, _ => s)

/-- RUNG_RSP: the vale's answer reaches the power manager (19_power R407). -/
def execRungRsp (v : Fin 4) (seq : BitVec 8) (s : State) : Host.Outcome State Fault Refusal :=
  done (match hostFind v seq.toNat s, cacheGet v seq.toNat s with
    | some _, some (.rung rung code l reason) =>
      valeAnswered v rung code l reason (hostDrop v seq.toNat (hostGot v s))
    | _, _ => s)

/-! ## Requests of the vale -/

/-- The event register's port. -/
def evtPort (offset : Nat) : Nat :=
  if offset < 0x300000 then (offset - 0x200000) / 0x10000 else 8 + (offset - 0x300000) / 0x1000

/-- The offset of a port's event register. -/
def evtOffset (p : Nat) : Nat :=
  ((fieldAt (if p < 8 then R.TRK_LINK_EVT_LINK_UP p else R.DRP_EVT_STRANGER (p - 8))).map RegAt.addr).getD 0

/-- An error of a vale is recorded under its source; LOST sets the source's bit (18_watch_faults R388). -/
def faultTake (src cls : Nat) (lost : Bool) (kind detail : Nat) (s : State) : State :=
  let s := if lost then
      s.wr (R.WATCH_LOST_LOST (src / 32)) (setBit (s.rd (R.WATCH_LOST_LOST (src / 32))) (src % 32) true)
    else s
  if cls = 0 then s else watchError src cls kind detail s

/-- A survey result's notice frame (15_surveyor R342). -/
def survNotice (v op l : Nat) (res : List Int) (s : State) : State :=
  let n := fun (i : Nat) => (res.getD i 0).toNat
  let r := n 0 % 65536 * 2 ^ 68 + n 1 % 65536 * 2 ^ 52 + n 2 % 32 * 2 ^ 47 + n 3 % 8 * 2 ^ 44
  let body := [BitVec.ofNat 8 (portOf v l), BitVec.ofNat 8 op] ++ octetsOf 11 (r * 16) ++ timeOctets s
  deviceFrame (4512 + v) 0x7F (noticeFrame body) s

/-- The first command that has ended and has not been taken is reported. -/
def doneTake (v : Nat) (s : State) : State :=
  match (s.pas v).dones.find? fun d => !d.taken with
  | none => s
  | some d =>
    let s := s.modPass v fun x => { x with
      dones := x.dones.map fun e => if e = d then { e with taken := true } else e }
    match d.cmd with
    | .surv op l _ => if s.bit R.SURV_CTL_NOTICE_EN then survNotice v op l d.result s else s
    | _ => s

/-- The host die executes a request of the vale. -/
def upExec (v : Nat) (b : UpBody) (s : State) : State :=
  match b with
  | .fault src cls lost kind detail => faultTake src cls lost kind detail s
  | .evt o => { s with evtRep := tset 0 s.evtRep (evtPort o) (portEvts (evtPort o) s) }
  | .done => doneTake v s
  | .rungDone =>
    match (s.pas v).rungAns with
    | some (rung, code, l, reason) => valeAnswered v rung code l reason s
    | none => s
  | .wake _ _ =>
    match (s.pas v).wakes with
    | code :: l => wakeDetect code (s.modPass v fun x => { x with wakes := l })
    | [] => s
  | .dreq => s

/-- The reply to a request of the vale: TIME_DRSP, else ACK. -/
def upReply (b : UpBody) : Nat := match b with | .dreq => 0x32 | _ => 0x02

/-- The host die takes the request of a SEQ and answers it. -/
def upTake (v seq : Nat) (b : UpBody) (s : State) : State :=
  let s := (upExec v b s).modPass v fun x =>
    { x with upRx := (seq + 1) % 256, upCache := (seq :: x.upCache).take 16 }
  hostSend v (upReply b) seq s

/-- Held requests of the vale whose turn has come. -/
def upDrain (v : Nat) : Nat → State → State
  | 0, s => s
  | n + 1, s =>
    match (s.pas v).upHeld.find? fun e => e.1 = (s.pas v).upRx with
    | some e => upDrain v n (upTake v e.1 e.2 (s.modPass v fun x => { x with upHeld := x.upHeld.filter fun h => h.1 ≠ e.1 }))
    | none => s

/-- A request of a powered vale arrives: taken in SEQ order, once for each SEQ; a duplicate is counted and answered
again (R236). -/
def upArrive (v seq : Nat) (b : UpBody) (s : State) : State :=
  if !(s.pas v).powered then s
  else
    let s := hostGot v s
    let d := dist 8 seq (s.pas v).upRx
    if d = 0 then upDrain v 16 (upTake v seq b s)
    else if d < 128 then
      s.modPass v fun x => { x with upHeld := if x.upHeld.any (fun h => h.1 = seq) then x.upHeld else x.upHeld ++ [(seq, b)] }
    else
      let s := tallyCnt v 5 s
      if (s.pas v).upCache.contains seq then hostSend v (upReply b) seq s else s

/-- FAULT: 18_watch_faults R384, R388; 10_pass R237. -/
def execFault (v : Fin 4) (seq : BitVec 8) (src : Fin 512) (cls : BitVec 2) (lost : Bool) (kind : BitVec 8) (detail : Word)
    (s : State) : Host.Outcome State Fault Refusal :=
  done (upArrive v seq.toNat (.fault src cls.toNat lost kind.toNat detail.toNat) s)

/-- EVT: the bits set and enabled of a port's event register reach the interrupt vectors (18_watch_faults R396). -/
def execEvt (v : Fin 4) (seq : BitVec 8) (l : Fin 18) (s : State) : Host.Outcome State Fault Refusal :=
  done (upArrive v seq.toNat (.evt (evtOffset (portOf v l))) s)

/-- CMD_DONE: 15_surveyor R340, R342. -/
def execCmdDone (v : Fin 4) (seq : BitVec 8) (s : State) : Host.Outcome State Fault Refusal :=
  done (upArrive v seq.toNat .done s)

/-- RUNG_DONE: the final answer after a delay (19_power R407). -/
def execRungDone (v : Fin 4) (seq : BitVec 8) (s : State) : Host.Outcome State Fault Refusal :=
  done (upArrive v seq.toNat .rungDone s)

/-- WAKE: from the host die to a vale in beacon mode, or from a vale to the host die (19_power R411). -/
def execWake (v : Fin 4) (down : Bool) (seq : BitVec 8) (s : State) : Host.Outcome State Fault Refusal :=
  done (if down then valeArrive v seq.toNat (fun b => match b with | .wake => true | _ => false) s
    else upArrive v seq.toNat (.wake 0 31) s)

/-- TIME_DREQ: the host die takes T4 as the tally arrives and answers TIME_DRSP (R243). -/
def execTimeDreq (v : Fin 4) (seq : BitVec 8) (t4 : Int) (s : State) : Host.Outcome State Fault Refusal :=
  done (if (s.pas v).t3.isSome && (s.pas v).t4.isNone then
      upArrive v seq.toNat .dreq (s.modPass v fun x => { x with t4 := some t4 })
    else upArrive v seq.toNat .dreq s)

/-! ## Acknowledgements (R234, R237) -/

/-- An ACK reaches the vale: what it held for the request is done. -/
def ackDown (v type : Nat) (s : State) : State :=
  if type = 0x52 then s.modPass v fun x => { x with dones := (x.dones.filter fun d => d.taken).drop 1 ++ x.dones.filter fun d => !d.taken }
  else if type = 0x62 then s.modPass v fun x => { x with rungAns := none }
  else s

/-- ACK: a request of the named TYPE is acknowledged. The host die requests WAKE with an ACK for reply. -/
def execAck (v : Fin 4) (down : Bool) (type : BitVec 8) (seq : BitVec 8) (s : State) : Host.Outcome State Fault Refusal :=
  done (if down then (if (s.pas v).upCache.contains seq.toNat then ackDown v type.toNat s else s)
    else match hostFind v seq.toNat s, cacheGet v seq.toNat s with
      | some _, some .ack => hostDrop v seq.toNat (hostGot v s)
      | _, _ => s)

/-! ## Giving up and gaps (R236) -/

/-- What a request that is given up leaves behind: a register access is answered as one without a reply, and a calibration
that was asked for stays due. -/
def givenUp (v : Nat) (b : HostBody) (s : State) : State :=
  match b with
  | .reg x => if (inFlight v s).contains x then accTimeout v x s else s
  | .cmd c => cmdRefused c s
  | _ => s

/-- TALLY_GIVE_UP: a request of the host die is given up. -/
def execTallyGiveUp (v : Fin 4) (seq : BitVec 8) (s : State) : Host.Outcome State Fault Refusal :=
  done (match hostFind v seq.toNat s with
    | none => s
    | some r => givenUp v r.body (hostDrop v seq.toNat ((tallyCnt v 4 s).evt (R.PASS_EVT_GIVEN_UP v))))

/-- The held SEQ that comes next after a SEQ. -/
def nextHeld (rx : Nat) (l : List Nat) : Option Nat :=
  l.foldl (fun b n => match b with
    | some m => if dist 8 n rx < dist 8 m rx then some n else b
    | none => some n) none

/-- TALLY_GAP_SKIP: the missing SEQs of a direction count as given up, and the held requests follow in order. -/
def execTallyGapSkip (v : Fin 4) (down : Bool) (s : State) : Host.Outcome State Fault Refusal :=
  done (if down then
      match nextHeld (s.pas v).rx ((s.pas v).held.map fun h => h.1) with
      | some n => valeDrain v 16 ((s.evt (R.PASS_EVT_SKIPPED v)).modPass v fun x => { x with rx := n })
      | none => s
    else
      match nextHeld (s.pas v).upRx ((s.pas v).upHeld.map fun h => h.1) with
      | some n =>
        let s := (s.evt (R.PASS_EVT_SKIPPED v)).sat (R.PASS_TALLY_CNT_COUNT v 6) (dist 8 n (s.pas v).upRx)
        upDrain v 16 (s.modPass v fun x => { x with upRx := n })
      | none => s)

end Sys2Proof.Machine
end

