-- ==== Sys2Proof/Machine/Dispatch.lean ====
section
/-! DEFINITION. One arm for each command: a direct call of its meaning. -/

namespace Sys2Proof.Machine

/-- The effect of a command on everything but the queue. -/
def exec (i : Instr) (s : State) : Host.Outcome State Fault Refusal :=
  match i with
  | .coldReset pin => Sys2Proof.Machine.execColdReset pin s
  | .stewardWatchdogExpiry => Sys2Proof.Machine.execStewardWatchdogExpiry s
  | .bootRomStart active => Sys2Proof.Machine.execBootRomStart active s
  | .hostSelftestDone fails => Sys2Proof.Machine.execHostSelftestDone fails s
  | .firmwareVerifyDone sig1 sig2 storeOk => Sys2Proof.Machine.execFirmwareVerifyDone sig1 sig2 storeOk s
  | .valeSelftestDone fails => Sys2Proof.Machine.execValeSelftestDone fails s
  | .warpSelect a b g => Sys2Proof.Machine.execWarpSelect a b g s
  | .warpApplyDone => Sys2Proof.Machine.execWarpApplyDone s
  | .stwResetWarm p => Sys2Proof.Machine.execStwResetWarm p s
  | .stwModeMaint p => Sys2Proof.Machine.execStwModeMaint p s
  | .stwModeExitMaint p => Sys2Proof.Machine.execStwModeExitMaint p s
  | .stwScanReq p => Sys2Proof.Machine.execStwScanReq p s
  | .scanWipeDone ok => Sys2Proof.Machine.execScanWipeDone ok s
  | .stwSelftestStart p kind index => Sys2Proof.Machine.execStwSelftestStart p kind index s
  | .selftestDone res => Sys2Proof.Machine.execSelftestDone res s
  | .stwRelease p kind index => Sys2Proof.Machine.execStwRelease p kind index s
  | .warpLoadBegin p slot live => Sys2Proof.Machine.execWarpLoadBegin p slot live s
  | .warpLoadData p v => Sys2Proof.Machine.execWarpLoadData p v s
  | .warpLoadCommit p v => Sys2Proof.Machine.execWarpLoadCommit p v s
  | .warpLoadAbort p => Sys2Proof.Machine.execWarpLoadAbort p s
  | .warpStagingTimeout => Sys2Proof.Machine.execWarpStagingTimeout s
  | .warpCommitDone => Sys2Proof.Machine.execWarpCommitDone s
  | .warpClampDataRead p => Sys2Proof.Machine.execWarpClampDataRead p s
  | .registerWrite p addr be v => Sys2Proof.Machine.execRegisterWrite p addr be v s
  | .glbKeygateWrite p v => Sys2Proof.Machine.execGlbKeygateWrite p v s
  | .keygateArmExpiry p => Sys2Proof.Machine.execKeygateArmExpiry p s
  | .registerReadClear p addr => Sys2Proof.Machine.execRegisterReadClear p addr s
  | .wideCounterRead p addr => Sys2Proof.Machine.execWideCounterRead p addr s
  | .votedFieldScrub => Sys2Proof.Machine.execVotedFieldScrub s
  | .valeAccessTimeout v => Sys2Proof.Machine.execValeAccessTimeout v s
  | .pcieMemoryRead addr dws => Sys2Proof.Machine.execPcieMemoryRead addr dws s
  | .pcieMemoryWrite addr data poisoned => Sys2Proof.Machine.execPcieMemoryWrite addr data poisoned s
  | .pcieConfigRequest r => Sys2Proof.Machine.execPcieConfigRequest r s
  | .pcieUnsupportedRequest => Sys2Proof.Machine.execPcieUnsupportedRequest s
  | .pciePerst => Sys2Proof.Machine.execPciePerst s
  | .mdioAddressFrame prtad devad addr => Sys2Proof.Machine.execMdioAddressFrame prtad devad addr s
  | .mdioReadFrame prtad devad => Sys2Proof.Machine.execMdioReadFrame prtad devad s
  | .mdioPostReadIncrement prtad devad => Sys2Proof.Machine.execMdioPostReadIncrement prtad devad s
  | .mdioWriteFrame prtad devad data => Sys2Proof.Machine.execMdioWriteFrame prtad devad data s
  | .mdioPrefetchComplete => Sys2Proof.Machine.execMdioPrefetchComplete s
  | .spiWriteFrame addr v => Sys2Proof.Machine.execSpiWriteFrame addr v s
  | .spiReadFrame addr => Sys2Proof.Machine.execSpiReadFrame addr s
  | .spiFrameError => Sys2Proof.Machine.execSpiFrameError s
  | .mgmtRecovBegin p slot => Sys2Proof.Machine.execMgmtRecovBegin p slot s
  | .mgmtRecovData p v => Sys2Proof.Machine.execMgmtRecovData p v s
  | .mgmtRecovCommit p sig => Sys2Proof.Machine.execMgmtRecovCommit p sig s
  | .recoveryCommitDone ok => Sys2Proof.Machine.execRecoveryCommitDone ok s
  | .trkEnableWrite p t v => Sys2Proof.Machine.execTrkEnableWrite p t v s
  | .trkModeWrite p t m => Sys2Proof.Machine.execTrkModeWrite p t m s
  | .trkRestartAn p t => Sys2Proof.Machine.execTrkRestartAn p t s
  | .trkRetrain p t => Sys2Proof.Machine.execTrkRetrain p t s
  | .trkTestWrite p t v => Sys2Proof.Machine.execTrkTestWrite p t v s
  | .anComplete t r => Sys2Proof.Machine.execAnComplete t r s
  | .trainingStateTimer t => Sys2Proof.Machine.execTrainingStateTimer t s
  | .trainingFrameReceive t info m => Sys2Proof.Machine.execTrainingFrameReceive t info m s
  | .twinCountdownAlign t => Sys2Proof.Machine.execTwinCountdownAlign t s
  | .trainingLimitExpiry t => Sys2Proof.Machine.execTrainingLimitExpiry t s
  | .infofieldLoss t => Sys2Proof.Machine.execInfofieldLoss t s
  | .failHoldElapsed t => Sys2Proof.Machine.execFailHoldElapsed t s
  | .stdLinkUp t => Sys2Proof.Machine.execStdLinkUp t s
  | .stdLinkFail t los => Sys2Proof.Machine.execStdLinkFail t los s
  | .crCodewordReceive t st blk margin lpi part frames adapt => Sys2Proof.Machine.execCrCodewordReceive t st blk margin lpi part frames adapt s
  | .amLoss t => Sys2Proof.Machine.execAmLoss t s
  | .uncorrectableBurst t => Sys2Proof.Machine.execUncorrectableBurst t s
  | .lowMargin t => Sys2Proof.Machine.execLowMargin t s
  | .lossOfSignal t => Sys2Proof.Machine.execLossOfSignal t s
  | .fastRetrainTimeout t => Sys2Proof.Machine.execFastRetrainTimeout t s
  | .linkChannelTimeout t => Sys2Proof.Machine.execLinkChannelTimeout t s
  | .sleepReq t seq => Sys2Proof.Machine.execSleepReq t seq s
  | .sleepAck t seq => Sys2Proof.Machine.execSleepAck t seq s
  | .sleepNak t seq => Sys2Proof.Machine.execSleepNak t seq s
  | .lpiIdleExpiry t => Sys2Proof.Machine.execLpiIdleExpiry t s
  | .lpiQuietExpiry t => Sys2Proof.Machine.execLpiQuietExpiry t s
  | .wakeToneDetect t => Sys2Proof.Machine.execWakeToneDetect t s
  | .wakeToneBurst t => Sys2Proof.Machine.execWakeToneBurst t s
  | .wakeJoinTimeout t => Sys2Proof.Machine.execWakeJoinTimeout t s
  | .wakeNoAnswer t => Sys2Proof.Machine.execWakeNoAnswer t s
  | .frameTransmitComplete p stamp => Sys2Proof.Machine.execFrameTransmitComplete p stamp s
  | .surveyResultList t l => Sys2Proof.Machine.execSurveyResultList t l s
  | .residualSearchBlock t delay levelHdb levels => Sys2Proof.Machine.execResidualSearchBlock t delay levelHdb levels s
  | .placementCompute t => Sys2Proof.Machine.execPlacementCompute t s
  | .windowSlideStep t w => Sys2Proof.Machine.execWindowSlideStep t w s
  | .windowFadeStep t w levelHdb => Sys2Proof.Machine.execWindowFadeStep t w levelHdb s
  | .windowFadeLimit t w => Sys2Proof.Machine.execWindowFadeLimit t w s
  | .windowIncomingEnd t w levelHdb => Sys2Proof.Machine.execWindowIncomingEnd t w levelHdb s
  | .windowRecentre t w => Sys2Proof.Machine.execWindowRecentre t w s
  | .ecWinStartWrite p t w start => Sys2Proof.Machine.execEcWinStartWrite p t w start s
  | .ecAutoPlaceOff p t => Sys2Proof.Machine.execEcAutoPlaceOff p t s
  | .eqCursorWrite p t cursor => Sys2Proof.Machine.execEqCursorWrite p t cursor s
  | .eqFfeEnWrite p t v => Sys2Proof.Machine.execEqFfeEnWrite p t v s
  | .eqDfeEnWrite p t v => Sys2Proof.Machine.execEqDfeEnWrite p t v s
  | .impulseDetect t => Sys2Proof.Machine.execImpulseDetect t s
  | .impulseGuardEnd t => Sys2Proof.Machine.execImpulseGuardEnd t s
  | .gainLoopCheck t errQdb => Sys2Proof.Machine.execGainLoopCheck t errQdb s
  | .convergenceEval t ec ffe dfe timing => Sys2Proof.Machine.execConvergenceEval t ec ffe dfe timing s
  | .slicerMarginUpdate t upper middle lower => Sys2Proof.Machine.execSlicerMarginUpdate t upper middle lower s
  | .fecSecondTick t => Sys2Proof.Machine.execFecSecondTick t s
  | .coefSnap p t => Sys2Proof.Machine.execCoefSnap p t s
  | .coefDataRead p t => Sys2Proof.Machine.execCoefDataRead p t s
  | .twinMessageEgress n b => Sys2Proof.Machine.execTwinMessageEgress n b s
  | .twinPositionLaunch n b => Sys2Proof.Machine.execTwinPositionLaunch n b s
  | .twinCopyArrival n b c arrivalNs => Sys2Proof.Machine.execTwinCopyArrival n b c arrivalNs s
  | .twinHoldExpiry n => Sys2Proof.Machine.execTwinHoldExpiry n s
  | .hello t m => Sys2Proof.Machine.execHello t m s
  | .twinSoloSwitch t => Sys2Proof.Machine.execTwinSoloSwitch t s
  | .twinVerifyTimeout t => Sys2Proof.Machine.execTwinVerifyTimeout t s
  | .qwHostRequest p t => Sys2Proof.Machine.execQwHostRequest p t s
  | .qwDeviceRequest t p => Sys2Proof.Machine.execQwDeviceRequest t p s
  | .qwReq t seq payload => Sys2Proof.Machine.execQwReq t seq payload s
  | .qwAck t seq payload => Sys2Proof.Machine.execQwAck t seq payload s
  | .qwNak t seq payload => Sys2Proof.Machine.execQwNak t seq payload s
  | .qwCancel t payload => Sys2Proof.Machine.execQwCancel t payload s
  | .qwRetry t => Sys2Proof.Machine.execQwRetry t s
  | .qwWindowOpen t => Sys2Proof.Machine.execQwWindowOpen t s
  | .qwWindowClose t => Sys2Proof.Machine.execQwWindowClose t s
  | .qwAmResumeTimeout t => Sys2Proof.Machine.execQwAmResumeTimeout t s
  | .drpEnableWrite p d v => Sys2Proof.Machine.execDrpEnableWrite p d v s
  | .drpModeWrite p d v => Sys2Proof.Machine.execDrpModeWrite p d v s
  | .drpRestart p d => Sys2Proof.Machine.execDrpRestart p d s
  | .drpTestWrite p d v => Sys2Proof.Machine.execDrpTestWrite p d v s
  | .drpCycCtlWrite p d v => Sys2Proof.Machine.execDrpCycCtlWrite p d v s
  | .dropSettleElapsed d => Sys2Proof.Machine.execDropSettleElapsed d s
  | .dropBeacon d => Sys2Proof.Machine.execDropBeacon d s
  | .opportunityTimeout d => Sys2Proof.Machine.execOpportunityTimeout d s
  | .dropFrameReceive d r more => Sys2Proof.Machine.execDropFrameReceive d r more s
  | .dropCollision d => Sys2Proof.Machine.execDropCollision d s
  | .dropJabber d => Sys2Proof.Machine.execDropJabber d s
  | .slotReadmit d slot still => Sys2Proof.Machine.execSlotReadmit d slot still s
  | .dropJamEntry d => Sys2Proof.Machine.execDropJamEntry d s
  | .dropJamEnd d => Sys2Proof.Machine.execDropJamEnd d s
  | .dropTxStuck d => Sys2Proof.Machine.execDropTxStuck d s
  | .deferralStart d => Sys2Proof.Machine.execDeferralStart d s
  | .deferralEnd d => Sys2Proof.Machine.execDeferralEnd d s
  | .dropEnergyWake d => Sys2Proof.Machine.execDropEnergyWake d s
  | .detectorRearm d => Sys2Proof.Machine.execDetectorRearm d s
  | .ldCarrierDetect d => Sys2Proof.Machine.execLdCarrierDetect d s
  | .ldSyncTimeout d => Sys2Proof.Machine.execLdSyncTimeout d s
  | .ldHeaderCheck d sync hdr second => Sys2Proof.Machine.execLdHeaderCheck d sync hdr second s
  | .ldBurstEnd d b => Sys2Proof.Machine.execLdBurstEnd d b s
  | .ldLossOfCarrier d => Sys2Proof.Machine.execLdLossOfCarrier d s
  | .ldCaptureArm d => Sys2Proof.Machine.execLdCaptureArm d s
  | .ldCaptureSync d sync b => Sys2Proof.Machine.execLdCaptureSync d sync b s
  | .ldCaptureSearchEnd d => Sys2Proof.Machine.execLdCaptureSearchEnd d s
  | .ldCoefSnap p d => Sys2Proof.Machine.execLdCoefSnap p d s
  | .ldCoefDataRead p d => Sys2Proof.Machine.execLdCoefDataRead p d s
  | .passBlockReceive v down lane blk => Sys2Proof.Machine.execPassBlockReceive v down lane blk s
  | .passLaneLock v down lane => Sys2Proof.Machine.execPassLaneLock v down lane s
  | .passLaneLockLoss v down lane => Sys2Proof.Machine.execPassLaneLockLoss v down lane s
  | .stripingSetChange v down => Sys2Proof.Machine.execStripingSetChange v down s
  | .passRetrain p v => Sys2Proof.Machine.execPassRetrain p v s
  | .passNoLaneTick v => Sys2Proof.Machine.execPassNoLaneTick v s
  | .passIngressFrame v bank clear => Sys2Proof.Machine.execPassIngressFrame v bank clear s
  | .passEgressFrame v => Sys2Proof.Machine.execPassEgressFrame v s
  | .beacon v down => Sys2Proof.Machine.execBeacon v down s
  | .beaconSend v down => Sys2Proof.Machine.execBeaconSend v down s
  | .ack v down type seq => Sys2Proof.Machine.execAck v down type seq s
  | .regRdReq v seq => Sys2Proof.Machine.execRegRdReq v seq s
  | .regWrReq v seq => Sys2Proof.Machine.execRegWrReq v seq s
  | .regRdRsp v seq => Sys2Proof.Machine.execRegRdRsp v seq s
  | .regWrRsp v seq => Sys2Proof.Machine.execRegWrRsp v seq s
  | .credit v ls => Sys2Proof.Machine.execCredit v ls s
  | .creditReport v ls => Sys2Proof.Machine.execCreditReport v ls s
  | .lane v down => Sys2Proof.Machine.execLane v down s
  | .laneReport v down => Sys2Proof.Machine.execLaneReport v down s
  | .timeExchangeTick v t1 => Sys2Proof.Machine.execTimeExchangeTick v t1 s
  | .timeSync v t2 t3 => Sys2Proof.Machine.execTimeSync v t2 t3 s
  | .timeDreq v seq t4 => Sys2Proof.Machine.execTimeDreq v seq t4 s
  | .timeDrsp v => Sys2Proof.Machine.execTimeDrsp v s
  | .timeDreqAbandon v => Sys2Proof.Machine.execTimeDreqAbandon v s
  | .fault v seq src cls lost kind detail => Sys2Proof.Machine.execFault v seq src cls lost kind detail s
  | .evt v seq l => Sys2Proof.Machine.execEvt v seq l s
  | .cmdSurveyPass v seq => Sys2Proof.Machine.execCmdSurveyPass v seq s
  | .cmdSurveyPulse v seq => Sys2Proof.Machine.execCmdSurveyPulse v seq s
  | .cmdSurveyLoop v seq => Sys2Proof.Machine.execCmdSurveyLoop v seq s
  | .cmdSurveyAbort v seq => Sys2Proof.Machine.execCmdSurveyAbort v seq s
  | .cmdSurveyArmCapture v seq => Sys2Proof.Machine.execCmdSurveyArmCapture v seq s
  | .cmdAssayerAgent v seq => Sys2Proof.Machine.execCmdAssayerAgent v seq s
  | .cmdSelfTest v seq => Sys2Proof.Machine.execCmdSelfTest v seq s
  | .cmdFence v seq => Sys2Proof.Machine.execCmdFence v seq s
  | .cmdRelease v seq => Sys2Proof.Machine.execCmdRelease v seq s
  | .cmdRsp v seq => Sys2Proof.Machine.execCmdRsp v seq s
  | .cmdDone v seq => Sys2Proof.Machine.execCmdDone v seq s
  | .rungReq v seq => Sys2Proof.Machine.execRungReq v seq s
  | .rungRsp v seq => Sys2Proof.Machine.execRungRsp v seq s
  | .rungDone v seq => Sys2Proof.Machine.execRungDone v seq s
  | .wake v down seq => Sys2Proof.Machine.execWake v down seq s
  | .tallyResend v seq => Sys2Proof.Machine.execTallyResend v seq s
  | .tallyGiveUp v seq => Sys2Proof.Machine.execTallyGiveUp v seq s
  | .tallyGapSkip v down => Sys2Proof.Machine.execTallyGapSkip v down s
  | .valeTallyResend v => Sys2Proof.Machine.execValeTallyResend v s
  | .tallyLaneUnlock v down => Sys2Proof.Machine.execTallyLaneUnlock v down s
  | .tallyLaneLost v => Sys2Proof.Machine.execTallyLaneLost v s
  | .valePowerFault v => Sys2Proof.Machine.execValePowerFault v s
  | .hostLaneLock n => Sys2Proof.Machine.execHostLaneLock n s
  | .hostLaneLockLoss n => Sys2Proof.Machine.execHostLaneLockLoss n s
  | .hlnRelock p n => Sys2Proof.Machine.execHlnRelock p n s
  | .hlnRateWrite p n rate precode => Sys2Proof.Machine.execHlnRateWrite p n rate precode s
  | .hlnEnableWrite p n v => Sys2Proof.Machine.execHlnEnableWrite p n v s
  | .hostRecordReceive n waybill frame aborted => Sys2Proof.Machine.execHostRecordReceive n waybill frame aborted s
  | .hostLaneSchedule n errs => Sys2Proof.Machine.execHostLaneSchedule n errs s
  | .hostLaneIdleEntry n => Sys2Proof.Machine.execHostLaneIdleEntry n s
  | .pageOutStart => Sys2Proof.Machine.execPageOutStart s
  | .pageOutDone q => Sys2Proof.Machine.execPageOutDone q s
  | .baleFetchRequest q => Sys2Proof.Machine.execBaleFetchRequest q s
  | .baleFetchDone q bad => Sys2Proof.Machine.execBaleFetchDone q bad s
  | .dropRelease d errs => Sys2Proof.Machine.execDropRelease d errs s
  | .trunkRelease t errs => Sys2Proof.Machine.execTrunkRelease t errs s
  | .panicLong => Sys2Proof.Machine.execPanicLong s
  | .paceDue q => Sys2Proof.Machine.execPaceDue q s
  | .millFlush p q => Sys2Proof.Machine.execMillFlush p q s
  | .valeBankScrub v bank f => Sys2Proof.Machine.execValeBankScrub v bank f s
  | .psScrubRead f forced => Sys2Proof.Machine.execPsScrubRead f forced s
  | .granaryRequest cls burst data => Sys2Proof.Machine.execGranaryRequest cls burst data s
  | .granaryPick ch f => Sys2Proof.Machine.execGranaryPick ch f s
  | .granaryRefreshDue ch bank => Sys2Proof.Machine.execGranaryRefreshDue ch bank s
  | .granaryTempPoll high => Sys2Proof.Machine.execGranaryTempPoll high s
  | .granarySelfRefreshEntry => Sys2Proof.Machine.execGranarySelfRefreshEntry s
  | .segmentFillDone seg => Sys2Proof.Machine.execSegmentFillDone seg s
  | .granFreqReq p point => Sys2Proof.Machine.execGranFreqReq p point s
  | .freqChangePanicWait => Sys2Proof.Machine.execFreqChangePanicWait s
  | .freqChangeDone => Sys2Proof.Machine.execFreqChangeDone s
  | .granaryTrainingDone ok => Sys2Proof.Machine.execGranaryTrainingDone ok s
  | .granTrnGo p v => Sys2Proof.Machine.execGranTrnGo p v s
  | .granTrnRunDone beats dq => Sys2Proof.Machine.execGranTrnRunDone beats dq s
  | .granOrderWrite p v => Sys2Proof.Machine.execGranOrderWrite p v s
  | .apertureRead p word f => Sys2Proof.Machine.execApertureRead p word f s
  | .apertureWrite p word v f => Sys2Proof.Machine.execApertureWrite p word v f s
  | .granaryScrubRead f owner => Sys2Proof.Machine.execGranaryScrubRead f owner s
  | .refclkLoss => Sys2Proof.Machine.execRefclkLoss s
  | .timeRefRestore p present => Sys2Proof.Machine.execTimeRefRestore p present s
  | .timeStep p => Sys2Proof.Machine.execTimeStep p s
  | .timeAdjFreqWrite p v => Sys2Proof.Machine.execTimeAdjFreqWrite p v s
  | .timeAdjPhaseWrite p v => Sys2Proof.Machine.execTimeAdjPhaseWrite p v s
  | .ppsInEdge ps => Sys2Proof.Machine.execPpsInEdge ps s
  | .ppsLost => Sys2Proof.Machine.execPpsLost s
  | .ppsOutRise => Sys2Proof.Machine.execPpsOutRise s
  | .ppsOutFall => Sys2Proof.Machine.execPpsOutFall s
  | .surveyPassDue p est => Sys2Proof.Machine.execSurveyPassDue p est s
  | .survStart pt p est => Sys2Proof.Machine.execSurvStart pt p est s
  | .surveyPassDone p peaks cutShort capture => Sys2Proof.Machine.execSurveyPassDone p peaks cutShort capture s
  | .loopClosureStart t => Sys2Proof.Machine.execLoopClosureStart t s
  | .loopClosureEnd t => Sys2Proof.Machine.execLoopClosureEnd t s
  | .loopMeasurementDone t loop => Sys2Proof.Machine.execLoopMeasurementDone t loop s
  | .loopReq t seq payload => Sys2Proof.Machine.execLoopReq t seq payload s
  | .loopAck t seq payload => Sys2Proof.Machine.execLoopAck t seq payload s
  | .loopNak t seq payload => Sys2Proof.Machine.execLoopNak t seq payload s
  | .loopResult t payload => Sys2Proof.Machine.execLoopResult t payload s
  | .contactCarePulseStart t => Sys2Proof.Machine.execContactCarePulseStart t s
  | .contactCarePulseEnd t loop => Sys2Proof.Machine.execContactCarePulseEnd t loop s
  | .loopCompliance t => Sys2Proof.Machine.execLoopCompliance t s
  | .survCcClear p t => Sys2Proof.Machine.execSurvCcClear p t s
  | .survCapFree p idx => Sys2Proof.Machine.execSurvCapFree p idx s
  | .shieldSample t dc ac => Sys2Proof.Machine.execShieldSample t dc ac s
  | .sensorSample host vale power => Sys2Proof.Machine.execSensorSample host vale power s
  | .valeOvertempCut v => Sys2Proof.Machine.execValeOvertempCut v s
  | .assayItemDue n => Sys2Proof.Machine.execAssayItemDue n s
  | .assayRunGo p item => Sys2Proof.Machine.execAssayRunGo p item s
  | .assayAcceptGo p item => Sys2Proof.Machine.execAssayAcceptGo p item s
  | .calibrationStart n calref => Sys2Proof.Machine.execCalibrationStart n calref s
  | .calrefRecheck calref => Sys2Proof.Machine.execCalrefRecheck calref s
  | .calibrationDone n res temp => Sys2Proof.Machine.execCalibrationDone n res temp s
  | .calRecordWritten n ok => Sys2Proof.Machine.execCalRecordWritten n ok s
  | .calSlewStep n => Sys2Proof.Machine.execCalSlewStep n s
  | .secLcReq p target confirm => Sys2Proof.Machine.execSecLcReq p target confirm s
  | .tamperDetect src active => Sys2Proof.Machine.execTamperDetect src active s
  | .secGenkey p => Sys2Proof.Machine.execSecGenkey p s
  | .genkeyDone pub => Sys2Proof.Machine.execGenkeyDone pub s
  | .secLoadBegin p target => Sys2Proof.Machine.execSecLoadBegin p target s
  | .secLoadData p v => Sys2Proof.Machine.execSecLoadData p v s
  | .secLoadCommit p => Sys2Proof.Machine.execSecLoadCommit p s
  | .secLoadAbort p => Sys2Proof.Machine.execSecLoadAbort p s
  | .secLoadTimeout => Sys2Proof.Machine.execSecLoadTimeout s
  | .bundleCommitDone v => Sys2Proof.Machine.execBundleCommitDone v s
  | .firmwareCommitDone sig ok => Sys2Proof.Machine.execFirmwareCommitDone sig ok s
  | .secRollFwd p => Sys2Proof.Machine.execSecRollFwd p s
  | .secAttGo p => Sys2Proof.Machine.execSecAttGo p s
  | .attestationDone => Sys2Proof.Machine.execAttestationDone s
  | .mkaFrameReceive e peer installed used => Sys2Proof.Machine.execMkaFrameReceive e peer installed used s
  | .mkaHelloTick => Sys2Proof.Machine.execMkaHelloTick s
  | .mkaLifeExpiry e peer => Sys2Proof.Machine.execMkaLifeExpiry e peer s
  | .msecRotate p e => Sys2Proof.Machine.execMsecRotate p e s
  | .sakLifetimeExpiry e => Sys2Proof.Machine.execSakLifetimeExpiry e s
  | .sakRotationDone e => Sys2Proof.Machine.execSakRotationDone e s
  | .oldSaRetire e => Sys2Proof.Machine.execOldSaRetire e s
  | .watchErrorRecord src kind detail => Sys2Proof.Machine.execWatchErrorRecord src kind detail s
  | .graceExpiry src => Sys2Proof.Machine.execGraceExpiry src s
  | .watchSlotRelease p src => Sys2Proof.Machine.execWatchSlotRelease p src s
  | .fltHostWidthEnd => Sys2Proof.Machine.execFltHostWidthEnd s
  | .watchHostClr p => Sys2Proof.Machine.execWatchHostClr p s
  | .watchIrqRearm p bits => Sys2Proof.Machine.execWatchIrqRearm p bits s
  | .watchLogSelect p seq => Sys2Proof.Machine.execWatchLogSelect p seq s
  | .archiveSelect p index => Sys2Proof.Machine.execArchiveSelect p index s
  | .archiveReady => Sys2Proof.Machine.execArchiveReady s
  | .archiveCopy => Sys2Proof.Machine.execArchiveCopy s
  | .pwrLowestWrite p c rung => Sys2Proof.Machine.execPwrLowestWrite p c rung s
  | .pwrNightEnWrite p v => Sys2Proof.Machine.execPwrNightEnWrite p v s
  | .rungEntryAttempt dom => Sys2Proof.Machine.execRungEntryAttempt dom s
  | .rungEntryDone dom => Sys2Proof.Machine.execRungEntryDone dom s
  | .rungDelayTimeout dom => Sys2Proof.Machine.execRungDelayTimeout dom s
  | .rungRetry dom => Sys2Proof.Machine.execRungRetry dom s
  | .rungClimbDone dom => Sys2Proof.Machine.execRungClimbDone dom s
  | .wakeSourceDetect code => Sys2Proof.Machine.execWakeSourceDetect code s
  | .wakeNAssert => Sys2Proof.Machine.execWakeNAssert s
  | .wakeNRearm => Sys2Proof.Machine.execWakeNRearm s
  | .pwrTimerStart p periodic => Sys2Proof.Machine.execPwrTimerStart p periodic s
  | .pwrTimerExpiry => Sys2Proof.Machine.execPwrTimerExpiry s
  | .wakeHoldEnd => Sys2Proof.Machine.execWakeHoldEnd s
  | .vinLow => Sys2Proof.Machine.execVinLow s
  | .tallyLaneLock v down => Sys2Proof.Machine.execTallyLaneLock v down s
  | .anPageReceive t => Sys2Proof.Machine.execAnPageReceive t s
  | .surveyQuietPassStart t => Sys2Proof.Machine.execSurveyQuietPassStart t s
  | .wakeToneAnswerEnd t => Sys2Proof.Machine.execWakeToneAnswerEnd t s
  | .pcieLinkUp up speed width => Sys2Proof.Machine.execPcieLinkUp up speed width s
  | .twinGridPosition n => Sys2Proof.Machine.execTwinGridPosition n s
  | .shaperBucketRefill p c => Sys2Proof.Machine.execShaperBucketRefill p c s
  | .openRowIdleClose ch bank => Sys2Proof.Machine.execOpenRowIdleClose ch bank s
  | .contactCareDayHeldEnd t => Sys2Proof.Machine.execContactCareDayHeldEnd t s
  | .stdFrameReceive t f => Sys2Proof.Machine.execStdFrameReceive t f s

end Sys2Proof.Machine
end

