-- ==== Sys2Proof/Machine/Tick.lean ====
section
/-! DEFINITION. What a step does while no command waits: the clock runs (14_time R311, R313, R314). -/

namespace Sys2Proof.Machine

/-- One cycle of the host reference, 6.4 ns, in eighths of a picosecond. -/
abbrev refCycleAge : Nat := 51200

/-- The offset of TIME_ADJ_FREQ, which each cycle uses. -/
abbrev adjFreqAt : Nat := 0x60034

/-- The clock that carries the time base advances by one tick: the host reference in Run and Hush, the always-on clock
below (R314). Every use of TIME_ADJ_FREQ votes its copies (04_register_interface R86). -/
def tick (s : State) : State :=
  if 2 ≤ s.rd R.PWR_STAT_HOST_RUNG then aonTick { s with age := s.age + 244140625 }
  else
    let s := s.voteRepair R.TIME_ADJ_FREQ_FREQ 6 adjFreqAt
    refCycle { s with age := s.age + refCycleAge }

/-- The block idles for one tick. -/
def idle (s : State) : State := settle (tick s)

end Sys2Proof.Machine
end

