-- ==== Sys2Proof/Safety.lean ====
section
/-! DEFINITION. The terms in which the statements speak: what a command keeps, when nothing else is under way, and the
invariants. -/

namespace Sys2Proof.Machine

/-! ## Frames -/

/-- Two fields are one place of the register file. -/
def Fld.same (f g : Fld) : Prop := f.id = g.id ∧ f.ix = g.ix

/-- Every field outside the list reads in `t` as it reads in `s`. -/
def Kept (l : List Fld) (s t : State) : Prop := ∀ g : Fld, (∀ f ∈ l, ¬ f.same g) → t.rd g = s.rd g

/-- The state without its register fields and without what only follows from them at the end of a step: the interrupt
vectors, their messages, and the event reports they rest on. Output stands with them, since messages are part of it. -/
def State.rest (s : State) : State := { s with regs := [], irq := 0, msixPend := [], evtRep := [], out := [] }

/-- A command that touches, of the registers, only those of the list, and of the state only what `off` leaves out. -/
structure Only (l : List Fld) (off : State → State) (s u : State) : Prop where
  regs : Kept l s u
  rest : off u = off s

/-- A command of registers alone: every field outside the list, and every part of the state, are kept. -/
abbrev RegsOnly (l : List Fld) (s t : State) : Prop := Only l State.rest s t

/-- The state without drop `d`. -/
def State.offDrp (d : Nat) (s : State) : State := { s.rest with drops := terase s.drops d }

/-- The state without the pass of vale `v`. -/
def State.offPas (v : Nat) (s : State) : State := { s.rest with passes := terase s.passes v }

/-- The state without host lane `n`. -/
def State.offHln (n : Nat) (s : State) : State := { s.rest with hlanes := terase s.hlanes n }

/-- The state without trunk `t`. -/
def State.offTrk (t : Nat) (s : State) : State := { s.rest with trunks := terase s.trunks t }

/-- The state without twin `i`. -/
def State.offTwin (i : Nat) (s : State) : State := { s.rest with twins := terase s.twins i }

/-- The state without receive bank `i`. -/
def State.offBank (i : Nat) (s : State) : State := { s.rest with rxBank := terase s.rxBank i }

/-- The state without the CA `e`. -/
def State.offCa (e : Nat) (s : State) : State := { s.rest with cas := terase s.cas e }

/-- The state without what the commands of a trunk work on: the trunks, and what a frame cut in bank 4 leaves behind, its
stamp report and its credit. -/
def State.offTrunk (s : State) : State := { s.rest with trunks := [], reports := [], credits := [], freeCtr := 0 }

/-- What the Surveyor runs on a trunk's line: a pulse, a pass, a loop measurement. -/
def lineBusy (x : Trunk) : Bool × Bool × Bool := (x.surv.pulseRuns, x.surv.passRuns, x.surv.loopWait)

/-- A command of trunk `t`: of the registers only those of the list, of the trunks only this one, whose line stays as busy
as it was. -/
structure TrkOnly (l : List Fld) (t : Nat) (s u : State) : Prop where
  regs : Kept l s u
  others : ∀ k, k ≠ t → u.trk k = s.trk k
  line : lineBusy (u.trk t) = lineBusy (s.trk t)
  rest : u.offTrunk = s.offTrunk

/-- The fields of trunk `t` that entering a state of R113 may touch: the state with its link and its counts, what AN, FULL_PAM4
and DATA set, the echo windows, and a quiet-window request given up. -/
def enterFields (t : Nat) : List Fld :=
  [R.TRK_STAT_STATE t, R.TRK_STAT_LINK_UP t, R.TRK_LINK_EVT_LINK_DOWN t, R.TRK_LINK_DOWN_CNT_COUNT t,
   R.TRK_BANK_DISC_CNT_COUNT t, R.TRK_TX_ABORT_CNT_COUNT t, R.TRK_RX_ABORT_CNT_COUNT t, R.TRK_STAT_AM_LOCK t,
   R.TRK_STAT_LPI_TX t, R.TRK_STAT_LPI_RX t, R.TRK_QW_CNT_FAILED t, R.TRK_QW_STAT_STATE t,
   R.TRK_STAT_VALID t, R.TRK_STAT_PRECODE_TX t, R.TRK_STAT_PRECODE_RX t, R.TRK_STAT_MASTER t, R.TRK_TX_FIR_PRE t,
   R.TRK_TX_FIR_POST t, R.TRK_TX_FIR_AMP_HDB t, R.TRK_AN_STAT_DONE t, R.TRK_EQ_RX_FREQ t, R.TRK_EQ_STAT_EC_CONV t,
   R.TRK_EQ_STAT_FFE_CONV t, R.TRK_EQ_STAT_DFE_CONV t, R.TRK_EQ_STAT_TIMING_LOCK t, R.TRK_EQ_STAT_IMPULSE t,
   R.TRK_LINK_EVT_RETRAIN_DONE t, R.TRK_LINK_EVT_LINK_UP t, R.TRK_TRAIN_STAT_LAST_MS t, R.TRK_SNR_REF_QDB t,
   R.TRK_EC_STAT_ACTIVE t, R.TRK_EC_STAT_REPLACING t, R.TRK_EC_STAT_PENDING t, R.TRK_EC_MOVE_CNT_RELEASED t] ++
    (upto 8).map fun w => R.TRK_EC_WIN_STATE t w

/-- Trunk `t` stands alone: no formed twin holds it. -/
def Alone (t : Nat) (s : State) : Prop := twinOf t s = none

/-- No quiet window of the trunk is granted or open, and no calibration holds its line. -/
def Unheld (t : Nat) (s : State) : Prop := (s.trk t).qw.grant = none ∧ (s.trk t).calibrating = false

/-- A command takes trunk `t` to a state, and changes nothing outside the trunk; `more` are the fields it writes beside
those of the entry. -/
def Enters (c : Instr) (t st : Nat) (more : List Fld) (s u : State) : Prop :=
  exec c s = .next u ∧ trkState t u = st ∧ u.bit (R.TRK_STAT_LINK_UP t) = decide (st = 8) ∧
    TrkOnly (more ++ enterFields t) t s u

/-- No activity of the Surveyor or the Assayer is on the trunk's line. -/
def Idle (t : Nat) (s : State) : Prop :=
  lineBusy (s.trk t) = (false, false, false) ∧ itemState t s ≠ 3

/-- `u` counts `n` more than `s` in a counter that stops at its largest value. -/
def Counted (f : Fld) (n : Nat) (s u : State) : Prop := u.rd f = min (s.rd f + n) (2 ^ f.width - 1)

/-- `u` counts `n` more than `s` in a counter that wraps. -/
def Wrapped (f : Fld) (n : Nat) (s u : State) : Prop := u.rd f = (s.rd f + n) % 2 ^ f.width

/-- The fields of drop `d` that leaving the cycle touches. -/
def dropHaltFields (d : Nat) : List Fld :=
  [R.DRP_STAT_STATE d, R.DRP_STAT_BEACON_ON d, R.DRP_LD_STAT_CARRIER d, R.DRP_LD_STAT_RX_BUSY d, R.DRP_LD_STAT_CAP_ARMED d]

/-! ## Errors on record -/

/-- The state without the Watch's own part and without the free values used up. -/
def State.offWatch (s : State) : State := { s.rest with watch := {}, freeCtr := 0 }

/-- An error of class C or U at source `src` is only recorded: its slot is free, its reaction table names no action, the
copies of the table agree, no self-test runs, and the host die is awake (18_watch_faults R387 to R393). -/
structure Loggable (src : Nat) (s : State) : Prop where
  live : s.boot.reactionsLive = true
  test : s.boot.selfTest = none
  free : s.slotHeld src = false
  agree : ∀ f ∈ [R.WATCH_REACT_GRACE_MS src, R.WATCH_REACT_F_ACTION src, R.WATCH_REACT_U_ACTION src],
    (s.copies f).1 = (s.copies f).2.1 ∧ (s.copies f).1 = (s.copies f).2.2
  noAction : s.rd (R.WATCH_REACT_U_ACTION src) = 0
  awake : s.rd R.PWR_STAT_HOST_RUNG < 2

/-- The fields that the record of an error of class `cls` at source `src` writes. -/
def slotFields (src cls : Nat) : List Fld :=
  [R.WATCH_LOG_HEAD_SEQ, R.WATCH_CNT_COUNT (cls - 1), R.WATCH_SLOT_HDR_VALID src, R.WATCH_SLOT_HDR_CLASS src,
   R.WATCH_SLOT_HDR_GRACE src, R.WATCH_SLOT_HDR_APPLIED src, R.WATCH_SLOT_HDR_KIND src, R.WATCH_SLOT_DETAIL_DETAIL src,
   R.WATCH_SLOT_SEQ_SEQ src]

/-- `u` holds the record of an error that `s` did not: the slot's header, the number of the log entry, and the count of
the class. -/
def Logged (src cls kind : Nat) (s u : State) : Prop :=
  u.slotHeld src = !(decide (cls = 1) && s.bit R.WATCH_CTL_AUTO_C) ∧ u.rd (R.WATCH_SLOT_HDR_CLASS src) = cls ∧
    u.rd (R.WATCH_SLOT_HDR_KIND src) = kind ∧ u.rd (R.WATCH_SLOT_SEQ_SEQ src) = s.rd R.WATCH_LOG_HEAD_SEQ ∧
    u.rd R.WATCH_LOG_HEAD_SEQ = (s.rd R.WATCH_LOG_HEAD_SEQ + 1) % 2 ^ 32 ∧
    u.rd (R.WATCH_CNT_COUNT (cls - 1)) = min (s.rd (R.WATCH_CNT_COUNT (cls - 1)) + 1) (2 ^ 32 - 1)

/-! ## Calm -/

/-- The power ladder has nothing to do by itself in domain `k`: it is where its votes let it be, or its transition is in
progress (19_power R406, R407). -/
def Resting (k : Nat) (s : State) : Prop :=
  match domOf k s with
  | .idle => domTakes k s = true → domRung k s ≤ targetOf k s
  | .asked r _ => k ≠ 0 ∧ (domTakes k s = true → targetOf k s = r)
  | .committed _ => True
  | .climbing _ => True

/-- Nothing is under way that the end of a step would carry on by itself: no owed action, no vale that delays its answer, a
ladder at rest, no live re-warp, and BOOT not between its steps 9 and 10. -/
structure Calm (s : State) : Prop where
  owed : s.todo = []
  answers : ∀ v < 4, (s.pas v).rungDelay = none
  ladder : ∀ k < 5, Resting k s
  live : s.bit R.WARP_STAT_LIVE_BUSY = false
  boot : ¬ (s.mode = 0 ∧ s.boot.step = 9)

/-! ## Invariants -/

/-- The interrupt lines say what the event registers say: each vector from 1 on is raised exactly while an event bit that
it serves is set and enabled (18_watch_faults R396). -/
def IrqTrue (s : State) : Prop := ∀ n < 16, tbit s.irq n = (decide (n ≠ 0) && vectorOn n s)

/-! ## Register words -/

/-- The value that a word holds for a field. -/
def wordVal (w : Nat) (x : FldDesc) : Nat := w / 2 ^ x.lo % 2 ^ x.width

/-- A register of one word whose fields stand from the top down, none of them voted and none the mode. -/
def plainReg (r : RegAt) : Bool :=
  decide (r.k = 0) && decide (r.d.fields.Pairwise fun a b => b.lo + b.width ≤ a.lo ∧ a.id ≠ b.id) &&
    (r.d.fields.all fun x => decide (x.lo + x.width ≤ 32) && decide (0 < x.width) && !x.voted && decide (x.id ≠ 62) &&
      !isFld (r.fld x) R.GRAN_TRN_ADDR_ADDR && !isFld (r.fld x) (R.SEC_SCI_MAC 0)) && decide (r.addr ≠ 8)

/-- What a word leaves in the registers of one field: an RW field takes its value, a W1C field loses the bits written as
1. A keyed field takes part only where the port is armed (04_register_interface R78, R85). -/
def fieldPut (r : RegAt) (w : Nat) (arm : Bool) (s a : State) (x : FldDesc) : State :=
  if x.keyed && !arm then a
  else match x.acc with
  | .rw => if wordVal w x = s.rd (r.fld x) then a else a.wr (r.fld x) (wordVal w x)
  | .w1c => if wordVal w x = 0 then a
      else a.wr (r.fld x) (s.rd (r.fld x) - Nat.land (s.rd (r.fld x)) (wordVal w x))
  | _ => a

/-- The effects that follow from one field: the field with its value before and the value written. -/
def fieldHook (r : RegAt) (w : Nat) (arm : Bool) (s : State) (x : FldDesc) : List (Fld × Nat × Nat) :=
  if x.keyed && !arm then []
  else match x.acc with
  | .rw | .wo => [(r.fld x, s.rd (r.fld x), wordVal w x)]
  | .w1c | .w1s => if wordVal w x = 0 then [] else [(r.fld x, s.rd (r.fld x), wordVal w x)]
  | _ => []

/-- What a word leaves in the registers. -/
def regPuts (r : RegAt) (w : Nat) (arm : Bool) (s t : State) : State := r.d.fields.foldl (fieldPut r w arm s) t

/-- The effects that follow, in order. -/
def regHooks (r : RegAt) (w : Nat) (arm : Bool) (s : State) : List (Fld × Nat × Nat) :=
  r.d.fields.flatMap (fieldHook r w arm s)

/-- The state in which a word's fields are written: the arming of the port is used up where the register has a keyed
field (04_register_interface R85). -/
def regFrom (p : Port) (r : RegAt) (s : State) : State := if r.keyed then disarm p s else s

/-- A field may take its part of a word: a keyed one changes only where the port is armed, and the value is neither barred
by the mode nor reserved, whatever the write has already changed in the register's other fields. -/
def FieldFine (r : RegAt) (w : Nat) (arm : Bool) (s : State) (x : FldDesc) : Prop :=
  (x.keyed = true → arm = false → x.acc ≠ .wo ∧ wordVal w x = if x.acc = .rw then s.rd (r.fld x) else 0) ∧
  (x.keyed = true ∧ arm = false ∨
    ∀ t : State, t.mode = s.mode → t.rest = { s.rest with fabric := t.fabric } →
      Kept (r.d.fields.map r.fld) s t →
      (x.acc = .rw → modeBar (r.fld x) (wordVal w x) t = false ∧
        encOk x (r.fld x) (s.rd (r.fld x)) (wordVal w x) w t = true) ∧
      (x.acc = .w1s → wordVal w x ≠ 0 → modeBar (r.fld x) (wordVal w x) t = false))

/-- Port `p` may write word `w` to register `r`: the register is plain, on the map, served in full and open to the port,
and each field may take its part (04_register_interface R76 to R88). -/
structure Opens (p : Port) (r : RegAt) (w : Nat) (s : State) : Prop where
  port : p ≠ .mdio
  map : regAt r.addr = some r
  plain : plainReg r = true
  mirror : mirrorMode r.addr = false
  served : serviceAt p true r.addr (some r) s = .normal
  shut : regShut p r s = false
  fields : ∀ x ∈ r.d.fields, FieldFine r w (armed p s) s x

/-- The register write that a row names fields of: what it supplies, its port, its register, and its word. -/
def rowWords (e : Ext) (p : Port) (l : List (Fld × Nat)) (s : State) : Option (Ext × Port × RegAt × Nat) :=
  match l with
  | [] => none
  | (f, _) :: _ => (fieldAt f).map fun r => (e, p, r, rowWord r l s)

/-- The register write that a row gives the whole word of. -/
def rowWhole (p : Port) (f : Fld) (v : Nat) : Option (Ext × Port × RegAt × Nat) :=
  (fieldAt f).map fun r => (Ext.plain, p, r, v)

/-- The commands that are the write of one register: what each supplies, its port, the register, and the word. -/
def wordOf (c : Instr) (s : State) : Option (Ext × Port × RegAt × Nat) :=
  match c with
  | .registerWrite p a be v => match regAt (a.toNat / 4 * 4) with
    | some r => if r.addr = a.toNat / 4 * 4 ∧ be.toNat = 15 then some (Ext.plain, p, r, v.toNat) else none
    | none => none
  | .trkEnableWrite p t v => rowWords Ext.plain p [(R.TRK_CTL_ENABLE t, b2n v)] s
  | .trkModeWrite p t m => rowWords Ext.plain p [(R.TRK_CTL_MODE t, m.toNat)] s
  | .trkRestartAn p t => rowWords Ext.plain p [(R.TRK_CTL_RESTART_AN t, 1)] s
  | .trkRetrain p t => rowWords Ext.plain p [(R.TRK_CTL_RETRAIN t, 1)] s
  | .trkTestWrite p t v => rowWords Ext.plain p [(R.TRK_CTL_TEST t, v.toNat)] s
  | .ecWinStartWrite p t w start => rowWords Ext.plain p [(R.TRK_EC_WIN_START t w, start.toNat)] s
  | .ecAutoPlaceOff p t => rowWords Ext.plain p [(R.TRK_EC_CTL_AUTO_PLACE t, 0)] s
  | .eqCursorWrite p t cursor => rowWords Ext.plain p [(R.TRK_EQ_CTL_CURSOR t, cursor.toNat)] s
  | .eqFfeEnWrite p t v => rowWords Ext.plain p [(R.TRK_EQ_CTL_FFE_EN t, b2n v)] s
  | .eqDfeEnWrite p t v => rowWords Ext.plain p [(R.TRK_EQ_CTL_DFE_EN t, b2n v)] s
  | .coefSnap p t => rowWords Ext.plain p [(R.TRK_COEF_SEL_SNAP t, 1)] s
  | .qwHostRequest p t => rowWords Ext.plain p [(R.TRK_QW_CTL_REQ t, 1)] s
  | .drpEnableWrite p d v => rowWords Ext.plain p [(R.DRP_CTL_ENABLE d, b2n v)] s
  | .drpModeWrite p d v => rowWords Ext.plain p [(R.DRP_CTL_MODE d, b2n v)] s
  | .drpRestart p d => rowWords Ext.plain p [(R.DRP_CTL_RESTART d, 1)] s
  | .drpTestWrite p d v => rowWords Ext.plain p [(R.DRP_CTL_TEST d, v.toNat)] s
  | .ldCoefSnap p d => rowWords Ext.plain p [(R.DRP_LD_COEF_SEL_SNAP d, 1)] s
  | .passRetrain p v => rowWords Ext.plain p [(R.PASS_CTL_RETRAIN v, 1)] s
  | .hlnRelock p n => rowWords Ext.plain p [(R.HLN_CTL_RELOCK n, 1)] s
  | .hlnRateWrite p n rate precode =>
    rowWords Ext.plain p [(R.HLN_CTL_RATE n, b2n rate), (R.HLN_CTL_PRECODE n, b2n precode)] s
  | .hlnEnableWrite p n v => rowWords Ext.plain p [(R.HLN_CTL_ENABLE n, b2n v)] s
  | .millFlush p q => rowWords Ext.plain p [(R.MILL_FLUSH_GO, 1), (R.MILL_FLUSH_Q, q.toNat)] s
  | .granFreqReq p point => rowWords Ext.plain p [(R.GRAN_FREQ_REQ, 1), (R.GRAN_FREQ_POINT, point.toNat)] s
  | .timeStep p => rowWords Ext.plain p [(R.TIME_STEP_GO, 1)] s
  | .survCcClear p t => rowWords Ext.plain p [(R.SURV_TRK_CC_CTL_CLEAR t, 1)] s
  | .survCapFree p idx => rowWords Ext.plain p [(R.SURV_CAP_CTL_FREE, 1), (R.SURV_CAP_CTL_IDX, idx.val)] s
  | .assayRunGo p item => rowWords Ext.plain p [(R.ASSAY_RUN_GO, 1), (R.ASSAY_RUN_ITEM, item.toNat)] s
  | .assayAcceptGo p item => rowWords Ext.plain p [(R.ASSAY_ACCEPT_GO, 1), (R.ASSAY_ACCEPT_ITEM, item.toNat)] s
  | .stwResetWarm p => rowWords Ext.plain p [(R.STW_RESET_CTL_WARM, 1)] s
  | .stwModeMaint p => rowWords Ext.plain p [(R.STW_MODE_REQ_MAINT, 1)] s
  | .stwModeExitMaint p => rowWords Ext.plain p [(R.STW_MODE_REQ_EXIT_MAINT, 1)] s
  | .stwScanReq p => rowWords Ext.plain p [(R.STW_SCAN_CTL_REQ, 1)] s
  | .stwSelftestStart p kind index =>
    rowWords Ext.plain p
      [(R.STW_SELFTEST_CTL_START, 1), (R.STW_SELFTEST_CTL_KIND, kind.toNat), (R.STW_SELFTEST_CTL_INDEX, index.toNat)] s
  | .stwRelease p kind index =>
    rowWords Ext.plain p [(R.STW_RELEASE_GO, 1), (R.STW_RELEASE_KIND, kind.toNat), (R.STW_RELEASE_INDEX, index.toNat)] s
  | .warpLoadBegin p slot live =>
    rowWords Ext.plain p
      [(R.WARP_LOAD_CTL_BEGIN, 1), (R.WARP_LOAD_CTL_SLOT, slot.toNat), (R.WARP_LOAD_CTL_LIVE, b2n live)] s
  | .warpLoadData p v => rowWords Ext.plain p [(R.WARP_LOAD_DATA_DATA, v.toNat)] s
  | .warpLoadAbort p => rowWords Ext.plain p [(R.WARP_LOAD_CTL_ABORT, 1)] s
  | .secLcReq p target confirm =>
    rowWords Ext.plain p
      [(R.SEC_LC_REQ_GO, 1), (R.SEC_LC_REQ_TARGET, target.toNat), (R.SEC_LC_REQ_CONFIRM, confirm.toNat)] s
  | .secGenkey p => rowWords Ext.plain p [(R.SEC_PROV_CTL_GENKEY, 1)] s
  | .secLoadBegin p target => rowWords Ext.plain p [(R.SEC_LOAD_CTL_BEGIN, 1), (R.SEC_LOAD_CTL_TARGET, target.toNat)] s
  | .secLoadData p v => rowWords Ext.plain p [(R.SEC_LOAD_DATA_DATA, v.toNat)] s
  | .secLoadCommit p => rowWords Ext.plain p [(R.SEC_LOAD_CTL_COMMIT, 1)] s
  | .secLoadAbort p => rowWords Ext.plain p [(R.SEC_LOAD_CTL_ABORT, 1)] s
  | .secRollFwd p => rowWords Ext.plain p [(R.SEC_FW_CTL_ROLL_FWD, 1)] s
  | .secAttGo p => rowWords Ext.plain p [(R.SEC_ATT_CTL_GO, 1)] s
  | .msecRotate p e => rowWords Ext.plain p [(R.MSEC_CTL_ROTATE e, 1)] s
  | .mgmtRecovBegin p slot => rowWords Ext.plain p [(R.MGMT_RECOV_CTL_BEGIN, 1), (R.MGMT_RECOV_CTL_SLOT, slot.toNat)] s
  | .mgmtRecovData p v => rowWords Ext.plain p [(R.MGMT_RECOV_DATA_DATA, v.toNat)] s
  | .watchSlotRelease p src => rowWords Ext.plain p [(R.WATCH_SLOT_HDR_VALID src, 1)] s
  | .watchHostClr p => rowWords Ext.plain p [(R.WATCH_PIN_HOST_CLR, 1)] s
  | .watchIrqRearm p bits => rowWords Ext.plain p [(R.WATCH_IRQ_REARM, bits.toNat)] s
  | .watchLogSelect p seq => rowWords Ext.plain p [(R.WATCH_LOG_SEL_SEQ, seq.toNat)] s
  | .archiveSelect p index => rowWords Ext.plain p [(R.WATCH_LOG_CTL_INDEX, index.toNat), (R.WATCH_LOG_CTL_ARCH, 1)] s
  | .pwrLowestWrite p c rung => rowWords Ext.plain p [(R.PWR_LOWEST_LOWEST c, rung.toNat)] s
  | .pwrNightEnWrite p v => rowWords Ext.plain p [(R.PWR_CTL_NIGHT_EN, b2n v)] s
  | .pwrTimerStart p periodic =>
    rowWords Ext.plain p [(R.PWR_TIMER_CTL_EN, 1), (R.PWR_TIMER_CTL_PERIODIC, b2n periodic)] s
  | .drpCycCtlWrite p d v => rowWhole p (R.DRP_CYC_CTL_NODES d) v.toNat
  | .granTrnGo p v => rowWhole p R.GRAN_TRN_CTL_GO (setBit v.toNat 31 true)
  | .granOrderWrite p v => rowWhole p R.GRAN_CTL_ORDER v.toNat
  | .timeAdjPhaseWrite p v => rowWhole p R.TIME_ADJ_PHASE_PHASE_NS v.toNat
  | .timeRefRestore p present => rowWords { Ext.plain with refclk := some present } p [(R.TIME_CTL_REF_RESTORE, 1)] s
  | .survStart pt p est => rowWords { Ext.plain with est := some (estNat est) } pt
    [(if p.val < 8 then R.SURV_TRK_CTL_START p else R.SURV_DRP_CTL_START (p.val - 8), 1)] s
  | .warpLoadCommit p v => rowWords { Ext.plain with verdict := fun _ => v } p [(R.WARP_LOAD_CTL_COMMIT, 1)] s
  | .mgmtRecovCommit p sig =>
    rowWords { Ext.plain with verdict := fun _ => ⟨sig, false, []⟩ } p [(R.MGMT_RECOV_CTL_COMMIT, 1)] s
  | _ => none

/-! ## Terms of the single statements -/

/-- A command does `t` and, beyond it, only records an error at source `src`. -/
def Records (c : Instr) (src cls kind : Nat) (s t : State) : Prop :=
  ∃ u, exec c s = .next (vectors u) ∧ Logged src cls kind s u ∧ Only (slotFields src cls) State.offWatch t u

/-- The register reads: the port and the address of each. -/
def readOf (c : Instr) : Option (Port × Nat) :=
  match c with
  | .registerReadClear p a => some (p, a.toNat)
  | .wideCounterRead p a => some (p, a.toNat)
  | .warpClampDataRead p => (fieldAt (R.WARP_CLAMP_DATA_WORD 3)).map fun r => (p, r.addr)
  | .coefDataRead p t => (fieldAt (R.TRK_COEF_DATA_COEF t)).map fun r => (p, r.addr)
  | .ldCoefDataRead p d => (fieldAt (R.DRP_LD_COEF_DATA_REAL d)).map fun r => (p, r.addr)
  | _ => none

/-- The reads of one word at the SPI port and at an endpoint that is up and awake: the port and the address. -/
def portReadOf (c : Instr) (s : State) : Option (Port × Nat) :=
  match c with
  | .spiReadFrame a => some (.spi, a.toNat / 4 * 4)
  | .pcieMemoryRead a n => if n = 1 ∧ pcieUp s = true ∧ s.rd R.PWR_STAT_HOST_RUNG < 2 then some (.pcie, a.toNat / 4 * 4) else none
  | _ => none

/-- The writes of one word there: the port, the address, the byte enables, and the word. -/
def portWriteOf (c : Instr) (s : State) : Option (Port × Nat × Nat × Nat) :=
  match c with
  | .spiWriteFrame a v => some (.spi, a.toNat / 4 * 4, 15, v.toNat)
  | .pcieMemoryWrite a [(v, be)] false =>
    if pcieUp s = true ∧ s.rd R.PWR_STAT_HOST_RUNG < 2 then some (.pcie, a.toNat / 4 * 4, be.toNat, v.toNat) else none
  | _ => none

/-- The fields in which AN records what it exchanged. -/
def anTold (t : Nat) : List Fld :=
  [R.TRK_AN_CR_LOC_WORD t, R.TRK_AN_CR_LP_WORD t, R.TRK_AN_STAT_DONE t, R.TRK_AN_STAT_LOC_MODES t,
      R.TRK_AN_STAT_LP_MODES t, R.TRK_STAT_PEER_CR t, R.TRK_STAT_TWIN_PEER t]

/-- A line frame as it stands in the receive bank of trunk `t`. -/
def trkRx (t : Nat) (f : LineFrame) : RxFrame := { port := t, cls := 0, octets := f.octets, stamp := f.stamp, slot := 0, bad := false }

/-- The receive bank of trunk `t`. -/
def trkBank (t : Nat) (s : State) : List RxFrame := tget [] s.rxBank (8 * (t / 2) + t % 2)

/-- The frames that a codeword hands to the bank: none where the code word was beyond correction. -/
def codewordRx (t : Nat) (l : List LineFrame) : CwStatus → List RxFrame
  | .corrected _ => l.map (trkRx t)
  | .uncorrectable => []

/-- The fields of trunk `t` that a codeword writes: its counters, its margin, the low-power state and the histogram. -/
def codewordFields (t : Nat) : List Fld :=
  [R.TRK_FEC_CW_CNT_COUNT t, R.TRK_FEC_CORR_CW_CNT_COUNT t, R.TRK_FEC_CORR_SYM_CNT_COUNT t, R.TRK_FEC_UNC_CNT_COUNT t,
   R.TRK_SNR_MARGIN_QDB t, R.TRK_SNR_MIN_MARGIN t, R.TRK_STAT_LPI_RX t] ++ (upto 16).map fun n => R.TRK_FEC_HIST_COUNT t n

/-- The re-placement of trunk `t` has ended: no target waits for a window. -/
def Placed (t : Nat) (s : State) : Prop := (s.trk t).eq.targets = [] ∧ s.bit (R.TRK_EC_STAT_REPLACING t) = false

/-- The trunk with another equaliser. -/
def State.eqIs (u s : State) (t : Nat) (f : Eq → Eq) : Prop := u.trk t = { s.trk t with eq := f (s.trk t).eq }

/-- The fields of trunk `t` that a request for a quiet window writes. -/
def qwAskFields (t : Nat) : List Fld :=
  [R.TRK_QW_STAT_STATE t, R.TRK_QW_STAT_LOCAL t, R.TRK_QW_STAT_SCOPE t, R.TRK_QW_STAT_PURPOSE t, R.TRK_QW_STAT_START t]

/-- A whole-trunk request of duration `dur` and START `start` meets no reason of R166 at trunk `t`. -/
structure QwFree (t start dur : Nat) (s : State) : Prop where
  en : s.bit (R.TRK_QW_LIM_QW_EN t) = true
  dur : dur ≤ s.rd (R.TRK_QW_LIM_MAX_US t)
  start : 2 ≤ (start + 256 - (s.trk t).amRx.getD 0) % 256 ∧ (start + 256 - (s.trk t).amRx.getD 0) % 256 ≤ 127
  grant : (s.trk t).qw.grant = none
  lch : (s.trk t).lch = none
  gap : (s.trk t).qw.lastEnd = none
  sleep : (s.trk t).sleepSeq = none ∧ (s.trk t).sleepNext = false
  rung : rungBusy (t / 2) s = false
  refuse : s.bit (R.TRK_QW_CTL_REFUSE t) = false

/-- Member `b` of twin `i` changes to what `g` makes of it, and nothing else of the twin does. -/
def MemOnly (i : Nat) (b : Bool) (g : Member → Member) (s u : State) : Prop :=
  u.twin i = if b then { s.twin i with b := g (s.twin i).b } else { s.twin i with a := g (s.twin i).a }

/-- The lanes of a direction that are locked at their receiver: down lanes at the vale, up lanes at the host die. -/
def dataLocks (v : Nat) (down : Bool) (s : State) : Nat := if down then (s.pas v).dnLock else s.rd (R.PASS_STAT_UP_LOCK v)

/-- The lanes of a direction that its sender uses. -/
def lanesUsed (v : Nat) (down : Bool) (s : State) : Nat := if down then (s.pas v).dnUse else (s.pas v).upUse

/-- The lanes that STRIPING_SET_CHANGE takes: those enabled of the ones that the far receiver last reported locked. -/
def lanesReported (v : Nat) (down : Bool) (s : State) : Nat :=
  if down then Nat.land (s.rd (R.PASS_STAT_DN_LOCK v)) (s.rd (R.PASS_CTL_DN_EN v))
  else Nat.land (s.pas v).upRep (s.rd (R.PASS_CTL_UP_EN v))

/-- The state without queue `q` of the Miller. -/
def State.offQue (q : Nat) (s : State) : State := { s.rest with mill := { s.mill with queues := terase s.mill.queues q } }

/-- The state without the credit of the ports. -/
def State.offCred (s : State) : State := { s.rest with credits := [] }

/-- The fields that show queue `q`. -/
def queueFields (q : Nat) : List Fld :=
  [R.MILLQ_STAT_STATE q, R.MILLQ_STAT_BUSY q, R.MILLQ_STAT_RESIDENT q, R.MILLQ_HEAD_HEAD_WIN q, R.MILLQ_HEAD_PAGED q,
   R.MILLQ_DEPTH_FRAMES q]

/-- A received frame as it stands in an ingress queue. -/
def queuedRx (q : Nat) (f : RxFrame) : MFrame :=
  { queue := q, octets := f.octets, port := f.port, slot := f.slot, stamp := f.stamp, tsreq := false, tag := 0, lane := 0,
    sec := false, poison := false }

/-- The vale, the SEQ and the kind of request that a command of the host die brings to a vale. -/
def hostTally : Instr → Option (Nat × Nat × (HostBody → Bool))
  | .regRdReq v seq => some (v, seq.toNat, isReg false)
  | .regWrReq v seq => some (v, seq.toNat, isReg true)
  | .cmdSurveyPass v seq => some (v, seq.toNat, isSurv 0)
  | .cmdSurveyPulse v seq => some (v, seq.toNat, isSurv 1)
  | .cmdSurveyLoop v seq => some (v, seq.toNat, isSurv 2)
  | .cmdSurveyAbort v seq => some (v, seq.toNat, isSurv 3)
  | .cmdSurveyArmCapture v seq => some (v, seq.toNat, isSurv 4)
  | .cmdAssayerAgent v seq => some (v, seq.toNat, fun b => match b with | .cmd (.assay _ _) => true | _ => false)
  | .cmdSelfTest v seq => some (v, seq.toNat, fun b => match b with | .cmd (.selfTest _) => true | _ => false)
  | .cmdFence v seq => some (v, seq.toNat, fun b => match b with | .cmd (.fence _) => true | _ => false)
  | .cmdRelease v seq => some (v, seq.toNat, fun b => match b with | .cmd (.release _) => true | _ => false)
  | .rungReq v seq => some (v, seq.toNat, fun b => match b with | .rung _ => true | _ => false)
  | .wake v true seq => some (v, seq.toNat, fun b => match b with | .wake => true | _ => false)
  | _ => none

/-- The vale, the SEQ and the request that a command of a vale brings to the host die. -/
def valeTally : Instr → Option (Nat × Nat × UpBody)
  | .fault v seq src cls lost kind detail => some (v, seq.toNat, .fault src cls.toNat lost kind.toNat detail.toNat)
  | .evt v seq l => some (v, seq.toNat, .evt (evtOffset (portOf v l)))
  | .cmdDone v seq => some (v, seq.toNat, .done)
  | .rungDone v seq => some (v, seq.toNat, .rungDone)
  | .wake v false seq => some (v, seq.toNat, .wake 0 31)
  | _ => none

/-- No request of the host die waits for a place in the window of vale `v`. -/
def NoneWaiting (v : Nat) (s : State) : Prop := ∀ r ∈ (s.pas v).out, 0 < r.sends

/-- The fields that an answer at the host die touches. -/
def answerFields (v : Nat) : List Fld := [R.PASS_TALLY_CNT_COUNT v 1, R.PASS_STAT_OUTSTANDING v]

/-- The requests of vale `v` after the answer to a SEQ. -/
def answered (v seq : Nat) (s : State) : List HostReq := (s.pas v).out.filter fun r => r.seq ≠ seq

/-- The state without the accesses in flight to vale `v`. -/
def State.offFlight (v : Nat) (s : State) : State :=
  { s.rest with fabric := { s.fabric with flight := terase s.fabric.flight v } }

/-- No access waits at a port. -/
def NoneStalled (s : State) : Prop := ∀ p, stalledAt p s = []

/-- The fields that GLB_ACC_STAT records an access in. -/
def accFields : List Fld :=
  [R.GLB_ACC_STAT_KIND, R.GLB_ACC_STAT_PORT, R.GLB_ACC_STAT_WRITE, R.GLB_ACC_STAT_ADDR, R.GLB_ACC_CNT_COUNT]

/-- The frame that an egress record brings. -/
def queuedTx (n w : Nat) (l : List Byte) : MFrame :=
  { queue := tbits w 63 51, octets := l, port := queuePort (tbits w 63 51), slot := queueSlot (tbits w 63 51),
    stamp := ⟨0, 0, 0⟩, tsreq := tbit w 7, tag := tbits w 24 9, lane := n, sec := false, poison := false }

/-- A record passes the checks of R257 and finds its place in queue `q`: it is sound and whole, names an enabled drop
queue that is not fenced, has a proper size, and its cells fit the reserve. -/
structure RecordFits (n q w : Nat) (l : List Byte) (s : State) : Prop where
  up : laneUp n s = true
  chk : waybillChk (w / 16 * 16) = w % 16
  seq : (s.hln n).seqSet = false ∨ tbits w 40 25 = s.rd (R.HLN_STAT_EXP_SEQ n)
  flags : (tbit w 8 || tbit w 6 || tbit w 5 || tbit w 4) = false
  drop : tbits w 63 51 < 4096
  enabled : queueEnabled (tbits w 63 51) s = true
  unfenced : egressFenced (queuePort (tbits w 63 51)) s = false
  size : 64 ≤ l.length ∧ l.length ≤ 2000
  queue : physical (tbits w 63 51) s = q
  range : q < 4096
  limit : (s.que q).total + (queuedTx n w l).cells ≤ s.rd (R.MILLQ_LIMIT_LIMIT q)
  cells : s.rd (R.MILL_PART_USED_USED 0) + (queuedTx n w l).cells ≤ s.rd (R.MILL_PART_RES_RESERVE 0)

/-- Queue `q` holds one sound frame, whole in its head window, that crosses to port `p` unshaped and unprotected. -/
structure HeadGoes (p el q : Nat) (f : MFrame) (s : State) : Prop where
  frames : (s.que q).frames = [f]
  sound : f.poison = false
  resident : (s.que q).paged = 0 ∧ (s.que q).writing = 0 ∧ (s.que q).panic = false
  shape : shapeOf p el s = 0
  clear : caUsed (caIndex p f.slot) s = false

/-- The only frame of queue `q` is handed to the pass of port `p`. -/
def headSent (p q : Nat) (f : MFrame) (s : State) : State :=
  let t := (s.add (R.MILLQ_DEQ_FRAMES_COUNT q) 1).add (R.MILLQ_DEQ_OCTETS_COUNT q) f.octets.length
  let t := (freeSlots 0 (freeCells (queueRange q) f.cells t)).modQue q fun x =>
    { x with frames := [], front := x.front - f.cells, deficit := 0, starved := x.starved && !queueIso q }
  let t := (qShow q t).modQue q fun x => { x with pacing := decide (s.rd (R.MILLQ_CFG_PACE_US q) ≠ 0) }
  let x : TxFrame :=
    { queue := f.queue, octets := f.octets, tsreq := f.tsreq, tag := f.tag, lane := f.lane, slot := f.slot,
      iso := decide (queueClass q = 1), collisions := 0 }
  (t.modCred p fun c => { c with released := (c.released + units f.octets.length) % 2 ^ 19 }).modPass (portVale p)
    fun v => { v with down := v.down ++ [x] }

/-- The granary runs: trained, not fenced, and in no change. -/
structure GranRuns (s : State) : Prop where
  fence : s.isFenced .gran = false
  state : s.rd R.GRAN_STAT_STATE = 2

/-- The one request that waits in the granary is `r`, on channel `ch`, and nothing holds it up. -/
structure OnlyRequest (ch : Nat) (r : GReq) (s : State) : Prop where
  chans : ∃ c : GChan, s.gran.chans = [(ch, c)] ∧ c.drain = false ∧ dueBank c = none ∧
    (if r.wr then c.reads = [] ∧ c.writes = [r] else c.reads = [r] ∧ c.writes = [])
  place : (burstPlace r.burst s).ch = ch
  fresh : r.lost < 4096
  levels : 0 < s.rd R.GRAN_WQ_CTL_WQ_HIGH
  ready : s.gran.ready = []
  sound : s.gran.poison = []

/-- The granary's contents as octets. -/
def granReads (s : State) (a : Nat) : Byte := granByte s.gran a

/-- The stamp that an edge takes. -/
def edgeStamp (ps : Int) (s : State) : Stamp :=
  let x : Stamp := ⟨s.time.sec, s.time.ns, s.time.frac⟩
  if s.clock.coarse then x else stampShift x (max (-2000) (min 2000 ps))

/-- The end of a loop measurement or a pulse: what it brings to the vale's commands that have ended. -/
def survEnds (t op code loop contact peaks outcome : Nat) (s : State) : State :=
  s.modPass (t / 2) fun x => { x with dones := x.dones ++
    [{ cmd := .surv op (localOf t) 0, code := code, result := [(loop : Int), contact, peaks, outcome], taken := false }] }

/-- The fields that a loop measurement of trunk `t` writes. -/
def loopFields (t : Nat) : List Fld :=
  [R.SURV_TRK_LOOP_LOOP_MOHM t, R.SURV_TRK_BASE_CONTACT_MOHM t, R.SURV_TRK_BASE_BASE_MOHM t, R.SURV_EVT_CONTACT,
   R.SURV_TRK_STAT_BUSY t, R.SURV_TRK_CC_STAT_FAIL t]

/-- MKA runs on the CA `e`: it is in use with its CAK, the device serves, and neither its port nor the engine is fenced. -/
structure MkaRuns (e : Nat) (s : State) : Prop where
  used : caUsed e s = true
  key : cakHeld e s = true
  serves : s.serving = true
  port : s.isFenced (portBlock (caPort e)) = false
  engine : s.isFenced .macsec = false

/-- Domain `k` is asked for an entry: it idles above its target, no hold or retry time runs, and no live re-warp bars the
rung. -/
structure Attempts (k : Nat) (s : State) : Prop where
  serves : s.serving = true
  takes : domTakes k s = true
  idle : domOf k s = .idle
  deeper : domRung k s < targetOf k s
  hold : s.bit R.PWR_STAT_HOLD = false
  retry : tget false s.power.barred k = false
  warp : liveBusy s = false ∨ targetOf k s < 3

/-- What a refused entry leaves, before the domain is let go. -/
def refusal (k rung client reason : Nat) (s : State) : State :=
  let t := (((s.wr R.PWR_REFUSE_RUNG rung).wr R.PWR_REFUSE_DOMAIN k).wr R.PWR_REFUSE_CLIENT client).wr R.PWR_REFUSE_REASON reason
  let t := (t.evt R.PWR_EVT_REFUSED).sat R.PWR_REFUSE_CNT_COUNT 1
  { t with power := { t.power with barred := tset false t.power.barred k true } }

end Sys2Proof.Machine
end

