-- ==== Sys2Proof/WellFormed.lean ====
section
/-! DEFINITION. Well-formed commands: the operands whose type is wider than what the spec lets them be. -/

namespace Sys2Proof

/-- A stamp: 48-bit seconds, nanoseconds below a second, a 16-bit fraction (00_scope, Numbers). -/
def Stamp.wf (x : Stamp) : Bool := x.sec < 2 ^ 48 && x.ns < 1000000000 && x.frac < 65536

/-- A block that exists. -/
def Block.wf : Block → Bool
  | .trunk t => t < 8
  | .drop d => d < 64
  | .vale v => v < 4
  | .hostLane n => n < 6
  | .surv v => v < 4
  | .agent v => v < 4
  | .gran => true
  | .macsec => true
  | .assayer => true
  | .pcie => true
  | .core => true

/-- A codeword of RS(544,514) corrects at most 15 symbols (05_trunk_signalling R99); RS(255,239) and RS(144,128) at most 8. -/
def CwStatus.wf (most : Nat) : CwStatus → Bool
  | .corrected n => n ≤ most
  | .uncorrectable => true

/-- A BIST failure names a block, a vale's bank below 8 and a source below 512. -/
def BistFail.wf (f : BistFail) : Bool := f.block.wf && f.src < 512 && (match f.bank with | some b => b < 8 | none => true)

/-- A coefficient of a bank that exists (06_trunk_equalisation R145). -/
def CoefUpd.wf (c : CoefUpd) : Bool := c.bank < 4 && c.index < 512

/-- A codeword of a Long-Drop burst carries 239 octets. -/
def LdCw.wf (c : LdCw) : Bool := c.status.wf 8 && c.msg.length = 239

/-- A burst's codewords, its SNR in 8 bits and its stamp. -/
def LdBurst.wf (b : LdBurst) : Bool := b.qpsk.all LdCw.wf && b.qam.all LdCw.wf && b.snr < 256 && b.stamp.wf

/-- A training frame's measurements: SNR in 8 bits, coefficients that exist. -/
def FrameMeas.wf (m : FrameMeas) : Bool := m.snr < 256 && m.adapt.all CoefUpd.wf

/-- A block of the pass carries 128 message octets. -/
def PassBlock.wf (b : PassBlock) : Bool := b.status.wf 8 && b.msg.length = 128 && b.arrive.wf

/-- A twin copy: an AM counter of 8 bits, an index below 5, a message of 5,140 bits. -/
def TwinCopy.wf (c : TwinCopy) : Bool := c.am < 256 && c.index < 5 && c.status.wf 15 && c.message < 2 ^ 5140

/-- A command whose operands the spec allows. -/
def Instr.wf (i : Instr) : Bool :=
  match i with
  | .hostSelftestDone fails => fails.all BistFail.wf
  | .valeSelftestDone fails => fails.all BistFail.wf
  | .selftestDone (some f) => f.wf
  | .anComplete _ r => r.lpModes < 64
  | .trainingFrameReceive _ _ m => m.wf
  | .crCodewordReceive _ st _ _ _ _ frames adapt =>
    st.wf 15 && (frames.all fun f => f.stamp.wf) && adapt.all CoefUpd.wf
  | .stdFrameReceive _ f => f.stamp.wf
  | .twinCopyArrival _ _ c _ => c.wf
  | .dropFrameReceive _ (.frame f _) _ => f.stamp.wf
  | .ldBurstEnd _ b => b.wf
  | .ldCaptureSync _ _ b => b.wf
  | .passBlockReceive _ _ _ b => b.wf
  | .frameTransmitComplete _ st => st.wf
  | .pcieMemoryRead _ dws => 1 ≤ dws && dws ≤ 1024
  | .pcieMemoryWrite _ data _ => 1 ≤ data.length && data.length ≤ 64
  | .granaryRequest _ _ (some l) => l.length = 64
  | _ => true

end Sys2Proof
end

