-- ==== Sys2Proof/Certificates/Slice0/Obligations.lean ====
section
/-! DEFINITION. The statements for the provers, in the terms of Safety.lean. Each docstring names the rules of the spec that
the statement follows, and the entries of the assumption log that it rests on. -/

open Sys2Proof Sys2Proof.Machine

/-- What a step is: the front command, or a tick on an empty queue (the tick is DESIGN CHOICE, log 8; R313, R314). -/
def Obligations.StepRunsFront : Prop :=
  ∀ s : State,
    (∀ (c : Instr) (q : List Instr), step { s with pending := c :: q } = exec c { s with pending := q }) ∧
    (s.pending = [] → step s = .next (settle (tick s)) ∧
      (s.rd R.PWR_STAT_HOST_RUNG < 2 → (s.copies R.TIME_ADJ_FREQ_FREQ).1 = (s.copies R.TIME_ADJ_FREQ_FREQ).2.1 →
        (s.copies R.TIME_ADJ_FREQ_FREQ).1 = (s.copies R.TIME_ADJ_FREQ_FREQ).2.2 →
        tick s = refCycle { s with age := s.age + 51200 }) ∧
      (2 ≤ s.rd R.PWR_STAT_HOST_RUNG → tick s = aonTick { s with age := s.age + 244140625 }))

/-- The state right after reset (R33; the values that the spec does not give are DESIGN CHOICE, log 3). -/
def Obligations.ResetStands : Prop :=
  (∀ f : Fld, State.reset.rd f = f.rst % 2 ^ f.width) ∧ State.reset.mode = 0 ∧ State.reset.boot.step = 1 ∧
    State.reset.pending = [] ∧ State.reset.gran.mem = [] ∧ State.reset.sec.room = [] ∧
    (∀ t < 8, trkState t State.reset = 0) ∧ (∀ d < 64, drpState d State.reset = 0) ∧
    (∀ k < 5, domRung k State.reset = 0) ∧ IrqTrue State.reset ∧ Calm State.reset

/-- Every step completes, and keeps the interrupt lines true (R396; when they are looked at is DEDUCED, log 11). -/
def Obligations.InterruptsTrue : Prop :=
  ∀ s : State, IrqTrue s → ∃ t, step s = .next t ∧ IrqTrue t

/-- Writing one register, by REGISTER_WRITE and by every row that names one (R78, R82 to R85, R10, R11; the order of
effects is DEDUCED, log 35). -/
def Obligations.RegisterWrites : Prop :=
  (∀ (c : Instr) (e : Ext) (p : Port) (r : RegAt) (w : Nat) (s : State), wordOf c s = some (e, p, r, w) → Opens p r w s →
    exec c s = .next (settle ((regHooks r w (armed p s) s).foldl (fun a h => hook e p r h.1 h.2.1 h.2.2 a)
      (regPuts r w (armed p s) s (regFrom p r s))))) ∧
  (∀ (r : RegAt) (l : List (Fld × Nat)) (s : State), plainReg r = true → ∀ x ∈ r.d.fields,
    wordVal (rowWord r l s) x = match l.find? (fun e => e.1.id = x.id ∧ e.1.ix = r.ix) with
      | some e => e.2 % 2 ^ x.width
      | none => if x.acc = .rw then s.rd (r.fld x) else 0)

/-- Reading a register (R78, R81, R86). -/
def Obligations.RegisterReads : Prop :=
  ∀ (c : Instr) (p : Port) (a : Nat) (r : RegAt) (s : State), readOf c = some (p, a) → p ≠ .mdio →
    regAt (a / 4 * 4) = some r →
    serviceAt p false (a / 4 * 4) (some r) s = .normal ∨ serviceAt p false (a / 4 * 4) (some r) s = .readOnly →
    (wideRead r = false →
      let v := regRead p r (regVote r s)
      exec c s = .next (settle ((readEffect r (regClear r v.2)).send
        (.answer p (a / 4 * 4) (tbits v.1 (32 * r.k + 31) (32 * r.k)))))) ∧
    (wideRead r = true → r.k = 0 →
      let v := regRead p r (regVote r s)
      exec c s = .next (settle ((regClear r (snapPut { port := p, window := winBase r.addr, addr := r.low, value := v.1 } v.2)).send
        (.answer p (a / 4 * 4) (tbits v.1 31 0))))) ∧
    (wideRead r = true → r.k ≠ 0 → ∀ x : Snap, (snapOf p (winBase r.addr) (regVote r s)).filter (fun x => x.addr = r.low) = some x →
      exec c s = .next (settle ((regVote r s).send
        (.answer p (a / 4 * 4) (tbits x.value (32 * r.k + 31) (32 * r.k))))))

/-- Accesses of the ports and of the granary aperture (R76, R77, R80, R267, R296). -/
def Obligations.PortAccesses : Prop :=
  (∀ (c : Instr) (p : Port) (a : Nat) (s : State), portReadOf c s = some (p, a) → stalledAt p s = [] →
    (crossVale a (serviceAt p false a (regAt a) s) = none →
      exec c s = .next (settle (answerTo p a (readAt Ext.plain p a s)))) ∧
    (∀ k, crossVale a (serviceAt p false a (regAt a) s) = some k → (inFlight k s).length < 16 →
      exec c s = .next (settle (flightAdd k { port := p, addr := a, write := none, armed := false } s)))) ∧
  (∀ (c : Instr) (p : Port) (a be v : Nat) (s : State), portWriteOf c s = some (p, a, be, v) → stalledAt p s = [] →
    (crossVale a (serviceAt p true a (regAt a) s) = none → exec c s = .next (settle (writeAt Ext.plain p be a v s))) ∧
    (∀ k r, crossVale a (serviceAt p true a (regAt a) s) = some k → (inFlight k s).length < 16 → regAt a = some r →
      r.keyed = false → mirrorMode a = false → be = 15 →
      exec c s = .next (settle (flightAdd k { port := p, addr := a, write := some v, armed := armed p s } s)))) ∧
  (∀ (a : BitVec 24) (data : List (Word × BitVec 4)) (s : State), Calm s → Loggable 11 s → pcieUp s = true →
    Records (.pcieMemoryWrite a data true) 11 1 0x08 s s) ∧
  ∀ (p : Port) (n : Fin 2097152) (f : BurstFind) (s : State), p ≠ .mdio → regAt (0x800000 + 4 * n.val) = none →
    (serviceAt p false (0x800000 + 4 * n.val) none s = .normal →
      exec (.apertureRead p n f) s = .next (settle
        ((apertureRead n f s).2.send (.answer p (0x800000 + 4 * n.val) (apertureRead n f s).1)))) ∧
    (∀ v : Word, serviceAt p true (0x800000 + 4 * n.val) none s = .normal → apertureBarred n s = false →
      exec (.apertureWrite p n v f) s = .next (settle (apertureWrite n v.toNat f s)))

/-- Arming, voting and the voted TIME_ADJ_FREQ (R84, R86, R83). -/
def Obligations.FabricKeys : Prop :=
  (∀ (p : Port) (v : Word) (s : State), p ≠ .mdio → Calm s →
    serviceAt p true 8 (regAt 8) s = .normal ∨ serviceAt p true 8 (regAt 8) s = .readOnly ∧ recovering s = false →
    (v = 0xC0A51E5D → exec (.glbKeygateWrite p v) s = .next (vectors
      { s with fabric := { s.fabric with arm := tset 0 s.fabric.arm (portCode p) (s.age + msec) } })) ∧
    (v ≠ 0xC0A51E5D → exec (.glbKeygateWrite p v) s = .next (vectors (accNote 3 p true 8 (disarm p s))))) ∧
  (∀ (p : Port) (s : State), Calm s → exec (.keygateArmExpiry p) s = .next (vectors
    { s with fabric := { s.fabric with arm := tset 0 s.fabric.arm (portCode p) 0 } })) ∧
  (∀ s : State,
    let x := votedAt s.fabric.scrubAt
    let t := { s with fabric := { s.fabric with scrubAt := (s.fabric.scrubAt + 1) % 1537 } }
    let k := s.copies x.1
    (k.1 = k.2.1 ∧ k.1 = k.2.2 → Calm s → exec .votedFieldScrub s = .next (vectors t)) ∧
    (¬ (k.1 = k.2.1 ∧ k.1 = k.2.2) → exec .votedFieldScrub s = .next (settle ((t.wrV x.1 (s.rdV x.1)).owe
      (.record x.2.1 (if (vote3 k.1 k.2.1 k.2.2).isSome then 1 else 2) (if (vote3 k.1 k.2.1 k.2.2).isSome then 0x04 else 0x05)
        x.2.2))))) ∧
  ∀ (p : Port) (v : Word) (s : State), p ≠ .mdio → Calm s →
    serviceAt p true 0x60034 (regAt 0x60034) s = .normal →
    (s.copies R.TIME_ADJ_FREQ_FREQ).1 = (s.copies R.TIME_ADJ_FREQ_FREQ).2.1 →
    (s.copies R.TIME_ADJ_FREQ_FREQ).1 = (s.copies R.TIME_ADJ_FREQ_FREQ).2.2 → timeBarred s = false →
    (∀ r x, regAt 0x60034 = some r → x ∈ r.d.fields → encOk x R.TIME_ADJ_FREQ_FREQ (s.rd R.TIME_ADJ_FREQ_FREQ) v.toNat v.toNat s = true) →
    exec (.timeAdjFreqWrite p v) s = .next (vectors
      (if v.toNat = s.rd R.TIME_ADJ_FREQ_FREQ then s else s.wrV R.TIME_ADJ_FREQ_FREQ v.toNat))

/-- The management ports (R90, R91, R261 to R268; log 31 PRESUMED, log 34 DEDUCED). -/
def Obligations.ManagementPorts : Prop :=
  (∀ s : State, Calm s →
    (pcieUp s = true → s.rd R.PWR_STAT_HOST_RUNG < 2 →
      (∀ r : CfgReq, exec (.pcieConfigRequest r) s = .next (vectors (match r with
        | .read dw => s.send (.config dw.toNat (configWord dw.toNat s))
        | .command v => { s with mgmt := { s.mgmt with cmd := v.toNat } }
        | .bar0 v => { s with mgmt := { s.mgmt with bar0 := v.toNat / 2 ^ 24 * 2 ^ 24 } }
        | .power d3 => { s.wr R.MGMT_PCIE_STAT_DSTATE (if d3 then 3 else 0) with mgmt := { s.mgmt with d3 := d3 } }
        | .msix enable mask => msixFlush { s with msixOff := !enable || mask }
        | .deviceControl v => { s with mgmt := { s.mgmt with devCtl := v.toNat } }
        | .other _ _ => s))) ∧
      exec .pcieUnsupportedRequest s = .next (vectors (s.send .unsupported))) ∧
    exec .pciePerst s = .next (vectors
      { s.wrAll [R.MGMT_PCIE_STAT_LINK_UP, R.MGMT_PCIE_STAT_SPEED, R.MGMT_PCIE_STAT_WIDTH, R.MGMT_PCIE_STAT_DSTATE] 0 with
        mgmt := { s.mgmt with cmd := 0, bar0 := 0, d3 := false, devCtl := 0, table := [] },
        msixOff := true, msixMask := [], msixPend := [] }) ∧
    (∀ (speed : BitVec 4) (width : BitVec 2), s.isFenced .pcie = false → ¬ (s.mode = 0 ∧ s.boot.step < 4) →
      exec (.pcieLinkUp true speed width) s = .next (vectors
        (((s.wr R.MGMT_PCIE_STAT_LINK_UP 1).wr R.MGMT_PCIE_STAT_SPEED speed.toNat).wr R.MGMT_PCIE_STAT_WIDTH width.toNat))) ∧
    (∀ (speed : BitVec 4) (width : BitVec 2),
      exec (.pcieLinkUp false speed width) s = .next (vectors (s.wr R.MGMT_PCIE_STAT_LINK_UP 0))) ∧
    exec .spiFrameError s = .next (vectors (s.sat R.MGMT_SPI_STAT_FRAME_ERR 1)) ∧
    (recovering s = true → s.rd R.MGMT_RECOV_STAT_STATE = 2 →
      let t := { s.wr R.MGMT_RECOV_STAT_STATE 3 with mgmt := { s.mgmt with recov := [] } }
      exec (.recoveryCommitDone true) s = .next (vectors { t.wr R.MGMT_RECOV_STAT_DONE 1 with
        sec := { s.sec with fw := tset [] s.sec.fw s.mgmt.recSlot (imgCommit s.mgmt.recov commitWord) } }) ∧
      exec (.recoveryCommitDone false) s = .next (vectors (t.wr R.MGMT_RECOV_STAT_REASON 4)))) ∧
  ∀ (prtad devad : BitVec 5) (t : Nat) (s : State), Calm s → mdioTrunk prtad.toNat devad.toNat s = some t →
    let dev := devad.toNat
    let a := mmdOf t dev s
    (∀ x : BitVec 16, exec (.mdioAddressFrame prtad devad x) s = .next (vectors { s with mgmt := { s.mgmt with
      mmd := tset 0 s.mgmt.mmd (32 * t + dev) x.toNat, pre := some { trunk := t, dev := dev, addr := x.toNat, word := none } } })) ∧
    (∀ x : Prefetch, s.mgmt.pre = some x → x.word = none → x.addr < 4096 →
      let y := readAt Ext.plain .mdio (mdioAddr x.trunk x.dev x.addr) s
      exec .mdioPrefetchComplete s = .next (settle { y.2 with mgmt := { y.2.mgmt with pre := some { x with word := y.1 } } })) ∧
    (s.mgmt.wrHeld = none →
      (∀ x, s.mgmt.wrHeld = none → s.mgmt.rdHeld = none → a % 2 = 0 → s.mgmt.pre = some { trunk := t, dev := dev, addr := a, word := some x } →
        let u := { s with mgmt := { s.mgmt with rdHeld := some (t, dev, a, x / 65536) } }.send (.mdio (x % 65536))
        exec (.mdioReadFrame prtad devad) s = .next (vectors u) ∧
        exec (.mdioPostReadIncrement prtad devad) s = .next (vectors (mdioSeek t dev (min 65535 (a + 1)) u))) ∧
      (∀ v : BitVec 16, a % 2 = 0 → exec (.mdioWriteFrame prtad devad v) s = .next (vectors
        { s with mgmt := { s.mgmt with rdHeld := none, wrHeld := some (t, dev, a, v.toNat) } }))) ∧
    ∀ (v : BitVec 16) (b lo : Nat), a = b + 1 → b % 2 = 0 → s.mgmt.wrHeld = some (t, dev, b, lo) →
      exec (.mdioWriteFrame prtad devad v) s = .next (settle
        (mdioPut t dev a (v.toNat * 65536 + lo) { s with mgmt := { s.mgmt with rdHeld := none, wrHeld := none } }))

/-- Resets (R33 to R35, R400; what survives is DEDUCED, log 15). -/
def Obligations.ResetsAnswer : Prop :=
  (∀ (pin : Bool) (s : State), exec (.coldReset pin) s = .next (vectors (coldReset pin s)) ∧
    (coldReset pin s).mode = 0 ∧ (coldReset pin s).boot.step = 1 ∧ (coldReset pin s).boot.fences = [] ∧
    (coldReset pin s).trunks = [] ∧ (coldReset pin s).drops = [] ∧ (coldReset pin s).mill = {} ∧
    (coldReset pin s).sec.room = [] ∧ (coldReset pin s).sec.store = s.sec.store ∧ (coldReset pin s).warp.slots = s.warp.slots ∧
    (coldReset pin s).warp.floor = s.warp.floor ∧ (coldReset pin s).archive = s.archive) ∧
  ∀ s : State, 8 ≤ s.boot.step →
    let t := warmReset R.STW_RESET_CAUSE_WATCHDOG s
    exec .stewardWatchdogExpiry s = .next (vectors t) ∧ t.mode = 0 ∧ t.boot.step = 2 ∧ t.trunks = [] ∧ t.mill = {} ∧
      t.bit R.STW_RESET_CAUSE_WATCHDOG = true ∧ t.time = s.time ∧ t.warp.slots = s.warp.slots ∧ t.archive = s.archive

/-- BOOT (R37 to R43, R60, R61; log 13, 18). -/
def Obligations.BootAdvances : Prop :=
  (∀ (active : BitVec 5) (s : State), s.mode = 0 → s.boot.step ≤ 2 →
    let t := { s with
      boot := { s.boot with step := 4, repairs := s.boot.repairs.map fun (r : Block × Nat × Bool) => (r.1, r.2.1, false) },
      sec := { s.sec with lcNow := s.rd R.SEC_LC_STATE } }
    let t := (t.wr R.STW_BOOT_STAT_REPAIRS (min 15 (s.boot.repairs.filter fun (r : Block × Nat × Bool) => r.2.2).length)).wr R.STW_BOOT_STAT_STAGE 1
    Calm (tamperBoot active.toNat t) → exec (.bootRomStart active) s = .next (vectors (tamperBoot active.toNat t))) ∧
  (∀ (fails : List BistFail) (s : State), s.mode = 0 → s.boot.step = 4 →
    let w := bistEnd (fun b => (blkVale b).isNone) fails s
    exec (.hostSelftestDone fails) s = .next (settle { w.wr R.STW_BOOT_STAT_STAGE 2 with boot := { w.boot with step := 6 } })) ∧
  (∀ (sig2 ok : Bool) (s : State), s.mode = 0 → s.boot.step = 6 → fwTried 1 s = true → fwOk 1 true s = true →
    let t := ((s.wr R.STW_BOOT_STAT_FW_SLOT 1).wr R.SEC_STAT_FW_VER_RUN (fwVersion 1 s)).wr R.STW_BOOT_STAT_STAGE 3
    let t := (upto 4).foldl (fun a v => a.modPass v fun x => { x with powered := true })
      { t with boot := { s.boot with step := 9 } }
    exec (.firmwareVerifyDone true sig2 ok) s = .next (settle (keyLoad ok t))) ∧
  (∀ (ok : Bool) (s : State), s.mode = 0 → s.boot.step = 6 → Calm s → fwTried 1 s = false → fwTried 2 s = false →
    exec (.firmwareVerifyDone false false ok) s =
      .next (vectors { s.wr R.STW_BOOT_STAT_STAGE 8 with boot := { s.boot with step := 7 } })) ∧
  (∀ (fails : List BistFail) (s : State), s.mode = 0 → s.boot.step = 10 →
    let w := bistEnd (fun b => (blkVale b).isSome) fails s
    exec (.valeSelftestDone fails) s = .next (settle { w.wr R.STW_BOOT_STAT_STAGE 5 with boot := { w.boot with step := 11 } })) ∧
  (∀ (a b g : Verdict) (s : State), s.mode = 0 → s.boot.step = 11 →
    let w := s.wr R.WARP_FLOOR_FLOOR s.warp.floor
    let r := trySlots (fun k => if k = 1 then a else if k = 2 then b else g) (slotOrderBoot w)
      ([1, 2, 3].foldl (fun a k => a.wr (reasonFld k) 15) (w.wr R.WARP_BOOT_PREF_ONCE 0))
    (∀ img, r.1 = some img →
      let t := { r.2.wr R.STW_BOOT_STAT_STAGE 6 with
        boot := { r.2.boot with step := 12 }, warp := { r.2.warp with selected := some img } }
      Calm t → exec (.warpSelect a b g) s = .next (vectors t)) ∧
    (r.1 = none →
      let t := { r.2.wr R.STW_BOOT_STAT_STAGE 7 with boot := { r.2.boot with step := 13 } }
      (t.boot.bound = false → Calm (t.setMode 1) → exec (.warpSelect a b g) s = .next (vectors (t.setMode 1))) ∧
      (t.boot.bound = true → exec (.warpSelect a b g) s = .next (settle (enterQuarantine t))))) ∧
  ∀ (img : WImage) (s : State), s.mode = 0 → s.boot.step = 12 → s.warp.selected = some img →
    let t := floorRaise img ((warpApply img s).wr R.WARP_STAT_APPLIED 1)
    let t := { t.wr R.STW_BOOT_STAT_STAGE 7 with
      boot := { t.boot with step := 13, reactionsLive := true }, warp := { t.warp with selected := none } }
    let t := if t.fencedProper .macsec then fenceEffects .macsec t else t
    exec .warpApplyDone s = .next (settle
      (if t.boot.bound then enterQuarantine t else linesStart (t.setMode (if t.boot.fences.isEmpty then 2 else 3))))

/-- Ends of the scan wipe and of a self-test (R46, R48 to R50). -/
def Obligations.TestsEnd : Prop :=
  (∀ s : State, s.mode = 4 → s.bit R.STW_SCAN_CTL_REQ = true →
    let t := s.wr R.STW_SCAN_CTL_REQ 0
    (Calm s → exec (.scanWipeDone true) s = .next (vectors
      { (t.wr R.STW_SCAN_CTL_WIPED 1).wr R.STW_SCAN_CTL_SCAN_EN 1 with boot := { s.boot with keyReadOff := true } })) ∧
    exec (.scanWipeDone false) s = .next (settle ((t.wr R.STW_SCAN_CTL_REFUSED 1).recordFree 5 3 0x52 none))) ∧
  (∀ (x : SelfTest) (s : State), s.boot.selfTest = some x → x.aborted = false →
    let t := { s with boot := { s.boot with selfTest := none } }
    let t := (((t.wr R.STW_SELFTEST_STAT_MEM_ID 0).wr R.STW_SELFTEST_FAIL_BIT 0).wr R.STW_SELFTEST_FAIL_ADDR 0).wr
      R.STW_SELFTEST_STAT_STATE 2
    let t := { t with boot := { t.boot with passes := x.block :: t.boot.passes.filter fun b => b ≠ x.block } }
    x.block ≠ .gran → Calm (assayFree t) → exec (.selftestDone none) s = .next (vectors (assayFree t))) ∧
  ∀ (x : SelfTest) (res : Option BistFail) (s : State), s.boot.selfTest = some x → x.aborted = true ∨ res.isSome = true →
    let t := { s with boot := { s.boot with selfTest := none } }
    let t := ((t.wr R.STW_SELFTEST_STAT_MEM_ID 0).wr R.STW_SELFTEST_FAIL_BIT 0).wr R.STW_SELFTEST_FAIL_ADDR 0
    let t := (failShow res.toList t).wr R.STW_SELFTEST_STAT_STATE 3
    let t := { t with boot := { t.boot with passes := t.boot.passes.filter fun b => b ≠ x.block } }
    exec (.selftestDone res) s = .next (settle (fenceBlock x.block
      ((t.free 32).2.recordWith (blockSrc x.block) 2 0x58 (t.free 32).1 none false)))

/-- Ends of a warp load (R53, R56, R57, R65). -/
def Obligations.WarpLoadsEnd : Prop :=
  (∀ s : State, Calm s → s.warp.stageOpen = true → exec .warpStagingTimeout s = .next (vectors
    (loadState 0 (stageDrop (s.wr R.WARP_LOAD_CTL_ABORT 0))))) ∧
  ∀ (img : WImage) (live : Bool) (s : State), s.warp.committing = some (img, live) → s.mode ≠ 5 →
    let t := loadState 3 { s with warp := { s.warp with slots := tset [] s.warp.slots img.slot img.words, committing := none } }
    (Calm s → s.mode ≠ 1 → live = false ∨ s.serving = false → exec .warpCommitDone s = .next (vectors t)) ∧
    (s.mode = 1 → exec .warpCommitDone s = .next (vectors (warmReset R.STW_RESET_CAUSE_WARP_ACCEPT t))) ∧
    (live = true → s.serving = true → exec .warpCommitDone s = .next (settle (liveApply img t)))

/-- Holds, timers and answers take a trunk to its next state (R113, R114, R115, R123). -/
def Obligations.TrunkTimersMoveOn : Prop :=
  ∀ (t : Fin 8) (s : State), Calm s → Alone t s →
    (trkState t s = 12 → ∃ u, Enters (.failHoldElapsed t) t 1 [] s u) ∧
    (trkState t s = 10 → (s.trk t).wake = 1 → ∃ u, Enters (.wakeNoAnswer t) t 1 [] s u) ∧
    (trkState t s = 13 → ∃ u, Enters (.stdLinkUp t) t 8 [] s u) ∧
    (2 ≤ trkState t s → trkState t s ≤ 4 → ∃ u, Enters (.trainingStateTimer t) t (trkState t s + 1) [] s u) ∧
    (trkState t s = 10 → (s.trk t).wake = 2 →
      ∃ u, Enters (.wakeJoinTimeout t) t 11 [R.TRK_RETRAIN_CNT_COUNT t] s u ∧ (u.trk t).wake = 0) ∧
    (trkState t s = 10 → (s.trk t).wake = 3 →
      ∃ u, Enters (.wakeToneAnswerEnd t) t 11 [R.TRK_RETRAIN_CNT_COUNT t] s u ∧ (u.trk t).wake = 0)

/-- A limit or a loss in training and a standard link that fails take the trunk to FAIL_HOLD with state and cause
(R113, R114, R115, R118). It rests on log 41. -/
def Obligations.TrunkFailuresHold : Prop :=
  ∀ (t : Fin 8) (s : State), Calm s → Alone t s →
    let fail := fun (c : Instr) (cause : Nat) (more : List Fld) => ∃ u, Enters c t 12
      ([R.TRK_TRAIN_STAT_FAIL_STATE t, R.TRK_TRAIN_STAT_FAIL_CAUSE t] ++ more) s u ∧
      u.rd (R.TRK_TRAIN_STAT_FAIL_STATE t) = trkState t s ∧ u.rd (R.TRK_TRAIN_STAT_FAIL_CAUSE t) = cause ∧
      ∀ f ∈ more, u.rd f = 1
    (5 ≤ trkState t s → trkState t s ≤ 7 → (s.trk t).alignWait = false →
      fail (.trainingLimitExpiry t) 1 [R.TRK_LINK_EVT_TRAIN_FAIL t]) ∧
    (trkState t s = 1 → (s.trk t).anPeer = true → fail (.trainingLimitExpiry t) 1 []) ∧
    (3 ≤ trkState t s → trkState t s ≤ 7 → fail (.infofieldLoss t) 4 [R.TRK_LINK_EVT_TRAIN_FAIL t]) ∧
    (trkState t s = 9 → (s.trk t).alignWait = false →
      fail (.fastRetrainTimeout t) 7 [R.TRK_LINK_EVT_RETRAIN_FAIL t]) ∧
    (∀ los, trkState t s = 13 → fail (.stdLinkFail t los) (if los then 2 else 9) [R.TRK_LINK_EVT_TRAIN_FAIL t])

/-- Each trigger takes a Coupler-Reach trunk in DATA to RETRAIN, counted and with its event (R116, R117). -/
def Obligations.TriggersRetrain : Prop :=
  ∀ (t : Fin 8) (s : State), Calm s → Alone t s → Unheld t s → Idle t s → trkState t s = 8 → trkCR t s = true →
    (s.trk t).qw.suspended = false → s.bit (R.TRK_RETRAIN_CTL_FR_EN t) = true →
    ((s.trk t).triggers.filter fun a => s.age < a + second).length < 4 →
    ∀ c ∈ [Instr.amLoss t, .uncorrectableBurst t, .lowMargin t, .lossOfSignal t],
    (c = .amLoss t → 4 ≤ (s.trk t).missRun) → (c = .lowMargin t → 1024 ≤ (s.trk t).lowRun) →
    (c = .uncorrectableBurst t → s.rd (R.TRK_RETRAIN_CTL_UNC_LIM t) ≤ (s.trk t).uncPeriod) →
    ∃ u, Enters c t 9 [R.SURV_TRK_STAT_BUSY t, R.TRK_LINK_EVT_RETRAIN_START t, R.TRK_RETRAIN_CNT_COUNT t] s u ∧
      u.rd (R.TRK_LINK_EVT_RETRAIN_START t) = 1 ∧
      u.rd (R.TRK_RETRAIN_CNT_COUNT t) = min (s.rd (R.TRK_RETRAIN_CNT_COUNT t) + 1) 0xFFFFFFFF

/-- Auto-negotiation pages, twin alignment, SLEEP exchanges, low-power idle and wake tones do to a trunk what their
rows say (R103, R106, R120, R121, R122, R123, R155). -/
def Obligations.TrunkExchanges : Prop :=
  (∀ (t : Fin 8) (s : State), Calm s →
    (trkState t s = 1 → ∃ u, exec (.anPageReceive t) s = .next u ∧ (u.trk t) = { s.trk t with anPeer := true } ∧
      TrkOnly [] t s u) ∧
    (trkState t s ≠ 6 → (s.trk t).alignWait = true → ∃ u, exec (.twinCountdownAlign t) s = .next u ∧
      (u.trk t).phase = 2 ∧ (u.trk t).cdTx = 255 ∧ (u.trk t).alignWait = false ∧ TrkOnly [] t s u) ∧
    (∀ seq : BitVec 8, Alone t s → (s.trk t).sleepSeq = some seq.toNat → ∃ u, exec (.sleepAck t seq) s = .next u ∧
      (u.trk t).sleepNext = true ∧ (u.trk t).sleepSeq = none ∧ (u.trk t).lch = none ∧ TrkOnly [] t s u) ∧
    (∀ seq : BitVec 8, (s.trk t).sleepSeq = some seq.toNat → (s.trk t).rungAsk = none →
      ∃ u, exec (.sleepNak t seq) s = .next u ∧ u.rd (R.TRK_LINK_EVT_SLEEP_NAK t) = 1 ∧
        (u.trk t).sleepSeq = none ∧ (u.trk t).lch = none ∧ TrkOnly [R.TRK_LINK_EVT_SLEEP_NAK t] t s u) ∧
    (∀ seq : BitVec 8, trkState t s = 8 → trkCR t s = true → Alone t s → (s.trk t).lchDone = none →
      ∃ u, exec (.sleepReq t seq) s = .next u ∧ TrkOnly [] t s u ∧
        let ok := 2 ≤ s.rd (R.PWR_LOWEST_LOWEST (2 + t)) ∧ millHolds t s = false ∧ (s.trk t).qw.grant = none
        (u.trk t).lchOut = (s.trk t).lchOut ++ [(if ok then 3 else 4) * 2 ^ 56 + seq.toNat * 2 ^ 48] ∧
        (u.trk t).sleepNext = (if ok then true else (s.trk t).sleepNext)) ∧
    (∀ r, (s.trk t).lch = some r → r.left = 0 → r.type = 2 → (s.trk t).rungAsk = none →
      ∃ u, exec (.linkChannelTimeout t) s = .next u ∧ u.rd (R.TRK_LINK_EVT_LCH_TIMEOUT t) = 1 ∧
        u.rd (R.TRK_LINK_EVT_SLEEP_NAK t) = 1 ∧ (u.trk t).lch = none ∧
        TrkOnly [R.TRK_LINK_EVT_LCH_TIMEOUT t, R.TRK_LINK_EVT_SLEEP_NAK t] t s u)) ∧
  (∀ (t : Fin 8) (s : State), Calm s →
    (trkState t s = 8 → eeeInUse t s = true → (s.trk t).bank4 = [] → ∃ u, exec (.lpiIdleExpiry t) s = .next u ∧
      u.rd (R.TRK_STAT_LPI_TX t) = 1 ∧ RegsOnly [R.TRK_STAT_LPI_TX t] s u) ∧
    (trkState t s = 8 → trkCR t s = true → s.bit (R.TRK_STAT_LPI_TX t) = true → ∃ u, exec (.lpiQuietExpiry t) s = .next u ∧
      .trkRefresh t ∈ u.out ∧ u.trk t = { s.trk t with refreshLeft := 16 } ∧ TrkOnly [] t s u) ∧
    (trkState t s = 10 → (s.trk t).wake = 1 → ∃ u, exec (.wakeToneBurst t) s = .next u ∧ .trkTone t ∈ u.out ∧
      RegsOnly [] s u) ∧
    (trkState t s = 10 → (s.trk t).wake = 1 → ∃ u, exec (.wakeToneDetect t) s = .next u ∧
      u.trk t = { s.trk t with wake := 2 } ∧ TrkOnly [] t s u))

/-- Auto-negotiation resolves to the best common mode and goes on, or fails with cause 5 (R106, R107, R108, R113). It
rests on log 1, 41. -/
def Obligations.AnResolves : Prop :=
  ∀ (t : Fin 8) (r : AnResult) (s : State), Calm s → Alone t s → trkState t s = 1 →
    (∀ m, r.msFault = false → bestMode (bothModes t r s) = some m →
      ∃ u, Enters (.anComplete t r) t (if 4 ≤ m then 2 else 13)
          (anTold t ++ [R.TRK_STAT_RESOLVED t, R.TRK_STAT_VALID t, R.TRK_STAT_MASTER t, R.TRK_SNR_REF_QDB t]) s u ∧
        u.rd (R.TRK_STAT_RESOLVED t) = m ∧ u.rd (R.TRK_STAT_VALID t) = 1 ∧
        u.rd (R.TRK_STAT_MASTER t) = b2n (anMaster t r s) ∧ u.rd (R.TRK_AN_STAT_LP_MODES t) = peerModes r ∧
        u.rd (R.TRK_AN_STAT_DONE t) = 1) ∧
    (r.msFault = true ∨ bestMode (bothModes t r s) = none →
      ∃ u, Enters (.anComplete t r) t 12 (anTold t ++ [R.TRK_TRAIN_STAT_FAIL_STATE t, R.TRK_TRAIN_STAT_FAIL_CAUSE t]) s u ∧
        u.rd (R.TRK_TRAIN_STAT_FAIL_CAUSE t) = 5)

/-- A codeword counts, shows its margin and hands its frames to the receive bank; a standard frame enters its bank
(R99, R101, R146, R147, R149). -/
def Obligations.LinesReceive : Prop :=
  ∀ (t : Fin 8) (s : State), Calm s → Alone t s → trkState t s = 8 → laneCount (s.pas (t / 2)).upUse = 3 →
    (∀ (c : CwStatus) (blk : BitVec 257) (margin : Int) (lpi part : Bool) (frames : List LineFrame) (adapt : List CoefUpd),
      trkCR t s = true → qwOpen t s = false → (s.trk t).cwPos ≠ 0 → (s.trk t).qw.suspended = false → c.wf 15 = true →
      ∃ u, exec (.crCodewordReceive t c blk margin lpi part frames adapt) s = .next u ∧
        u.rd (R.TRK_FEC_CW_CNT_COUNT t) = (s.rd (R.TRK_FEC_CW_CNT_COUNT t) + 1) % 2 ^ 48 ∧
        u.rd (R.TRK_SNR_MARGIN_QDB t) = intOctet (max (-128) (min 127 margin)) ∧
        u.rd (R.TRK_STAT_LPI_RX t) = b2n lpi ∧ (u.trk t).cwPos = ((s.trk t).cwPos + 1) % 4096 ∧ (u.trk t).rxPart = part ∧
        trkBank t u = trkBank t s ++ codewordRx t frames c ∧
        (∀ k, k ≠ 8 * (t.val / 2) + t % 2 → tget [] u.rxBank k = tget [] s.rxBank k) ∧
        TrkOnly (codewordFields t) t s { u with rxBank := s.rxBank }) ∧
    (∀ f : LineFrame, trkCR t s = false → ∃ u, exec (.stdFrameReceive t f) s = .next u ∧
        trkBank t u = trkBank t s ++ [trkRx t f] ∧
        (∀ k, k ≠ 8 * (t.val / 2) + t % 2 → tget [] u.rxBank k = tget [] s.rxBank k) ∧
        TrkOnly [] t s { u with rxBank := s.rxBank })

/-- An impulse-noise burst stops adaptation and counts; in ECHO_M and ECHO_S it does neither (R142). -/
def Obligations.ImpulseGuard : Prop :=
  ∀ (t : Fin 8) (s : State), Calm s →
    ((5 ≤ trkState t s ∧ trkState t s ≤ 9) ∨ trkState t s = 11 →
      let u := (s.wr (R.TRK_EQ_STAT_IMPULSE t) 1).sat (R.TRK_EQ_STAT_IMPULSE_CNT t) 1
      exec (.impulseDetect t) s = .next (vectors u) ∧ adaptStopped t (vectors u) = true) ∧
    (trkState t s = 3 ∨ trkState t s = 4 → exec (.impulseDetect t) s = .next (vectors s)) ∧
    exec (.impulseGuardEnd t) s = .next (vectors (s.wr (R.TRK_EQ_STAT_IMPULSE t) 0)) ∧
    (∀ err : Int, adaptStopped t s = true → exec (.gainLoopCheck t err) s = .next (vectors s))

/-- The equaliser's reports, guard, gain loop, convergence, slicer margins and second ticks write their fields alone
(R129, R137, R140, R141, R142, R148, R149). -/
def Obligations.EqualiserLoops : Prop :=
  ∀ (t : Fin 8) (s : State), Calm s →
    (∀ l : List PsReflection, qwOpen t s = false → ∃ u, exec (.surveyResultList t l) s = .next u ∧
      u.trk t = { s.trk t with eq := { (s.trk t).eq with refl := surveyList (s.rd (R.TRK_STAT_RESOLVED t)) l } } ∧
      Only [] (State.offTrk t) s u) ∧
    (((5 ≤ trkState t s ∧ trkState t s ≤ 9) ∨ trkState t s = 11) → ∃ u, exec (.impulseDetect t) s = .next u ∧
      u.bit (R.TRK_EQ_STAT_IMPULSE t) = true ∧ Counted (R.TRK_EQ_STAT_IMPULSE_CNT t) 1 s u ∧
      RegsOnly [R.TRK_EQ_STAT_IMPULSE t, R.TRK_EQ_STAT_IMPULSE_CNT t] s u) ∧
    (∃ u, exec (.impulseGuardEnd t) s = .next u ∧ u.bit (R.TRK_EQ_STAT_IMPULSE t) = false ∧
      RegsOnly [R.TRK_EQ_STAT_IMPULSE t] s u) ∧
    (∀ err : Int, adaptStopped t s = false → (loopsAdapt t s).2 = true → s.rd (R.TRK_EQ_RX_GAIN_QDB t) ≤ 120 →
      ∃ u, exec (.gainLoopCheck t err) s = .next u ∧
        (u.rd (R.TRK_EQ_RX_GAIN_QDB t) : Int) = (if 2 < err then max 0 ((s.rd (R.TRK_EQ_RX_GAIN_QDB t) : Int) - 1)
          else if err < -2 then min 120 ((s.rd (R.TRK_EQ_RX_GAIN_QDB t) : Int) + 1) else s.rd (R.TRK_EQ_RX_GAIN_QDB t)) ∧
        RegsOnly [R.TRK_EQ_RX_GAIN_QDB t] s u) ∧
    (∀ ec ffe dfe timing : Bool, trkState t s = 8 → ∃ u, exec (.convergenceEval t ec ffe dfe timing) s = .next u ∧
      u.bit (R.TRK_EQ_STAT_EC_CONV t) = ec ∧ u.bit (R.TRK_EQ_STAT_FFE_CONV t) = ffe ∧
      u.bit (R.TRK_EQ_STAT_DFE_CONV t) = dfe ∧ u.bit (R.TRK_EQ_STAT_TIMING_LOCK t) = timing ∧
      RegsOnly [R.TRK_EQ_STAT_EC_CONV t, R.TRK_EQ_STAT_FFE_CONV t, R.TRK_EQ_STAT_DFE_CONV t, R.TRK_EQ_STAT_TIMING_LOCK t] s u) ∧
    (∀ a b c : BitVec 8, trkState t s = 8 → ∃ u, exec (.slicerMarginUpdate t a b c) s = .next u ∧
      u.rd (R.TRK_SLICER_UPPER t) = a.toNat ∧ u.rd (R.TRK_SLICER_MIDDLE t) = b.toNat ∧ u.rd (R.TRK_SLICER_LOWER t) = c.toNat ∧
      RegsOnly [R.TRK_SLICER_UPPER t, R.TRK_SLICER_MIDDLE t, R.TRK_SLICER_LOWER t] s u) ∧
    (∃ u, exec (.fecSecondTick t) s = .next u ∧ u.rd (R.TRK_FEC_SEC_UNC_1S t) = min 0xFFFF (s.trk t).secUnc ∧
      u.rd (R.TRK_FEC_SEC_MAX_1S t) = (s.trk t).secMax % 2 ^ (R.TRK_FEC_SEC_MAX_1S t).width ∧
      u.trk t = { s.trk t with secUnc := 0, secMax := 0 } ∧
      Only [R.TRK_FEC_SEC_UNC_1S t, R.TRK_FEC_SEC_MAX_1S t] (State.offTrk t) s u)

/-- Echo windows slide, fade, end, recentre and are placed as their rows say (R128, R129, R130, R131, R132, R133,
R134, R135). -/
def Obligations.SparseWindows : Prop :=
  ∀ (t w : Fin 8) (s : State), Calm s →
    (∀ goal, adaptStopped t s = false → tget none (s.trk t).eq.slides w = some goal →
      goal < 2 ^ 13 → s.rd (R.TRK_EC_WIN_START t w) + 1 < goal →
      ((winGet (s.trk t).eq.sparse w).getD 0 0).natAbs < 64 →
      ∃ u, exec (.windowSlideStep t w) s = .next u ∧ u.rd (R.TRK_EC_WIN_START t w) = s.rd (R.TRK_EC_WIN_START t w) + 1 ∧
        u.eqIs s t (fun e => { e with
          sparse := winPut e.sparse w ((winGet e.sparse w).drop 1 ++ [0]), slides := tset none e.slides w (some goal) }) ∧
        Only [R.TRK_EC_WIN_START t w] (State.offTrk t) s u) ∧
    (∀ level : BitVec 8, winState t w s = 3 → adaptStopped t s = false → level.toNat ≤ 120 →
      ∃ u, exec (.windowFadeStep t w level) s = .next u ∧ u.rd (R.TRK_EC_WIN_LEVEL_HDB t w) = level.toNat ∧
        u.eqIs s t (fun e => { e with fade := tset 0 e.fade w (tget 0 e.fade w + 1) }) ∧
        Only [R.TRK_EC_WIN_LEVEL_HDB t w] (State.offTrk t) s u) ∧
    (winState t w s = 3 → Placed t s →
      ∃ u, exec (.windowFadeLimit t w) s = .next u ∧ winState t w u = 0 ∧ Counted (R.TRK_EC_MOVE_CNT_RELEASED t) 1 s u ∧
        u.eqIs s t (fun e => { e with
          sparse := winPut e.sparse w [], slides := tset none e.slides w none, fade := tset 0 e.fade w 0,
          strongSeen := tset false e.strongSeen w false }) ∧
        Only [R.TRK_EC_WIN_STATE t w, R.TRK_EC_STAT_ACTIVE t, R.TRK_EC_MOVE_CNT_RELEASED t] (State.offTrk t) s u) ∧
    (∀ level : BitVec 8, winState t w s = 2 → adaptStopped t s = false → Placed t s →
      ∃ u, exec (.windowIncomingEnd t w level) s = .next u ∧ winState t w u = 1 ∧
        u.rd (R.TRK_EC_WIN_LEVEL_HDB t w) = level.toNat ∧
        RegsOnly [R.TRK_EC_WIN_STATE t w, R.TRK_EC_STAT_ACTIVE t, R.TRK_EC_WIN_LEVEL_HDB t w] s u) ∧
    (winState t w s = 1 → s.bit (R.TRK_EC_WIN_PIN t w) = false → tget none (s.trk t).eq.slides w = none →
      (∀ k, strongestTap (winGet (s.trk t).eq.sparse w) = k → (k < 12 ∨ 20 < k) → adaptStopped t s = false →
        ∃ u, exec (.windowRecentre t w) s = .next u ∧
          u.eqIs s t (fun e => { e with
            slides := tset none e.slides w (some (min 5936 (max 256 (s.rd (R.TRK_EC_WIN_START t w) + k - 16)))) }) ∧
          Only [] (State.offTrk t) s u)) ∧
    (s.bit (R.TRK_EC_CTL_AUTO_PLACE t) = true → s.bit (R.TRK_EC_CTL_SPARSE_EN t) = true → qwOpen t s = false →
      trkState t s = 8 → s.bit (R.TRK_EC_STAT_REPLACING t) = true → ∃ u, exec (.placementCompute t) s = .next u ∧
        u.bit (R.TRK_EC_STAT_PENDING t) = true ∧ u.eqIs s t (fun e => { e with pend := some (targetSet t s) }) ∧
        Only [R.TRK_EC_STAT_PENDING t] (State.offTrk t) s u) ∧
    (∀ d l levels, searchRuns t s = true → (s.trk t).eq.block < 89 → (∀ k < 8, winState t k s = 0) →
      256 + 64 * (s.trk t).eq.block ≤ d → d < 320 + 64 * (s.trk t).eq.block → d ≤ 5999 → l.toNat ≤ 2 * s.rd (R.TRK_EC_CTL_PLACE_DB t) →
      ∃ u, exec (.residualSearchBlock t d l levels) s = .next u ∧ u.bit (R.TRK_EC_SEARCH_NEW t) = true ∧
        u.rd (R.TRK_EC_SEARCH_DELAY t) = d ∧ u.rd (R.TRK_EC_SEARCH_LEVEL_HDB t) = l.toNat ∧
        (u.trk t).eq.refl = listFinding d l.toNat (s.trk t).eq.refl ∧ (u.trk t).eq.block = (s.trk t).eq.block + 1 ∧
        Only [R.TRK_EC_SEARCH_NEW t, R.TRK_EC_SEARCH_DELAY t, R.TRK_EC_SEARCH_LEVEL_HDB t] (State.offTrk t) s u)

/-- Quiet windows are asked for, granted, refused, cancelled, opened, closed and timed as the exchange says (R165,
R166, R167, R168, R169, R170, R171). It rests on log 47. -/
def Obligations.QuietWindows : Prop :=
  ∀ (t : Fin 8) (s : State), Calm s → Alone t s →
    (calWants t s = true → trkState t s = 8 → trkCR t s = true → s.bit (R.TRK_QW_LIM_QW_EN t) = true →
      (s.trk t).lch = none → (s.trk t).qw.grant = none → (s.trk t).qw.waiting = [] →
      (∃ u, exec (.qwDeviceRequest t .calibration) s = .next u ∧ u.rd (R.TRK_QW_STAT_STATE t) = 1 ∧
        u.rd (R.TRK_QW_STAT_LOCAL t) = 1 ∧ u.rd (R.TRK_QW_STAT_PURPOSE t) = 0 ∧
        u.rd (R.TRK_QW_STAT_START t) = ((s.trk t).amTx + 1 + s.rd (R.TRK_QW_CTL_LEAD_AM t)) % 256 ∧
        (∃ r, (u.trk t).lch = some r ∧ r.type = 0x10 ∧ r.seq = (s.trk t).lchSeq ∧ r.left = 8 ∧
          tbits r.payload 31 16 = 400) ∧ TrkOnly (qwAskFields t) t s u) ∧
      (∀ a, (s.trk t).qw.retry = [(.calibration, a)] → a ≤ s.age → ∃ u, exec (.qwRetry t) s = .next u ∧
        u.rd (R.TRK_QW_STAT_STATE t) = 1 ∧ u.rd (R.TRK_QW_STAT_PURPOSE t) = 0 ∧ (u.trk t).qw.retry = [] ∧
        (∃ r, (u.trk t).lch = some r ∧ r.type = 0x10 ∧ r.seq = (s.trk t).lchSeq) ∧ TrkOnly (qwAskFields t) t s u)) ∧
    (∀ (seq : BitVec 8) (p : BitVec 48), trkState t s = 8 → trkCR t s = true → tbits p.toNat 47 46 = 0 →
      tbits p.toNat 45 44 ∈ [0, 3] → (s.trk t).lchDone = none →
      QwFree t (tbits p.toNat 39 32) (tbits p.toNat 31 16) s →
      ∃ u, exec (.qwReq t seq p) s = .next u ∧ u.rd (R.TRK_QW_STAT_STATE t) = 2 ∧ u.rd (R.TRK_QW_STAT_LOCAL t) = 0 ∧
        u.rd (R.TRK_QW_STAT_START t) = tbits p.toNat 39 32 ∧
        (∃ m, (u.trk t).lchOut = (s.trk t).lchOut ++ [m] ∧ m / 2 ^ 48 = 0x11 * 2 ^ 8 + seq.toNat) ∧
        (u.trk t).qw.grant = some {
          isLocal := false, scope := 0, purpose := tbits p.toNat 45 44, start := tbits p.toNat 39 32, durUs := tbits p.toNat 31 16, seq := seq.toNat, opened := false, openAge := 0 } ∧
        TrkOnly (qwAskFields t) t s u) ∧
    (∀ (seq : BitVec 8) (p : BitVec 48) (r : LchReq), (s.trk t).lch = some r → r.type = 0x10 → r.seq = seq.toNat →
      (tbits r.payload 45 44 ∈ [0, 3] → ∃ u, exec (.qwAck t seq p) s = .next u ∧ u.rd (R.TRK_QW_STAT_STATE t) = 2 ∧
        (u.trk t).lch = none ∧ (u.trk t).qw.grant = some {
          isLocal := true, scope := tbits r.payload 47 46, purpose := tbits r.payload 45 44, start := tbits r.payload 39 32, durUs := tbits r.payload 31 16, seq := r.seq,
          opened := false, openAge := 0 } ∧ TrkOnly [R.TRK_QW_STAT_STATE t] t s u) ∧
      (r.purpose = some .host → (s.trk t).qw.waiting = [] → ∃ u, exec (.qwNak t seq p) s = .next u ∧
        u.rd (R.TRK_QW_STAT_STATE t) = 0 ∧ u.rd (R.TRK_QW_STAT_NAK_RX t) = tbits p.toNat 43 40 ∧
        Counted (R.TRK_QW_CNT_FAILED t) 1 s u ∧ (u.trk t).lch = none ∧ (u.trk t).qw = (s.trk t).qw ∧
        TrkOnly [R.TRK_QW_STAT_NAK_RX t, R.TRK_QW_CNT_FAILED t, R.TRK_QW_STAT_STATE t] t s u)) ∧
    (∀ (p : BitVec 48) (g : QwGrant), (s.trk t).qw.grant = some g → g.isLocal = false → g.opened = false →
      g.seq = tbits p.toNat 15 8 → Idle t s → ∃ u, exec (.qwCancel t p) s = .next u ∧ (u.trk t).qw.grant = none ∧
        u.rd (R.TRK_QW_STAT_STATE t) = 0 ∧ Counted (R.TRK_QW_CNT_FAILED t) 1 s u ∧
        TrkOnly [R.SURV_TRK_STAT_BUSY t, R.TRK_QW_STAT_STATE t, R.TRK_QW_CNT_FAILED t] t s u) ∧
    (∀ g : QwGrant, (s.trk t).qw.grant = some g →
      (g.opened = false → g.purpose ≠ 2 → trkState t s = 8 → (if g.isLocal then (s.trk t).amTx = g.start else (s.trk t).amRx = some g.start) →
        ∃ u, exec (.qwWindowOpen t) s = .next u ∧ u.rd (R.TRK_QW_STAT_STATE t) = 3 ∧
          Counted (R.TRK_QW_CNT_GRANTED t) 1 s u ∧ (u.trk t).qw.grant = some { g with opened := true, openAge := s.age } ∧
          TrkOnly [R.TRK_QW_STAT_STATE t, R.TRK_QW_CNT_GRANTED t] t s u) ∧
      (g.opened = true → (s.trk t).qw.waiting = [] → Idle t s → ∃ u, exec (.qwWindowClose t) s = .next u ∧
        u.rd (R.TRK_QW_STAT_STATE t) = 0 ∧ Counted (R.TRK_QW_TIME_TOTAL_US t) ((s.age - g.openAge) / usec) s u ∧
        (u.trk t).qw.grant = none ∧ (u.trk t).qw.lastEnd = some s.age ∧ (u.trk t).qw.suspended = true ∧
        (∀ l, (s.trk t).eq.held = some l → (u.trk t).eq.refl = l) ∧
        TrkOnly [R.SURV_TRK_STAT_BUSY t, R.TRK_QW_TIME_TOTAL_US t, R.TRK_QW_STAT_STATE t] t s u)) ∧
    (∃ u, exec (.qwAmResumeTimeout t) s = .next u ∧
      u.trk t = { s.trk t with qw := { (s.trk t).qw with suspended := false } } ∧ TrkOnly [] t s u)

/-- The twin's grid advances, a held copy is sent at its guard time, and the better of two copies is taken (R154,
R156, R160, R161). -/
def Obligations.TwinStream : Prop :=
  ∀ (i : Fin 4) (s : State), Calm s →
    (s.bit (R.TWIN_CFG_FORMED i) = true → joined i false s = false → joined i true s = false →
      let idx := ((s.twin i).gridIndex + 1) % 4096
      let am := if idx = 0 then ((s.twin i).gridAm + 1) % 256 else (s.twin i).gridAm
      let next := fun (b : Bool) (m : Member) =>
        { m with flight := if memState i b s = 2 then m.flight ++ [am * 4096 + idx] else m.flight,
                 verifyAms := if idx = 0 ∧ memState i b s = 2 then m.verifyAms + 1 else m.verifyAms }
      ∃ u, exec (.twinGridPosition i) s = .next u ∧ Wrapped (R.TWIN_CNT_COUNT i 4) 1 s u ∧
        u.twin i = { s.twin i with gridIndex := idx, gridAm := am, a := next false (s.twin i).a, b := next true (s.twin i).b } ∧
        Only [R.TWIN_CNT_COUNT i 4] (State.offTwin i) s u) ∧
    (∀ (b : Bool) (c : TwinCopy) (n : Nat), joined i b s = true → (s.twin i).copyHeld = some (b2n b, c) →
      c.status = .corrected n → c.frames = [] →
      ∃ u, exec (.twinHoldExpiry i) s = .next u ∧ Wrapped (R.TWIN_CNT_COUNT i (b2n b)) 1 s u ∧
        u.rd (R.TWIN_STAT_PREF i) = b2n b + 1 ∧
        u.twin i = { s.twin i with lastSel := some (posNum c), copyHeld := none } ∧
        Only [R.TWIN_CNT_COUNT i (b2n b), R.TWIN_STAT_PREF i] (State.offTwin i) s u) ∧
    (∀ (b : Bool) (c : TwinCopy) (ns : Int), s.bit (R.TWIN_CFG_FORMED i) = true → joined i false s = true →
      joined i true s = true → offsetOk i s = true → (s.twin i).lastSel = none → c.index ≠ 0 →
      ((s.twin i).copyHeld = none → ∃ u, exec (.twinCopyArrival i b c ns) s = .next u ∧
        u.twin i = { s.twin i with copyHeld := some (b2n b, c) } ∧ Only [] (State.offTwin i) s u) ∧
      (∀ f n m, (s.twin i).copyHeld = some (b2n (!b), f) → posNum f = posNum c → f.status = .corrected n →
        c.status = .corrected m → f.message = c.message → m < n → c.frames = [] →
        ∃ u, exec (.twinCopyArrival i b c ns) s = .next u ∧ Wrapped (R.TWIN_CNT_COUNT i (b2n b)) 1 s u ∧
          u.rd (R.TWIN_STAT_PREF i) = b2n b + 1 ∧ (u.twin i).lastSel = some (posNum c) ∧ (u.twin i).copyHeld = none ∧
          Only [R.TWIN_CNT_COUNT i (b2n b), R.TWIN_STAT_PREF i] (State.offTwin i) s u))

/-- Twin members launch their positions, hear HELLO, switch from SOLO to VERIFY, and fail a verify in time (R156,
R157, R158, R159, R229, R230). -/
def Obligations.TwinMembers : Prop :=
  ∀ (i : Fin 4) (b : Bool) (s : State), Calm s →
    (∃ u, exec (.twinMessageEgress i b) s = .next u ∧
      MemOnly i b (fun m => { m with
        flight := m.flight.drop 1, await := m.await ++ (m.flight.take 1).map fun q => (q, false) }) s u ∧
      Only [] (State.offTwin i) s u) ∧
    (∀ (p : Nat) (late : Bool) (l : List (Nat × Bool)), (getMem i b s).await = (p, late) :: l →
      ∃ u, exec (.twinPositionLaunch i b) s = .next u ∧ MemOnly i b (fun m => { m with await := l }) s u ∧
        .twinWord (memTrunk i b s) p late ∈ u.out ∧
        Counted (R.PASS_DISC_CNT_LATE (memTrunk i b s / 2)) (b2n late) s u ∧
        Only [R.PASS_DISC_CNT_LATE (memTrunk i b s / 2)] (State.offTwin i) s u) ∧
    (∀ t : Fin 8, twinOf t s = some (i.val, b) →
      (∀ m : HelloMsg, memState i b s = 1 → m.role = 1 ∨ m.role = 2 → s.rd (peerRoleFld i (!b)) = 0 →
        ∃ u, exec (.hello t m) s = .next u ∧ u.rd (peerRoleFld i b) = m.role ∧
          MemOnly i b (fun x => { x with
            peerTwin := m.twin, peerTag := m.tag, helloGot := true, helloGotSeen := x.helloGotSeen || m.seen,
            nonHelloRun := 0, wrong := false }) s u ∧ Only [peerRoleFld i b] (State.offTwin i) s u) ∧
      (memState i b s = 1 → soloReady (getMem i b s) = true →
        s.rd (R.TWIN_STAT_TWIN_STATE i) = b2n (joined i (!b) s) →
        ∃ u, exec (.twinSoloSwitch t) s = .next u ∧ memState i b u = 2 ∧
          MemOnly i b (fun m => { m with verifyAms := 0, matchRun := 0, amRun := 0 }) s u ∧
          Only [memFld i b] (State.offTwin i) s u) ∧
      (memState i b s = 2 → ∃ u, exec (.twinVerifyTimeout t) s = .next u ∧ u.bit (R.TWIN_EVT_JOIN_FAIL i) = true ∧
        u.rd (causeFld i b) = (if offsetOk i s then 4 else 3) ∧
        RegsOnly [R.TWIN_EVT_JOIN_FAIL i, causeFld i b] s u))

/-- A drop's cycle starts, beacons, gives opportunities, defers, ends a deferral or a jam, re-arms and readmits (R179,
R180, R183, R187, R188, R190, R192). -/
def Obligations.DropCycleRuns : Prop :=
  ∀ (d : Fin 64) (s : State), Calm s →
    (drpState d s = 1 → ∃ u, exec (.dropSettleElapsed d) s = .next u ∧ drpState d u = 2 ∧
      u.bit (R.DRP_STAT_BEACON_ON d) = true ∧ RegsOnly [R.DRP_STAT_STATE d, R.DRP_STAT_BEACON_ON d] s u) ∧
    (drpState d s = 2 → (s.drp d).opp = none → drpLong d s = false → (∀ e ∈ s.warp.pendStn, e.1 ≠ d) →
      ∃ u, exec (.dropBeacon d) s = .next u ∧ Wrapped (R.DRP_CYCLE_CNT_COUNT d) 1 s u ∧
        u.rd (R.DRP_STAT_NODE_COUNT d) = (s.rd (R.DRP_CYC_CTL_NODES d) + 1) % 2 ^ 6 ∧ (u.drp d).opp = some 0 ∧
        .drpBeacon d 0 0 ∈ u.out ∧
        Only [R.DRP_CYCLE_CNT_COUNT d, R.DRP_STAT_NODE_COUNT d, R.DRP_LD_STAT_TO_ACT d] (State.offDrp d) s u) ∧
    (drpState d s = 2 → (s.drp d).line = [] → ∃ u, exec (.opportunityTimeout d) s = .next u ∧
      u.drp d = { s.drp d with opp := match (s.drp d).opp with
        | some k => if k < s.rd (R.DRP_CYC_CTL_NODES d) then some (k + 1) else none
        | none => none } ∧ Only [] (State.offDrp d) s u) ∧
    (drpState d s = 2 → (s.drp d).opp = none → (s.drp d).deferred = false → drpCalDue d s ∨ drpSurvDue d s →
      ∃ u, exec (.deferralStart d) s = .next u ∧ drpState d u = 3 ∧ u.bit (R.DRP_STAT_BEACON_ON d) = true ∧
        u.drp d = { s.drp d with deferred := true, defer := some (drpCalDue d s) } ∧
        Only [R.DRP_STAT_STATE d, R.DRP_STAT_BEACON_ON d] (State.offDrp d) s u) ∧
    (∀ st ∈ [3, 4], drpState d s = st → drpLong d s = false → (∀ e ∈ s.warp.pendStn, e.1 ≠ d) → (s.drp d).defer ≠ some false →
      ∃ u, exec (if st = 3 then .deferralEnd d else .dropJamEnd d) s = .next u ∧ drpState d u = 2 ∧
        u.bit (R.DRP_STAT_BEACON_ON d) = true ∧ Wrapped (R.DRP_CYCLE_CNT_COUNT d) 1 s u ∧ (u.drp d).opp = some 0 ∧
        .drpBeacon d 0 0 ∈ u.out ∧ Only ([R.DRP_STAT_STATE d, R.DRP_STAT_BEACON_ON d] ++
          [R.DRP_CYCLE_CNT_COUNT d, R.DRP_STAT_NODE_COUNT d, R.DRP_LD_STAT_TO_ACT d]) (State.offDrp d) s u) ∧
    (∃ u, exec (.detectorRearm d) s = .next u ∧ u.drp d = { s.drp d with detector := true } ∧ Only [] (State.offDrp d) s u) ∧
    (∀ slot : Fin 32, drpBarred d slot s = true → ∃ u, exec (.slotReadmit d slot false) s = .next u ∧
      drpBarred d slot u = false ∧ (slot.val < 31 → u.bit (R.DRP_STN_HI_BARRED d slot) = false) ∧
      Only [R.DRP_STN_HI_BARRED d slot] (State.offDrp d) s u)

/-- Frames, collisions, jams, jabber, a stuck transmitter and line energy act on their drop, its counters and the log
(R184, R185, R186, R187, R188, R189, R192, R392). -/
def Obligations.DropLineEvents : Prop :=
  ∀ (d : Fin 64) (s : State), Calm s →
    (∀ (f : LineFrame) (k : Nat), drpState d s = 2 → drpLong d s = false → (s.drp d).opp = some (k + 1) →
      64 ≤ f.octets.length → fcsOk f.octets = true → stnFind d f.octets s = some k → drpBarred d k s = false →
      bankOctets s (d / 16) (drpBank d) + f.octets.length ≤ 524288 →
      ∃ u, exec (.dropFrameReceive d (.frame f true) false) s = .next u ∧
        Counted (R.DRP_SLOT_RX_COUNT d k) 1 s u ∧ Wrapped (R.DRP_RX_FRAMES_COUNT d) 1 s u ∧
        Wrapped (R.DRP_RX_OCTETS_COUNT d) f.octets.length s u ∧
        tget [] u.rxBank (8 * (d / 16) + drpBank d) = tget [] s.rxBank (8 * (d / 16) + drpBank d) ++
          [{ port := 8 + d, cls := dropClass k f.octets, octets := f.octets, stamp := f.stamp, slot := k, bad := false }] ∧
        u.drp d = { s.drp d with
          opp := if k + 1 < s.rd (R.DRP_CYC_CTL_NODES d) then some (k + 2) else none, lastFrame := some s.age } ∧
        Only [R.DRP_SLOT_RX_COUNT d k, R.DRP_RX_FRAMES_COUNT d, R.DRP_RX_OCTETS_COUNT d]
          (fun x => (x.offDrp d).offBank (8 * (d / 16) + drpBank d)) s u) ∧
    (drpState d s = 2 → drpLong d s = false → (s.drp d).line = [] → (s.drp d).opp = none →
      ∃ u, exec (.dropCollision d) s = .next u ∧ Counted (R.DRP_ERR_CNT_COUNT d 1) 1 s u ∧
        Counted (R.DRP_SLOT_ERR_COLL d 31) 1 s u ∧ (u.drp d).opp = none ∧
        Only [R.DRP_ERR_CNT_COUNT d 1, R.DRP_SLOT_ERR_COLL d 31] (State.offDrp d) s u) ∧
    (drpState d s = 2 → Loggable (128 + d) s → ∃ u, exec (.dropJamEntry d) s = .next u ∧ drpState d u = 4 ∧
      u.bit (R.DRP_STAT_BEACON_ON d) = false ∧ u.bit (R.DRP_EVT_JAM d) = true ∧ Logged (128 + d) 2 0x31 s u ∧
      (u.drp d).line = [] ∧ (u.drp d).opp = none ∧ (u.drp d).lists = (s.drp d).line ++ (s.drp d).lists ∧
      Only (R.DRP_EVT_JAM d :: dropHaltFields d ++ slotFields (128 + d) 2) (fun x => (x.offDrp d).offWatch) s u) ∧
    (drpState d s = 2 → drpLong d s = false → Loggable (128 + d) s → ∃ u, exec (.dropJabber d) s = .next u ∧
      drpBarred d (oppSlot d (s.drp d).opp s) u = true ∧ u.bit (R.DRP_EVT_JABBER d) = true ∧
      Counted (R.DRP_ERR_CNT_COUNT d 3) 1 s u ∧ Counted (R.DRP_SLOT_ERR_JABBER d (oppSlot d (s.drp d).opp s)) 1 s u ∧
      Logged (128 + d) 2 0x30 s u ∧
      Only ([R.DRP_STN_HI_BARRED d (oppSlot d (s.drp d).opp s), R.DRP_EVT_JABBER d, R.DRP_ERR_CNT_COUNT d 3,
        R.DRP_SLOT_ERR_JABBER d (oppSlot d (s.drp d).opp s)] ++ slotFields (128 + d) 2)
        (fun x => (x.offDrp d).offWatch) s u) ∧
    (drpState d s ≠ 0 → Loggable (128 + d) s → ∃ u, exec (.dropTxStuck d) s = .next u ∧ drpState d u = 0 ∧
      u.bit (R.DRP_CTL_ENABLE d) = false ∧ (u.drp d).line = [] ∧ Logged (128 + d) 3 0x33 s u ∧
      u.rd (R.WATCH_SLOT_HDR_APPLIED (128 + d)) = 1 ∧
      Only (R.DRP_CTL_ENABLE d :: R.DRP_CYCLE_CNT_COUNT d :: dropHaltFields d ++ slotFields (128 + d) 3)
        (fun x => (x.offDrp d).offWatch) s u) ∧
    (drpState d s = 5 → s.bit (R.DRP_PWR_WAKE_EN d) = true → tbit (s.rd R.PWR_WAKE_MASK) 1 = true →
      (s.drp d).detector = true → ∃ u, exec (.dropEnergyWake d) s = .next u ∧ u.bit (R.DRP_EVT_WAKE d) = true ∧
        Counted (R.DRP_ERR_CNT_COUNT d 7) 1 s u ∧ u.drp d = { s.drp d with detector := false } ∧
        (u.pas (d / 16)).wakes = (s.pas (d / 16)).wakes ++ [1] ∧ .tally (d / 16) 0x70 0 ∈ u.out ∧
        Only [R.DRP_EVT_WAKE d, R.DRP_ERR_CNT_COUNT d 7]
          (fun x => (x.offDrp d).offPas (d / 16)) s u)

/-- The Long-Drop receiver finds carrier, sync and header, takes the burst, captures and goes idle as its rows say
(R204, R208, R212, R213, R214, R215, R216). It rests on log 6. -/
def Obligations.LongDropReceives : Prop :=
  ∀ (d : Fin 64) (s : State), Calm s →
    (drpLong d s = true → drpState d s = 2 ∨ drpState d s = 3 → (s.drp d).line = [] → (s.drp d).stage = .idle →
      ∃ u, exec (.ldCarrierDetect d) s = .next u ∧ u.bit (R.DRP_LD_STAT_CARRIER d) = true ∧
        u.drp d = { s.drp d with rxOpp := (s.drp d).opp, stage := .search } ∧
        Only [R.DRP_LD_STAT_CARRIER d, R.DRP_LD_STAT_RX_BUSY d] (State.offDrp d) s u) ∧
    ((s.drp d).stage = .search → ∃ u, exec (.ldSyncTimeout d) s = .next u ∧
      Counted (R.DRP_LD_ACQ_CNT_COUNT d 1) 1 s u ∧ u.drp d = { s.drp d with stage := .waitLoss } ∧
      Only [R.DRP_LD_ACQ_CNT_COUNT d 1, R.DRP_LD_STAT_RX_BUSY d] (State.offDrp d) s u) ∧
    (∀ (sync : BitVec 48) (hdr : BitVec 64) (w : Option (BitVec 48)) (rot : Bool) (h : LdHdr), (s.drp d).stage = .search →
      ldSyncMatch (s.rd (R.DRP_LD_CTL_SYNC_TOL d)) sync = some rot → ldHdrDecode hdr = some h → h.type = 2 →
      ∃ u, exec (.ldHeaderCheck d sync hdr w) s = .next u ∧ Counted (R.DRP_LD_ACQ_CNT_COUNT d 0) 1 s u ∧
        u.rd (R.DRP_LD_STAT_LAST_ID d) = h.node ∧ u.bit (R.DRP_LD_STAT_RX_BUSY d) = true ∧
        Counted (R.DRP_LD_ACQ_CNT_COUNT d 6) (if (s.drp d).rxOpp = none ∨ (s.drp d).rxOpp = some h.node then 0 else 1) s u ∧
        u.drp d = { s.drp d with rotated := rot, stage := .burst h.cwQ h.cw16 } ∧
        Only [R.DRP_LD_ACQ_CNT_COUNT d 0, R.DRP_LD_STAT_LAST_ID d, R.DRP_LD_ACQ_CNT_COUNT d 6, R.DRP_LD_STAT_RX_BUSY d]
          (State.offDrp d) s u) ∧
    (∀ (b : LdBurst) (q h n : Nat), (s.drp d).stage = .burst q h → s.rd (R.DRP_LD_CTL_LD_MOD d) ≠ 2 →
      ldSegment b.qpsk ++ ldSegment b.qam = List.replicate n .bad → b.snr < 256 →
      let slot := ldSlotOf (s.drp d).rxOpp
      ∃ u, exec (.ldBurstEnd d b) s = .next u ∧
        Wrapped (R.DRP_LD_CW_CNT_COUNT d) (b.qpsk.length + b.qam.length) s u ∧
        Wrapped (R.DRP_LD_CORR_SYM_CNT_COUNT d) ((b.qpsk ++ b.qam).map cwSyms).sum s u ∧
        Wrapped (R.DRP_LD_UNC_CNT_COUNT d) (cwBad (b.qpsk ++ b.qam)) s u ∧ Counted (R.DRP_ERR_CNT_COUNT d 0) n s u ∧
        u.rd (R.DRP_LD_STAT_LAST_SNR_QDB d) = b.snr ∧ u.rd (R.DRP_LD_SLOT_SNR_QDB d slot) = b.snr ∧
        u.rd (R.DRP_LD_SLOT_RUN d slot) =
          (if s.rd (R.DRP_LD_RATE_UP_QDB d) ≤ b.snr then min 127 (s.rd (R.DRP_LD_SLOT_RUN d slot) + 1) else 0) ∧
        u.bit (R.DRP_LD_STAT_RX_BUSY d) = false ∧
        u.drp d = { s.drp d with
          loops := tset {} (s.drp d).loops slot { ffe := b.ffe, dfe := b.dfe }, last := { ffe := b.ffe, dfe := b.dfe },
          lastSlot := slot, lastFrame := some s.age, stage := .idle,
          opp := match (s.drp d).opp with
            | some k => if k < s.rd (R.DRP_CYC_CTL_NODES d) then some (k + 1) else none
            | none => none } ∧
        Only [R.DRP_LD_CW_CNT_COUNT d, R.DRP_LD_CORR_SYM_CNT_COUNT d, R.DRP_LD_UNC_CNT_COUNT d, R.DRP_ERR_CNT_COUNT d 0,
          R.DRP_LD_SLOT_RUN d slot, R.DRP_LD_STAT_LAST_SNR_QDB d, R.DRP_LD_SLOT_SNR_QDB d slot, R.DRP_LD_SLOT_CFO_HZ d slot,
          R.DRP_LD_STAT_CAP_ARMED d, R.DRP_LD_STAT_RX_BUSY d] (State.offDrp d) s u) ∧
    ((s.drp d).stage = .waitLoss → ∃ u, exec (.ldLossOfCarrier d) s = .next u ∧ u.bit (R.DRP_LD_STAT_CARRIER d) = false ∧
      u.drp d = { s.drp d with stage := .idle, opp := match (s.drp d).opp with
        | some k => if k < s.rd (R.DRP_CYC_CTL_NODES d) then some (k + 1) else none
        | none => none } ∧
      Only [R.DRP_LD_STAT_CARRIER d, R.DRP_LD_STAT_RX_BUSY d] (State.offDrp d) s u) ∧
    (∀ q h, (s.drp d).stage = .burst q h → s.bit (R.DRP_LD_CTL_CAP_EN d) = true → ∃ u,
      exec (.ldCaptureArm d) s = .next u ∧ u.bit (R.DRP_LD_STAT_CAP_ARMED d) = true ∧
        RegsOnly [R.DRP_LD_STAT_CAP_ARMED d] s u) ∧
    (∀ (sync : BitVec 48) (b : LdBurst), s.bit (R.DRP_LD_STAT_CAP_ARMED d) = true →
      (ldSyncMatch (s.rd (R.DRP_LD_CTL_SYNC_TOL d)) sync).isSome = true → ldSegment b.qpsk ++ ldSegment b.qam = [] →
      (s.drp d).rxOpp = none →
      ∃ u, exec (.ldCaptureSync d sync b) s = .next u ∧ u.bit (R.DRP_LD_STAT_CAP_ARMED d) = false ∧
        Counted (R.DRP_LD_ACQ_CNT_COUNT d 4) 1 s u ∧ Counted (R.DRP_SLOT_ERR_COLL d 31) 1 s u ∧
        u.drp d = { s.drp d with stage := .header } ∧
        Only [R.DRP_LD_CW_CNT_COUNT d, R.DRP_LD_CORR_SYM_CNT_COUNT d, R.DRP_LD_UNC_CNT_COUNT d, R.DRP_LD_ACQ_CNT_COUNT d 4,
          R.DRP_SLOT_ERR_COLL d 31, R.DRP_LD_STAT_CAP_ARMED d, R.DRP_LD_STAT_RX_BUSY d] (State.offDrp d) s u) ∧
    (s.bit (R.DRP_LD_STAT_CAP_ARMED d) = true → (s.drp d).rxOpp = none →
      ∃ u, exec (.ldCaptureSearchEnd d) s = .next u ∧ u.bit (R.DRP_LD_STAT_CAP_ARMED d) = false ∧
        Counted (R.DRP_LD_ACQ_CNT_COUNT d 5) 1 s u ∧ Counted (R.DRP_ERR_CNT_COUNT d 1) 1 s u ∧
        Counted (R.DRP_SLOT_ERR_COLL d 31) 1 s u ∧
        RegsOnly [R.DRP_LD_STAT_CAP_ARMED d, R.DRP_LD_ACQ_CNT_COUNT d 5, R.DRP_ERR_CNT_COUNT d 1, R.DRP_SLOT_ERR_COLL d 31] s u)

/-- Pass lanes lock, lose lock, carry blocks, change the striping set, report, and a pass without a lane is recorded
(R219, R223, R225, R226, R231, R233, R234). -/
def Obligations.PassLanes : Prop :=
  ∀ (v : Fin 4) (down : Bool) (lane : Fin 3) (s : State), Calm s →
    (∀ (b : PassBlock) (n : Nat), tbit (dataLocks v down s) lane = true → hdrValid b.hdr lane = true → b.stuffBad = false →
      b.status = .corrected n → hdrKind b.hdr ≠ 2 → ∃ u, exec (.passBlockReceive v down lane b) s = .next u ∧
        Wrapped (R.PASS_RS_CORR_SYM_COUNT v) n s u ∧ RegsOnly [R.PASS_RS_CORR_SYM_COUNT v] s u) ∧
    (∃ u, exec (.passLaneLock v down lane) s = .next u ∧ dataLocks v down u = setBit (dataLocks v down s) lane true ∧
      Only [R.PASS_STAT_UP_LOCK v] (State.offPas v) s u) ∧
    (tbit (dataLocks v down s) lane = true → ∃ u, exec (.passLaneLockLoss v down lane) s = .next u ∧
      dataLocks v down u = setBit (dataLocks v down s) lane false ∧ u.bit (R.PASS_EVT_LANE_LOSS v) = true ∧
      Only [R.PASS_STAT_UP_LOCK v, R.PASS_EVT_LANE_LOSS v] (State.offPas v) s u) ∧
    (∃ u, exec (.stripingSetChange v down) s = .next u ∧ lanesUsed v down u = lanesReported v down s ∧
      lanesUsed v (!down) u = lanesUsed v (!down) s ∧
      (laneCount (lanesReported v down s) < 3 → u.bit (R.PASS_EVT_CAPACITY v) = true) ∧
      Only [R.PASS_EVT_CAPACITY v] (State.offPas v) s u) ∧
    (∃ u, exec (.lane v down) s = .next u ∧
      (down = true → (u.pas v).upRep = s.rd (R.PASS_STAT_UP_LOCK v)) ∧
      (down = false → u.rd (R.PASS_STAT_DN_LOCK v) = (s.pas v).dnLock % 8 ∧ Counted (R.PASS_TALLY_CNT_COUNT v 1) 1 s u) ∧
      Only [R.PASS_STAT_DN_LOCK v, R.PASS_TALLY_CNT_COUNT v 1] (State.offPas v) s u) ∧
    (∃ u, exec (.laneReport v down) s = .next u ∧ .tally v 0x80 0 ∈ u.out ∧
      (down = true → Counted (R.PASS_TALLY_CNT_COUNT v 0) 1 s u) ∧ RegsOnly [R.PASS_TALLY_CNT_COUNT v 0] s u) ∧
    (lanesUsed v down s = 0 → Loggable (32 + v) s → ∃ u, exec (.passNoLaneTick v) s = .next u ∧
      Logged (32 + v) 2 0x34 s u ∧ Only (slotFields (32 + v) 2) State.offWatch s u)

/-- Frames cross the pass in both directions; credit and beacon tallies report (R20, R21, R234, R238, R241, R270). -/
def Obligations.PassTraffic : Prop :=
  ∀ (v : Fin 4) (s : State), Calm s →
    (∀ (bank : Fin 8) (f : RxFrame) (l : List RxFrame) (clear : Option (List Byte)) (q : Nat),
      laneCount (s.pas v).upUse = 3 → tget [] s.rxBank (8 * v.val + bank) = f :: l → f.bad = false →
      frameType f.octets = 0x888E → q = 4544 + f.port % 32 →
      (s.que q).total + (queuedRx q f).cells ≤ s.rd (R.MILLQ_LIMIT_LIMIT q) →
      s.rd (R.MILL_PART_USED_USED 4) + (queuedRx q f).cells ≤ s.rd (R.MILL_PART_RES_RESERVE 4) →
      ∃ u, exec (.passIngressFrame v bank clear) s = .next u ∧ tget [] u.rxBank (8 * v.val + bank) = l ∧
        u.que q = { s.que q with frames := (s.que q).frames ++ [queuedRx q f] } ∧
        Wrapped (R.MILLQ_ENQ_FRAMES_COUNT q) 1 s u ∧
        u.rd (R.MILL_PART_USED_USED 4) = s.rd (R.MILL_PART_USED_USED 4) + (queuedRx q f).cells ∧
        Only (R.MILLQ_ENQ_FRAMES_COUNT q :: R.MILL_PART_USED_USED 4 :: queueFields q)
          (fun x => (x.offBank (8 * v.val + bank)).offQue q) s u) ∧
    (∀ (f : TxFrame) (l : List TxFrame), (s.pas v).down = f :: l →
      (queuePort f.queue < 8 → ∃ u, exec (.passEgressFrame v) s = .next u ∧ u.pas v = { s.pas v with down := l } ∧
        u.trk (queuePort f.queue) = { s.trk (queuePort f.queue) with bank4 := (s.trk (queuePort f.queue)).bank4 ++ [f] } ∧
        Only [] (fun x => (x.offPas v).offTrk (queuePort f.queue)) s u) ∧
      (8 ≤ queuePort f.queue → ∃ u, exec (.passEgressFrame v) s = .next u ∧ u.pas v = { s.pas v with down := l } ∧
        u.drp (queuePort f.queue - 8) =
          { s.drp (queuePort f.queue - 8) with lists := (s.drp (queuePort f.queue - 8)).lists ++ [f] } ∧
        Only [] (fun x => (x.offPas v).offDrp (queuePort f.queue - 8)) s u)) ∧
    (∀ l : Fin 18, ∃ u, exec (.credit v [l]) s = .next u ∧
      u.cred (portOf v l) = { s.cred (portOf v l) with reported := (s.cred (portOf v l)).returned } ∧
      (∀ p, p ≠ portOf v l → u.cred p = s.cred p) ∧
      Counted (R.PASS_TALLY_CNT_COUNT v 1) 1 s u ∧ Only [R.PASS_TALLY_CNT_COUNT v 1] State.offCred s u) ∧
    (∀ ls : List (Fin 18), (∃ l ∈ ls.take 4, (s.cred (portOf v l)).returned ≠ (s.cred (portOf v l)).reported) →
      ∃ u, exec (.creditReport v ls) s = .next u ∧ .tally v 0x20 0 ∈ u.out ∧ RegsOnly [] s u) ∧
    (s.bit (R.PASS_STAT_BEACON v) = true →
      (∃ u, exec (.beacon v true) s = .next u ∧ u.pas v = { s.pas v with rungDn := s.rd R.PWR_STAT_HOST_RUNG } ∧
        Only [] (State.offPas v) s u) ∧
      (∃ u, exec (.beacon v false) s = .next u ∧ u.pas v = { s.pas v with rungUp := s.valeRung v } ∧
        Counted (R.PASS_TALLY_CNT_COUNT v 1) 1 s u ∧ Only [R.PASS_TALLY_CNT_COUNT v 1] (State.offPas v) s u) ∧
      (∀ down, ∃ u, exec (.beaconSend v down) s = .next u ∧ .tally v 0x01 0 ∈ u.out ∧
        (down = true → Counted (R.PASS_TALLY_CNT_COUNT v 0) 1 s u) ∧ RegsOnly [R.PASS_TALLY_CNT_COUNT v 0] s u))

/-- A time exchange of the pass goes through its four messages or is abandoned (R237, R243). -/
def Obligations.PassTimes : Prop :=
  ∀ (v : Fin 4) (s : State), Calm s →
    (∀ t1 : Int, s.valeRung v ≤ 2 → s.isFenced (.vale v) = false → ∃ u, exec (.timeExchangeTick v t1) s = .next u ∧
      u.pas v = { s.pas v with t1 := some t1, t2 := none, t3 := none, t4 := none } ∧ .tally v 0x30 0 ∈ u.out ∧
      Counted (R.PASS_TALLY_CNT_COUNT v 0) 1 s u ∧ Only [R.PASS_TALLY_CNT_COUNT v 0] (State.offPas v) s u) ∧
    (∀ t1 t2 t3 : Int, (s.pas v).t1 = some t1 → ∃ u, exec (.timeSync v t2 t3) s = .next u ∧
      u.pas v = { s.pas v with t2 := some t2, t3 := some t3, t4 := none } ∧ .tally v 0x31 0 ∈ u.out ∧
      Only [] (State.offPas v) s u) ∧
    (∀ (seq : BitVec 8) (t3 t4 : Int), (s.pas v).powered = true → seq.toNat = (s.pas v).upRx → (s.pas v).upHeld = [] →
      (s.pas v).t3 = some t3 → (s.pas v).t4 = none → ∃ u, exec (.timeDreq v seq t4) s = .next u ∧
        u.pas v = { s.pas v with
          t4 := some t4, upRx := (seq.toNat + 1) % 256, upCache := (seq.toNat :: (s.pas v).upCache).take 16 } ∧
        .tally v 0x32 seq.toNat ∈ u.out ∧ Counted (R.PASS_TALLY_CNT_COUNT v 1) 1 s u ∧
        Counted (R.PASS_TALLY_CNT_COUNT v 0) 1 s u ∧
        Only [R.PASS_TALLY_CNT_COUNT v 1, R.PASS_TALLY_CNT_COUNT v 0] (State.offPas v) s u) ∧
    (∀ t3 : Int, (s.pas v).t3 = some t3 → ∃ u, exec (.timeDreqAbandon v) s = .next u ∧
      u.pas v = { s.pas v with t2 := none, t3 := none, t4 := none } ∧ Only [] (State.offPas v) s u)

/-- A tally that arrives in order runs once and is answered; a duplicate is answered again and runs nothing (R233,
R234, R235, R236, R237). -/
def Obligations.TalliesRunOnce : Prop :=
  (∀ (c : Instr) (v seq : Nat) (kind : HostBody → Bool) (r : HostReq) (s : State),
    hostTally c = some (v, seq, kind) → hostFind v seq s = some r → kind r.body = true → (s.pas v).powered = true →
    ((s.pas v).rx = seq → Calm (bodyExec v r.body s).2 → ((bodyExec v r.body s).2.pas v).held = [] →
      ∃ u, exec c s = .next u ∧ (u.pas v).rx = (seq + 1) % 256 ∧ cacheGet v seq u = some (bodyExec v r.body s).1 ∧
        .tally v (replyType r.body) seq ∈ u.out ∧ Only [] (State.offPas v) (bodyExec v r.body s).2 u) ∧
    (Calm s → 128 ≤ dist 8 seq (s.pas v).rx → cacheGet v seq s ≠ none →
      ∃ u, exec c s = .next u ∧ .tally v (replyType r.body) seq ∈ u.out ∧ RegsOnly [] s u)) ∧
  (∀ (c : Instr) (v seq : Nat) (b : UpBody) (s : State),
    valeTally c = some (v, seq, b) → (s.pas v).powered = true →
    ((s.pas v).upRx = seq → Calm (upExec v b (hostGot v s)) → ((upExec v b (hostGot v s)).pas v).upHeld = [] →
      ∃ u, exec c s = .next u ∧ (u.pas v).upRx = (seq + 1) % 256 ∧
        (u.pas v).upCache = (seq :: ((upExec v b (hostGot v s)).pas v).upCache).take 16 ∧
        .tally v (upReply b) seq ∈ u.out ∧ Counted (R.PASS_TALLY_CNT_COUNT v 0) 1 (upExec v b (hostGot v s)) u ∧
        Only [R.PASS_TALLY_CNT_COUNT v 0] (State.offPas v) (upExec v b (hostGot v s)) u) ∧
    (Calm s → 128 ≤ dist 8 seq (s.pas v).upRx → (s.pas v).upCache.contains seq = true →
      ∃ u, exec c s = .next u ∧ .tally v (upReply b) seq ∈ u.out ∧ Counted (R.PASS_TALLY_CNT_COUNT v 5) 1 s u ∧
        RegsOnly [R.PASS_TALLY_CNT_COUNT v 0, R.PASS_TALLY_CNT_COUNT v 1, R.PASS_TALLY_CNT_COUNT v 5] s u))

/-- Answers close their request; resends, give-ups and skips of a gap count and go on (R233, R235, R236, R237). -/
def Obligations.TallyAnswers : Prop :=
  ∀ (v : Fin 4) (seq : BitVec 8) (s : State), Calm s →
    (∀ r, hostFind v seq.toNat s = some r → NoneWaiting v s →
      (∀ c, r.body = .cmd c → cacheGet v seq.toNat s = some (.cmd 0) → ∃ u, exec (.cmdRsp v seq) s = .next u ∧
        u.pas v = { s.pas v with out := answered v seq.toNat s } ∧ Counted (R.PASS_TALLY_CNT_COUNT v 1) 1 s u ∧
        u.rd (R.PASS_STAT_OUTSTANDING v) = (answered v seq.toNat s).length % 2 ^ (R.PASS_STAT_OUTSTANDING v).width ∧
        Only (answerFields v) (State.offPas v) s u) ∧
      (cacheGet v seq.toNat s = some .ack → ∃ u, exec (.ack v false 0x70 seq) s = .next u ∧
        u.pas v = { s.pas v with out := answered v seq.toNat s } ∧ Counted (R.PASS_TALLY_CNT_COUNT v 1) 1 s u ∧
        Only (answerFields v) (State.offPas v) s u) ∧
      (r.body = .wake → ∃ u, exec (.tallyGiveUp v seq) s = .next u ∧
        u.pas v = { s.pas v with out := answered v seq.toNat s } ∧ u.bit (R.PASS_EVT_GIVEN_UP v) = true ∧
        Counted (R.PASS_TALLY_CNT_COUNT v 4) 1 s u ∧
        Only (R.PASS_EVT_GIVEN_UP v :: R.PASS_TALLY_CNT_COUNT v 4 :: answerFields v) (State.offPas v) s u)) ∧
    (∀ r, hostFind v seq.toNat s = some r → r.sends < 4 → ∃ u, exec (.tallyResend v seq) s = .next u ∧
      u.pas v = { s.pas v with out := (s.pas v).out.map fun q => if q = r then { q with sends := q.sends + 1 } else q } ∧
      .tally v (bodyType r.body) r.seq ∈ u.out ∧ Counted (R.PASS_TALLY_CNT_COUNT v 0) 1 s u ∧
      Counted (R.PASS_TALLY_CNT_COUNT v 3) 1 s u ∧
      Only [R.PASS_TALLY_CNT_COUNT v 0, R.PASS_TALLY_CNT_COUNT v 3] (State.offPas v) s u) ∧
    ((s.pas v).upCache.contains seq.toNat = true → ∃ u, exec (.ack v true 0x62 seq) s = .next u ∧
      u.pas v = { s.pas v with rungAns := none } ∧ Only [] (State.offPas v) s u) ∧
    (∃ u, exec (.valeTallyResend v) s = .next u ∧ ((s.pas v).dones ≠ [] → .tally v 0x52 0 ∈ u.out) ∧
      ((s.pas v).rungAns ≠ none → .tally v 0x62 0 ∈ u.out) ∧ ((s.pas v).wakes ≠ [] → .tally v 0x70 0 ∈ u.out) ∧
      RegsOnly [] s u) ∧
    (∀ n b, (s.pas v).upHeld = [(n, .dreq)] → n < 256 → b = dist 8 n (s.pas v).upRx → 0 < b → ∃ u,
      exec (.tallyGapSkip v false) s = .next u ∧
      u.pas v = { s.pas v with upHeld := [], upRx := (n + 1) % 256, upCache := (n :: (s.pas v).upCache).take 16 } ∧
      u.bit (R.PASS_EVT_SKIPPED v) = true ∧ Counted (R.PASS_TALLY_CNT_COUNT v 6) b s u ∧ .tally v 0x32 n ∈ u.out ∧
      Counted (R.PASS_TALLY_CNT_COUNT v 0) 1 s u ∧
      Only [R.PASS_EVT_SKIPPED v, R.PASS_TALLY_CNT_COUNT v 6, R.PASS_TALLY_CNT_COUNT v 0] (State.offPas v) s u)

/-- An access in flight to a vale ends with its answer or with the timeout of the fabric (R80, R88, R233, R236). -/
def Obligations.ValeAccessesEnd : Prop :=
  ∀ (v : Fin 4) (x : ValeAcc) (s : State), Calm s → NoneStalled s →
    (∀ (seq : BitVec 8) (r : HostReq) (d st : Nat), hostFind v seq.toNat s = some r → NoneWaiting v s → r.body = .reg x →
      cacheGet v seq.toNat s = some (.reg d st) → x ∈ inFlight v s → st ≠ 4 →
      ∃ u, exec (if x.write.isSome then .regWrRsp v seq else .regRdRsp v seq) s = .next u ∧
        inFlight v u = (inFlight v s).erase x ∧ u.pas v = { s.pas v with out := answered v seq.toNat s } ∧
        (x.write = none → .answer x.port (x.addr / 4 * 4) d ∈ u.out) ∧
        Only (answerFields v) (fun y => (y.offPas v).offFlight v) s u) ∧
    (∀ l, inFlight v s = x :: l → Loggable 0 s → ∃ u, exec (.valeAccessTimeout v) s = .next u ∧ inFlight v u = l ∧
      (x.write = none → .answer x.port (x.addr / 4 * 4) (2 ^ 32 - 1) ∈ u.out) ∧ Logged 0 1 0x06 s u ∧
      u.rd R.GLB_ACC_STAT_KIND = 9 ∧ Only (slotFields 0 1 ++ accFields) (fun y => (y.offWatch).offFlight v) s u)

/-- Tally lanes lock and unlock with fallback; a tally lane lost or a supply fault records an error and has the vale
fenced (R30, R232, R239, R240, R245). -/
def Obligations.TallyLanes : Prop :=
  ∀ (v : Fin 4) (down : Bool) (s : State), Calm s → (s.pas v).powered = true →
    (∃ u, exec (.tallyLaneLock v down) s = .next u ∧ u.bit (tallyLockFld v down) = true ∧
      (s.bit (tallyLockFld v (!down)) = true → u.bit (R.PASS_STAT_FALLBACK v) = false) ∧
      (s.bit (tallyLockFld v (!down)) = false → u.rd (R.PASS_STAT_FALLBACK v) = s.rd (R.PASS_STAT_FALLBACK v)) ∧
      RegsOnly [tallyLockFld v down, R.PASS_STAT_FALLBACK v] s u) ∧
    (s.bit (tallyLockFld v down) = true → ∃ u, exec (.tallyLaneUnlock v down) s = .next u ∧
      u.bit (tallyLockFld v down) = false ∧
      (s.bit (R.PASS_CTL_FALLBACK_EN v) = true →
        u.bit (R.PASS_STAT_FALLBACK v) = true ∧ u.bit (R.PASS_EVT_FALLBACK v) = true) ∧
      RegsOnly [tallyLockFld v down, R.PASS_STAT_FALLBACK v, R.PASS_EVT_FALLBACK v] s u) ∧
    (s.bit (tallyLockFld v down) = false → Loggable (32 + v) s →
      let w := s.recordFree (32 + v) 2 0x35 (some 3)
      exec (.tallyLaneLost v) s = .next (settle w) ∧ w.todo = [.fence (.vale v)] ∧ Logged (32 + v) 2 0x35 s w ∧
      Only (slotFields (32 + v) 2) State.offWatch s { w with todo := [] }) ∧
    (Loggable (32 + v) s →
      let w := s.recordFree (32 + v) 2 0x36 (some 3)
      exec (.valePowerFault v) s = .next (settle (valePowerOff v w)) ∧ ((valePowerOff v w).pas v).powered = false ∧
      (valePowerOff v w).todo = [.fence (.vale v)] ∧ Logged (32 + v) 2 0x36 s w ∧
      Only (slotFields (32 + v) 2) State.offWatch s { w with todo := [] })

/-- TIME_DRSP disciplines the vale, RUNG_RSP settles an asked entry, and a training frame acts by the trunk's state
(R110, R111, R112, R123, R243, R315, R407, R408). It rests on log 56. -/
def Obligations.AnswersArrive : Prop :=
  (∀ (v : Fin 4) (a b c d : Int) (s : State), (s.pas v).t1 = some a → (s.pas v).t2 = some b → (s.pas v).t3 = some c →
    (s.pas v).t4 = some d →
    let n := s.rd (R.PASS_ASYM_ASYM_PS v)
    let e := exchange a b c d (if n < 32768 then (n : Int) else (n : Int) - 65536)
    let t := ((s.wr (R.PASS_LAT_TALLY_DN v) (tenPs e.1)).wr (R.PASS_LAT_TALLY_UP v) (tenPs e.2.1)).wr (R.PASS_OFFSET_OFFSET_PS v)
      (e.2.2 % 2 ^ 32).toNat
    let t := t.modPass v fun x => { x with t1 := none, t2 := none, t3 := none, t4 := none }
    let good := if e.2.2.natAbs < 100 then (t.vtime v).good + 1 else 0
    let t := t.modVtime v fun x => { x with phase := x.phase - e.2.2 / 4, freq := x.freq - e.2.2, good := good, bad := 0 }
    let t := t.wr (R.TIME_VALE_FREQ_PPB v) ((t.vtime v).freq / 64 % 65536).toNat
    let t := if 16 ≤ good then valeLockSet v true t else t
    e.2.2.natAbs ≤ 1000 → Calm t → exec (.timeDrsp v) s = .next (vectors t)) ∧
  (∀ (v : Fin 4) (seq : BitVec 8) (r : HostReq) (rung code l reason : Nat) (m : List Nat) (s : State),
    hostFind v seq.toNat s = some r → cacheGet v seq.toNat s = some (.rung rung code l reason) →
    let t := hostDrop v seq.toNat (hostGot v s)
    let client := if l = 31 then 0x7F else 2 + portOf v l
    domOf (1 + v) t = .asked rung m →
    (code = 0 → Calm (domPut (1 + v) (.committed rung) t) →
      exec (.rungRsp v seq) s = .next (vectors (domPut (1 + v) (.committed rung) t))) ∧
    (code = 1 → Calm (domPut (1 + v) .idle (refusal (1 + v) rung client reason t)) →
      exec (.rungRsp v seq) s = .next (vectors (domPut (1 + v) .idle (refusal (1 + v) rung client reason t)))) ∧
    (code = 2 → Calm (domPut (1 + v) (.asked rung [client]) t) →
      exec (.rungRsp v seq) s = .next (vectors (domPut (1 + v) (.asked rung [client]) t)))) ∧
  ∀ (t : Fin 8) (info : BitVec 64) (m : FrameMeas) (s : State),
    (trkState t s = 8 → trkCR t s = true → ∀ f, infoDecode info = some f → Calm (infoData t f s) →
      exec (.trainingFrameReceive t info m) s = .next (vectors (infoData t f s))) ∧
    (trkState t s = 10 → (s.trk t).wake = 2 → Calm (trkResume t s) →
      exec (.trainingFrameReceive t info m) s = .next (vectors (trkResume t s))) ∧
    ((3 ≤ trkState t s ∧ trkState t s ≤ 7) ∨ trkState t s = 9 ∨ trkState t s = 11 →
      let w := sendFrame t (adaptApply t m.adapt (frameMeasure t m s))
      let w := match infoDecode info with
        | some f => infoTraining t f w
        | none => w.modTrk t fun x => { x with peerRun := 0 }
      let w := if trkState t w = trkState t s ∧ 5 ≤ trkState t s then trainAdvance t w else w
      Calm w → exec (.trainingFrameReceive t info m) s = .next (vectors w))

/-- A host lane locks, loses lock, goes idle and sends a report (R246, R249, R250, R258, R259). -/
def Obligations.HostLanes : Prop :=
  ∀ (n : Fin 6) (s : State), Calm s →
    (s.bit (R.HLN_STAT_LOCK n) = false → s.rd R.PWR_STAT_HOST_RUNG < 2 → ∃ u, exec (.hostLaneLock n) s = .next u ∧
      u.bit (R.HLN_STAT_LOCK n) = true ∧ u.bit (R.HLN_EVT_LOCK_GAIN n) = true ∧
      u.bit (R.HLN_STAT_AM_LOCK n) = !s.bit (R.HLN_CTL_RATE n) ∧
      u.hln n = { s.hln n with txSeq := 0, seqSet := false } ∧
      Only [R.HLN_STAT_LOCK n, R.HLN_EVT_LOCK_GAIN n, R.HLN_STAT_AM_LOCK n] (State.offHln n) s u) ∧
    (s.bit (R.HLN_STAT_LOCK n) = true → (s.hln n).busy = none → ∃ u, exec (.hostLaneLockLoss n) s = .next u ∧
      u.bit (R.HLN_STAT_LOCK n) = false ∧ u.bit (R.HLN_STAT_AM_LOCK n) = false ∧ u.bit (R.HLN_EVT_LOCK_LOSS n) = true ∧
      RegsOnly [R.HLN_STAT_LOCK n, R.HLN_STAT_AM_LOCK n, R.HLN_EVT_LOCK_LOSS n] s u) ∧
    (s.bit (R.HLN_CTL_ENABLE n) = true → s.bit (R.HLN_STAT_TX_IDLE n) = false → (s.hln n).busy = none →
      (1 ≤ s.rd R.PWR_STAT_HOST_RUNG ∨ s.rd (R.HLN_CTL_IDLE_US n) ≠ 0) →
      ∃ u, exec (.hostLaneIdleEntry n) s = .next u ∧ u.bit (R.HLN_STAT_TX_IDLE n) = true ∧ .hostIdle n ∈ u.out ∧
        RegsOnly [R.HLN_STAT_TX_IDLE n] s u) ∧
    (∀ (r : Report) (l : List Report), laneUp n s = true → s.rd R.PWR_STAT_HOST_RUNG < 2 → (s.hln n).busy = none →
      s.reports = r :: l → r.lane = n.val → s.bit (R.HLN_STAT_TX_IDLE n) = false →
      exec (.hostLaneSchedule n []) s = .next (vectors
        (((({ s with reports := l }).send (.hostRecord n (reportWaybill n r s) (some (r.stamp.getD ⟨0, 0, 0⟩)) [])).add
          (R.HLN_TX_RECORDS_COUNT n) 1).modHln n
            fun x => { x with busy := some (.report r), txSeq := (x.txSeq + 1) % 65536 })))

/-- A record that passes the checks of the waybill enters its queue (R255, R257, R258, R272). -/
def Obligations.HostRecordsEnter : Prop :=
  ∀ (n : Fin 6) (w : BitVec 64) (l : List Byte) (q : Nat) (s : State), Calm s → RecordFits n q w.toNat l s →
    exec (.hostRecordReceive n w l false) s = .next (vectors ((qShow q
      (((((s.wr (R.HLN_STAT_EXP_SEQ n) (tbits w.toNat 40 25 + 1)).modHln n fun x => { x with seqSet := true }).wr
        (R.MILL_PART_USED_USED 0) (s.rd (R.MILL_PART_USED_USED 0) + (queuedTx n w.toNat l).cells)).modQue q
          fun x => { x with frames := x.frames ++ [queuedTx n w.toNat l] }).add (R.MILLQ_ENQ_FRAMES_COUNT q) 1)).add
            (R.HLN_RX_RECORDS_COUNT n) 1))

/-- A frame sent on a trunk leaves bank 4, is reported where asked, and returns its credit (R21, R238, R259). It rests
on log 80. -/
def Obligations.FramesLeave : Prop :=
  ∀ (p : Fin 8) (st : Stamp) (f : TxFrame) (l : List TxFrame) (s : State), Calm s → Alone p s → trkState p s = 8 →
    (s.trk p).bank4 = f :: l →
      let t : State := s.modTrk p fun x => { x with bank4 := l }
      let t : State := if f.tsreq then
        { t with reports := t.reports ++ [{ lane := f.lane, queue := f.queue, tag := f.tag, stamp := some st }] } else t
      exec (.frameTransmitComplete ⟨p, by omega⟩ st) s = .next (vectors
        (t.modCred p fun c => { c with returned := (c.returned + units f.octets.length) % 2 ^ 19 }))

/-- Page-outs start, end and free cells; bales are fetched and arrive (R272, R274, R275, R276). It rests on log 59. -/
def Obligations.MillerPages : Prop :=
  (∀ (q : Nat) (s : State), Calm s → granServes s = true → pageNext s = some q →
      s.rd R.MILL_PAGE_STAT_BALES_USED < baleSlots s →
      let t := (s.modQue q fun x => { x with
        writing := x.writing + 1, front := if x.paged + x.writing = 0 then keepCells q s else x.front }).wr
          R.MILL_PAGE_STAT_BALES_USED (s.rd R.MILL_PAGE_STAT_BALES_USED + 1)
      exec .pageOutStart s = .next (vectors { t with mill := { t.mill with pageAt := q + 1, written := true } })) ∧
  (∀ s : State, Calm s → granServes s = true → (pageNext s).isSome = true →
      s.rd R.MILL_PAGE_STAT_BALES_USED ≥ baleSlots s → exec .pageOutStart s = .next (vectors (s.evt R.MILL_EVT_GRAN_FULL))) ∧
  ∀ (q : Fin 4608) (s : State), Calm s → queueIso q = false →
    ((s.que q).writing ≠ 0 → exec (.pageOutDone q) s = .next (vectors (qShow q
      ((freeCells (queueRange q) 32
        (s.modQue q fun x => { x with writing := x.writing - 1, paged := x.paged + 1 })).add (R.MILL_CNT_COUNT 0) 1)))) ∧
    (granServes s = true → fetchDue q s = true →
      s.rd (R.MILL_PART_USED_USED (queueRange q)) + 32 ≤ s.rd (R.MILL_PART_RES_RESERVE (queueRange q)) →
      exec (.baleFetchRequest q) s = .next (vectors
        ((s.wr (R.MILL_PART_USED_USED (queueRange q)) (s.rd (R.MILL_PART_USED_USED (queueRange q)) + 32)).modQue q
          fun x => { x with fetching := x.fetching + 1 }))) ∧
    (∀ bad, (s.que q).orphans ≠ 0 → exec (.baleFetchDone q bad) s = .next (vectors
      ((s.modQue q fun x => { x with orphans := x.orphans - 1 }).wr R.MILL_PAGE_STAT_BALES_USED
        (s.rd R.MILL_PAGE_STAT_BALES_USED - 1)))) ∧
    ((s.que q).orphans = 0 → (s.que q).fetching ≠ 0 → exec (.baleFetchDone q []) s = .next (vectors (qShow q
      (((s.modQue q fun x => { x with
        fetching := x.fetching - 1, paged := x.paged - 1,
        front := if x.paged = 1 ∧ x.writing = 0 then 0 else x.front + 32 }).wr R.MILL_PAGE_STAT_BALES_USED
          (s.rd R.MILL_PAGE_STAT_BALES_USED - 1)).add (R.MILL_CNT_COUNT 1) 1))))

/-- The Miller releases a drop's isochronous frame and a trunk's priority frame to the pass; its timers act (R275,
R277, R278, R280, R281). -/
def Obligations.MillerReleases : Prop :=
  ((∀ (d : Fin 64) (slot : Nat) (f : MFrame) (s : State), Calm s → mayRelease (8 + d) s = true → s.warp.pendSched = [] →
    portFrames (8 + d) s = 1 → isoNext d s = some slot → HeadGoes (8 + d) 1 (64 * d + 2 * slot + 1) f s →
    exec (.dropRelease d []) s = .next (vectors (headSent (8 + d) (64 * d + 2 * slot + 1) f
      { s with mill := { s.mill with isoAt := tset 31 s.mill.isoAt d slot } }))) ∧
  (∀ (t : Fin 8) (c : Nat) (f : MFrame) (s : State), Calm s → s.serving = true → s.rd R.PWR_STAT_HOST_RUNG < 2 →
    s.trkFenced t = false → Alone t s → s.warp.pendSched = [] → portFrames t s = 1 → strictNext t s = some c →
    HeadGoes t c (4096 + 8 * t + c) f s →
    exec (.trunkRelease t []) s = .next (vectors (headSent t (4096 + 8 * t + c) f s)))) ∧
  ((∀ s : State, Calm s → Loggable 9 s → s.rd R.MILL_ISO_CTL_PANIC_NOW ≠ 0 →
    Records .panicLong 9 2 0x25 s (s.evt R.MILL_EVT_PANIC_LONG)) ∧
  (∀ (q : Fin 4608) (s : State), Calm s →
    exec (.paceDue q) s = .next (vectors (s.modQue q fun x => { x with pacing := false }))) ∧
  (∀ (p : Fin 72) (c : Fin 8) (s : State), Calm s → shaperOk p c s = false →
    exec (.shaperBucketRefill p c) s = .next (vectors { s with mill := { s.mill with
      buckets := tset {} s.mill.buckets (8 * p + c) { debt := bucketCap, stamp := s.age } } })))

/-- MILL_FLUSH discards every frame of its queue into DISC[2] and refuses an internal queue (R285). -/
def Obligations.FlushDiscards : Prop :=
  ∀ (p : Port) (q : BitVec 13) (r : RegAt) (w : Nat) (s : State),
    wordOf (.millFlush p q) s = some (Ext.plain, p, r, w) → Opens p r w s →
    let t := if q.toNat = s.rd R.MILL_FLUSH_Q then disarm p s else (disarm p s).wr R.MILL_FLUSH_Q q.toNat
    (q.toNat < 4480 →
      let u := flushQueue q.toNat 2 t
      exec (.millFlush p q) s = .next (settle u) ∧
      ((s.que q.toNat).lane = none → (u.que q.toNat).frames = [] ∧
        Counted (R.MILLQ_DISC_COUNT q.toNat 2) (s.que q.toNat).frames.length s u) ∧
      ((s.que q.toNat).lane ≠ none → (u.que q.toNat).frames = (s.que q.toNat).frames.take 1 ∧
        Counted (R.MILLQ_DISC_COUNT q.toNat 2) ((s.que q.toNat).frames.length - 1) s u) ∧
      (u.que q.toNat).paged = 0 ∧ (u.que q.toNat).writing = 0 ∧ u.passes = s.passes) ∧
    (4480 ≤ q.toNat → exec (.millFlush p q) s = .next (settle (accNote 4 p true 0x90070 t)) ∧
      (accNote 4 p true 0x90070 t).rd R.GLB_ACC_STAT_KIND = 4 ∧ (accNote 4 p true 0x90070 t).mill = s.mill)

/-- Scrubs of the vale banks and of the packet store move on, wrap, and record a corrected word (R15, R287, R289,
R291, R292). It rests on log 17. -/
def Obligations.MemoryScrubs : Prop :=
  (∀ (v : Fin 4) (bank : Fin 8) (s : State), Calm s → s.isFenced (.vale v) = false →
    let w := tget 0 s.memScrub.valeAt (8 * v.val + bank)
    let t := { s with memScrub := { s.memScrub with valeAt := tset 0 s.memScrub.valeAt (8 * v.val + bank) ((w + 1) % 16384) } }
    exec (.valeBankScrub v bank .clean) s = .next (vectors t) ∧
    ∀ (bit : Nat), Loggable (bankMasters v bank).head! s →
      Records (.valeBankScrub v bank (.corrected bit)) (bankMasters v bank).head! 1 0x10 s
        (t.sat (R.MEM_VALE_BANK_CNT_CORR v bank) 1)) ∧
  (∀ s : State, Calm s → s.bit R.MEM_SCRUB_CTL_PS_EN = true →
    (s.memScrub.psAt + 1 ≠ 1572864 → exec (.psScrubRead none false) s = .next (vectors
      { s with memScrub := { s.memScrub with psAt := s.memScrub.psAt + 1 } })) ∧
    (s.memScrub.psAt + 1 = 1572864 → exec (.psScrubRead none false) s = .next (vectors
      { (s.sat R.MEM_PS_STAT_PASSES 1).wr R.MEM_PS_STAT_LAST_MS (min 65535 ((s.age - s.memScrub.psStart) / msec)) with
        memScrub := { s.memScrub with psAt := 0, psStart := s.age } })))

/-- A granary request joins its channel's queue in order (R297, R298, R300). -/
def Obligations.GranaryQueues : Prop :=
  ∀ (cls : Fin 5) (burst : Fin 29360128) (s : State), Calm s → GranRuns s →
    tbit (s.rd R.GRAN_STAT_FILLED) (burst / segBursts) = true →
    let ch := (burstPlace burst s).ch
    (∀ w ∈ (granChan ch s).writes, w.burst ≠ burst.val) →
    ((((granChan ch s).reads.filter fun q => (burstPlace q.burst s).bank = (burstPlace burst s).bank).length < 8 →
      ∃ u, exec (.granaryRequest cls burst none) s = .next u ∧ u.gran.next = s.gran.next + 1 ∧
        granChan ch u = { granChan ch s with reads := (granChan ch s).reads ++
          [{ seq := s.gran.next, cls := cls, wr := false, burst := burst, data := [], lost := 0 }] } ∧
        Only [] (fun x => { x.rest with gran := { x.gran with chans := terase x.gran.chans ch, next := 0 } }) s u) ∧
    ∀ l, (granChan ch s).writes.length < 32 →
      ∃ u, exec (.granaryRequest cls burst (some l)) s = .next u ∧ u.gran.next = s.gran.next + 1 ∧
        granChan ch u = { granChan ch s with writes := (granChan ch s).writes ++
          [{ seq := s.gran.next, cls := cls, wr := true, burst := burst, data := l, lost := 0 }] } ∧
        Only [] (fun x => { x.rest with gran := { x.gran with chans := terase x.gran.chans ch, next := 0 } }) s u)

/-- The granary serves the one request that waits: a read returns the burst, a write changes its 64 octets and no
other (R297, R298, R299, R300). -/
def Obligations.GranaryServes : Prop :=
  ∀ (ch : Fin 2) (r : GReq) (s : State), Calm s → GranRuns s → OnlyRequest ch r s →
    (r.wr = false → ∃ u, exec (.granaryPick ch .clean) s = .next u ∧
      .granRead r.cls r.burst (some ((upto 64).map fun i => granReads s (64 * r.burst + i))) ∈ u.out ∧
      (granChan ch u).reads = [] ∧ (∀ a, granReads u a = granReads s a) ∧
      Only [] (fun x => { x.rest with gran := { x.gran with chans := [] } }) s u) ∧
    (r.wr = true → r.data.length = 64 → ∃ u, exec (.granaryPick ch .clean) s = .next u ∧
      .granWrite r.burst ∈ u.out ∧ (granChan ch u).writes = [] ∧
      (∀ i < 64, granReads u (64 * r.burst + i) = r.data.getD i 0) ∧
      (∀ a, (a < 64 * r.burst ∨ 64 * r.burst + 64 ≤ a) → granReads u a = granReads s a) ∧
      Only [R.GRAN_CNT_COUNT 3] (fun x => { x.rest with gran := { x.gran with chans := [], mem := [] } }) s u)

/-- Rows close, refreshes fall due or are postponed in panic, self-refresh keeps the contents, and segments are filled
with zeros (R299, R301, R302, R304, R309). It rests on log 26. -/
def Obligations.GranaryUpkeep : Prop :=
  (∀ (ch : Fin 2) (bank : Fin 16) (s : State), Calm s →
    exec (.openRowIdleClose ch bank) s = .next (vectors (modBank ch bank (fun x => { x with row := none }) s)) ∧
    (s.rd R.GRAN_STAT_STATE = 2 →
      (s.bit R.GRAN_STAT_PANIC = false →
        exec (.granaryRefreshDue ch bank) s = .next (vectors (modBank ch bank (fun x => { x with due := true }) s))) ∧
      (s.bit R.GRAN_STAT_PANIC = true →
        (tget {} (granChan ch s).banks bank).postponed < s.rd R.GRAN_PAGE_CTL_REFRESH_POSTPONE →
        exec (.granaryRefreshDue ch bank) s = .next (vectors
          ((modBank ch bank (fun x => { x with postponed := x.postponed + 1 }) s).add (R.GRAN_CNT_COUNT 4) 1))))) ∧
  (∀ s : State, Calm s → s.isFenced .gran = false → Loggable 9 s →
    Records (.granaryTempPoll true) 9 2 0x16 s (s.evt R.GRAN_EVT_HOT)) ∧
  (∀ s : State, Calm s → s.bit R.GRAN_SR_CTL_AUTO_EN = true → s.rd R.GRAN_STAT_STATE = 2 →
    s.bit R.GRAN_STAT_PANIC = false → granQuiet s = true →
    ∃ u, exec .granarySelfRefreshEntry s = .next u ∧ u.rd R.GRAN_STAT_STATE = 3 ∧ (∀ a, granReads u a = granReads s a) ∧
      u.gran.chans = s.gran.chans.map (fun c => (c.1, { c.2 with
        banks := c.2.banks.map fun b => (b.1, { b.2 with row := none }) })) ∧
      Only [R.GRAN_STAT_STATE] (fun x => { x.rest with gran := { x.gran with chans := [] } }) s u) ∧
  (∀ (seg : Fin 8) (s : State), Calm s → s.rd R.GRAN_STAT_STATE = 2 → tbit (s.rd R.GRAN_STAT_FILLED) seg = false →
    ∃ u, exec (.segmentFillDone seg) s = .next u ∧
      u.rd R.GRAN_STAT_FILLED = setBit (s.rd R.GRAN_STAT_FILLED) seg true ∧
      (∀ a, a / segOctets = seg.val → granReads u a = 0) ∧
      (∀ a, a / segOctets ≠ seg.val → granReads u a = granReads s a) ∧
      Only [R.GRAN_STAT_FILLED] (fun x => { x.rest with gran := { x.gran with mem := [], defd := 0 } }) s u)

/-- Frequency changes, trainings, training runs and scrub reads of the granary end as their rows say (R305, R306,
R307, R308, R310). -/
def Obligations.GranaryChanges : Prop :=
  (∀ (p : Nat) (s : State), Calm s → s.gran.freqNow = some (1, p) → (granChan 0 s).writes = [] → (granChan 1 s).writes = [] →
    exec .freqChangePanicWait s = .next (vectors
      { s.wr R.GRAN_STAT_STATE 5 with gran := { s.gran with freqNow := some (2, p) } })) ∧
  (∀ (p : Nat) (s : State), Calm s → s.gran.freqNow = some (2, p) → s.gran.freqPend = none →
    let t := { (s.wr R.GRAN_STAT_POINT_ACT p) with gran := histReset { s.gran with freqNow := none } }
    (tbit (s.rd R.GRAN_FREQ_TRAINED) p = true →
      exec .freqChangeDone s = .next (vectors (t.wr R.GRAN_STAT_STATE 2))) ∧
    (tbit (s.rd R.GRAN_FREQ_TRAINED) p = false →
      exec .freqChangeDone s = .next (vectors { ((t.wr R.GRAN_STAT_STATE 2).wr R.GRAN_STAT_STATE 1) with
        gran := { t.gran with training := some p } }))) ∧
  (∀ (p : Nat) (s : State), Calm s → s.gran.training = some p →
    exec (.granaryTrainingDone true) s = .next (vectors
      ((({ s with gran := histReset { s.gran with training := none } }.wr R.GRAN_FREQ_TRAINED
        (setBit (s.rd R.GRAN_FREQ_TRAINED) p true)).sat R.GRAN_TRN_CNT_TRAININGS 1).wr R.GRAN_STAT_STATE 2))) ∧
  (∀ (beats : Nat) (dq : BitVec 16) (s : State), Calm s → s.bit R.GRAN_TRN_CTL_BUSY = true →
    exec (.granTrnRunDone beats dq) s = .next (vectors
      (((s.wr R.GRAN_TRN_CTL_BUSY 0).wr R.GRAN_TRN_ERR_BEATS (min 65535 beats)).wr R.GRAN_TRN_ERR_DQ dq.toNat))) ∧
  (∀ (b n : Nat) (s : State), Calm s → s.bit R.GRAN_CTL_SCRUB_EN = true → s.rd R.GRAN_STAT_STATE = 2 →
    scrubNext (s.rd R.GRAN_STAT_FILLED) s.gran.scrubAt = some b →
    scrubNext (s.rd R.GRAN_STAT_FILLED) (b + 1) = some n →
    (n ≤ b → exec (.granaryScrubRead .clean none) s = .next (vectors { s.sat R.GRAN_SCRUB_PASSES 1 with
      gran := { s.gran with scrubAt := n, scrubStart := s.age, rowCorr := [] } })) ∧
    (b < n → s.age ≤ s.gran.scrubStart + 4 * s.rd R.GRAN_SCRUB_PERIOD_H * 3600 * second →
      exec (.granaryScrubRead .clean none) s = .next (vectors { s with gran := { s.gran with scrubAt := n } })))

/-- Loss of the reference, PPS edges, loss of PPS and the PPS output act on the time registers (R312, R319, R320,
R321, R410). -/
def Obligations.TimeEvents : Prop :=
  ∀ s : State, Calm s →
    (s.bit R.TIME_STAT_REF_ACT = true → Loggable 6 s →
      Records .refclkLoss 6 2 0x40 s ((s.wr R.TIME_STAT_REF_ACT 0).evt R.TIME_EVT_REF_LOSS)) ∧
    (∀ ps : Int, s.bit R.TIME_CTL_PPS_IN_EN = true →
      ((∃ a, s.clock.ppsAt = some a ∧ s.age < a + second / 2) →
        exec (.ppsInEdge ps) s = .next (vectors (s.sat R.TIME_PPS_CNT_IGNORED 1))) ∧
      ((∀ a, s.clock.ppsAt = some a → a + second / 2 ≤ s.age) → s.rd R.TIME_CTL_SRC ≠ 1 →
        tbit (s.rd R.PWR_WAKE_MASK) 5 = false →
        let t := (s.wr R.TIME_PPS_IN_STAMP (stampWords (edgeStamp ps s))).sat R.TIME_PPS_CNT_ACCEPTED 1
        exec (.ppsInEdge ps) s = .next (vectors
          (({ t with clock := { t.clock with ppsAt := some s.age } } : State).sat (R.PWR_WAKE_CNT_COUNT 5) 1)))) ∧
    (s.bit R.TIME_CTL_PPS_IN_EN = true →
      exec .ppsLost s = .next (vectors ((s.evt R.TIME_EVT_PPS_LOST).wr R.TIME_STAT_PPS_LOCK 0))) ∧
    (s.bit R.TIME_CTL_PPS_OUT_EN = true → s.clock.out = false →
      (∀ a, s.clock.outAt = some a → a + second / 2 ≤ s.age) →
      exec .ppsOutRise s = .next (vectors
        ({ s with clock := { s.clock with out := true, outAt := some s.age } }.send (.ppsOut true)))) ∧
    (s.clock.out = true →
      exec .ppsOutFall s = .next (vectors ({ s with clock := { s.clock with out := false } }.send (.ppsOut false))))

/-- Survey passes fall due, estimate a standard link, run quietly and end with their peaks (R325, R326, R327, R328,
R340). It rests on log 1. -/
def Obligations.SurveyPasses : Prop :=
  ∀ (t : Fin 8) (s : State), Calm s → Alone t s → feServes (t.val / 2) s = true →
    (s.trkFenced t = false → survPending t s = false → trkState t s ≠ 8 → trkState t s ≠ 12 → ∀ est,
      exec (.surveyPassDue ⟨t, by omega⟩ est) s = .next (vectors (s.modSurv t fun x => { x with passDue := true }))) ∧
    (s.trkFenced t = false → survPending t s = false → trkState t s = 8 → trkCR t s = false → ∀ il rl,
      exec (.surveyPassDue ⟨t, by omega⟩ (some (il, rl))) s = .next (vectors
        ((s.wr (R.SURV_TRK_STAT_IL_QDB t) il.toNat).wr (R.SURV_TRK_SHIELD_LIM_RL_QDB t) rl.toNat))) ∧
    ((s.trk t).surv.passRuns = true → (s.trk t).surv.loopWait = false → (s.trk t).surv.capArm = false →
      s.bit (R.SURV_TRK_CTL_CAPTURE t) = false → ∀ peaks,
      let l := passPeaks 16 peaks
      let r := ((showPeaks 16 (R.SURV_TRK_REFL_LEVEL_HDB t) (R.SURV_TRK_REFL_DELAY_PS t) l s).wr
        (R.SURV_TRK_STAT_PEAKS t) l.length).sat (R.SURV_TRK_CNT_PASSES t) 1
      let r := (survBusy t (r.modSurv t fun x => { x with passRuns := false, capArm := false })).wr
        (R.SURV_TRK_STAT_OUTCOME t) (if qwOpen t s then 2 else 0)
      exec (.surveyPassDone ⟨t, by omega⟩ peaks false []) s = .next (vectors
        (r.modPass (t.val / 2) fun x => { x with dones := x.dones ++
          [{ cmd := .surv 0 (localOf t) 0, code := 0,
             result := [(survLoop t r : Int), survContact t r, l.length, if qwOpen t s then 2 else 0], taken := false }] }))) ∧
    (trkState t s = 2 → survMay t s = true → (s.trk t).surv.passRuns = false →
      exec (.surveyQuietPassStart t) s = .next (vectors
        (survBusy t (s.modSurv t fun x => { x with passRuns := true, passDue := false }))))

/-- Loop closures are granted, refused, confirmed, reported, made and ended through the link channel (R329, R330,
R331, R332). -/
def Obligations.LoopMessages : Prop :=
  ∀ (t : Fin 8) (s : State), Calm s → Alone t s →
    (∀ (seq : BitVec 8) (payload : BitVec 48), trkState t s = 8 → trkCR t s = true → (s.trk t).lchDone = none →
      let off := tbits payload.toNat 31 17
      let hold := tbits payload.toNat 16 2
      let start := tbits payload.toNat 39 32
      let r := loopReason t start off hold s
      let msg := fun (type : Nat) =>
        type * 2 ^ 56 + seq.toNat % 256 * 2 ^ 48 + loopPayload 0 (tbit payload.toNat 45) r start off hold % 2 ^ 48
      (r = 0 → exec (.loopReq t seq payload) s = .next (vectors (s.modTrk t fun x => { x with
        lchOut := x.lchOut ++ [msg 0x21], lchDone := some (0x20, seq.toNat, 0),
        surv := { x.surv with closure := some (off, hold) } }))) ∧
      (r ≠ 0 → exec (.loopReq t seq payload) s = .next (vectors (s.modTrk t fun x => { x with
        lchOut := x.lchOut ++ [msg 0x22], lchDone := some (0x20, seq.toNat, r) })))) ∧
    (∀ (seq : BitVec 8) (payload : BitVec 48) (r : LchReq), (s.trk t).lch = some r → r.type = 0x20 → r.seq = seq.toNat →
      (∀ g, (s.trk t).qw.grant = some g → g.opened = false → g.isLocal = true →
        2 ≤ (g.start + 256 - (s.trk t).amTx) % 256 → (g.start + 256 - (s.trk t).amTx) % 256 ≤ 127 →
        exec (.loopAck t seq payload) s = .next (vectors (s.modTrk t fun x => { x with
          lch := none, surv := { x.surv with loopOk := true } }))) ∧
      exec (.loopNak t seq payload) s = .next (vectors ((s.sat (R.SURV_TRK_CNT_NO_LOOP t) 1).modTrk t fun x => { x with
        lch := none, surv := { x.surv with loopMine := none, loopOk := false } }))) ∧
    (∀ payload : BitVec 48, trkState t s = 8 → exec (.loopResult t payload) s = .next (vectors
      (s.wr (R.SURV_TRK_LOOP_PEER_MOHM t) (tbits payload.toNat 31 16)))) ∧
    (qwOpen t s = true → (s.trk t).surv.closure.isSome = true → (s.trk t).surv.closed = false →
      feServes (t.val / 2) s = true → exec (.loopClosureStart t) s = .next (vectors
        ((s.modSurv t fun x => { x with closed := true }).send (.loopSwitch t true)))) ∧
    ((s.trk t).surv.closed = true → exec (.loopClosureEnd t) s = .next (vectors
      ((s.modSurv t fun x => { x with closed := false, closure := none }).send (.loopSwitch t false))))

/-- Loop measurements and contact-care pulses show their figures, count, and end (R329, R334, R335, R336). It rests on
log 68. -/
def Obligations.ContactCare : Prop :=
  ∀ (t : Fin 8) (s : State), Calm s →
    ((s.trk t).surv.loopWait = true → (s.trk t).surv.loopOnly = true → (s.trk t).surv.ccEn = false → ∀ loop : BitVec 16,
      ∃ u, exec (.loopMeasurementDone t loop) s = .next u ∧
        u.rd (R.SURV_TRK_LOOP_LOOP_MOHM t) = min 10000 loop.toNat ∧
        ((s.trk t).surv.trained = false → u.rd (R.SURV_TRK_BASE_CONTACT_MOHM t) = min 10000 loop.toNat - s.rd (R.SURV_TRK_BASE_BASE_MOHM t)) ∧
        (u.trk t).surv.loopWait = false ∧ (u.trk t).surv.loopOnly = false ∧
        Only (loopFields t) (fun x => (x.offTrk t).offPas (t.val / 2)) s u) ∧
    (∀ g, dayFree t (dayPrune t s) = true → (s.trk t).qw.grant = some g → g.opened = true → g.isLocal = true → g.purpose = 1 →
      (s.trk t).surv.loopOk = true → (s.trk t).surv.pulsePend = true → (s.trk t).surv.pulseRuns = false → survMay t s = true →
      let ma : Int := if (s.trk t).surv.negative then -((s.trk t).surv.ccMa : Int) else (s.trk t).surv.ccMa
      exec (.contactCarePulseStart t) s = .next (vectors (survBusy t (dayPrune t
        (((dayPrune t s).send (.pulse t ma)).modSurv t fun x => { x with
          pulseRuns := true, pulsePend := false, negative := !x.negative, dayPulses := dayNow s :: x.dayPulses }))))) ∧
    ((s.trk t).surv.pulseRuns = true → s.bit (R.SURV_TRK_CC_STAT_ACTIVE t) = false → ∀ loop : BitVec 16,
      ∃ u, exec (.contactCarePulseEnd t loop) s = .next u ∧ .pulse t 0 ∈ u.out ∧ (u.trk t).surv.pulseRuns = false ∧
        u.rd (R.SURV_TRK_LOOP_LOOP_MOHM t) = min 10000 loop.toNat ∧
        Counted (R.SURV_TRK_CNT_CC_PULSE_CNT t) 1 s u ∧ Counted (R.SURV_TRK_CC_STAT_PULSES t) 1 s u ∧
        Only (R.SURV_TRK_CNT_CC_PULSE_CNT t :: R.SURV_TRK_CC_STAT_PULSES t :: loopFields t)
          (fun x => (x.offTrk t).offPas (t.val / 2)) s u) ∧
    ((s.trk t).surv.pulseRuns = true → exec (.loopCompliance t) s = .next (vectors
      (survEnds t 1 0 0xFFFF (survContact t s) 0 3 (survBusy t ((((((s.send (.pulse t 0)).wr (R.SURV_TRK_CC_STAT_ACTIVE t) 0).modSurv t
        fun x => { x with pulseRuns := false }).wr (R.SURV_TRK_LOOP_LOOP_MOHM t) 0xFFFF).evt R.SURV_EVT_LOOP_OPEN)))))) ∧
    (s.bit (R.SURV_TRK_CC_STAT_DAY_HELD t) = true → dayFree t (dayPrune t s) = true →
      exec (.contactCareDayHeldEnd t) s = .next (vectors ((dayPrune t s).wr (R.SURV_TRK_CC_STAT_DAY_HELD t) 0)))

/-- Shield currents, sensors and an over-temperature vale act on their registers, the log and the vale (R338, R339,
R413, R414). -/
def Obligations.SurveyorSamples : Prop :=
  (∀ (t : Fin 8) (dc : Int) (ac : Nat) (s : State), Calm s → feServes (t.val / 2) s = true →
    let lim := s.rd (R.SURV_TRK_SHIELD_LIM_LIM_MA t)
    let n := if lim < dc.natAbs ∨ lim < ac then (s.trk t).surv.shieldRun + 1 else 0
    let r := ((s.wr (R.SURV_TRK_SHIELD_DC_MA t) (dc % 65536).toNat).wr (R.SURV_TRK_SHIELD_AC_MA t) (min 65535 ac)).modSurv t
      fun x => { x with shieldRun := n }
    (n ≠ 100 → exec (.shieldSample t dc ac) s = .next (vectors r)) ∧
    (n = 100 → Loggable (64 + t) s → Records (.shieldSample t dc ac) (64 + t) 1 0x42 s (r.evt R.SURV_EVT_SHIELD))) ∧
  (∀ (v : BitVec 16) (power : Word) (s : State), Calm s → tget false s.sensorHot 0 = false →
    int16 v.toNat ≤ int16 (s.rd (R.SURV_ENV_LIMIT 0)) → int16 v.toNat < 8 * (s.rd R.PWR_THERM_WARN_C : Int) →
    exec (.sensorSample [v] [] power) s = .next (vectors
      ((({ s.wr (R.SURV_ENV_VALUE 0) v.toNat with sensorHot := tset false s.sensorHot 0 false } : State).wr
        R.PWR_INPUT_P_MW (power.toNat / 65536)).wr R.PWR_INPUT_I_MA (power.toNat % 65536)))) ∧
  (∀ (v : Fin 4) (k : Nat) (s : State), Calm s → (s.pas v).powered = true → k < 2 →
    8 * (s.rd R.PWR_THERM_CUT_C : Int) ≤ int16 (s.rd (R.SURV_VALE_ENV_VALUE v k)) →
    exec (.valeOvertempCut v) s = .next (settle ((valePowerOff v s).owe (.fence (.vale v)))) ∧
      ((valePowerOff v s).owe (.fence (.vale v))).todo = [.fence (.vale v)] ∧ ((valePowerOff v s).pas v).powered = false)

/-- A calibration item falls due, runs, ends, is recorded and slews; CALREF is rechecked (R344, R345, R346, R347,
R350, R352, R353, R354, R355). -/
def Obligations.AssayerItems : Prop :=
  ∀ (i : Fin 113) (s : State), Calm s → itemHeld i s = false →
    (itemState i s = 0 → exec (.assayItemDue i) s = .next (vectors
      ((s.modItem i fun x => { x with dueAge := s.age }).wr (R.ASSAY_ITEM_STAT_STATE i) 1))) ∧
    (∀ r : BitVec 16, calCan i s = true → calFirst i s = true → calrefOk r.toNat = true →
      let t := trefShow ((s.wr R.ASSAY_REF_CALREF r.toNat).wr R.ASSAY_STAT_REF_OK 1)
      let t := busySet i true ((t.modItem i fun x => { x with calref := r.toNat }).wr (R.ASSAY_ITEM_STAT_STATE i) 3)
      exec (.calibrationStart i r) s = .next (vectors
        (match itemVale i with | some v => hostRequest v (.cmd (.assay i true)) t | none => t.send (.calibrate i)))) ∧
    (∀ (res : List CalVal) (temp : Int), itemState i s = 3 → rangeOk res = true → repeatOk res (s.item i).stored = true →
      let t := ((calOff i (busySet i false (s.wr (R.ASSAY_ITEM_STAT_STATE i) 0))).wr R.ASSAY_STAT_LAST_ITEM i).modItem i
        fun x => { x with forced := false }
      let t := ((((assayDone i 0 t).wr (R.ASSAY_ITEM_STAT_ACCEPT_ARMED i) 0).wr (R.ASSAY_ITEM_STAT_LAST_REJ i) 0).wr
        (R.ASSAY_ITEM_STAT_CONSEC_REJ i) 0).evt R.ASSAY_EVT_DONE
      exec (.calibrationDone i res temp) s = .next (vectors (t.modItem i fun x => { x with writing := some (res, temp) }))) ∧
    (∀ (l : List CalVal) (temp : Int), (s.item i).writing = some (l, temp) →
      let t := ((s.sat (R.ASSAY_ITEM_COUNT_COUNT i) 1).wr (R.ASSAY_ITEM_LAST_SEC i) s.time.sec).wr (R.ASSAY_ITEM_STAT_NOREC i) 0
      exec (.calRecordWritten i true) s = .next (vectors ((t.modItem i fun x => { x with
        stored := l, temp := temp, slewFrom := x.inForce, steps := 0, writing := none, copyB := !x.copyB }).wr
          (R.ASSAY_ITEM_STAT_STATE i) 4))) ∧
    (itemState i s = 4 → (∀ v, itemVale i = some v → s.valeRung v < 2) → (itemVale i = none → s.rd R.PWR_STAT_HOST_RUNG < 2) →
      (s.item i).steps + 1 < 256 →
      exec (.calSlewStep i) s = .next (vectors (corrShow i (s.modItem i fun x => { x with
        steps := x.steps + 1, inForce := slewValues x.slewFrom x.stored (x.steps + 1) })))) ∧
    (∀ r : BitVec 16, (s.bit R.ASSAY_STAT_REF_OK = false ∨ (running s).isEmpty = false) → calrefOk r.toNat = true →
      exec (.calrefRecheck r) s = .next (vectors ((s.wr R.ASSAY_REF_CALREF r.toNat).wr R.ASSAY_STAT_REF_OK 1)))

/-- A security load times out, a bundle or a firmware image that checks takes effect, and one that does not changes
nothing else (R368, R369, R370, R371, R372). It rests on log 1. -/
def Obligations.SecLoadsEnd : Prop :=
  (∀ s : State, Calm s → s.sec.loadOpen = true → exec .secLoadTimeout s = .next (vectors
    { (s.wr R.SEC_LOAD_CTL_ABORT 0).wr R.SEC_LOAD_STAT_STATE 0 with
      sec := { s.sec with loadOpen := false, loadBusy := false, loadWords := [] } })) ∧
  (∀ (v : Verdict) (es : List BEntry) (s : State), s.sec.loadBusy = true → s.sec.loadTarget = 0 → s.mode ≠ 5 →
    bundleCheck s.sec.loadWords v s = (0, es) →
    let store := es.foldl (fun a e => entryApply e a) s.sec.store
    let t := secResult 0 (secClose 3 { s with sec := { s.sec with store := store, floor := imgWord s.sec.loadWords 4 } })
    (bundleKind s.sec.loadWords = 2 →
      let u := (es.flatMap entryCas).foldl (fun a e => mkaRestart e a)
        (if t.bit R.SEC_STAT_KEYSTORE_OK then { t with sec := { t.sec with room := store } } else t)
      Calm u → exec (.bundleCommitDone v) s = .next (vectors u)) ∧
    (∀ e, es = [e] → bundleKind s.sec.loadWords = 3 →
      let n := (e.value.getD 0 0).toNat
      Calm t → exec (.bundleCommitDone v) s =
        .next (vectors { t with sec := { t.sec with token := some (n, decide (n = 3)) } }))) ∧
  (∀ (v : Verdict) (s : State), s.sec.loadBusy = true → s.sec.loadTarget = 0 → s.mode ≠ 5 →
    (bundleCheck s.sec.loadWords v s).1 ≠ 0 →
    let t := secResult (bundleCheck s.sec.loadWords v s).1 (secClose 3 (s.sat (R.SEC_CNT_COUNT 3) 1))
    Calm t → exec (.bundleCommitDone v) s = .next (vectors t)) ∧
  ∀ s : State, s.sec.loadBusy = true → s.sec.loadTarget = 1 ∨ s.sec.loadTarget = 2 → s.mode ≠ 5 →
    fwCheck (tget [] s.sec.fw s.sec.loadTarget) true true s = 0 →
    let fw := tset [] s.sec.fw s.sec.loadTarget (imgCommit (tget [] s.sec.fw s.sec.loadTarget) commitWord)
    let t := secResult 0 (secClose 3 { s with sec := { s.sec with
      fw := if s.sec.loadTarget = 2 then tset [] fw 1 (imgCommit (tget [] fw 1) 0) else fw } })
    Calm t → exec (.firmwareCommitDone true true) s = .next (vectors t)

/-- Tamper sources wipe the strongroom, key generation stores its key, and attestation signs its report (R362, R363,
R364, R367, R374, R375). It rests on log 2, 50. -/
def Obligations.StrongroomActs : Prop :=
  (∀ (src : Fin 5) (active : Bool) (s : State), Calm s →
    let t := s.wr R.SEC_TAMPER_ACTIVE (setBit (s.rd R.SEC_TAMPER_ACTIVE) src active)
    (tamperOn src t = false → exec (.tamperDetect src active) s = .next (vectors t)) ∧
    (tamperOn src t = true → s.bit R.SEC_TAMPER_LATCH = true → exec (.tamperDetect src active) s = .next (vectors
      ((t.wr R.SEC_TAMPER_LATCH 1).wr R.SEC_TAMPER_SRC (setBit (s.rd R.SEC_TAMPER_SRC) src true)))) ∧
    (tamperOn src t = true → s.bit R.SEC_TAMPER_LATCH = false → exec (.tamperDetect src active) s = .next (settle
      (((roomWipe ((t.wr R.SEC_TAMPER_LATCH 1).wr R.SEC_TAMPER_SRC (setBit (s.rd R.SEC_TAMPER_SRC) src true))).sat
        (R.SEC_CNT_COUNT 0) 1).recordFree 5 3 0x50 (some 4))))) ∧
  (∀ (pub : BitVec 768) (s : State), Calm s → s.bit R.SEC_PROV_CTL_BUSY = true →
    let p := octetsOf 96 pub.toNat
    let t := ((octetWords 24 p).zipIdx.foldl (fun a e => a.wr (R.SEC_ID_PUB_KEY e.2) e.1) (s.wr R.SEC_PROV_CTL_BUSY 0))
    let f := t.freeOctets 48
    exec (.genkeyDone pub) s = .next (vectors { f.2 with sec := { f.2.sec with
      devTag := ((sha384 p).take 8).foldl (fun (a : Nat) o => a * 256 + o.toNat) 0, storageKey := true,
      store := keyPut { type := 0, index := 0, value := f.1 } f.2.sec.store } })) ∧
  ∀ s : State, s.bit R.SEC_ATT_CTL_BUSY = true → s.mode ≠ 5 →
    let t := s.sat (R.SEC_CNT_COUNT 4) 1
    let f := t.freeOctets 96
    let u := (octetWords 84 (reportOctets t ++ f.1)).zipIdx.foldl (fun a e => a.wr (R.SEC_ATT_REPORT_DATA e.2) e.1) f.2
    let u := stewardNotice 3 (((u.wr R.SEC_ATT_CTL_BUSY 0).wr R.SEC_ATT_CTL_DONE 1).evt R.SEC_EVT_ATT)
    Calm u → exec .attestationDone s = .next (vectors u)

/-- MKA frames, hello ticks and lost peers change the peers of a CA and start or ask for its rotation (R377, R381,
R382). It rests on log 66. -/
def Obligations.KeyAgreement : Prop :=
  (∀ (e : Fin 2056) (peer : BitVec 96) (i u : Bool) (s : State), Calm s → MkaRuns e s →
    (((s.ca e).peers.any fun p => p.id = peer.toNat) = true → exec (.mkaFrameReceive e peer i u) s = .next (vectors
      (s.modCa e fun x => { x with peers := x.peers.map fun p =>
        if p.id = peer.toNat then { p with installed := p.installed || i, used := p.used || u } else p }))) ∧
    (((s.ca e).peers.any fun p => p.id = peer.toNat) = false → (s.ca e).peers.length < 32 →
      let t := s.modCa e fun x => { x with peers := x.peers ++ [{ id := peer.toNat, installed := false, used := false }] }
      let t := t.wr (R.MSEC_STAT_PEERS e) (t.ca e).peers.length
      ((s.ca e).txReady = true → caGroup e = false → exec (.mkaFrameReceive e peer i u) s = .next (vectors t)) ∧
      ((s.ca e).txReady = true → caGroup e = true → Calm (rotAsk e t) →
        exec (.mkaFrameReceive e peer i u) s = .next (vectors (rotAsk e t))) ∧
      ((s.ca e).txReady = false → (s.ca e).newAn = none → Calm (rotStart e t) →
        exec (.mkaFrameReceive e peer i u) s = .next (vectors (rotStart e t))))) ∧
  (∀ (e : Nat) (s : State), casUsed s = [e] → MkaRuns e s → caAsleep e s = false → (mkaHello e s).bit (R.MSEC_CTL_ROTATE e) = false →
    (mkaHello e s).rd (R.MSEC_TX_PN_PN e) < 2 ^ 62 → Calm (mkaHello e s) →
    exec .mkaHelloTick s = .next (vectors (mkaHello e s))) ∧
  ∀ (e : Fin 2056) (peer : BitVec 96) (s : State), Calm s → caAsleep e s = false →
    ((s.ca e).peers.any fun p => p.id = peer.toNat) = true →
    let t := s.modCa e fun x => { x with peers := x.peers.filter fun p => p.id ≠ peer.toNat }
    let t := t.wr (R.MSEC_STAT_PEERS e) (t.ca e).peers.length
    ((t.ca e).peers ≠ [] → caGroup e = false → exec (.mkaLifeExpiry e peer) s = .next (vectors t)) ∧
    ((t.ca e).peers ≠ [] → caGroup e = true → Calm (rotAsk e t) →
      exec (.mkaLifeExpiry e peer) s = .next (vectors (rotAsk e t))) ∧
    ((t.ca e).peers = [] → Calm (caNoSak e t) → exec (.mkaLifeExpiry e peer) s = .next (vectors (caNoSak e t)))

/-- A SAK rotates when its lifetime ends or all peers have installed the new one; the old SA is retired (R377, R381,
R382). It rests on log 66. -/
def Obligations.SakRotation : Prop :=
  ∀ (e : Fin 2056) (s : State), Calm s →
    ((s.ca e).txReady = true → caUsed e s = true → (s.ca e).newAn = none → caPortUp e s = false →
      exec (.sakLifetimeExpiry e) s = .next (vectors (s.wr (R.MSEC_CTL_ROTATE e) 1))) ∧
    ((s.ca e).txReady = true → caUsed e s = true → (s.ca e).newAn = none → caPortUp e s = true →
      let t := s.wr (R.MSEC_CTL_ROTATE e) 1
      let an := if (s.ca e).rx.isEmpty then 0 else (t.rd (R.MSEC_STAT_RX_AN e) + 1) % 4
      let t := (t.modCa e fun x => { x with
        rx := x.rx.filter (fun a => a.1 ≠ an) ++ [(an, 1)], newAn := some an, oldAn := x.oldAn.filter (fun a => a ≠ an),
        peers := x.peers.map fun p => { p with installed := false, used := false } }).wr (R.MSEC_STAT_RX_AN e) an
      Calm (caState e 3 t) → exec (.sakLifetimeExpiry e) s = .next (vectors (caState e 3 t))) ∧
    (∀ an, (s.ca e).newAn = some an → (s.ca e).peers ≠ [] → ((s.ca e).peers.all fun p => p.installed) = true →
      let t := (kiFresh e ((s.wr (R.MSEC_STAT_TX_AN e) an).wr (R.MSEC_TX_PN_PN e) 1)).modCa e fun x => { x with
        newAn := none, oldAn := if (s.ca e).txReady then some (s.rd (R.MSEC_STAT_TX_AN e)) else none, txReady := true }
      let t := caState e 2 (t.wr (R.MSEC_CTL_ROTATE e) 0)
      let t := if (s.ca e).txReady then secNotice 2 e (t.sat (R.SEC_CNT_COUNT 5) 1) else t
      Calm t → exec (.sakRotationDone e) s = .next (vectors t)) ∧
    (∀ an, (s.ca e).oldAn = some an → exec (.oldSaRetire e) s = .next (vectors
      (s.modCa e fun x => { x with rx := x.rx.filter fun a => a.1 ≠ an, oldAn := none })))

/-- FLT_FIELD_N is low exactly while a held slot of a field-side source holds a class U or F record (R394). -/
def Obligations.FieldFaultPin : Prop :=
  ∀ s : State, s.fltField = true ↔
    ∃ src, ((32 ≤ src ∧ src < 48) ∨ (64 ≤ src ∧ src < 72) ∨ (128 ≤ src ∧ src < 192)) ∧ s.slotHeld src = true ∧
      (s.rd (R.WATCH_SLOT_HDR_CLASS src) = 2 ∨ s.rd (R.WATCH_SLOT_HDR_CLASS src) = 3)

/-- The Watch records errors, applies a delayed action, ends the host pin's width, and serves its archive (R387, R388,
R389, R390, R391, R395, R397, R399). It rests on log 5. -/
def Obligations.WatchServes : Prop :=
  (∀ (src : Fin 512) (kind : BitVec 8) (detail : Word) (c : Nat) (s : State), Calm s → Loggable src s →
    srcKnown src = true → kindClass kind.toNat src = some c → c = 1 ∨ c = 2 → kindFixed kind.toNat src = none → kind ≠ 0x58 →
    Records (.watchErrorRecord src kind detail) src c kind.toNat s s) ∧
  (∀ (src : Fin 512) (due act : Nat) (s : State), Calm s → tget none s.watch.grace src = some (due, act) →
    let f := s.free 32
    let t (a : Nat) : State :=
      let w := ((f.2.logEntry src 0 false 0xF0 a false s.mode f.1).sat (R.WATCH_CNT_COUNT 4) 1).wr (R.WATCH_SLOT_HDR_GRACE src) 0
      { w with watch := { w.watch with grace := tset none w.watch.grace src none } }
    (s.mode = 5 → exec (.graceExpiry src) s = .next (vectors (t 0))) ∧
    (s.mode ≠ 5 → act = 1 → exec (.graceExpiry src) s = .next (vectors (((t act).wr (R.WATCH_SLOT_HDR_APPLIED src) act).message 0))) ∧
    (s.mode ≠ 5 → 2 ≤ act → exec (.graceExpiry src) s =
      .next (settle ((((t act).wr (R.WATCH_SLOT_HDR_APPLIED src) act).message 0).oweAction src act)))) ∧
  ∀ s : State, Calm s →
    (exec .fltHostWidthEnd s = .next (vectors { s with watch := { s.watch with widthRuns := false } })) ∧
    (s.bit R.WATCH_LOG_CTL_ARCH = true → s.bit R.WATCH_LOG_CTL_READY = false → exec .archiveReady s = .next (vectors
      ({ s with watch := { s.watch with archSel := s.archive[s.rd R.WATCH_LOG_CTL_INDEX]? } }.wr R.WATCH_LOG_CTL_READY 1))) ∧
    (∀ x l, s.watch.toArchive = x :: l → exec .archiveCopy s = .next (vectors
      { s with archive := (x :: s.archive).take 4096, watch := { s.watch with toArchive := l } }))

/-- Entries to a deeper rung are attempted, refused, delayed, retried, done and climbed out of (R401, R405, R406,
R407, R408, R409, R412). It rests on log 74. -/
def Obligations.LadderEntries : Prop :=
  (∀ s : State, Attempts 0 s →
    let r := targetOf 0 s
    let t := if 2 ≤ r then { s with mill := { s.mill with paused := true } } else s
    ((hostAnswer r t).2 = .accept → Calm (domPut 0 (.committed r) t) →
      exec (.rungEntryAttempt 0) s = .next (vectors (domPut 0 (.committed r) t))) ∧
    (∀ c w, hostAnswer r t = (c, .refuse w) →
      let u := refusal 0 r c w t
      let u := { domPut 0 .idle u with mill := { u.mill with paused := false } }
      Calm u → exec (.rungEntryAttempt 0) s = .next (vectors u))) ∧
  (∀ (k : Fin 5) (s : State), k ≠ 0 → Attempts k s →
    let t := hostRequest (k - 1) (.rung (targetOf k s)) (domPut k (.asked (targetOf k s) []) s)
    Calm t → exec (.rungEntryAttempt k) s = .next (vectors t)) ∧
  (∀ (k : Fin 5) (r : Nat) (l : List Nat) (s : State), domOf k s = .asked r l →
    let t := domPut k .idle (refusal k r 0x7F 0x0D s)
    let t := if k = 0 then { t with mill := { t.mill with paused := false } }
      else hostRequest (k - 1) (.rung (t.valeRung (k - 1))) t
    Calm t → exec (.rungDelayTimeout k) s = .next (vectors t)) ∧
  (∀ (k : Fin 5) (s : State), Calm s →
    exec (.rungRetry k) s = .next (vectors { s with power := { s.power with barred := tset false s.power.barred k false } })) ∧
  (∀ (k : Fin 5) (r : Nat) (s : State), domOf k s = .committed r →
    let t := (domRungSet k r (domPut k .idle s)).evt R.PWR_EVT_ENTERED
    let t := wakeNext k (if k = 0 then hostEnter r t else valeEnter (k - 1) r t)
    Calm t → exec (.rungEntryDone k) s = .next (vectors t)) ∧
  ∀ (k : Fin 5) (r : Nat) (s : State), domOf k s = .climbing r →
    let t := domRungSet k r (domPut k .idle s)
    let t := wakeNext k (if k = 0 then hostClimbed r t else valeClimbed (k - 1) r t)
    Calm t → exec (.rungClimbDone k) s = .next (vectors t)

/-- Wake sources count, wake the device where masked in, and the timer and supply events act (R410, R411, R416). -/
def Obligations.WakeSources : Prop :=
  (∀ s : State, Calm s → s.power.wakeNOff = false → tbit (s.rd R.PWR_WAKE_MASK) 0 = false →
    exec .wakeNAssert s = .next (vectors
      (let t := s.sat (R.PWR_WAKE_CNT_COUNT 0) 1
       { t with power := { t.power with wakeNOff := false } }))) ∧
  (∀ s : State, s.power.wakeNOff = false → tbit (s.rd R.PWR_WAKE_MASK) 0 = true →
    let t := wakeAll 0 (s.sat (R.PWR_WAKE_CNT_COUNT 0) 1)
    Calm t → tbit (t.rd R.PWR_WAKE_MASK) 0 = true →
    exec .wakeNAssert s = .next (vectors { t with power := { t.power with wakeNOff := true } })) ∧
  (∀ s : State, Calm s → exec .wakeNRearm s = .next (vectors { s with power := { s.power with wakeNOff := false } })) ∧
  (∀ (c : Fin 8) (s : State), c ≠ 0 → wakeSourceArmed c s = true →
    let t := s.sat (R.PWR_WAKE_CNT_COUNT c) 1
    (c.val ≠ 6 → tbit (s.rd R.PWR_WAKE_MASK) c = false → Calm s → exec (.wakeSourceDetect c) s = .next (vectors t)) ∧
    (c.val = 6 ∨ tbit (s.rd R.PWR_WAKE_MASK) c = true → Calm (wakeAll c t) →
      exec (.wakeSourceDetect c) s = .next (vectors (wakeAll c t)))) ∧
  (∀ s : State, s.bit R.PWR_TIMER_CTL_EN = true →
    let t := s.evt R.PWR_TIMER_CTL_EXPIRED
    let t := if s.bit R.PWR_TIMER_CTL_PERIODIC then timerLoad t
      else { (t.wr R.PWR_TIMER_CTL_EN 0).wr R.PWR_TIMER_LEFT_LEFT 0 with power := { t.power with timerEnd := none } }
    Calm (wakeDetect 4 t) → exec .pwrTimerExpiry s = .next (vectors (wakeDetect 4 t))) ∧
  (∀ s : State, Calm s → exec .wakeHoldEnd s = .next (vectors (s.wr R.PWR_STAT_HOLD 0)) ∧
    exec .vinLow s = .next (vectors (s.wr R.PWR_EVT_VIN_LOW 1)))
end

