-- ==== Sys2Proof/Laws/Tbl.lean ====
section
/-! SUPPORT. Laws of sparse tables: reading after writing, and the canonical form. -/

namespace Sys2Proof.Machine

variable {α : Type}

theorem tget_terase_self (d : α) (l : Tbl α) (k : Nat) : tget d (terase l k) k = d := by
  induction l with
  | nil => rfl
  | cons e l ih =>
    obtain ⟨i, v⟩ := e
    simp only [terase]
    split
    · exact ih
    · simp_all [tget]

theorem tget_terase_ne (d : α) (l : Tbl α) {k j : Nat} (h : k ≠ j) : tget d (terase l k) j = tget d l j := by
  induction l with
  | nil => rfl
  | cons e l ih =>
    obtain ⟨i, v⟩ := e
    by_cases e : i = k
    · simp_all [terase, tget]
    · simp_all [terase, tget]

theorem tget_tinsert_ne (d : α) (l : Tbl α) {k j : Nat} (v : α) (h : k ≠ j) :
    tget d (tinsert k v l) j = tget d l j := by
  induction l with
  | nil => simp [tinsert, tget, h]
  | cons e l ih =>
    obtain ⟨i, w⟩ := e
    simp only [tinsert]
    split
    · simp [tget, h]
    · simp [tget, ih]

theorem tget_tinsert_terase (d : α) (l : Tbl α) (k : Nat) (v : α) : tget d (tinsert k v (terase l k)) k = v := by
  induction l with
  | nil => simp [terase, tinsert, tget]
  | cons e l ih =>
    obtain ⟨i, w⟩ := e
    simp only [terase]
    split
    · exact ih
    · simp only [tinsert]
      split
      · simp [tget]
      · simp_all [tget]

/-- A read after a write to the same key gives the value written. -/
@[simp] theorem tget_tset_self [DecidableEq α] (d : α) (l : Tbl α) (k : Nat) (v : α) :
    tget d (tset d l k v) k = v := by
  unfold tset
  split
  · simp_all [tget_terase_self]
  · exact tget_tinsert_terase d l k v

/-- A write leaves every other key alone. -/
theorem tget_tset_ne [DecidableEq α] (d : α) (l : Tbl α) {k j : Nat} (v : α) (h : k ≠ j) :
    tget d (tset d l k v) j = tget d l j := by
  unfold tset
  split
  · exact tget_terase_ne d l h
  · rw [tget_tinsert_ne d _ v h, tget_terase_ne d l h]

theorem tget_tset [DecidableEq α] (d : α) (l : Tbl α) (k j : Nat) (v : α) :
    tget d (tset d l k v) j = if k = j then v else tget d l j := by
  split
  · subst_vars; simp
  · exact tget_tset_ne d l v ‹_›

/-- Every key of a sorted table is above its first. -/
theorem tsorted_iff (e : Nat × α) (l : Tbl α) :
    tsorted (e :: l) = true ↔ tsorted l = true ∧ ∀ x ∈ l, e.1 < x.1 := by
  induction l generalizing e with
  | nil => simp [tsorted]
  | cons g l ih =>
    obtain ⟨i, v⟩ := e
    obtain ⟨j, w⟩ := g
    simp only [tsorted, Bool.and_eq_true, decide_eq_true_eq, List.mem_cons, forall_eq_or_imp]
    constructor
    · rintro ⟨a, b⟩
      exact ⟨b, a, fun x hx => Nat.lt_trans a ((ih (j, w)).1 b |>.2 x hx)⟩
    · rintro ⟨a, b, _⟩
      exact ⟨b, a⟩

theorem mem_terase {l : Tbl α} {k : Nat} {x : Nat × α} : x ∈ terase l k ↔ x ∈ l ∧ x.1 ≠ k := by
  induction l with
  | nil => simp [terase]
  | cons e l ih =>
    obtain ⟨i, v⟩ := e
    simp only [terase]
    split
    · rw [ih]; constructor
      · rintro ⟨a, b⟩; exact ⟨.tail _ a, b⟩
      · rintro ⟨a, b⟩
        cases a with
        | head => simp_all
        | tail _ a => exact ⟨a, b⟩
    · simp only [List.mem_cons, ih]
      constructor
      · rintro (rfl | ⟨a, b⟩)
        · exact ⟨.inl rfl, ‹_›⟩
        · exact ⟨.inr a, b⟩
      · rintro ⟨rfl | a, b⟩
        · exact .inl rfl
        · exact .inr ⟨a, b⟩

theorem mem_tinsert {l : Tbl α} {k : Nat} {v : α} {x : Nat × α} :
    x ∈ tinsert k v l ↔ x = (k, v) ∨ x ∈ l := by
  induction l with
  | nil => simp [tinsert]
  | cons e l ih =>
    obtain ⟨i, w⟩ := e
    simp only [tinsert]
    split
    · simp
    · simp only [List.mem_cons, ih]; tauto

theorem tsorted_terase {l : Tbl α} {k : Nat} (h : tsorted l = true) : tsorted (terase l k) = true := by
  induction l with
  | nil => rfl
  | cons e l ih =>
    obtain ⟨i, v⟩ := e
    obtain ⟨a, b⟩ := (tsorted_iff _ _).1 h
    simp only [terase]
    split
    · exact ih a
    · exact (tsorted_iff _ _).2 ⟨ih a, fun x hx => b x (mem_terase.1 hx).1⟩

theorem tsorted_tinsert {l : Tbl α} {k : Nat} {v : α} (h : tsorted l = true) (n : ∀ x ∈ l, x.1 ≠ k) :
    tsorted (tinsert k v l) = true := by
  induction l with
  | nil => rfl
  | cons e l ih =>
    obtain ⟨i, w⟩ := e
    obtain ⟨a, b⟩ := (tsorted_iff _ _).1 h
    simp only [tinsert]
    split
    · rename_i g
      refine (tsorted_iff _ _).2 ⟨h, fun x hx => ?_⟩
      cases hx with
      | head => exact g
      | tail _ hx => exact Nat.lt_trans g (b x hx)
    · rename_i g
      have e := n (i, w) (.head _)
      simp only [ne_eq] at e
      refine (tsorted_iff _ _).2 ⟨ih a fun x hx => n x (.tail _ hx), fun x hx => ?_⟩
      rcases mem_tinsert.1 hx with rfl | hx
      · show i < k; omega
      · exact b x hx

/-- A write keeps the canonical form. -/
theorem twf_tset [DecidableEq α] {d : α} {l : Tbl α} {k : Nat} {v : α} (h : twf d l = true) :
    twf d (tset d l k v) = true := by
  simp only [twf, Bool.and_eq_true, List.all_eq_true, decide_eq_true_eq] at h ⊢
  obtain ⟨a, b⟩ := h
  unfold tset
  split
  · exact ⟨tsorted_terase a, fun x hx => b x (mem_terase.1 hx).1⟩
  · refine ⟨tsorted_tinsert (tsorted_terase a) fun x hx => (mem_terase.1 hx).2, fun x hx => ?_⟩
    rcases mem_tinsert.1 hx with rfl | hx
    · assumption
    · exact b x (mem_terase.1 hx).1

/-! ## Bits of numbers -/

/-- A bit that is set reads as set, and every other one as before. -/
theorem tbit_setBit_true {n i j : Nat} (h : tbit n i = false) : tbit (setBit n i true) j = if i = j then true else tbit n j := by
  have e : setBit n i true = n + 2 ^ i := by simp [setBit, h, b2n]
  rw [e]
  have hp : 0 < 2 ^ i := Nat.two_pow_pos i
  unfold tbit at h ⊢
  simp only [decide_eq_false_iff_not] at h
  have a : (n + 2 ^ i) / 2 ^ i = n / 2 ^ i + 1 := Nat.add_div_right _ hp
  rcases Nat.lt_trichotomy j i with hj | hj | hj
  · rw [if_neg (by omega)]
    obtain ⟨k, rfl⟩ : ∃ k, i = j + 1 + k := ⟨i - j - 1, by omega⟩
    have : (n + 2 ^ (j + 1 + k)) / 2 ^ j = n / 2 ^ j + 2 * 2 ^ k := by
      rw [show (2:Nat) ^ (j + 1 + k) = 2 ^ j * (2 * 2 ^ k) by ring, Nat.add_mul_div_left _ _ (Nat.two_pow_pos j)]
    rw [this]; congr 2; omega
  · subst hj
    rw [if_pos rfl, a]; simp; omega
  · rw [if_neg (by omega)]
    obtain ⟨k, rfl⟩ : ∃ k, j = i + 1 + k := ⟨j - i - 1, by omega⟩
    rw [show (2:Nat) ^ (i + 1 + k) = 2 ^ i * 2 * 2 ^ k by ring, ← Nat.div_div_eq_div_mul, ← Nat.div_div_eq_div_mul, a, ← Nat.div_div_eq_div_mul, ← Nat.div_div_eq_div_mul]
    congr 4; omega
theorem setBit_same {n i : Nat} (h : tbit n i = true) : setBit n i true = n := by
  have : 2 ^ i ≤ n := by
    by_contra hc
    have : n / 2 ^ i = 0 := Nat.div_eq_of_lt (by omega)
    simp [tbit, this] at h
  simp only [setBit, h, b2n, if_true]
  omega

theorem tbit_setBit (n i j : Nat) : tbit (setBit n i true) j = if i = j then true else tbit n j := by
  cases h : tbit n i
  · exact tbit_setBit_true h
  · rw [setBit_same h]
    by_cases e : i = j
    · subst e; simp [h]
    · rw [if_neg e]

/-- Writing a bit below the width stays within it. -/
theorem setBit_lt {n i w : Nat} (h : n < 2 ^ w) (hi : i < w) (b : Bool) : setBit n i b < 2 ^ w := by
  cases hb : tbit n i <;> cases b <;> simp only [setBit, hb, b2n] <;> simp
  · exact h
  · have : n / 2 ^ i % 2 = 0 := by unfold tbit at hb; simp at hb; omega
    have hp := Nat.two_pow_pos i
    obtain ⟨k, rfl⟩ : ∃ k, w = i + 1 + k := ⟨w - i - 1, by omega⟩
    have e : (2:Nat) ^ (i + 1 + k) = 2 ^ i * (2 * 2 ^ k) := by ring
    rw [e] at h ⊢
    have h2 : n / 2 ^ i < 2 * 2 ^ k := Nat.div_lt_of_lt_mul h
    have h3 : n / 2 ^ i + 1 < 2 * 2 ^ k := by omega
    calc n + 2 ^ i < 2 ^ i * (n / 2 ^ i + 1) + 2 ^ i := by have := Nat.lt_mul_div_succ n hp; omega
      _ = 2 ^ i * (n / 2 ^ i + 1 + 1) := by ring
      _ ≤ _ := Nat.mul_le_mul_left _ (by omega)
  · exact Nat.lt_of_le_of_lt (Nat.sub_le _ _) h
  · have : 2 ^ i ≤ n := by
      by_contra hc
      have : n / 2 ^ i = 0 := Nat.div_eq_of_lt (by omega)
      simp [tbit, this] at hb
    omega

end Sys2Proof.Machine
end

