-- ==== Sys2Proof/Laws/Regs.lean ====
section
/-! SUPPORT. Laws of the register operations: what a write leaves to be read. -/

namespace Sys2Proof.Machine

@[simp] theorem getFld_putFld_self (r : Tbl (Tbl Nat)) (f : Fld) (v : Nat) : getFld (putFld r f v) f = v % 2 ^ f.width := by
  simp [getFld, putFld]

theorem getFld_putFld_ne (r : Tbl (Tbl Nat)) (f g : Fld) (v : Nat) (h : f.id = g.id → f.ix ≠ g.ix) :
    getFld (putFld r f v) g = getFld r g := by
  unfold getFld putFld
  by_cases e : f.id = g.id
  · have n := h e
    rw [e, tget_tset_self]
    generalize tget [] r g.id = l
    unfold tset
    split
    · rw [tget_terase_ne _ l n]
    · rw [tget_tinsert_ne _ _ _ n, tget_terase_ne _ l n]
  · rw [tget_tset_ne _ _ _ e]

theorem rd_eq (s : State) (f : Fld) : s.rd f = getFld s.regs f := rfl

/-- A field's value fits its width. -/
theorem rd_lt (s : State) (f : Fld) : s.rd f < 2 ^ f.width := Nat.mod_lt _ (Nat.two_pow_pos _)

@[simp] theorem rd_mod (s : State) (f : Fld) : s.rd f % 2 ^ f.width = s.rd f := Nat.mod_eq_of_lt (rd_lt s f)

/-- A field holds what was written, cut to its width. -/
@[simp] theorem rd_wr_self (s : State) (f : Fld) (v : Nat) : (s.wr f v).rd f = v % 2 ^ f.width :=
  getFld_putFld_self s.regs f v

/-- A write changes no other field. -/
theorem rd_wr_ne (s : State) (f g : Fld) (v : Nat) (h : f.id = g.id → f.ix ≠ g.ix) : (s.wr f v).rd g = s.rd g :=
  getFld_putFld_ne s.regs f g v h

end Sys2Proof.Machine
end

