-- ==== Sys2Proof/Laws/State.lean ====
section
/-! SUPPORT. One lemma for each field of State and each update: what the update leaves of it. -/

namespace Sys2Proof.Machine

section
variable (s : State) (f : Fld) (v : Nat)
@[simp] theorem wr_regsB : (s.wr f v).regsB = s.regsB := rfl
@[simp] theorem wr_regsC : (s.wr f v).regsC = s.regsC := rfl
@[simp] theorem wr_regsW : (s.wr f v).regsW = s.regsW := rfl
@[simp] theorem wr_fabric : (s.wr f v).fabric = s.fabric := rfl
@[simp] theorem wr_boot : (s.wr f v).boot = s.boot := rfl
@[simp] theorem wr_warp : (s.wr f v).warp = s.warp := rfl
@[simp] theorem wr_watch : (s.wr f v).watch = s.watch := rfl
@[simp] theorem wr_time : (s.wr f v).time = s.time := rfl
@[simp] theorem wr_trunks : (s.wr f v).trunks = s.trunks := rfl
@[simp] theorem wr_twins : (s.wr f v).twins = s.twins := rfl
@[simp] theorem wr_drops : (s.wr f v).drops = s.drops := rfl
@[simp] theorem wr_passes : (s.wr f v).passes = s.passes := rfl
@[simp] theorem wr_credits : (s.wr f v).credits = s.credits := rfl
@[simp] theorem wr_mill : (s.wr f v).mill = s.mill := rfl
@[simp] theorem wr_hlanes : (s.wr f v).hlanes = s.hlanes := rfl
@[simp] theorem wr_reports : (s.wr f v).reports = s.reports := rfl
@[simp] theorem wr_cas : (s.wr f v).cas = s.cas := rfl
@[simp] theorem wr_macConf : (s.wr f v).macConf = s.macConf := rfl
@[simp] theorem wr_macReplay : (s.wr f v).macReplay = s.macReplay := rfl
@[simp] theorem wr_macPort : (s.wr f v).macPort = s.macPort := rfl
@[simp] theorem wr_macReqDrp : (s.wr f v).macReqDrp = s.macReqDrp := rfl
@[simp] theorem wr_clock : (s.wr f v).clock = s.clock := rfl
@[simp] theorem wr_valeTimes : (s.wr f v).valeTimes = s.valeTimes := rfl
@[simp] theorem wr_gran : (s.wr f v).gran = s.gran := rfl
@[simp] theorem wr_memScrub : (s.wr f v).memScrub = s.memScrub := rfl
@[simp] theorem wr_dsurv : (s.wr f v).dsurv = s.dsurv := rfl
@[simp] theorem wr_survTurn : (s.wr f v).survTurn = s.survTurn := rfl
@[simp] theorem wr_sensorHot : (s.wr f v).sensorHot = s.sensorHot := rfl
@[simp] theorem wr_caps : (s.wr f v).caps = s.caps := rfl
@[simp] theorem wr_items : (s.wr f v).items = s.items := rfl
@[simp] theorem wr_sec : (s.wr f v).sec = s.sec := rfl
@[simp] theorem wr_mgmt : (s.wr f v).mgmt = s.mgmt := rfl
@[simp] theorem wr_power : (s.wr f v).power = s.power := rfl
@[simp] theorem wr_archive : (s.wr f v).archive = s.archive := rfl
@[simp] theorem wr_evtRep : (s.wr f v).evtRep = s.evtRep := rfl
@[simp] theorem wr_rxBank : (s.wr f v).rxBank = s.rxBank := rfl
@[simp] theorem wr_age : (s.wr f v).age = s.age := rfl
@[simp] theorem wr_freeCtr : (s.wr f v).freeCtr = s.freeCtr := rfl
@[simp] theorem wr_todo : (s.wr f v).todo = s.todo := rfl
@[simp] theorem wr_irq : (s.wr f v).irq = s.irq := rfl
@[simp] theorem wr_msixOff : (s.wr f v).msixOff = s.msixOff := rfl
@[simp] theorem wr_msixMask : (s.wr f v).msixMask = s.msixMask := rfl
@[simp] theorem wr_msixPend : (s.wr f v).msixPend = s.msixPend := rfl
@[simp] theorem wr_out : (s.wr f v).out = s.out := rfl
@[simp] theorem wr_pending : (s.wr f v).pending = s.pending := rfl
end

section
variable (s : State) (n : Nat) (g : Trunk → Trunk)
@[simp] theorem modTrk_regs : (s.modTrk n g).regs = s.regs := rfl
@[simp] theorem modTrk_regsB : (s.modTrk n g).regsB = s.regsB := rfl
@[simp] theorem modTrk_regsC : (s.modTrk n g).regsC = s.regsC := rfl
@[simp] theorem modTrk_regsW : (s.modTrk n g).regsW = s.regsW := rfl
@[simp] theorem modTrk_fabric : (s.modTrk n g).fabric = s.fabric := rfl
@[simp] theorem modTrk_boot : (s.modTrk n g).boot = s.boot := rfl
@[simp] theorem modTrk_warp : (s.modTrk n g).warp = s.warp := rfl
@[simp] theorem modTrk_watch : (s.modTrk n g).watch = s.watch := rfl
@[simp] theorem modTrk_time : (s.modTrk n g).time = s.time := rfl
@[simp] theorem modTrk_twins : (s.modTrk n g).twins = s.twins := rfl
@[simp] theorem modTrk_drops : (s.modTrk n g).drops = s.drops := rfl
@[simp] theorem modTrk_passes : (s.modTrk n g).passes = s.passes := rfl
@[simp] theorem modTrk_credits : (s.modTrk n g).credits = s.credits := rfl
@[simp] theorem modTrk_mill : (s.modTrk n g).mill = s.mill := rfl
@[simp] theorem modTrk_hlanes : (s.modTrk n g).hlanes = s.hlanes := rfl
@[simp] theorem modTrk_reports : (s.modTrk n g).reports = s.reports := rfl
@[simp] theorem modTrk_cas : (s.modTrk n g).cas = s.cas := rfl
@[simp] theorem modTrk_macConf : (s.modTrk n g).macConf = s.macConf := rfl
@[simp] theorem modTrk_macReplay : (s.modTrk n g).macReplay = s.macReplay := rfl
@[simp] theorem modTrk_macPort : (s.modTrk n g).macPort = s.macPort := rfl
@[simp] theorem modTrk_macReqDrp : (s.modTrk n g).macReqDrp = s.macReqDrp := rfl
@[simp] theorem modTrk_clock : (s.modTrk n g).clock = s.clock := rfl
@[simp] theorem modTrk_valeTimes : (s.modTrk n g).valeTimes = s.valeTimes := rfl
@[simp] theorem modTrk_gran : (s.modTrk n g).gran = s.gran := rfl
@[simp] theorem modTrk_memScrub : (s.modTrk n g).memScrub = s.memScrub := rfl
@[simp] theorem modTrk_dsurv : (s.modTrk n g).dsurv = s.dsurv := rfl
@[simp] theorem modTrk_survTurn : (s.modTrk n g).survTurn = s.survTurn := rfl
@[simp] theorem modTrk_sensorHot : (s.modTrk n g).sensorHot = s.sensorHot := rfl
@[simp] theorem modTrk_caps : (s.modTrk n g).caps = s.caps := rfl
@[simp] theorem modTrk_items : (s.modTrk n g).items = s.items := rfl
@[simp] theorem modTrk_sec : (s.modTrk n g).sec = s.sec := rfl
@[simp] theorem modTrk_mgmt : (s.modTrk n g).mgmt = s.mgmt := rfl
@[simp] theorem modTrk_power : (s.modTrk n g).power = s.power := rfl
@[simp] theorem modTrk_archive : (s.modTrk n g).archive = s.archive := rfl
@[simp] theorem modTrk_evtRep : (s.modTrk n g).evtRep = s.evtRep := rfl
@[simp] theorem modTrk_rxBank : (s.modTrk n g).rxBank = s.rxBank := rfl
@[simp] theorem modTrk_age : (s.modTrk n g).age = s.age := rfl
@[simp] theorem modTrk_freeCtr : (s.modTrk n g).freeCtr = s.freeCtr := rfl
@[simp] theorem modTrk_todo : (s.modTrk n g).todo = s.todo := rfl
@[simp] theorem modTrk_irq : (s.modTrk n g).irq = s.irq := rfl
@[simp] theorem modTrk_msixOff : (s.modTrk n g).msixOff = s.msixOff := rfl
@[simp] theorem modTrk_msixMask : (s.modTrk n g).msixMask = s.msixMask := rfl
@[simp] theorem modTrk_msixPend : (s.modTrk n g).msixPend = s.msixPend := rfl
@[simp] theorem modTrk_out : (s.modTrk n g).out = s.out := rfl
@[simp] theorem modTrk_pending : (s.modTrk n g).pending = s.pending := rfl
@[simp] theorem modTrk_rd (h : Fld) : (s.modTrk n g).rd h = s.rd h := rfl
end

section
variable (s : State) (n : Nat) (g : Twin → Twin)
@[simp] theorem modTwin_regs : (s.modTwin n g).regs = s.regs := rfl
@[simp] theorem modTwin_regsB : (s.modTwin n g).regsB = s.regsB := rfl
@[simp] theorem modTwin_regsC : (s.modTwin n g).regsC = s.regsC := rfl
@[simp] theorem modTwin_regsW : (s.modTwin n g).regsW = s.regsW := rfl
@[simp] theorem modTwin_fabric : (s.modTwin n g).fabric = s.fabric := rfl
@[simp] theorem modTwin_boot : (s.modTwin n g).boot = s.boot := rfl
@[simp] theorem modTwin_warp : (s.modTwin n g).warp = s.warp := rfl
@[simp] theorem modTwin_watch : (s.modTwin n g).watch = s.watch := rfl
@[simp] theorem modTwin_time : (s.modTwin n g).time = s.time := rfl
@[simp] theorem modTwin_trunks : (s.modTwin n g).trunks = s.trunks := rfl
@[simp] theorem modTwin_drops : (s.modTwin n g).drops = s.drops := rfl
@[simp] theorem modTwin_passes : (s.modTwin n g).passes = s.passes := rfl
@[simp] theorem modTwin_credits : (s.modTwin n g).credits = s.credits := rfl
@[simp] theorem modTwin_mill : (s.modTwin n g).mill = s.mill := rfl
@[simp] theorem modTwin_hlanes : (s.modTwin n g).hlanes = s.hlanes := rfl
@[simp] theorem modTwin_reports : (s.modTwin n g).reports = s.reports := rfl
@[simp] theorem modTwin_cas : (s.modTwin n g).cas = s.cas := rfl
@[simp] theorem modTwin_macConf : (s.modTwin n g).macConf = s.macConf := rfl
@[simp] theorem modTwin_macReplay : (s.modTwin n g).macReplay = s.macReplay := rfl
@[simp] theorem modTwin_macPort : (s.modTwin n g).macPort = s.macPort := rfl
@[simp] theorem modTwin_macReqDrp : (s.modTwin n g).macReqDrp = s.macReqDrp := rfl
@[simp] theorem modTwin_clock : (s.modTwin n g).clock = s.clock := rfl
@[simp] theorem modTwin_valeTimes : (s.modTwin n g).valeTimes = s.valeTimes := rfl
@[simp] theorem modTwin_gran : (s.modTwin n g).gran = s.gran := rfl
@[simp] theorem modTwin_memScrub : (s.modTwin n g).memScrub = s.memScrub := rfl
@[simp] theorem modTwin_dsurv : (s.modTwin n g).dsurv = s.dsurv := rfl
@[simp] theorem modTwin_survTurn : (s.modTwin n g).survTurn = s.survTurn := rfl
@[simp] theorem modTwin_sensorHot : (s.modTwin n g).sensorHot = s.sensorHot := rfl
@[simp] theorem modTwin_caps : (s.modTwin n g).caps = s.caps := rfl
@[simp] theorem modTwin_items : (s.modTwin n g).items = s.items := rfl
@[simp] theorem modTwin_sec : (s.modTwin n g).sec = s.sec := rfl
@[simp] theorem modTwin_mgmt : (s.modTwin n g).mgmt = s.mgmt := rfl
@[simp] theorem modTwin_power : (s.modTwin n g).power = s.power := rfl
@[simp] theorem modTwin_archive : (s.modTwin n g).archive = s.archive := rfl
@[simp] theorem modTwin_evtRep : (s.modTwin n g).evtRep = s.evtRep := rfl
@[simp] theorem modTwin_rxBank : (s.modTwin n g).rxBank = s.rxBank := rfl
@[simp] theorem modTwin_age : (s.modTwin n g).age = s.age := rfl
@[simp] theorem modTwin_freeCtr : (s.modTwin n g).freeCtr = s.freeCtr := rfl
@[simp] theorem modTwin_todo : (s.modTwin n g).todo = s.todo := rfl
@[simp] theorem modTwin_irq : (s.modTwin n g).irq = s.irq := rfl
@[simp] theorem modTwin_msixOff : (s.modTwin n g).msixOff = s.msixOff := rfl
@[simp] theorem modTwin_msixMask : (s.modTwin n g).msixMask = s.msixMask := rfl
@[simp] theorem modTwin_msixPend : (s.modTwin n g).msixPend = s.msixPend := rfl
@[simp] theorem modTwin_out : (s.modTwin n g).out = s.out := rfl
@[simp] theorem modTwin_pending : (s.modTwin n g).pending = s.pending := rfl
@[simp] theorem modTwin_rd (h : Fld) : (s.modTwin n g).rd h = s.rd h := rfl
end

section
variable (s : State) (n : Nat) (g : Drop → Drop)
@[simp] theorem modDrp_regs : (s.modDrp n g).regs = s.regs := rfl
@[simp] theorem modDrp_regsB : (s.modDrp n g).regsB = s.regsB := rfl
@[simp] theorem modDrp_regsC : (s.modDrp n g).regsC = s.regsC := rfl
@[simp] theorem modDrp_regsW : (s.modDrp n g).regsW = s.regsW := rfl
@[simp] theorem modDrp_fabric : (s.modDrp n g).fabric = s.fabric := rfl
@[simp] theorem modDrp_boot : (s.modDrp n g).boot = s.boot := rfl
@[simp] theorem modDrp_warp : (s.modDrp n g).warp = s.warp := rfl
@[simp] theorem modDrp_watch : (s.modDrp n g).watch = s.watch := rfl
@[simp] theorem modDrp_time : (s.modDrp n g).time = s.time := rfl
@[simp] theorem modDrp_trunks : (s.modDrp n g).trunks = s.trunks := rfl
@[simp] theorem modDrp_twins : (s.modDrp n g).twins = s.twins := rfl
@[simp] theorem modDrp_passes : (s.modDrp n g).passes = s.passes := rfl
@[simp] theorem modDrp_credits : (s.modDrp n g).credits = s.credits := rfl
@[simp] theorem modDrp_mill : (s.modDrp n g).mill = s.mill := rfl
@[simp] theorem modDrp_hlanes : (s.modDrp n g).hlanes = s.hlanes := rfl
@[simp] theorem modDrp_reports : (s.modDrp n g).reports = s.reports := rfl
@[simp] theorem modDrp_cas : (s.modDrp n g).cas = s.cas := rfl
@[simp] theorem modDrp_macConf : (s.modDrp n g).macConf = s.macConf := rfl
@[simp] theorem modDrp_macReplay : (s.modDrp n g).macReplay = s.macReplay := rfl
@[simp] theorem modDrp_macPort : (s.modDrp n g).macPort = s.macPort := rfl
@[simp] theorem modDrp_macReqDrp : (s.modDrp n g).macReqDrp = s.macReqDrp := rfl
@[simp] theorem modDrp_clock : (s.modDrp n g).clock = s.clock := rfl
@[simp] theorem modDrp_valeTimes : (s.modDrp n g).valeTimes = s.valeTimes := rfl
@[simp] theorem modDrp_gran : (s.modDrp n g).gran = s.gran := rfl
@[simp] theorem modDrp_memScrub : (s.modDrp n g).memScrub = s.memScrub := rfl
@[simp] theorem modDrp_dsurv : (s.modDrp n g).dsurv = s.dsurv := rfl
@[simp] theorem modDrp_survTurn : (s.modDrp n g).survTurn = s.survTurn := rfl
@[simp] theorem modDrp_sensorHot : (s.modDrp n g).sensorHot = s.sensorHot := rfl
@[simp] theorem modDrp_caps : (s.modDrp n g).caps = s.caps := rfl
@[simp] theorem modDrp_items : (s.modDrp n g).items = s.items := rfl
@[simp] theorem modDrp_sec : (s.modDrp n g).sec = s.sec := rfl
@[simp] theorem modDrp_mgmt : (s.modDrp n g).mgmt = s.mgmt := rfl
@[simp] theorem modDrp_power : (s.modDrp n g).power = s.power := rfl
@[simp] theorem modDrp_archive : (s.modDrp n g).archive = s.archive := rfl
@[simp] theorem modDrp_evtRep : (s.modDrp n g).evtRep = s.evtRep := rfl
@[simp] theorem modDrp_rxBank : (s.modDrp n g).rxBank = s.rxBank := rfl
@[simp] theorem modDrp_age : (s.modDrp n g).age = s.age := rfl
@[simp] theorem modDrp_freeCtr : (s.modDrp n g).freeCtr = s.freeCtr := rfl
@[simp] theorem modDrp_todo : (s.modDrp n g).todo = s.todo := rfl
@[simp] theorem modDrp_irq : (s.modDrp n g).irq = s.irq := rfl
@[simp] theorem modDrp_msixOff : (s.modDrp n g).msixOff = s.msixOff := rfl
@[simp] theorem modDrp_msixMask : (s.modDrp n g).msixMask = s.msixMask := rfl
@[simp] theorem modDrp_msixPend : (s.modDrp n g).msixPend = s.msixPend := rfl
@[simp] theorem modDrp_out : (s.modDrp n g).out = s.out := rfl
@[simp] theorem modDrp_pending : (s.modDrp n g).pending = s.pending := rfl
@[simp] theorem modDrp_rd (h : Fld) : (s.modDrp n g).rd h = s.rd h := rfl
end

section
variable (s : State) (n : Nat) (g : Pass → Pass)
@[simp] theorem modPass_regs : (s.modPass n g).regs = s.regs := rfl
@[simp] theorem modPass_regsB : (s.modPass n g).regsB = s.regsB := rfl
@[simp] theorem modPass_regsC : (s.modPass n g).regsC = s.regsC := rfl
@[simp] theorem modPass_regsW : (s.modPass n g).regsW = s.regsW := rfl
@[simp] theorem modPass_fabric : (s.modPass n g).fabric = s.fabric := rfl
@[simp] theorem modPass_boot : (s.modPass n g).boot = s.boot := rfl
@[simp] theorem modPass_warp : (s.modPass n g).warp = s.warp := rfl
@[simp] theorem modPass_watch : (s.modPass n g).watch = s.watch := rfl
@[simp] theorem modPass_time : (s.modPass n g).time = s.time := rfl
@[simp] theorem modPass_trunks : (s.modPass n g).trunks = s.trunks := rfl
@[simp] theorem modPass_twins : (s.modPass n g).twins = s.twins := rfl
@[simp] theorem modPass_drops : (s.modPass n g).drops = s.drops := rfl
@[simp] theorem modPass_credits : (s.modPass n g).credits = s.credits := rfl
@[simp] theorem modPass_mill : (s.modPass n g).mill = s.mill := rfl
@[simp] theorem modPass_hlanes : (s.modPass n g).hlanes = s.hlanes := rfl
@[simp] theorem modPass_reports : (s.modPass n g).reports = s.reports := rfl
@[simp] theorem modPass_cas : (s.modPass n g).cas = s.cas := rfl
@[simp] theorem modPass_macConf : (s.modPass n g).macConf = s.macConf := rfl
@[simp] theorem modPass_macReplay : (s.modPass n g).macReplay = s.macReplay := rfl
@[simp] theorem modPass_macPort : (s.modPass n g).macPort = s.macPort := rfl
@[simp] theorem modPass_macReqDrp : (s.modPass n g).macReqDrp = s.macReqDrp := rfl
@[simp] theorem modPass_clock : (s.modPass n g).clock = s.clock := rfl
@[simp] theorem modPass_valeTimes : (s.modPass n g).valeTimes = s.valeTimes := rfl
@[simp] theorem modPass_gran : (s.modPass n g).gran = s.gran := rfl
@[simp] theorem modPass_memScrub : (s.modPass n g).memScrub = s.memScrub := rfl
@[simp] theorem modPass_dsurv : (s.modPass n g).dsurv = s.dsurv := rfl
@[simp] theorem modPass_survTurn : (s.modPass n g).survTurn = s.survTurn := rfl
@[simp] theorem modPass_sensorHot : (s.modPass n g).sensorHot = s.sensorHot := rfl
@[simp] theorem modPass_caps : (s.modPass n g).caps = s.caps := rfl
@[simp] theorem modPass_items : (s.modPass n g).items = s.items := rfl
@[simp] theorem modPass_sec : (s.modPass n g).sec = s.sec := rfl
@[simp] theorem modPass_mgmt : (s.modPass n g).mgmt = s.mgmt := rfl
@[simp] theorem modPass_power : (s.modPass n g).power = s.power := rfl
@[simp] theorem modPass_archive : (s.modPass n g).archive = s.archive := rfl
@[simp] theorem modPass_evtRep : (s.modPass n g).evtRep = s.evtRep := rfl
@[simp] theorem modPass_rxBank : (s.modPass n g).rxBank = s.rxBank := rfl
@[simp] theorem modPass_age : (s.modPass n g).age = s.age := rfl
@[simp] theorem modPass_freeCtr : (s.modPass n g).freeCtr = s.freeCtr := rfl
@[simp] theorem modPass_todo : (s.modPass n g).todo = s.todo := rfl
@[simp] theorem modPass_irq : (s.modPass n g).irq = s.irq := rfl
@[simp] theorem modPass_msixOff : (s.modPass n g).msixOff = s.msixOff := rfl
@[simp] theorem modPass_msixMask : (s.modPass n g).msixMask = s.msixMask := rfl
@[simp] theorem modPass_msixPend : (s.modPass n g).msixPend = s.msixPend := rfl
@[simp] theorem modPass_out : (s.modPass n g).out = s.out := rfl
@[simp] theorem modPass_pending : (s.modPass n g).pending = s.pending := rfl
@[simp] theorem modPass_rd (h : Fld) : (s.modPass n g).rd h = s.rd h := rfl
end

section
variable (s : State) (n : Nat) (g : Credit → Credit)
@[simp] theorem modCred_regs : (s.modCred n g).regs = s.regs := rfl
@[simp] theorem modCred_regsB : (s.modCred n g).regsB = s.regsB := rfl
@[simp] theorem modCred_regsC : (s.modCred n g).regsC = s.regsC := rfl
@[simp] theorem modCred_regsW : (s.modCred n g).regsW = s.regsW := rfl
@[simp] theorem modCred_fabric : (s.modCred n g).fabric = s.fabric := rfl
@[simp] theorem modCred_boot : (s.modCred n g).boot = s.boot := rfl
@[simp] theorem modCred_warp : (s.modCred n g).warp = s.warp := rfl
@[simp] theorem modCred_watch : (s.modCred n g).watch = s.watch := rfl
@[simp] theorem modCred_time : (s.modCred n g).time = s.time := rfl
@[simp] theorem modCred_trunks : (s.modCred n g).trunks = s.trunks := rfl
@[simp] theorem modCred_twins : (s.modCred n g).twins = s.twins := rfl
@[simp] theorem modCred_drops : (s.modCred n g).drops = s.drops := rfl
@[simp] theorem modCred_passes : (s.modCred n g).passes = s.passes := rfl
@[simp] theorem modCred_mill : (s.modCred n g).mill = s.mill := rfl
@[simp] theorem modCred_hlanes : (s.modCred n g).hlanes = s.hlanes := rfl
@[simp] theorem modCred_reports : (s.modCred n g).reports = s.reports := rfl
@[simp] theorem modCred_cas : (s.modCred n g).cas = s.cas := rfl
@[simp] theorem modCred_macConf : (s.modCred n g).macConf = s.macConf := rfl
@[simp] theorem modCred_macReplay : (s.modCred n g).macReplay = s.macReplay := rfl
@[simp] theorem modCred_macPort : (s.modCred n g).macPort = s.macPort := rfl
@[simp] theorem modCred_macReqDrp : (s.modCred n g).macReqDrp = s.macReqDrp := rfl
@[simp] theorem modCred_clock : (s.modCred n g).clock = s.clock := rfl
@[simp] theorem modCred_valeTimes : (s.modCred n g).valeTimes = s.valeTimes := rfl
@[simp] theorem modCred_gran : (s.modCred n g).gran = s.gran := rfl
@[simp] theorem modCred_memScrub : (s.modCred n g).memScrub = s.memScrub := rfl
@[simp] theorem modCred_dsurv : (s.modCred n g).dsurv = s.dsurv := rfl
@[simp] theorem modCred_survTurn : (s.modCred n g).survTurn = s.survTurn := rfl
@[simp] theorem modCred_sensorHot : (s.modCred n g).sensorHot = s.sensorHot := rfl
@[simp] theorem modCred_caps : (s.modCred n g).caps = s.caps := rfl
@[simp] theorem modCred_items : (s.modCred n g).items = s.items := rfl
@[simp] theorem modCred_sec : (s.modCred n g).sec = s.sec := rfl
@[simp] theorem modCred_mgmt : (s.modCred n g).mgmt = s.mgmt := rfl
@[simp] theorem modCred_power : (s.modCred n g).power = s.power := rfl
@[simp] theorem modCred_archive : (s.modCred n g).archive = s.archive := rfl
@[simp] theorem modCred_evtRep : (s.modCred n g).evtRep = s.evtRep := rfl
@[simp] theorem modCred_rxBank : (s.modCred n g).rxBank = s.rxBank := rfl
@[simp] theorem modCred_age : (s.modCred n g).age = s.age := rfl
@[simp] theorem modCred_freeCtr : (s.modCred n g).freeCtr = s.freeCtr := rfl
@[simp] theorem modCred_todo : (s.modCred n g).todo = s.todo := rfl
@[simp] theorem modCred_irq : (s.modCred n g).irq = s.irq := rfl
@[simp] theorem modCred_msixOff : (s.modCred n g).msixOff = s.msixOff := rfl
@[simp] theorem modCred_msixMask : (s.modCred n g).msixMask = s.msixMask := rfl
@[simp] theorem modCred_msixPend : (s.modCred n g).msixPend = s.msixPend := rfl
@[simp] theorem modCred_out : (s.modCred n g).out = s.out := rfl
@[simp] theorem modCred_pending : (s.modCred n g).pending = s.pending := rfl
@[simp] theorem modCred_rd (h : Fld) : (s.modCred n g).rd h = s.rd h := rfl
end

section
variable (s : State) (n : Nat) (g : MQueue → MQueue)
@[simp] theorem modQue_regs : (s.modQue n g).regs = s.regs := rfl
@[simp] theorem modQue_regsB : (s.modQue n g).regsB = s.regsB := rfl
@[simp] theorem modQue_regsC : (s.modQue n g).regsC = s.regsC := rfl
@[simp] theorem modQue_regsW : (s.modQue n g).regsW = s.regsW := rfl
@[simp] theorem modQue_fabric : (s.modQue n g).fabric = s.fabric := rfl
@[simp] theorem modQue_boot : (s.modQue n g).boot = s.boot := rfl
@[simp] theorem modQue_warp : (s.modQue n g).warp = s.warp := rfl
@[simp] theorem modQue_watch : (s.modQue n g).watch = s.watch := rfl
@[simp] theorem modQue_time : (s.modQue n g).time = s.time := rfl
@[simp] theorem modQue_trunks : (s.modQue n g).trunks = s.trunks := rfl
@[simp] theorem modQue_twins : (s.modQue n g).twins = s.twins := rfl
@[simp] theorem modQue_drops : (s.modQue n g).drops = s.drops := rfl
@[simp] theorem modQue_passes : (s.modQue n g).passes = s.passes := rfl
@[simp] theorem modQue_credits : (s.modQue n g).credits = s.credits := rfl
@[simp] theorem modQue_hlanes : (s.modQue n g).hlanes = s.hlanes := rfl
@[simp] theorem modQue_reports : (s.modQue n g).reports = s.reports := rfl
@[simp] theorem modQue_cas : (s.modQue n g).cas = s.cas := rfl
@[simp] theorem modQue_macConf : (s.modQue n g).macConf = s.macConf := rfl
@[simp] theorem modQue_macReplay : (s.modQue n g).macReplay = s.macReplay := rfl
@[simp] theorem modQue_macPort : (s.modQue n g).macPort = s.macPort := rfl
@[simp] theorem modQue_macReqDrp : (s.modQue n g).macReqDrp = s.macReqDrp := rfl
@[simp] theorem modQue_clock : (s.modQue n g).clock = s.clock := rfl
@[simp] theorem modQue_valeTimes : (s.modQue n g).valeTimes = s.valeTimes := rfl
@[simp] theorem modQue_gran : (s.modQue n g).gran = s.gran := rfl
@[simp] theorem modQue_memScrub : (s.modQue n g).memScrub = s.memScrub := rfl
@[simp] theorem modQue_dsurv : (s.modQue n g).dsurv = s.dsurv := rfl
@[simp] theorem modQue_survTurn : (s.modQue n g).survTurn = s.survTurn := rfl
@[simp] theorem modQue_sensorHot : (s.modQue n g).sensorHot = s.sensorHot := rfl
@[simp] theorem modQue_caps : (s.modQue n g).caps = s.caps := rfl
@[simp] theorem modQue_items : (s.modQue n g).items = s.items := rfl
@[simp] theorem modQue_sec : (s.modQue n g).sec = s.sec := rfl
@[simp] theorem modQue_mgmt : (s.modQue n g).mgmt = s.mgmt := rfl
@[simp] theorem modQue_power : (s.modQue n g).power = s.power := rfl
@[simp] theorem modQue_archive : (s.modQue n g).archive = s.archive := rfl
@[simp] theorem modQue_evtRep : (s.modQue n g).evtRep = s.evtRep := rfl
@[simp] theorem modQue_rxBank : (s.modQue n g).rxBank = s.rxBank := rfl
@[simp] theorem modQue_age : (s.modQue n g).age = s.age := rfl
@[simp] theorem modQue_freeCtr : (s.modQue n g).freeCtr = s.freeCtr := rfl
@[simp] theorem modQue_todo : (s.modQue n g).todo = s.todo := rfl
@[simp] theorem modQue_irq : (s.modQue n g).irq = s.irq := rfl
@[simp] theorem modQue_msixOff : (s.modQue n g).msixOff = s.msixOff := rfl
@[simp] theorem modQue_msixMask : (s.modQue n g).msixMask = s.msixMask := rfl
@[simp] theorem modQue_msixPend : (s.modQue n g).msixPend = s.msixPend := rfl
@[simp] theorem modQue_out : (s.modQue n g).out = s.out := rfl
@[simp] theorem modQue_pending : (s.modQue n g).pending = s.pending := rfl
@[simp] theorem modQue_rd (h : Fld) : (s.modQue n g).rd h = s.rd h := rfl
end

section
variable (s : State) (n : Nat) (g : HLane → HLane)
@[simp] theorem modHln_regs : (s.modHln n g).regs = s.regs := rfl
@[simp] theorem modHln_regsB : (s.modHln n g).regsB = s.regsB := rfl
@[simp] theorem modHln_regsC : (s.modHln n g).regsC = s.regsC := rfl
@[simp] theorem modHln_regsW : (s.modHln n g).regsW = s.regsW := rfl
@[simp] theorem modHln_fabric : (s.modHln n g).fabric = s.fabric := rfl
@[simp] theorem modHln_boot : (s.modHln n g).boot = s.boot := rfl
@[simp] theorem modHln_warp : (s.modHln n g).warp = s.warp := rfl
@[simp] theorem modHln_watch : (s.modHln n g).watch = s.watch := rfl
@[simp] theorem modHln_time : (s.modHln n g).time = s.time := rfl
@[simp] theorem modHln_trunks : (s.modHln n g).trunks = s.trunks := rfl
@[simp] theorem modHln_twins : (s.modHln n g).twins = s.twins := rfl
@[simp] theorem modHln_drops : (s.modHln n g).drops = s.drops := rfl
@[simp] theorem modHln_passes : (s.modHln n g).passes = s.passes := rfl
@[simp] theorem modHln_credits : (s.modHln n g).credits = s.credits := rfl
@[simp] theorem modHln_mill : (s.modHln n g).mill = s.mill := rfl
@[simp] theorem modHln_reports : (s.modHln n g).reports = s.reports := rfl
@[simp] theorem modHln_cas : (s.modHln n g).cas = s.cas := rfl
@[simp] theorem modHln_macConf : (s.modHln n g).macConf = s.macConf := rfl
@[simp] theorem modHln_macReplay : (s.modHln n g).macReplay = s.macReplay := rfl
@[simp] theorem modHln_macPort : (s.modHln n g).macPort = s.macPort := rfl
@[simp] theorem modHln_macReqDrp : (s.modHln n g).macReqDrp = s.macReqDrp := rfl
@[simp] theorem modHln_clock : (s.modHln n g).clock = s.clock := rfl
@[simp] theorem modHln_valeTimes : (s.modHln n g).valeTimes = s.valeTimes := rfl
@[simp] theorem modHln_gran : (s.modHln n g).gran = s.gran := rfl
@[simp] theorem modHln_memScrub : (s.modHln n g).memScrub = s.memScrub := rfl
@[simp] theorem modHln_dsurv : (s.modHln n g).dsurv = s.dsurv := rfl
@[simp] theorem modHln_survTurn : (s.modHln n g).survTurn = s.survTurn := rfl
@[simp] theorem modHln_sensorHot : (s.modHln n g).sensorHot = s.sensorHot := rfl
@[simp] theorem modHln_caps : (s.modHln n g).caps = s.caps := rfl
@[simp] theorem modHln_items : (s.modHln n g).items = s.items := rfl
@[simp] theorem modHln_sec : (s.modHln n g).sec = s.sec := rfl
@[simp] theorem modHln_mgmt : (s.modHln n g).mgmt = s.mgmt := rfl
@[simp] theorem modHln_power : (s.modHln n g).power = s.power := rfl
@[simp] theorem modHln_archive : (s.modHln n g).archive = s.archive := rfl
@[simp] theorem modHln_evtRep : (s.modHln n g).evtRep = s.evtRep := rfl
@[simp] theorem modHln_rxBank : (s.modHln n g).rxBank = s.rxBank := rfl
@[simp] theorem modHln_age : (s.modHln n g).age = s.age := rfl
@[simp] theorem modHln_freeCtr : (s.modHln n g).freeCtr = s.freeCtr := rfl
@[simp] theorem modHln_todo : (s.modHln n g).todo = s.todo := rfl
@[simp] theorem modHln_irq : (s.modHln n g).irq = s.irq := rfl
@[simp] theorem modHln_msixOff : (s.modHln n g).msixOff = s.msixOff := rfl
@[simp] theorem modHln_msixMask : (s.modHln n g).msixMask = s.msixMask := rfl
@[simp] theorem modHln_msixPend : (s.modHln n g).msixPend = s.msixPend := rfl
@[simp] theorem modHln_out : (s.modHln n g).out = s.out := rfl
@[simp] theorem modHln_pending : (s.modHln n g).pending = s.pending := rfl
@[simp] theorem modHln_rd (h : Fld) : (s.modHln n g).rd h = s.rd h := rfl
end

section
variable (s : State) (n : Nat) (g : Ca → Ca)
@[simp] theorem modCa_regs : (s.modCa n g).regs = s.regs := rfl
@[simp] theorem modCa_regsB : (s.modCa n g).regsB = s.regsB := rfl
@[simp] theorem modCa_regsC : (s.modCa n g).regsC = s.regsC := rfl
@[simp] theorem modCa_regsW : (s.modCa n g).regsW = s.regsW := rfl
@[simp] theorem modCa_fabric : (s.modCa n g).fabric = s.fabric := rfl
@[simp] theorem modCa_boot : (s.modCa n g).boot = s.boot := rfl
@[simp] theorem modCa_warp : (s.modCa n g).warp = s.warp := rfl
@[simp] theorem modCa_watch : (s.modCa n g).watch = s.watch := rfl
@[simp] theorem modCa_time : (s.modCa n g).time = s.time := rfl
@[simp] theorem modCa_trunks : (s.modCa n g).trunks = s.trunks := rfl
@[simp] theorem modCa_twins : (s.modCa n g).twins = s.twins := rfl
@[simp] theorem modCa_drops : (s.modCa n g).drops = s.drops := rfl
@[simp] theorem modCa_passes : (s.modCa n g).passes = s.passes := rfl
@[simp] theorem modCa_credits : (s.modCa n g).credits = s.credits := rfl
@[simp] theorem modCa_mill : (s.modCa n g).mill = s.mill := rfl
@[simp] theorem modCa_hlanes : (s.modCa n g).hlanes = s.hlanes := rfl
@[simp] theorem modCa_reports : (s.modCa n g).reports = s.reports := rfl
@[simp] theorem modCa_macConf : (s.modCa n g).macConf = s.macConf := rfl
@[simp] theorem modCa_macReplay : (s.modCa n g).macReplay = s.macReplay := rfl
@[simp] theorem modCa_macPort : (s.modCa n g).macPort = s.macPort := rfl
@[simp] theorem modCa_macReqDrp : (s.modCa n g).macReqDrp = s.macReqDrp := rfl
@[simp] theorem modCa_clock : (s.modCa n g).clock = s.clock := rfl
@[simp] theorem modCa_valeTimes : (s.modCa n g).valeTimes = s.valeTimes := rfl
@[simp] theorem modCa_gran : (s.modCa n g).gran = s.gran := rfl
@[simp] theorem modCa_memScrub : (s.modCa n g).memScrub = s.memScrub := rfl
@[simp] theorem modCa_dsurv : (s.modCa n g).dsurv = s.dsurv := rfl
@[simp] theorem modCa_survTurn : (s.modCa n g).survTurn = s.survTurn := rfl
@[simp] theorem modCa_sensorHot : (s.modCa n g).sensorHot = s.sensorHot := rfl
@[simp] theorem modCa_caps : (s.modCa n g).caps = s.caps := rfl
@[simp] theorem modCa_items : (s.modCa n g).items = s.items := rfl
@[simp] theorem modCa_sec : (s.modCa n g).sec = s.sec := rfl
@[simp] theorem modCa_mgmt : (s.modCa n g).mgmt = s.mgmt := rfl
@[simp] theorem modCa_power : (s.modCa n g).power = s.power := rfl
@[simp] theorem modCa_archive : (s.modCa n g).archive = s.archive := rfl
@[simp] theorem modCa_evtRep : (s.modCa n g).evtRep = s.evtRep := rfl
@[simp] theorem modCa_rxBank : (s.modCa n g).rxBank = s.rxBank := rfl
@[simp] theorem modCa_age : (s.modCa n g).age = s.age := rfl
@[simp] theorem modCa_freeCtr : (s.modCa n g).freeCtr = s.freeCtr := rfl
@[simp] theorem modCa_todo : (s.modCa n g).todo = s.todo := rfl
@[simp] theorem modCa_irq : (s.modCa n g).irq = s.irq := rfl
@[simp] theorem modCa_msixOff : (s.modCa n g).msixOff = s.msixOff := rfl
@[simp] theorem modCa_msixMask : (s.modCa n g).msixMask = s.msixMask := rfl
@[simp] theorem modCa_msixPend : (s.modCa n g).msixPend = s.msixPend := rfl
@[simp] theorem modCa_out : (s.modCa n g).out = s.out := rfl
@[simp] theorem modCa_pending : (s.modCa n g).pending = s.pending := rfl
@[simp] theorem modCa_rd (h : Fld) : (s.modCa n g).rd h = s.rd h := rfl
end

section
variable (s : State) (x : Out)
@[simp] theorem send_regs : (s.send x).regs = s.regs := rfl
@[simp] theorem send_regsB : (s.send x).regsB = s.regsB := rfl
@[simp] theorem send_regsC : (s.send x).regsC = s.regsC := rfl
@[simp] theorem send_regsW : (s.send x).regsW = s.regsW := rfl
@[simp] theorem send_fabric : (s.send x).fabric = s.fabric := rfl
@[simp] theorem send_boot : (s.send x).boot = s.boot := rfl
@[simp] theorem send_warp : (s.send x).warp = s.warp := rfl
@[simp] theorem send_watch : (s.send x).watch = s.watch := rfl
@[simp] theorem send_time : (s.send x).time = s.time := rfl
@[simp] theorem send_trunks : (s.send x).trunks = s.trunks := rfl
@[simp] theorem send_twins : (s.send x).twins = s.twins := rfl
@[simp] theorem send_drops : (s.send x).drops = s.drops := rfl
@[simp] theorem send_passes : (s.send x).passes = s.passes := rfl
@[simp] theorem send_credits : (s.send x).credits = s.credits := rfl
@[simp] theorem send_mill : (s.send x).mill = s.mill := rfl
@[simp] theorem send_hlanes : (s.send x).hlanes = s.hlanes := rfl
@[simp] theorem send_reports : (s.send x).reports = s.reports := rfl
@[simp] theorem send_cas : (s.send x).cas = s.cas := rfl
@[simp] theorem send_macConf : (s.send x).macConf = s.macConf := rfl
@[simp] theorem send_macReplay : (s.send x).macReplay = s.macReplay := rfl
@[simp] theorem send_macPort : (s.send x).macPort = s.macPort := rfl
@[simp] theorem send_macReqDrp : (s.send x).macReqDrp = s.macReqDrp := rfl
@[simp] theorem send_clock : (s.send x).clock = s.clock := rfl
@[simp] theorem send_valeTimes : (s.send x).valeTimes = s.valeTimes := rfl
@[simp] theorem send_gran : (s.send x).gran = s.gran := rfl
@[simp] theorem send_memScrub : (s.send x).memScrub = s.memScrub := rfl
@[simp] theorem send_dsurv : (s.send x).dsurv = s.dsurv := rfl
@[simp] theorem send_survTurn : (s.send x).survTurn = s.survTurn := rfl
@[simp] theorem send_sensorHot : (s.send x).sensorHot = s.sensorHot := rfl
@[simp] theorem send_caps : (s.send x).caps = s.caps := rfl
@[simp] theorem send_items : (s.send x).items = s.items := rfl
@[simp] theorem send_sec : (s.send x).sec = s.sec := rfl
@[simp] theorem send_mgmt : (s.send x).mgmt = s.mgmt := rfl
@[simp] theorem send_power : (s.send x).power = s.power := rfl
@[simp] theorem send_archive : (s.send x).archive = s.archive := rfl
@[simp] theorem send_evtRep : (s.send x).evtRep = s.evtRep := rfl
@[simp] theorem send_rxBank : (s.send x).rxBank = s.rxBank := rfl
@[simp] theorem send_age : (s.send x).age = s.age := rfl
@[simp] theorem send_freeCtr : (s.send x).freeCtr = s.freeCtr := rfl
@[simp] theorem send_todo : (s.send x).todo = s.todo := rfl
@[simp] theorem send_irq : (s.send x).irq = s.irq := rfl
@[simp] theorem send_msixOff : (s.send x).msixOff = s.msixOff := rfl
@[simp] theorem send_msixMask : (s.send x).msixMask = s.msixMask := rfl
@[simp] theorem send_msixPend : (s.send x).msixPend = s.msixPend := rfl
@[simp] theorem send_pending : (s.send x).pending = s.pending := rfl
@[simp] theorem send_rd (h : Fld) : (s.send x).rd h = s.rd h := rfl
end

section
variable (s : State) (x : Todo)
@[simp] theorem owe_regs : (s.owe x).regs = s.regs := rfl
@[simp] theorem owe_regsB : (s.owe x).regsB = s.regsB := rfl
@[simp] theorem owe_regsC : (s.owe x).regsC = s.regsC := rfl
@[simp] theorem owe_regsW : (s.owe x).regsW = s.regsW := rfl
@[simp] theorem owe_fabric : (s.owe x).fabric = s.fabric := rfl
@[simp] theorem owe_boot : (s.owe x).boot = s.boot := rfl
@[simp] theorem owe_warp : (s.owe x).warp = s.warp := rfl
@[simp] theorem owe_watch : (s.owe x).watch = s.watch := rfl
@[simp] theorem owe_time : (s.owe x).time = s.time := rfl
@[simp] theorem owe_trunks : (s.owe x).trunks = s.trunks := rfl
@[simp] theorem owe_twins : (s.owe x).twins = s.twins := rfl
@[simp] theorem owe_drops : (s.owe x).drops = s.drops := rfl
@[simp] theorem owe_passes : (s.owe x).passes = s.passes := rfl
@[simp] theorem owe_credits : (s.owe x).credits = s.credits := rfl
@[simp] theorem owe_mill : (s.owe x).mill = s.mill := rfl
@[simp] theorem owe_hlanes : (s.owe x).hlanes = s.hlanes := rfl
@[simp] theorem owe_reports : (s.owe x).reports = s.reports := rfl
@[simp] theorem owe_cas : (s.owe x).cas = s.cas := rfl
@[simp] theorem owe_macConf : (s.owe x).macConf = s.macConf := rfl
@[simp] theorem owe_macReplay : (s.owe x).macReplay = s.macReplay := rfl
@[simp] theorem owe_macPort : (s.owe x).macPort = s.macPort := rfl
@[simp] theorem owe_macReqDrp : (s.owe x).macReqDrp = s.macReqDrp := rfl
@[simp] theorem owe_clock : (s.owe x).clock = s.clock := rfl
@[simp] theorem owe_valeTimes : (s.owe x).valeTimes = s.valeTimes := rfl
@[simp] theorem owe_gran : (s.owe x).gran = s.gran := rfl
@[simp] theorem owe_memScrub : (s.owe x).memScrub = s.memScrub := rfl
@[simp] theorem owe_dsurv : (s.owe x).dsurv = s.dsurv := rfl
@[simp] theorem owe_survTurn : (s.owe x).survTurn = s.survTurn := rfl
@[simp] theorem owe_sensorHot : (s.owe x).sensorHot = s.sensorHot := rfl
@[simp] theorem owe_caps : (s.owe x).caps = s.caps := rfl
@[simp] theorem owe_items : (s.owe x).items = s.items := rfl
@[simp] theorem owe_sec : (s.owe x).sec = s.sec := rfl
@[simp] theorem owe_mgmt : (s.owe x).mgmt = s.mgmt := rfl
@[simp] theorem owe_power : (s.owe x).power = s.power := rfl
@[simp] theorem owe_archive : (s.owe x).archive = s.archive := rfl
@[simp] theorem owe_evtRep : (s.owe x).evtRep = s.evtRep := rfl
@[simp] theorem owe_rxBank : (s.owe x).rxBank = s.rxBank := rfl
@[simp] theorem owe_age : (s.owe x).age = s.age := rfl
@[simp] theorem owe_freeCtr : (s.owe x).freeCtr = s.freeCtr := rfl
@[simp] theorem owe_irq : (s.owe x).irq = s.irq := rfl
@[simp] theorem owe_msixOff : (s.owe x).msixOff = s.msixOff := rfl
@[simp] theorem owe_msixMask : (s.owe x).msixMask = s.msixMask := rfl
@[simp] theorem owe_msixPend : (s.owe x).msixPend = s.msixPend := rfl
@[simp] theorem owe_out : (s.owe x).out = s.out := rfl
@[simp] theorem owe_pending : (s.owe x).pending = s.pending := rfl
@[simp] theorem owe_rd (h : Fld) : (s.owe x).rd h = s.rd h := rfl
end

@[simp] theorem wr_regs (s : State) (f : Fld) (v : Nat) : (s.wr f v).regs = putFld s.regs f v := rfl
@[simp] theorem send_out (s : State) (x : Out) : (s.send x).out = x :: s.out := rfl
@[simp] theorem owe_todo (s : State) (x : Todo) : (s.owe x).todo = s.todo ++ [x] := rfl

section
variable (s : State)
@[simp] theorem modTrk_trk_self (n : Nat) (g : Trunk → Trunk) : (s.modTrk n g).trk n = g (s.trk n) := by
  simp [State.modTrk, State.trk]
theorem modTrk_trk_ne {n k : Nat} (g : Trunk → Trunk) (h : n ≠ k) : (s.modTrk n g).trk k = s.trk k := by
  simp [State.modTrk, State.trk, tget_tset_ne _ _ _ h]
@[simp] theorem wr_trk (f : Fld) (v : Nat) (k : Nat) : (s.wr f v).trk k = s.trk k := rfl
@[simp] theorem modTwin_trk (n : Nat) (g : Twin → Twin) (k : Nat) : (s.modTwin n g).trk k = s.trk k := rfl
@[simp] theorem modDrp_trk (n : Nat) (g : Drop → Drop) (k : Nat) : (s.modDrp n g).trk k = s.trk k := rfl
@[simp] theorem modPass_trk (n : Nat) (g : Pass → Pass) (k : Nat) : (s.modPass n g).trk k = s.trk k := rfl
@[simp] theorem modCred_trk (n : Nat) (g : Credit → Credit) (k : Nat) : (s.modCred n g).trk k = s.trk k := rfl
@[simp] theorem modQue_trk (n : Nat) (g : MQueue → MQueue) (k : Nat) : (s.modQue n g).trk k = s.trk k := rfl
@[simp] theorem modHln_trk (n : Nat) (g : HLane → HLane) (k : Nat) : (s.modHln n g).trk k = s.trk k := rfl
@[simp] theorem modCa_trk (n : Nat) (g : Ca → Ca) (k : Nat) : (s.modCa n g).trk k = s.trk k := rfl
@[simp] theorem send_trk (x : Out) (k : Nat) : (s.send x).trk k = s.trk k := rfl
@[simp] theorem owe_trk (x : Todo) (k : Nat) : (s.owe x).trk k = s.trk k := rfl
end

section
variable (s : State)
@[simp] theorem modTwin_twin_self (n : Nat) (g : Twin → Twin) : (s.modTwin n g).twin n = g (s.twin n) := by
  simp [State.modTwin, State.twin]
theorem modTwin_twin_ne {n k : Nat} (g : Twin → Twin) (h : n ≠ k) : (s.modTwin n g).twin k = s.twin k := by
  simp [State.modTwin, State.twin, tget_tset_ne _ _ _ h]
@[simp] theorem wr_twin (f : Fld) (v : Nat) (k : Nat) : (s.wr f v).twin k = s.twin k := rfl
@[simp] theorem modTrk_twin (n : Nat) (g : Trunk → Trunk) (k : Nat) : (s.modTrk n g).twin k = s.twin k := rfl
@[simp] theorem modDrp_twin (n : Nat) (g : Drop → Drop) (k : Nat) : (s.modDrp n g).twin k = s.twin k := rfl
@[simp] theorem modPass_twin (n : Nat) (g : Pass → Pass) (k : Nat) : (s.modPass n g).twin k = s.twin k := rfl
@[simp] theorem modCred_twin (n : Nat) (g : Credit → Credit) (k : Nat) : (s.modCred n g).twin k = s.twin k := rfl
@[simp] theorem modQue_twin (n : Nat) (g : MQueue → MQueue) (k : Nat) : (s.modQue n g).twin k = s.twin k := rfl
@[simp] theorem modHln_twin (n : Nat) (g : HLane → HLane) (k : Nat) : (s.modHln n g).twin k = s.twin k := rfl
@[simp] theorem modCa_twin (n : Nat) (g : Ca → Ca) (k : Nat) : (s.modCa n g).twin k = s.twin k := rfl
@[simp] theorem send_twin (x : Out) (k : Nat) : (s.send x).twin k = s.twin k := rfl
@[simp] theorem owe_twin (x : Todo) (k : Nat) : (s.owe x).twin k = s.twin k := rfl
end

section
variable (s : State)
@[simp] theorem modDrp_drp_self (n : Nat) (g : Drop → Drop) : (s.modDrp n g).drp n = g (s.drp n) := by
  simp [State.modDrp, State.drp]
theorem modDrp_drp_ne {n k : Nat} (g : Drop → Drop) (h : n ≠ k) : (s.modDrp n g).drp k = s.drp k := by
  simp [State.modDrp, State.drp, tget_tset_ne _ _ _ h]
@[simp] theorem wr_drp (f : Fld) (v : Nat) (k : Nat) : (s.wr f v).drp k = s.drp k := rfl
@[simp] theorem modTrk_drp (n : Nat) (g : Trunk → Trunk) (k : Nat) : (s.modTrk n g).drp k = s.drp k := rfl
@[simp] theorem modTwin_drp (n : Nat) (g : Twin → Twin) (k : Nat) : (s.modTwin n g).drp k = s.drp k := rfl
@[simp] theorem modPass_drp (n : Nat) (g : Pass → Pass) (k : Nat) : (s.modPass n g).drp k = s.drp k := rfl
@[simp] theorem modCred_drp (n : Nat) (g : Credit → Credit) (k : Nat) : (s.modCred n g).drp k = s.drp k := rfl
@[simp] theorem modQue_drp (n : Nat) (g : MQueue → MQueue) (k : Nat) : (s.modQue n g).drp k = s.drp k := rfl
@[simp] theorem modHln_drp (n : Nat) (g : HLane → HLane) (k : Nat) : (s.modHln n g).drp k = s.drp k := rfl
@[simp] theorem modCa_drp (n : Nat) (g : Ca → Ca) (k : Nat) : (s.modCa n g).drp k = s.drp k := rfl
@[simp] theorem send_drp (x : Out) (k : Nat) : (s.send x).drp k = s.drp k := rfl
@[simp] theorem owe_drp (x : Todo) (k : Nat) : (s.owe x).drp k = s.drp k := rfl
end

section
variable (s : State)
@[simp] theorem modPass_pas_self (n : Nat) (g : Pass → Pass) : (s.modPass n g).pas n = g (s.pas n) := by
  simp [State.modPass, State.pas]
theorem modPass_pas_ne {n k : Nat} (g : Pass → Pass) (h : n ≠ k) : (s.modPass n g).pas k = s.pas k := by
  simp [State.modPass, State.pas, tget_tset_ne _ _ _ h]
@[simp] theorem wr_pas (f : Fld) (v : Nat) (k : Nat) : (s.wr f v).pas k = s.pas k := rfl
@[simp] theorem modTrk_pas (n : Nat) (g : Trunk → Trunk) (k : Nat) : (s.modTrk n g).pas k = s.pas k := rfl
@[simp] theorem modTwin_pas (n : Nat) (g : Twin → Twin) (k : Nat) : (s.modTwin n g).pas k = s.pas k := rfl
@[simp] theorem modDrp_pas (n : Nat) (g : Drop → Drop) (k : Nat) : (s.modDrp n g).pas k = s.pas k := rfl
@[simp] theorem modCred_pas (n : Nat) (g : Credit → Credit) (k : Nat) : (s.modCred n g).pas k = s.pas k := rfl
@[simp] theorem modQue_pas (n : Nat) (g : MQueue → MQueue) (k : Nat) : (s.modQue n g).pas k = s.pas k := rfl
@[simp] theorem modHln_pas (n : Nat) (g : HLane → HLane) (k : Nat) : (s.modHln n g).pas k = s.pas k := rfl
@[simp] theorem modCa_pas (n : Nat) (g : Ca → Ca) (k : Nat) : (s.modCa n g).pas k = s.pas k := rfl
@[simp] theorem send_pas (x : Out) (k : Nat) : (s.send x).pas k = s.pas k := rfl
@[simp] theorem owe_pas (x : Todo) (k : Nat) : (s.owe x).pas k = s.pas k := rfl
end

section
variable (s : State)
@[simp] theorem modCred_cred_self (n : Nat) (g : Credit → Credit) : (s.modCred n g).cred n = g (s.cred n) := by
  simp [State.modCred, State.cred]
theorem modCred_cred_ne {n k : Nat} (g : Credit → Credit) (h : n ≠ k) : (s.modCred n g).cred k = s.cred k := by
  simp [State.modCred, State.cred, tget_tset_ne _ _ _ h]
@[simp] theorem wr_cred (f : Fld) (v : Nat) (k : Nat) : (s.wr f v).cred k = s.cred k := rfl
@[simp] theorem modTrk_cred (n : Nat) (g : Trunk → Trunk) (k : Nat) : (s.modTrk n g).cred k = s.cred k := rfl
@[simp] theorem modTwin_cred (n : Nat) (g : Twin → Twin) (k : Nat) : (s.modTwin n g).cred k = s.cred k := rfl
@[simp] theorem modDrp_cred (n : Nat) (g : Drop → Drop) (k : Nat) : (s.modDrp n g).cred k = s.cred k := rfl
@[simp] theorem modPass_cred (n : Nat) (g : Pass → Pass) (k : Nat) : (s.modPass n g).cred k = s.cred k := rfl
@[simp] theorem modQue_cred (n : Nat) (g : MQueue → MQueue) (k : Nat) : (s.modQue n g).cred k = s.cred k := rfl
@[simp] theorem modHln_cred (n : Nat) (g : HLane → HLane) (k : Nat) : (s.modHln n g).cred k = s.cred k := rfl
@[simp] theorem modCa_cred (n : Nat) (g : Ca → Ca) (k : Nat) : (s.modCa n g).cred k = s.cred k := rfl
@[simp] theorem send_cred (x : Out) (k : Nat) : (s.send x).cred k = s.cred k := rfl
@[simp] theorem owe_cred (x : Todo) (k : Nat) : (s.owe x).cred k = s.cred k := rfl
end

section
variable (s : State)
@[simp] theorem modHln_hln_self (n : Nat) (g : HLane → HLane) : (s.modHln n g).hln n = g (s.hln n) := by
  simp [State.modHln, State.hln]
theorem modHln_hln_ne {n k : Nat} (g : HLane → HLane) (h : n ≠ k) : (s.modHln n g).hln k = s.hln k := by
  simp [State.modHln, State.hln, tget_tset_ne _ _ _ h]
@[simp] theorem wr_hln (f : Fld) (v : Nat) (k : Nat) : (s.wr f v).hln k = s.hln k := rfl
@[simp] theorem modTrk_hln (n : Nat) (g : Trunk → Trunk) (k : Nat) : (s.modTrk n g).hln k = s.hln k := rfl
@[simp] theorem modTwin_hln (n : Nat) (g : Twin → Twin) (k : Nat) : (s.modTwin n g).hln k = s.hln k := rfl
@[simp] theorem modDrp_hln (n : Nat) (g : Drop → Drop) (k : Nat) : (s.modDrp n g).hln k = s.hln k := rfl
@[simp] theorem modPass_hln (n : Nat) (g : Pass → Pass) (k : Nat) : (s.modPass n g).hln k = s.hln k := rfl
@[simp] theorem modCred_hln (n : Nat) (g : Credit → Credit) (k : Nat) : (s.modCred n g).hln k = s.hln k := rfl
@[simp] theorem modQue_hln (n : Nat) (g : MQueue → MQueue) (k : Nat) : (s.modQue n g).hln k = s.hln k := rfl
@[simp] theorem modCa_hln (n : Nat) (g : Ca → Ca) (k : Nat) : (s.modCa n g).hln k = s.hln k := rfl
@[simp] theorem send_hln (x : Out) (k : Nat) : (s.send x).hln k = s.hln k := rfl
@[simp] theorem owe_hln (x : Todo) (k : Nat) : (s.owe x).hln k = s.hln k := rfl
end

section
variable (s : State)
@[simp] theorem modCa_ca_self (n : Nat) (g : Ca → Ca) : (s.modCa n g).ca n = g (s.ca n) := by
  simp [State.modCa, State.ca]
theorem modCa_ca_ne {n k : Nat} (g : Ca → Ca) (h : n ≠ k) : (s.modCa n g).ca k = s.ca k := by
  simp [State.modCa, State.ca, tget_tset_ne _ _ _ h]
@[simp] theorem wr_ca (f : Fld) (v : Nat) (k : Nat) : (s.wr f v).ca k = s.ca k := rfl
@[simp] theorem modTrk_ca (n : Nat) (g : Trunk → Trunk) (k : Nat) : (s.modTrk n g).ca k = s.ca k := rfl
@[simp] theorem modTwin_ca (n : Nat) (g : Twin → Twin) (k : Nat) : (s.modTwin n g).ca k = s.ca k := rfl
@[simp] theorem modDrp_ca (n : Nat) (g : Drop → Drop) (k : Nat) : (s.modDrp n g).ca k = s.ca k := rfl
@[simp] theorem modPass_ca (n : Nat) (g : Pass → Pass) (k : Nat) : (s.modPass n g).ca k = s.ca k := rfl
@[simp] theorem modCred_ca (n : Nat) (g : Credit → Credit) (k : Nat) : (s.modCred n g).ca k = s.ca k := rfl
@[simp] theorem modQue_ca (n : Nat) (g : MQueue → MQueue) (k : Nat) : (s.modQue n g).ca k = s.ca k := rfl
@[simp] theorem modHln_ca (n : Nat) (g : HLane → HLane) (k : Nat) : (s.modHln n g).ca k = s.ca k := rfl
@[simp] theorem send_ca (x : Out) (k : Nat) : (s.send x).ca k = s.ca k := rfl
@[simp] theorem owe_ca (x : Todo) (k : Nat) : (s.owe x).ca k = s.ca k := rfl
end

section
variable (s : State)
@[simp] theorem modQue_que_self (n : Nat) (g : MQueue → MQueue) : (s.modQue n g).que n = g (s.que n) := by
  simp [State.modQue, State.que]
theorem modQue_que_ne {n k : Nat} (g : MQueue → MQueue) (h : n ≠ k) : (s.modQue n g).que k = s.que k := by
  simp [State.modQue, State.que, tget_tset_ne _ _ _ h]
@[simp] theorem wr_que (f : Fld) (v : Nat) (k : Nat) : (s.wr f v).que k = s.que k := rfl
@[simp] theorem modTrk_que (n : Nat) (g : Trunk → Trunk) (k : Nat) : (s.modTrk n g).que k = s.que k := rfl
@[simp] theorem modTwin_que (n : Nat) (g : Twin → Twin) (k : Nat) : (s.modTwin n g).que k = s.que k := rfl
@[simp] theorem modDrp_que (n : Nat) (g : Drop → Drop) (k : Nat) : (s.modDrp n g).que k = s.que k := rfl
@[simp] theorem modPass_que (n : Nat) (g : Pass → Pass) (k : Nat) : (s.modPass n g).que k = s.que k := rfl
@[simp] theorem modCred_que (n : Nat) (g : Credit → Credit) (k : Nat) : (s.modCred n g).que k = s.que k := rfl
@[simp] theorem modHln_que (n : Nat) (g : HLane → HLane) (k : Nat) : (s.modHln n g).que k = s.que k := rfl
@[simp] theorem modCa_que (n : Nat) (g : Ca → Ca) (k : Nat) : (s.modCa n g).que k = s.que k := rfl
@[simp] theorem send_que (x : Out) (k : Nat) : (s.send x).que k = s.que k := rfl
@[simp] theorem owe_que (x : Todo) (k : Nat) : (s.owe x).que k = s.que k := rfl
end

end Sys2Proof.Machine
end

