-- ==== Sys2Proof/Laws/Settle.lean ====
section
/-! SUPPORT. Laws of the end of a step: the interrupt vectors keep everything but themselves, and in a calm state nothing
else happens. -/

namespace Sys2Proof.Machine

/-! ## Messages and vectors -/

/-- What a message leaves alone: everything but the output and the pending messages. -/
theorem message_keeps (s : State) (n : Nat) :
    ∃ o p, s.message n = { s with out := o, msixPend := p } := by
  unfold State.message
  split
  · exact ⟨s.out, _, rfl⟩
  · exact ⟨_, s.msixPend, rfl⟩

theorem messages_keep (l : List Nat) (s : State) :
    ∃ o p, l.foldl (fun a n => a.message n) s = { s with out := o, msixPend := p } := by
  induction l generalizing s with
  | nil => exact ⟨s.out, s.msixPend, rfl⟩
  | cons n l ih =>
    obtain ⟨o, p, e⟩ := message_keeps s n
    obtain ⟨o', p', e'⟩ := ih (s.message n)
    exact ⟨o', p', by rw [List.foldl_cons, e', e]⟩

/-- Messages only add to the output. -/
theorem messages_out (l : List Nat) (s : State) : ∃ m, (l.foldl (fun a n => a.message n) s).out = m ++ s.out := by
  induction l generalizing s with
  | nil => exact ⟨[], rfl⟩
  | cons n l ih =>
    obtain ⟨m, e⟩ := ih (s.message n)
    have : ∃ k, (s.message n).out = k ++ s.out := by
      unfold State.message
      split
      · exact ⟨[], rfl⟩
      · exact ⟨[.msix n], rfl⟩
    obtain ⟨k, f⟩ := this
    exact ⟨m ++ k, by rw [List.foldl_cons, e, f, List.append_assoc]⟩

/-- What has left the block before stays in the output. -/
theorem vectors_out (s : State) : ∃ m, (vectors s).out = m ++ s.out := messages_out _ _

theorem mem_vectors_out {x : Out} {s : State} (h : x ∈ s.out) : x ∈ (vectors s).out := by
  obtain ⟨m, e⟩ := vectors_out s
  rw [e]
  exact List.mem_append_right _ h

/-- The vectors change only themselves, their messages and the reports they rest on. -/
theorem vectors_keep (s : State) :
    ∃ o p, vectors s = { s with
      evtRep := (s.evtRep.map fun e => (e.1, Nat.land e.2 (portEvts e.1 s))).filter fun e => e.2 ≠ 0,
      irq := maskOf (fun n => decide (n ≠ 0) && vectorOn n { s with
        evtRep := (s.evtRep.map fun e => (e.1, Nat.land e.2 (portEvts e.1 s))).filter fun e => e.2 ≠ 0 }) 16,
      out := o, msixPend := p } := by
  let a : State := { s with
    evtRep := (s.evtRep.map fun e => (e.1, Nat.land e.2 (portEvts e.1 s))).filter fun e => e.2 ≠ 0 }
  let b := maskOf (fun n => decide (n ≠ 0) && vectorOn n a) 16
  obtain ⟨o, p, e⟩ := messages_keep ((upto 16).filter fun n => tbit b n && !tbit a.irq n) a
  refine ⟨o, p, ?_⟩
  have h : vectors s = { ((upto 16).filter fun n => tbit b n && !tbit a.irq n).foldl (fun a n => a.message n) a with
    irq := b } := rfl
  rw [h, e]

@[simp] theorem vectors_regs (s : State) : (vectors s).regs = s.regs := by
  obtain ⟨o, p, e⟩ := vectors_keep s
  rw [e]

@[simp] theorem vectors_rd (s : State) (f : Fld) : (vectors s).rd f = s.rd f := by
  simp [State.rd]

@[simp] theorem vectors_rest (s : State) : (vectors s).rest = s.rest := by
  obtain ⟨o, p, e⟩ := vectors_keep s
  rw [e]
  rfl

theorem evtBits_congr {s t : State} (h : t.regs = s.regs) (l : List Fld) : evtBits l t = evtBits l s := by
  simp [evtBits, State.rd, h]

theorem vectorOn_congr {s t : State} (h : t.regs = s.regs) (e : t.evtRep = s.evtRep) (n : Nat) :
    vectorOn n t = vectorOn n s := by
  have x : ∀ f, t.rd f = s.rd f := fun f => by simp [State.rd, h]
  unfold vectorOn
  simp only [evtBits_congr h, x, e]

theorem maskOf_lt (p : Nat → Bool) (n : Nat) : maskOf p n < 2 ^ n := by
  induction n with
  | zero => simp [maskOf]
  | succ n h =>
    have : b2n (p n) ≤ 1 := by unfold b2n; split <;> omega
    have : b2n (p n) * 2 ^ n ≤ 1 * 2 ^ n := Nat.mul_le_mul_right _ this
    simp only [maskOf, Nat.pow_succ]; omega

theorem maskOf_bit (p : Nat → Bool) (n k : Nat) : maskOf p n / 2 ^ k % 2 = 1 ↔ k < n ∧ p k = true := by
  induction n generalizing k with
  | zero => simp [maskOf]
  | succ n ih =>
    have hl := maskOf_lt p n
    show (maskOf p n + b2n (p n) * 2 ^ n) / 2 ^ k % 2 = 1 ↔ _
    rcases Nat.lt_trichotomy k n with g | g | g
    · have e : 2 ^ n = 2 ^ k * 2 * 2 ^ (n - k - 1) := by
        rw [← Nat.pow_succ, ← Nat.pow_add]; congr 1; omega
      have h1 : (maskOf p n + b2n (p n) * 2 ^ n) / 2 ^ k % 2 = maskOf p n / 2 ^ k % 2 := by
        rw [e, show b2n (p n) * (2 ^ k * 2 * 2 ^ (n - k - 1)) = 2 ^ k * (2 * (b2n (p n) * 2 ^ (n - k - 1))) by ring,
          Nat.add_mul_div_left _ _ (Nat.two_pow_pos k), Nat.add_mul_mod_self_left]
      rw [h1, ih k]
      simp [g, Nat.lt_succ_of_lt g]
    · subst g
      rw [Nat.add_mul_div_right _ _ (Nat.two_pow_pos k), Nat.div_eq_of_lt hl]
      cases h : p k <;> simp [b2n]
    · have h3 := maskOf_lt p (n + 1)
      have h2 : 2 ^ (n + 1) ≤ 2 ^ k := Nat.pow_le_pow_right (by omega) g
      have : maskOf p n + b2n (p n) * 2 ^ n < 2 ^ k := Nat.lt_of_lt_of_le h3 h2
      rw [Nat.div_eq_of_lt this]
      simp; omega

theorem tbit_maskOf (p : Nat → Bool) (n k : Nat) : tbit (maskOf p n) k = (decide (k < n) && p k) := by
  rw [Bool.eq_iff_iff]
  simp [tbit, maskOf_bit]

/-- After the vectors have been looked at, the interrupt lines are true. -/
theorem vectors_irqTrue (s : State) : IrqTrue (vectors s) := by
  obtain ⟨o, p, e⟩ := vectors_keep s
  intro n hn
  rw [e]
  simp only [tbit_maskOf, hn, decide_true, Bool.true_and]
  exact congrArg _ (vectorOn_congr rfl rfl n).symm

/-- Every step's end leaves true interrupt lines. -/
theorem settle_irqTrue (s : State) : IrqTrue (settle s) := vectors_irqTrue _

/-! ## Calm -/

theorem runTodo_calm {s : State} (h : s.todo = []) (n : Nat) : runTodo n s = s := by
  cases n <;> simp [runTodo, h]

theorem domStep_resting {k : Nat} {s : State} (h : Resting k s) (l : s.bit R.WARP_STAT_LIVE_BUSY = false) :
    domStep k s = s := by
  unfold domStep
  unfold Resting at h
  split
  · rfl
  · rename_i ht
    simp only [Bool.not_eq_true, Bool.not_eq_false'] at ht
    cases e : domOf k s with
    | idle => rw [e] at h; simp [Nat.not_lt.2 (h ht)]
    | asked r d => rw [e] at h; simp [h.1, h.2 ht, liveBusy, l]
    | committed r => rfl
    | climbing r => rfl

theorem ladder_calm {s : State} (h : Calm s) : ladder s = s := by
  have a := h.answers
  have b := h.ladder
  have l := h.live
  unfold ladder
  simp only [upto, List.nil_append, List.cons_append, List.foldl_cons, List.foldl_nil]
  have v : ∀ k < 4, valeAgain k s = s := fun k hk => by simp [valeAgain, a k hk]
  rw [v 0 (by omega), v 1 (by omega), v 2 (by omega), v 3 (by omega)]
  have d : ∀ k < 5, domStep k s = s := fun k hk => domStep_resting (b k hk) l
  rw [d 0 (by omega), d 1 (by omega), d 2 (by omega), d 3 (by omega), d 4 (by omega)]

/-- In a calm state the end of a step only looks at the vectors. -/
theorem settle_calm {s : State} (h : Calm s) : settle s = vectors s := by
  unfold settle
  rw [runTodo_calm h.owed, ladder_calm h, runTodo_calm h.owed]
  have l : liveEnd s = s := by simp [liveEnd, h.live]
  rw [l]
  have b : bootVales s = s := by
    unfold bootVales
    rw [if_neg]
    intro ⟨x, y, _⟩
    exact h.boot ⟨x, y⟩
  rw [b]

/-- A command that leaves a calm state answers it, with the vectors looked at. -/
theorem done_calm {s : State} (h : Calm s) : done s = .next (vectors s) := by
  unfold done
  rw [settle_calm h]

/-- The registers that calm rests on. -/
def calmRegs : List Nat :=
  [R.WARP_STAT_LIVE_BUSY.id, R.GLB_MODE_MODE.id, R.PWR_STAT_HOST_RUNG.id, R.PWR_STAT_VALE_RUNG.id,
    (R.PWR_LOWEST_LOWEST 0).id, R.PWR_CTL_NIGHT_EN.id]

theorem targetOf_congr {s t : State} (hf : t.boot.fences = s.boot.fences) (hs : t.boot.selfTest = s.boot.selfTest)
    (hr : ∀ g : Fld, g.id ∈ calmRegs → t.rd g = s.rd g) (k : Nat) : targetOf k t = targetOf k s := by
  have h1 : ∀ c, t.rd (R.PWR_LOWEST_LOWEST c) = s.rd (R.PWR_LOWEST_LOWEST c) := fun c => hr _ (by simp [calmRegs])
  have h2 : t.rd R.PWR_CTL_NIGHT_EN = s.rd R.PWR_CTL_NIGHT_EN := hr _ (by decide)
  have h3 : t.rd R.GLB_MODE_MODE = s.rd R.GLB_MODE_MODE := hr _ (by decide)
  have h4 : t.rd R.PWR_STAT_VALE_RUNG = s.rd R.PWR_STAT_VALE_RUNG := hr _ (by decide)
  have f : ∀ b, t.underTest b = s.underTest b := by intro b; simp [State.underTest, hs]
  have g : ∀ b, t.ownFence b = s.ownFence b := by intro b; simp [State.ownFence, hf]
  have v : ∀ c, voteOf c t = voteOf c s := by intro c; simp [voteOf, f, h1, State.bit, h2]
  have w : ∀ c, portVotes c t = portVotes c s := by intro c; simp [portVotes, State.fencedProper, f, g]
  have x : ∀ k, domTakes k t = domTakes k s := by intro k; simp [domTakes, State.isFenced, f, g]
  have y : ∀ v, t.valeRung v = s.valeRung v := by intro v; simp [State.valeRung, h4]
  have z : t.serving = s.serving := by
    unfold State.serving State.mode
    rw [Bool.eq_iff_iff]
    simp [h3]
  unfold targetOf
  simp only [v, w, x, y, z]

/-- Calm is kept where nothing that it rests on changes. -/
theorem Calm.congr {s t : State} (h : Calm s) (ht : t.todo = s.todo)
    (hp : ∀ v < 4, (t.pas v).rungDelay = (s.pas v).rungDelay) (hd : t.power.dom = s.power.dom)
    (hf : t.boot.fences = s.boot.fences) (hs : t.boot.selfTest = s.boot.selfTest)
    (hb : ¬ (t.mode = 0 ∧ t.boot.step = 9)) (hr : ∀ g : Fld, g.id ∈ calmRegs → t.rd g = s.rd g) : Calm t where
  owed := by rw [ht]; exact h.owed
  answers := fun v hv => by rw [hp v hv]; exact h.answers v hv
  ladder := fun k hk => by
    have := h.ladder k hk
    have x : domTakes k t = domTakes k s := by
      simp [domTakes, State.isFenced, State.ownFence, State.underTest, hf, hs]
    have y : domRung k t = domRung k s := by
      have h4 : t.rd R.PWR_STAT_VALE_RUNG = s.rd R.PWR_STAT_VALE_RUNG := hr _ (by decide)
      have h5 : t.rd R.PWR_STAT_HOST_RUNG = s.rd R.PWR_STAT_HOST_RUNG := hr _ (by decide)
      simp [domRung, State.valeRung, h4, h5]
    unfold Resting at *
    have e : domOf k t = domOf k s := by simp [domOf, hd]
    rw [e, x, y, targetOf_congr hf hs hr]
    exact this
  live := by
    have : t.rd R.WARP_STAT_LIVE_BUSY = s.rd R.WARP_STAT_LIVE_BUSY := hr _ (by decide)
    simpa [State.bit, this] using h.live
  boot := hb

/-- Calm is kept where nothing that it rests on changes, BOOT's place included. -/
theorem Calm.keep {s t : State} (h : Calm s) (ht : t.todo = s.todo)
    (hp : ∀ v < 4, (t.pas v).rungDelay = (s.pas v).rungDelay) (hd : t.power.dom = s.power.dom)
    (hb : t.boot = s.boot) (hr : ∀ g : Fld, g.id ∈ calmRegs → t.rd g = s.rd g) : Calm t :=
  h.congr ht hp hd (by rw [hb]) (by rw [hb])
    (by
      have : t.rd R.GLB_MODE_MODE = s.rd R.GLB_MODE_MODE := hr _ (by decide)
      simpa [State.mode, this, hb] using h.boot) hr

/-- A write of a field that calm does not rest on keeps it. -/
theorem calm_wr {s : State} {f : Fld} {v : Nat} (n : f.id ∉ calmRegs) : Calm (s.wr f v) ↔ Calm s := by
  have k : ∀ g : Fld, g.id ∈ calmRegs → (s.wr f v).rd g = s.rd g :=
    fun g hg => rd_wr_ne s f g v fun e => absurd (e ▸ hg) n
  exact ⟨fun h => h.keep rfl (fun _ _ => rfl) rfl rfl fun g hg => (k g hg).symm,
    fun h => h.keep rfl (fun _ _ => rfl) rfl rfl k⟩

theorem calm_same {s t : State} (ht : t.todo = s.todo) (hp : ∀ v < 4, (t.pas v).rungDelay = (s.pas v).rungDelay)
    (hd : t.power.dom = s.power.dom) (hb : t.boot = s.boot) (hr : t.regs = s.regs) : Calm t ↔ Calm s := by
  have k : ∀ g : Fld, t.rd g = s.rd g := fun g => by simp [State.rd, hr]
  exact ⟨fun h => h.keep ht.symm (fun v hv => (hp v hv).symm) hd.symm hb.symm fun g _ => (k g).symm,
    fun h => h.keep ht hp hd hb fun g _ => k g⟩

section
variable (s : State)
@[simp] theorem calm_modTrk (n : Nat) (g : Trunk → Trunk) : Calm (s.modTrk n g) ↔ Calm s :=
  calm_same rfl (fun _ _ => rfl) rfl rfl rfl
@[simp] theorem calm_modTwin (n : Nat) (g : Twin → Twin) : Calm (s.modTwin n g) ↔ Calm s :=
  calm_same rfl (fun _ _ => rfl) rfl rfl rfl
@[simp] theorem calm_modDrp (n : Nat) (g : Drop → Drop) : Calm (s.modDrp n g) ↔ Calm s :=
  calm_same rfl (fun _ _ => rfl) rfl rfl rfl
@[simp] theorem calm_modCred (n : Nat) (g : Credit → Credit) : Calm (s.modCred n g) ↔ Calm s :=
  calm_same rfl (fun _ _ => rfl) rfl rfl rfl
@[simp] theorem calm_modQue (n : Nat) (g : MQueue → MQueue) : Calm (s.modQue n g) ↔ Calm s :=
  calm_same rfl (fun _ _ => rfl) rfl rfl rfl
@[simp] theorem calm_modHln (n : Nat) (g : HLane → HLane) : Calm (s.modHln n g) ↔ Calm s :=
  calm_same rfl (fun _ _ => rfl) rfl rfl rfl
@[simp] theorem calm_modCa (n : Nat) (g : Ca → Ca) : Calm (s.modCa n g) ↔ Calm s :=
  calm_same rfl (fun _ _ => rfl) rfl rfl rfl
@[simp] theorem calm_send (x : Out) : Calm (s.send x) ↔ Calm s := calm_same rfl (fun _ _ => rfl) rfl rfl rfl
theorem calm_modPass (n : Nat) (g : Pass → Pass) (h : (g (s.pas n)).rungDelay = (s.pas n).rungDelay) :
    Calm (s.modPass n g) ↔ Calm s := by
  refine calm_same rfl (fun v _ => ?_) rfl rfl rfl
  by_cases e : n = v
  · subst e; simpa using h
  · rw [modPass_pas_ne _ _ e]
end

/-- The state with no action owed. -/
def State.paid (s : State) : State := { s with todo := [] }

@[simp] theorem paid_rd (s : State) (f : Fld) : s.paid.rd f = s.rd f := rfl
@[simp] theorem paid_trk (s : State) (t : Nat) : s.paid.trk t = s.trk t := rfl

/-- Where one action is owed and it leaves a calm state, the end of a step runs it and looks at the vectors. -/
theorem settle_owed {u : State} {x : Todo} (h : u.todo = [x]) (c : Calm (todoDo x u.paid)) :
    settle u = vectors (todoDo x u.paid) := by
  have e : runTodo 512 u = todoDo x u.paid := by
    have o : ∀ n, runTodo (n + 1) u = runTodo n (todoDo x u.paid) := fun n => by
      conv_lhs => unfold runTodo
      simp only [h]
      rfl
    rw [o 511]
    exact runTodo_calm c.owed _
  have f := settle_calm c
  unfold settle at f ⊢
  rw [runTodo_calm c.owed] at f
  rw [e]
  exact f

theorem done_owed {u : State} {x : Todo} (h : u.todo = [x]) (c : Calm (todoDo x u.paid)) :
    done u = .next (vectors (todoDo x u.paid)) := by
  unfold done
  rw [settle_owed h c]

end Sys2Proof.Machine
end

