-- ==== Sys2Proof/Laws/Frames.lean ====
section
/-! SUPPORT. Frames: what the updates and the end of a step keep. -/

namespace Sys2Proof.Machine

/-! ## The vectors -/

section
variable (s : State)
@[simp] theorem vectors_regsB : (vectors s).regsB = s.regsB := by
  obtain ⟨o, p, e⟩ := vectors_keep s
  rw [e]
@[simp] theorem vectors_regsC : (vectors s).regsC = s.regsC := by
  obtain ⟨o, p, e⟩ := vectors_keep s
  rw [e]
@[simp] theorem vectors_regsW : (vectors s).regsW = s.regsW := by
  obtain ⟨o, p, e⟩ := vectors_keep s
  rw [e]
@[simp] theorem vectors_fabric : (vectors s).fabric = s.fabric := by
  obtain ⟨o, p, e⟩ := vectors_keep s
  rw [e]
@[simp] theorem vectors_boot : (vectors s).boot = s.boot := by
  obtain ⟨o, p, e⟩ := vectors_keep s
  rw [e]
@[simp] theorem vectors_warp : (vectors s).warp = s.warp := by
  obtain ⟨o, p, e⟩ := vectors_keep s
  rw [e]
@[simp] theorem vectors_watch : (vectors s).watch = s.watch := by
  obtain ⟨o, p, e⟩ := vectors_keep s
  rw [e]
@[simp] theorem vectors_time : (vectors s).time = s.time := by
  obtain ⟨o, p, e⟩ := vectors_keep s
  rw [e]
@[simp] theorem vectors_trunks : (vectors s).trunks = s.trunks := by
  obtain ⟨o, p, e⟩ := vectors_keep s
  rw [e]
@[simp] theorem vectors_twins : (vectors s).twins = s.twins := by
  obtain ⟨o, p, e⟩ := vectors_keep s
  rw [e]
@[simp] theorem vectors_drops : (vectors s).drops = s.drops := by
  obtain ⟨o, p, e⟩ := vectors_keep s
  rw [e]
@[simp] theorem vectors_passes : (vectors s).passes = s.passes := by
  obtain ⟨o, p, e⟩ := vectors_keep s
  rw [e]
@[simp] theorem vectors_credits : (vectors s).credits = s.credits := by
  obtain ⟨o, p, e⟩ := vectors_keep s
  rw [e]
@[simp] theorem vectors_mill : (vectors s).mill = s.mill := by
  obtain ⟨o, p, e⟩ := vectors_keep s
  rw [e]
@[simp] theorem vectors_hlanes : (vectors s).hlanes = s.hlanes := by
  obtain ⟨o, p, e⟩ := vectors_keep s
  rw [e]
@[simp] theorem vectors_reports : (vectors s).reports = s.reports := by
  obtain ⟨o, p, e⟩ := vectors_keep s
  rw [e]
@[simp] theorem vectors_cas : (vectors s).cas = s.cas := by
  obtain ⟨o, p, e⟩ := vectors_keep s
  rw [e]
@[simp] theorem vectors_macConf : (vectors s).macConf = s.macConf := by
  obtain ⟨o, p, e⟩ := vectors_keep s
  rw [e]
@[simp] theorem vectors_macReplay : (vectors s).macReplay = s.macReplay := by
  obtain ⟨o, p, e⟩ := vectors_keep s
  rw [e]
@[simp] theorem vectors_macPort : (vectors s).macPort = s.macPort := by
  obtain ⟨o, p, e⟩ := vectors_keep s
  rw [e]
@[simp] theorem vectors_macReqDrp : (vectors s).macReqDrp = s.macReqDrp := by
  obtain ⟨o, p, e⟩ := vectors_keep s
  rw [e]
@[simp] theorem vectors_clock : (vectors s).clock = s.clock := by
  obtain ⟨o, p, e⟩ := vectors_keep s
  rw [e]
@[simp] theorem vectors_valeTimes : (vectors s).valeTimes = s.valeTimes := by
  obtain ⟨o, p, e⟩ := vectors_keep s
  rw [e]
@[simp] theorem vectors_gran : (vectors s).gran = s.gran := by
  obtain ⟨o, p, e⟩ := vectors_keep s
  rw [e]
@[simp] theorem vectors_memScrub : (vectors s).memScrub = s.memScrub := by
  obtain ⟨o, p, e⟩ := vectors_keep s
  rw [e]
@[simp] theorem vectors_dsurv : (vectors s).dsurv = s.dsurv := by
  obtain ⟨o, p, e⟩ := vectors_keep s
  rw [e]
@[simp] theorem vectors_survTurn : (vectors s).survTurn = s.survTurn := by
  obtain ⟨o, p, e⟩ := vectors_keep s
  rw [e]
@[simp] theorem vectors_sensorHot : (vectors s).sensorHot = s.sensorHot := by
  obtain ⟨o, p, e⟩ := vectors_keep s
  rw [e]
@[simp] theorem vectors_caps : (vectors s).caps = s.caps := by
  obtain ⟨o, p, e⟩ := vectors_keep s
  rw [e]
@[simp] theorem vectors_items : (vectors s).items = s.items := by
  obtain ⟨o, p, e⟩ := vectors_keep s
  rw [e]
@[simp] theorem vectors_sec : (vectors s).sec = s.sec := by
  obtain ⟨o, p, e⟩ := vectors_keep s
  rw [e]
@[simp] theorem vectors_mgmt : (vectors s).mgmt = s.mgmt := by
  obtain ⟨o, p, e⟩ := vectors_keep s
  rw [e]
@[simp] theorem vectors_power : (vectors s).power = s.power := by
  obtain ⟨o, p, e⟩ := vectors_keep s
  rw [e]
@[simp] theorem vectors_archive : (vectors s).archive = s.archive := by
  obtain ⟨o, p, e⟩ := vectors_keep s
  rw [e]
@[simp] theorem vectors_rxBank : (vectors s).rxBank = s.rxBank := by
  obtain ⟨o, p, e⟩ := vectors_keep s
  rw [e]
@[simp] theorem vectors_age : (vectors s).age = s.age := by
  obtain ⟨o, p, e⟩ := vectors_keep s
  rw [e]
@[simp] theorem vectors_freeCtr : (vectors s).freeCtr = s.freeCtr := by
  obtain ⟨o, p, e⟩ := vectors_keep s
  rw [e]
@[simp] theorem vectors_todo : (vectors s).todo = s.todo := by
  obtain ⟨o, p, e⟩ := vectors_keep s
  rw [e]
@[simp] theorem vectors_msixOff : (vectors s).msixOff = s.msixOff := by
  obtain ⟨o, p, e⟩ := vectors_keep s
  rw [e]
@[simp] theorem vectors_msixMask : (vectors s).msixMask = s.msixMask := by
  obtain ⟨o, p, e⟩ := vectors_keep s
  rw [e]
@[simp] theorem vectors_pending : (vectors s).pending = s.pending := by
  obtain ⟨o, p, e⟩ := vectors_keep s
  rw [e]
@[simp] theorem vectors_trk (n : Nat) : (vectors s).trk n = s.trk n := by
  simp [State.trk]
@[simp] theorem vectors_twin (n : Nat) : (vectors s).twin n = s.twin n := by
  simp [State.twin]
@[simp] theorem vectors_drp (n : Nat) : (vectors s).drp n = s.drp n := by
  simp [State.drp]
@[simp] theorem vectors_pas (n : Nat) : (vectors s).pas n = s.pas n := by
  simp [State.pas]
@[simp] theorem vectors_cred (n : Nat) : (vectors s).cred n = s.cred n := by
  simp [State.cred]
@[simp] theorem vectors_hln (n : Nat) : (vectors s).hln n = s.hln n := by
  simp [State.hln]
@[simp] theorem vectors_ca (n : Nat) : (vectors s).ca n = s.ca n := by
  simp [State.ca]
@[simp] theorem vectors_que (n : Nat) : (vectors s).que n = s.que n := by
  simp [State.que]
@[simp] theorem vectors_bit (f : Fld) : (vectors s).bit f = s.bit f := by
  simp [State.bit]
@[simp] theorem vectors_mode : (vectors s).mode = s.mode := by
  simp [State.mode]
end

/-! ## Registers kept -/

theorem Kept.refl {l : List Fld} {s : State} : Kept l s s := fun _ _ => rfl

theorem Kept.trans {l : List Fld} {s t u : State} (h : Kept l s t) (k : Kept l t u) : Kept l s u :=
  fun g hg => (k g hg).trans (h g hg)

theorem Kept.mono {l m : List Fld} {s t : State} (h : Kept l s t) (k : ∀ f ∈ l, f ∈ m) : Kept m s t :=
  fun g hg => h g fun f hf => hg f (k f hf)

/-- Kept over one more write of a field of the list. -/
theorem Kept.wr {l : List Fld} {s t : State} {f : Fld} {v : Nat} (h : Kept l s t) (m : f ∈ l) : Kept l s (t.wr f v) :=
  fun g hg => by rw [rd_wr_ne _ _ _ _ (fun e i => hg f m ⟨e, i⟩)]; exact h g hg

/-- Kept looks at the registers alone. -/
theorem Kept.of_regs {l : List Fld} {s t u : State} (h : Kept l s t) (e : u.regs = t.regs) : Kept l s u :=
  fun g hg => by rw [rd_eq, e]; exact h g hg

theorem kept_vectors {l : List Fld} {s t : State} : Kept l s (vectors t) ↔ Kept l s t := by
  simp [Kept]

section
variable {l : List Fld} {s t : State}

@[simp] theorem kept_modTrk (n : Nat) (g : Trunk → Trunk) : Kept l s (t.modTrk n g) ↔ Kept l s t := Iff.rfl
@[simp] theorem kept_modTwin (n : Nat) (g : Twin → Twin) : Kept l s (t.modTwin n g) ↔ Kept l s t := Iff.rfl
@[simp] theorem kept_modDrp (n : Nat) (g : Drop → Drop) : Kept l s (t.modDrp n g) ↔ Kept l s t := Iff.rfl
@[simp] theorem kept_modPass (n : Nat) (g : Pass → Pass) : Kept l s (t.modPass n g) ↔ Kept l s t := Iff.rfl
@[simp] theorem kept_modCred (n : Nat) (g : Credit → Credit) : Kept l s (t.modCred n g) ↔ Kept l s t := Iff.rfl
@[simp] theorem kept_modQue (n : Nat) (g : MQueue → MQueue) : Kept l s (t.modQue n g) ↔ Kept l s t := Iff.rfl
@[simp] theorem kept_modHln (n : Nat) (g : HLane → HLane) : Kept l s (t.modHln n g) ↔ Kept l s t := Iff.rfl
@[simp] theorem kept_modCa (n : Nat) (g : Ca → Ca) : Kept l s (t.modCa n g) ↔ Kept l s t := Iff.rfl
@[simp] theorem kept_send (x : Out) : Kept l s (t.send x) ↔ Kept l s t := Iff.rfl
@[simp] theorem kept_owe (x : Todo) : Kept l s (t.owe x) ↔ Kept l s t := Iff.rfl
end

/-! ## The rest of the state -/

section
variable (s : State)
@[simp] theorem rest_wr (f : Fld) (v : Nat) : (s.wr f v).rest = s.rest := rfl
@[simp] theorem rest_send (x : Out) : (s.send x).rest = s.rest := rfl
@[simp] theorem rest_modTrk (n : Nat) (g : Trunk → Trunk) : (s.modTrk n g).rest = { s.rest with trunks := (s.modTrk n g).trunks } := rfl
@[simp] theorem rest_modTwin (n : Nat) (g : Twin → Twin) : (s.modTwin n g).rest = { s.rest with twins := (s.modTwin n g).twins } := rfl
@[simp] theorem rest_modDrp (n : Nat) (g : Drop → Drop) : (s.modDrp n g).rest = { s.rest with drops := (s.modDrp n g).drops } := rfl
@[simp] theorem rest_modPass (n : Nat) (g : Pass → Pass) : (s.modPass n g).rest = { s.rest with passes := (s.modPass n g).passes } := rfl
@[simp] theorem rest_modCred (n : Nat) (g : Credit → Credit) : (s.modCred n g).rest = { s.rest with credits := (s.modCred n g).credits } := rfl
@[simp] theorem rest_modHln (n : Nat) (g : HLane → HLane) : (s.modHln n g).rest = { s.rest with hlanes := (s.modHln n g).hlanes } := rfl
@[simp] theorem rest_modCa (n : Nat) (g : Ca → Ca) : (s.modCa n g).rest = { s.rest with cas := (s.modCa n g).cas } := rfl
@[simp] theorem rest_modQue (n : Nat) (g : MQueue → MQueue) : (s.modQue n g).rest = { s.rest with mill := (s.modQue n g).mill } := rfl
end

end Sys2Proof.Machine
end

