-- ==== Sys2Proof/Laws/Only.lean ====
section
/-! SUPPORT. The frame of a command over registers and one part of the state, and that such a command keeps calm. -/

namespace Sys2Proof.Machine

theorem terase_tinsert {α : Type} (l : Tbl α) (k : Nat) (v : α) : terase (tinsert k v l) k = terase l k := by
  induction l with
  | nil => simp [tinsert, terase]
  | cons e l ih =>
    obtain ⟨i, w⟩ := e
    unfold tinsert
    split
    · simp [terase]
    · simp only [terase, ih]

theorem terase_terase {α : Type} (l : Tbl α) (k : Nat) : terase (terase l k) k = terase l k := by
  induction l with
  | nil => rfl
  | cons e l ih =>
    obtain ⟨i, w⟩ := e
    by_cases h : i = k
    · simp [terase, h, ih]
    · simp [terase, h, ih]

@[simp] theorem terase_tset {α : Type} [DecidableEq α] (d : α) (l : Tbl α) (k : Nat) (v : α) :
    terase (tset d l k v) k = terase l k := by
  unfold tset
  split
  · exact terase_terase l k
  · rw [terase_tinsert, terase_terase]

@[simp] theorem tset_tset {α : Type} [DecidableEq α] (d : α) (l : Tbl α) (k : Nat) (v w : α) :
    tset d (tset d l k v) k w = tset d l k w := by
  have h := terase_tset d l k v
  generalize tset d l k v = m at h
  unfold tset
  rw [h]

variable {l : List Fld} {off : State → State} {s t u : State}

theorem Only.refl : Only l off s s := ⟨.refl, rfl⟩

theorem Only.trans (h : Only l off s t) (k : Only l off t u) : Only l off s u := ⟨h.regs.trans k.regs, k.rest.trans h.rest⟩

theorem Only.mono {m : List Fld} (h : Only l off s u) (k : ∀ f ∈ l, f ∈ m) : Only m off s u := ⟨h.regs.mono k, h.rest⟩

/-- Kept over a write, as an equation for the simplifier. -/
theorem kept_wr {f : Fld} {v : Nat} (m : f ∈ l) : Kept l s (t.wr f v) ↔ Kept l s t :=
  ⟨fun h g hg => by rw [← h g hg, rd_wr_ne _ _ _ _ fun e i => hg f m ⟨e, i⟩], fun h => h.wr m⟩

/-- What `off` must not leave out for calm to be kept. -/
structure OffCalm (off : State → State) : Prop where
  todo : ∀ x, (off x).todo = x.todo
  passes : ∀ x, ∀ v < 4, ((off x).pas v).rungDelay = (x.pas v).rungDelay
  dom : ∀ x, (off x).power.dom = x.power.dom
  boot : ∀ x, (off x).boot = x.boot

theorem Only.calm (h : Only l off s u) (c : Calm s) (o : OffCalm off) (hl : ∀ f ∈ l, f.id ∉ calmRegs) : Calm u := by
  have e := h.rest
  refine c.keep ?_ (fun v hv => ?_) ?_ ?_ fun g hg => h.regs g fun x hx y => hl x hx (y.1 ▸ hg)
  · rw [← o.todo u, e, o.todo]
  · rw [← o.passes u v hv, e, o.passes s v hv]
  · rw [← o.dom u, e, o.dom]
  · rw [← o.boot u, e, o.boot]

/-- The end of a step changes nothing that `off` keeps, where `off` looks at the rest alone. -/
theorem Only.vectors (h : Only l off s u) (o : ∀ x, off (vectors x) = off x) : Only l off s (vectors u) :=
  ⟨kept_vectors.2 h.regs, (o u).trans h.rest⟩

/-- A command whose effect `w` stays within a frame answers it, with the vectors looked at. -/
theorem only_next {c : Instr} {w : State} (hc : Calm s) (hx : exec c s = done w) (h : Only l off s w) (o : OffCalm off)
    (hl : ∀ f ∈ l, f.id ∉ calmRegs) : exec c s = .next (vectors w) := by rw [hx, done_calm (h.calm hc o hl)]

theorem offCalm_rest : OffCalm State.rest := ⟨fun _ => rfl, fun _ _ _ => rfl, fun _ => rfl, fun _ => rfl⟩

section
variable (s : State) (i : Nat) (f : RxFrame)
@[simp] theorem bankPut_regs : (s.bankPut i f).regs = s.regs := rfl
@[simp] theorem bankPut_rd (g : Fld) : (s.bankPut i f).rd g = s.rd g := rfl
@[simp] theorem bankPut_drp (d : Nat) : (s.bankPut i f).drp d = s.drp d := rfl
@[simp] theorem bankPut_trk (d : Nat) : (s.bankPut i f).trk d = s.trk d := rfl
@[simp] theorem bankPut_pas (d : Nat) : (s.bankPut i f).pas d = s.pas d := rfl
@[simp] theorem bankPut_out : (s.bankPut i f).out = s.out := rfl
@[simp] theorem bankPut_bank : tget [] (s.bankPut i f).rxBank i = tget [] s.rxBank i ++ [f] := by simp [State.bankPut]
@[simp] theorem kept_bankPut : Kept l t (s.bankPut i f) ↔ Kept l t s := Iff.rfl
end

/-! ## What the parts leave out -/

section
variable (s : State) (n : Nat)
@[simp] theorem offDrp_wr (f : Fld) (v : Nat) : (s.wr f v).offDrp n = s.offDrp n := rfl
@[simp] theorem offDrp_send (x : Out) : (s.send x).offDrp n = s.offDrp n := rfl
@[simp] theorem offDrp_vectors : (vectors s).offDrp n = s.offDrp n := by
  unfold State.offDrp
  simp
@[simp] theorem offDrp_modDrp (g : Drop → Drop) : (s.modDrp n g).offDrp n = s.offDrp n := by
  simp [State.offDrp, State.modDrp, State.rest]
theorem offCalm_offDrp : OffCalm (State.offDrp n) := ⟨fun _ => rfl, fun _ _ _ => rfl, fun _ => rfl, fun _ => rfl⟩
@[simp] theorem offBank_wr (f : Fld) (v : Nat) : (s.wr f v).offBank n = s.offBank n := rfl
@[simp] theorem offBank_send (x : Out) : (s.send x).offBank n = s.offBank n := rfl
@[simp] theorem offBank_vectors : (vectors s).offBank n = s.offBank n := by
  unfold State.offBank
  simp
@[simp] theorem offBank_bankPut (f : RxFrame) : (s.bankPut n f).offBank n = s.offBank n := by
  simp [State.offBank, State.bankPut, State.rest]
theorem offCalm_offBank : OffCalm (State.offBank n) := ⟨fun _ => rfl, fun _ _ _ => rfl, fun _ => rfl, fun _ => rfl⟩
@[simp] theorem offPas_wr (f : Fld) (v : Nat) : (s.wr f v).offPas n = s.offPas n := rfl
@[simp] theorem offPas_send (x : Out) : (s.send x).offPas n = s.offPas n := rfl
@[simp] theorem offPas_vectors : (vectors s).offPas n = s.offPas n := by
  unfold State.offPas
  simp
@[simp] theorem offPas_modPass (g : Pass → Pass) : (s.modPass n g).offPas n = s.offPas n := by
  simp [State.offPas, State.modPass, State.rest]
@[simp] theorem offHln_wr (f : Fld) (v : Nat) : (s.wr f v).offHln n = s.offHln n := rfl
@[simp] theorem offHln_send (x : Out) : (s.send x).offHln n = s.offHln n := rfl
@[simp] theorem offHln_vectors : (vectors s).offHln n = s.offHln n := by
  unfold State.offHln
  simp
@[simp] theorem offHln_modHln (g : HLane → HLane) : (s.modHln n g).offHln n = s.offHln n := by
  simp [State.offHln, State.modHln, State.rest]
theorem offCalm_offHln : OffCalm (State.offHln n) := ⟨fun _ => rfl, fun _ _ _ => rfl, fun _ => rfl, fun _ => rfl⟩
@[simp] theorem offTrk_wr (f : Fld) (v : Nat) : (s.wr f v).offTrk n = s.offTrk n := rfl
@[simp] theorem offTrk_send (x : Out) : (s.send x).offTrk n = s.offTrk n := rfl
@[simp] theorem offTrk_vectors : (vectors s).offTrk n = s.offTrk n := by
  unfold State.offTrk
  simp
@[simp] theorem offTrk_modTrk (g : Trunk → Trunk) : (s.modTrk n g).offTrk n = s.offTrk n := by
  simp [State.offTrk, State.modTrk, State.rest]
theorem offCalm_offTrk : OffCalm (State.offTrk n) := ⟨fun _ => rfl, fun _ _ _ => rfl, fun _ => rfl, fun _ => rfl⟩
@[simp] theorem offTwin_wr (f : Fld) (v : Nat) : (s.wr f v).offTwin n = s.offTwin n := rfl
@[simp] theorem offTwin_send (x : Out) : (s.send x).offTwin n = s.offTwin n := rfl
@[simp] theorem offTwin_vectors : (vectors s).offTwin n = s.offTwin n := by
  unfold State.offTwin
  simp
@[simp] theorem offTwin_modTwin (g : Twin → Twin) : (s.modTwin n g).offTwin n = s.offTwin n := by
  simp [State.offTwin, State.modTwin, State.rest]
theorem offCalm_offTwin : OffCalm (State.offTwin n) := ⟨fun _ => rfl, fun _ _ _ => rfl, fun _ => rfl, fun _ => rfl⟩
@[simp] theorem offCa_wr (f : Fld) (v : Nat) : (s.wr f v).offCa n = s.offCa n := rfl
@[simp] theorem offCa_send (x : Out) : (s.send x).offCa n = s.offCa n := rfl
@[simp] theorem offCa_vectors : (vectors s).offCa n = s.offCa n := by
  unfold State.offCa
  simp
@[simp] theorem offCa_modCa (g : Ca → Ca) : (s.modCa n g).offCa n = s.offCa n := by
  simp [State.offCa, State.modCa, State.rest]
theorem offCalm_offCa : OffCalm (State.offCa n) := ⟨fun _ => rfl, fun _ _ _ => rfl, fun _ => rfl, fun _ => rfl⟩
end

@[simp] theorem counted_vectors {f : Fld} {n : Nat} : Counted f n s (vectors u) ↔ Counted f n s u := by simp [Counted]
@[simp] theorem wrapped_vectors {f : Fld} {n : Nat} : Wrapped f n s (vectors u) ↔ Wrapped f n s u := by simp [Wrapped]

theorem sat_rd (s : State) (f : Fld) (n : Nat) : (s.sat f n).rd f = min (s.rd f + n) (2 ^ f.width - 1) := by
  unfold State.sat
  rw [rd_wr_self]
  have := Nat.two_pow_pos f.width
  exact Nat.mod_eq_of_lt (by omega)

theorem add_rd (s : State) (f : Fld) (n : Nat) : (s.add f n).rd f = (s.rd f + n) % 2 ^ f.width := by
  unfold State.add
  rw [rd_wr_self]

theorem sat_rd_ne (s : State) (f g : Fld) (n : Nat) (h : f.id = g.id → f.ix ≠ g.ix) : (s.sat f n).rd g = s.rd g :=
  rd_wr_ne s f g _ h

theorem add_rd_ne (s : State) (f g : Fld) (n : Nat) (h : f.id = g.id → f.ix ≠ g.ix) : (s.add f n).rd g = s.rd g :=
  rd_wr_ne s f g _ h

/-- Two edits of one part are one. -/
theorem modTrk_modTrk (s : State) (n : Nat) (f g : Trunk → Trunk) : (s.modTrk n f).modTrk n g = s.modTrk n fun x => g (f x) := by
  simp [State.modTrk, State.trk]

/-- An edit of a part looks at that part alone. -/
theorem modTrk_congr {s : State} {n : Nat} {f g : Trunk → Trunk} (h : f (s.trk n) = g (s.trk n)) : s.modTrk n f = s.modTrk n g := by
  simp [State.modTrk, h]

/-- Two edits of one part are one. -/
theorem modDrp_modDrp (s : State) (n : Nat) (f g : Drop → Drop) : (s.modDrp n f).modDrp n g = s.modDrp n fun x => g (f x) := by
  simp [State.modDrp, State.drp]

/-- An edit of a part looks at that part alone. -/
theorem modDrp_congr {s : State} {n : Nat} {f g : Drop → Drop} (h : f (s.drp n) = g (s.drp n)) : s.modDrp n f = s.modDrp n g := by
  simp [State.modDrp, h]

/-- Two edits of one part are one. -/
theorem modPass_modPass (s : State) (n : Nat) (f g : Pass → Pass) : (s.modPass n f).modPass n g = s.modPass n fun x => g (f x) := by
  simp [State.modPass, State.pas]

/-- An edit of a part looks at that part alone. -/
theorem modPass_congr {s : State} {n : Nat} {f g : Pass → Pass} (h : f (s.pas n) = g (s.pas n)) : s.modPass n f = s.modPass n g := by
  simp [State.modPass, h]

/-- Two edits of one part are one. -/
theorem modTwin_modTwin (s : State) (n : Nat) (f g : Twin → Twin) : (s.modTwin n f).modTwin n g = s.modTwin n fun x => g (f x) := by
  simp [State.modTwin, State.twin]

/-- An edit of a part looks at that part alone. -/
theorem modTwin_congr {s : State} {n : Nat} {f g : Twin → Twin} (h : f (s.twin n) = g (s.twin n)) : s.modTwin n f = s.modTwin n g := by
  simp [State.modTwin, h]

/-- Two edits of one part are one. -/
theorem modHln_modHln (s : State) (n : Nat) (f g : HLane → HLane) : (s.modHln n f).modHln n g = s.modHln n fun x => g (f x) := by
  simp [State.modHln, State.hln]

/-- An edit of a part looks at that part alone. -/
theorem modHln_congr {s : State} {n : Nat} {f g : HLane → HLane} (h : f (s.hln n) = g (s.hln n)) : s.modHln n f = s.modHln n g := by
  simp [State.modHln, h]

end Sys2Proof.Machine
end

