-- ==== Sys2Proof/Laws/Record.lean ====
section
/-! SUPPORT. What recording an error does where nothing reacts to it. -/

namespace Sys2Proof.Machine

variable {l : List Fld} {off : State → State} {s t u : State} {src cls kind detail : Nat}

theorem offCalm_offWatch : OffCalm State.offWatch := ⟨fun _ => rfl, fun _ _ _ => rfl, fun _ => rfl, fun _ => rfl⟩

@[simp] theorem offWatch_vectors (s : State) : (vectors s).offWatch = s.offWatch := by
  unfold State.offWatch
  simp
@[simp] theorem offWatch_wr (s : State) (f : Fld) (v : Nat) : (s.wr f v).offWatch = s.offWatch := rfl
@[simp] theorem offWatch_send (s : State) (x : Out) : (s.send x).offWatch = s.offWatch := rfl
@[simp] theorem offWatch_free (s : State) (w : Nat) : (s.free w).2.offWatch = s.offWatch := rfl
@[simp] theorem offWatch_message (s : State) (n : Nat) : (s.message n).offWatch = s.offWatch := by
  obtain ⟨o, p, e⟩ := message_keeps s n
  rw [e]; rfl
@[simp] theorem message_regs (s : State) (n : Nat) : (s.message n).regs = s.regs := by
  obtain ⟨o, p, e⟩ := message_keeps s n
  rw [e]
@[simp] theorem message_rd (s : State) (n : Nat) (f : Fld) : (s.message n).rd f = s.rd f := by
  simp [State.rd]
@[simp] theorem free_rd (s : State) (w : Nat) (f : Fld) : (s.free w).2.rd f = s.rd f := rfl

theorem kept_message {n : Nat} : Kept l s (t.message n) ↔ Kept l s t := by
  simp [Kept]

/-- Fields that agree need no repair. -/
theorem voteRepair_agree {f : Fld} {o : Nat} (h : (s.copies f).1 = (s.copies f).2.1 ∧ (s.copies f).1 = (s.copies f).2.2) :
    s.voteRepair f src o = s := by
  unfold State.voteRepair
  simp only [h]
  simp [← h.1, ← h.2]

theorem rdV_agree {f : Fld} (h : (s.copies f).1 = (s.copies f).2.1 ∧ (s.copies f).1 = (s.copies f).2.2) :
    s.rdV f = s.rd f := by
  unfold State.rdV
  simp [vote3, h.1]
  rw [← h.1]; rfl

theorem Loggable.useReact (h : Loggable src s) : s.useReact src = s := by
  have a := fun f hf => h.agree f hf
  unfold State.useReact
  simp only
  rw [voteRepair_agree (a _ (by simp)), voteRepair_agree (a _ (by simp)), voteRepair_agree (a _ (by simp))]

/-- Loggable looks at registers and parts that few commands touch. -/
theorem Loggable.congr (h : Loggable src s) (hb : t.boot = s.boot) (hB : t.regsB = s.regsB) (hC : t.regsC = s.regsC)
    (hr : ∀ f ∈ [R.WATCH_REACT_GRACE_MS src, R.WATCH_REACT_F_ACTION src, R.WATCH_REACT_U_ACTION src,
      R.WATCH_SLOT_HDR_VALID src, R.PWR_STAT_HOST_RUNG], t.rd f = s.rd f) : Loggable src t where
  live := by rw [hb]; exact h.live
  test := by rw [hb]; exact h.test
  free := by
    have := hr (R.WATCH_SLOT_HDR_VALID src) (by simp)
    simpa [State.slotHeld, State.bit, this] using h.free
  agree := fun f hf => by
    have a := h.agree f hf
    have r : t.rd f = s.rd f := hr f (by simp only [List.mem_cons, List.not_mem_nil, or_false] at hf ⊢; tauto)
    simpa [State.copies, hB, hC, r] using a
  noAction := by rw [hr _ (by simp)]; exact h.noAction
  awake := by rw [hr _ (by simp)]; exact h.awake

section
variable (s : State)
@[simp] theorem logPut_regs (e : LogEntry) : (s.logPut e).regs = s.regs := rfl
@[simp] theorem logPut_rd (e : LogEntry) (f : Fld) : (s.logPut e).rd f = s.rd f := rfl
@[simp] theorem offWatch_logPut (e : LogEntry) : (s.logPut e).offWatch = s.offWatch := rfl
@[simp] theorem pinLatch_regs : s.pinLatch.regs = s.regs := rfl
@[simp] theorem pinLatch_rd (f : Fld) : s.pinLatch.rd f = s.rd f := rfl
@[simp] theorem offWatch_pinLatch : s.pinLatch.offWatch = s.offWatch := rfl
@[simp] theorem graceStart_rd (n m : Nat) (f : Fld) : (s.graceStart n m).rd f = s.rd f := rfl
@[simp] theorem offWatch_graceStart (n m : Nat) : (s.graceStart n m).offWatch = s.offWatch := rfl
theorem kept_logPut {e : LogEntry} : Kept l t (s.logPut e) ↔ Kept l t s := Iff.rfl
theorem kept_pinLatch : Kept l t s.pinLatch ↔ Kept l t s := Iff.rfl
theorem kept_graceStart {n m : Nat} : Kept l t (s.graceStart n m) ↔ Kept l t s := Iff.rfl
end

/-- The slot is written, and nothing else. -/
theorem recordSlot_only (hd : s.rd R.PWR_STAT_HOST_RUNG < 2) (r : Reaction) :
    Only (slotFields src cls) State.offWatch s (s.recordSlot src cls kind detail r) := by
  unfold State.recordSlot State.logEntry
  simp only
  rw [if_neg (by omega)]
  refine ⟨?_, ?_⟩
  · split <;> split <;>
      simp [State.sat, State.wrb, State.slotWrite, kept_wr, kept_logPut, kept_pinLatch, kept_graceStart, slotFields, Kept.refl]
  · split <;> split <;> simp [State.sat, State.wrb, State.slotWrite]

theorem slotWrite_rd_ne {seq : Nat} {hold : Bool} {r : Reaction} {g : Fld}
    (h : ∀ f ∈ slotFields src cls, ¬ f.same g) : (s.slotWrite src cls kind detail seq hold r).rd g = s.rd g := by
  have : Kept (slotFields src cls) s (s.slotWrite src cls kind detail seq hold r) := by
    simp [State.slotWrite, State.wrb, kept_wr, slotFields, Kept.refl]
  exact this g h

theorem recordSlot_logged (hd : s.rd R.PWR_STAT_HOST_RUNG < 2) (r : Reaction) (hc : cls < 4)
    (hk : kind < 256) : Logged src cls kind s (s.recordSlot src cls kind detail r) := by
  have hq : s.rd R.WATCH_LOG_HEAD_SEQ < 2 ^ 32 := rd_lt s _
  have hn : min (s.rd (R.WATCH_CNT_COUNT (cls - 1)) + 1) (2 ^ 32 - 1) < 2 ^ 32 := by omega
  unfold State.recordSlot
  simp only
  rw [if_neg (by omega)]
  generalize hh : (!decide (cls = 1 ∧ s.bit R.WATCH_CTL_AUTO_C = true)) = hold
  generalize ht : ((s.logEntry src cls r.fixed kind r.now r.grace s.mode detail).sat (R.WATCH_CNT_COUNT (cls - 1)) 1) = t
  have h1 : t.rd R.WATCH_LOG_HEAD_SEQ = (s.rd R.WATCH_LOG_HEAD_SEQ + 1) % 2 ^ 32 := by
    subst ht; simp [State.sat, State.logEntry, rd_wr_ne]
  have h2 : t.rd (R.WATCH_CNT_COUNT (cls - 1)) = min (s.rd (R.WATCH_CNT_COUNT (cls - 1)) + 1) (2 ^ 32 - 1) := by
    subst ht; simp [State.sat, State.logEntry, rd_wr_ne]
  have hb : (!(decide (cls = 1) && s.bit R.WATCH_CTL_AUTO_C)) = hold := by
    rw [← hh]; simp
  have key : Logged src cls kind s (t.slotWrite src cls kind detail (s.rd R.WATCH_LOG_HEAD_SEQ) hold r) := by
    unfold Logged
    rw [hb]
    refine ⟨?_, ?_, ?_, ?_, ?_, ?_⟩
    · simp [State.slotHeld, State.bit, State.slotWrite, State.wrb, rd_wr_ne]
      cases hold <;> simp [b2n]
    · simp [State.slotWrite, State.wrb, rd_wr_ne]; omega
    · simp [State.slotWrite, State.wrb, rd_wr_ne]; omega
    · simp [State.slotWrite]; exact hq
    · rw [← h1]; simp [State.slotWrite, State.wrb, rd_wr_ne]
    · rw [← h2]; simp [State.slotWrite, State.wrb, rd_wr_ne]
  split <;> split <;> exact key

theorem underTest_none {b : Block} (h : s.boot.selfTest = none) : s.underTest b = false := by
  unfold State.underTest; rw [h]

/-- The reaction to a loggable error: none. -/
theorem Loggable.reaction (h : Loggable src s) (hc : cls = 1 ∨ cls = 2) : s.reactionOf src cls none true = ⟨0, false, 0, false⟩ := by
  have e : s.rdV (R.WATCH_REACT_U_ACTION src) = 0 := by rw [rdV_agree (h.agree _ (by simp))]; exact h.noAction
  unfold State.reactionOf
  rcases hc with hc | hc <;> simp [hc, e, tbit]

theorem abortTestOf_none (h : s.boot.selfTest = none) : s.abortTestOf src = s := by
  unfold State.abortTestOf; rw [h]

/-- An error of class C or U that is only recorded. -/
theorem record_eq (h : Loggable src s) (hc : cls = 1 ∨ cls = 2) :
    s.recordWith src cls kind detail none true = s.recordSlot src cls kind detail ⟨0, false, 0, false⟩ := by
  have h1 : s.boot.reactionsLive = true := h.live
  have h2 := fun b => underTest_none (b := b) h.test
  have h3 := h.reaction hc
  have h4 : s.slotHeld src = false := h.free
  have h5 := h.useReact
  unfold State.recordWith
  rcases hc with hc | hc <;> subst hc <;> simp [h1, h2, h3, h4, h5, State.oweAction]

/-- An error with the fixed reaction INTERRUPT is recorded, and vector 0 sent. -/
theorem record_int (h : Loggable src s) :
    s.recordWith src cls kind detail (some 1) true = (s.recordSlot src cls kind detail ⟨1, false, 0, true⟩).message 0 := by
  have h2 := fun b => underTest_none (b := b) h.test
  have h4 : s.slotHeld src = false := h.free
  have h6 : ((s.recordSlot src cls kind detail ⟨1, false, 0, true⟩).message 0).boot.selfTest = none := by
    have e := (recordSlot_only (src := src) (cls := cls) (kind := kind) (detail := detail) h.awake ⟨1, false, 0, true⟩).rest
    have e2 : ((s.recordSlot src cls kind detail ⟨1, false, 0, true⟩).message 0).boot = s.boot := by
      have := congrArg State.boot ((offWatch_message (s.recordSlot src cls kind detail ⟨1, false, 0, true⟩) 0).trans e)
      exact this
    rw [e2]; exact h.test
  have h5 := abortTestOf_none (src := src) h6
  unfold State.recordWith
  simp [h2, h4, State.reactionOf, State.oweAction, h5]

/-- An error that is only recorded: what it writes. -/
theorem record_only (h : Loggable src s) (hc : cls = 1 ∨ cls = 2) :
    Only (slotFields src cls) State.offWatch s (s.recordWith src cls kind detail none true) := by
  rw [record_eq h hc]; exact recordSlot_only h.awake _

theorem record_logged (h : Loggable src s) (hc : cls = 1 ∨ cls = 2) (hk : kind < 256) :
    Logged src cls kind s (s.recordWith src cls kind detail none true) := by
  rw [record_eq h hc]; exact recordSlot_logged h.awake _ (by omega) hk

theorem Logged.vectors (h : Logged src cls kind s t) : Logged src cls kind s (Machine.vectors t) := by
  unfold Logged State.slotHeld at *
  simpa using h

/-- The record looked at from an earlier state that agrees on the log, the counts and AUTO_C. -/
theorem Logged.from (h : Logged src cls kind s t) (a : s.rd R.WATCH_LOG_HEAD_SEQ = u.rd R.WATCH_LOG_HEAD_SEQ)
    (b : s.rd (R.WATCH_CNT_COUNT (cls - 1)) = u.rd (R.WATCH_CNT_COUNT (cls - 1)))
    (c : s.rd R.WATCH_CTL_AUTO_C = u.rd R.WATCH_CTL_AUTO_C) : Logged src cls kind u t := by
  unfold Logged State.bit at *
  rw [← a, ← b, ← c]
  exact h

/-! ## A command that records an error -/

/-- The registers that a loggable error rests on. -/
def logRegs : List Nat :=
  [(R.WATCH_REACT_GRACE_MS 0).id, (R.WATCH_REACT_F_ACTION 0).id, (R.WATCH_REACT_U_ACTION 0).id,
   (R.WATCH_SLOT_HDR_VALID 0).id, R.PWR_STAT_HOST_RUNG.id, R.WATCH_LOG_HEAD_SEQ.id, (R.WATCH_CNT_COUNT 0).id,
   R.WATCH_CTL_AUTO_C.id]

/-- What `off` must not leave out for a loggable error to stay one. -/
structure OffLog (off : State → State) : Prop where
  boot : ∀ x, (off x).boot = x.boot
  regsB : ∀ x, (off x).regsB = x.regsB
  regsC : ∀ x, (off x).regsC = x.regsC

theorem Loggable.only (h : Loggable src s) (k : Only l off s t) (o : OffLog off) (hl : ∀ f ∈ l, f.id ∉ logRegs) :
    Loggable src t := by
  have e := k.rest
  have r : ∀ f : Fld, f.id ∈ logRegs → t.rd f = s.rd f := fun f hf => k.regs f fun x hx y => hl x hx (y.1 ▸ hf)
  refine h.congr ?_ ?_ ?_ fun f hf => r f ?_
  · rw [← o.boot t, e, o.boot]
  · rw [← o.regsB t, e, o.regsB]
  · rw [← o.regsC t, e, o.regsC]
  · simp only [List.mem_cons, List.not_mem_nil, or_false] at hf
    rcases hf with h | h | h | h | h <;> subst h <;> simp [logRegs]

/-- One frame after another, each over its own part. -/
theorem Only.then {m : List Fld} {offB : State → State} (h : Only l off s t) (k : Only m offB t u)
    (c : ∀ x, offB (off x) = off (offB x)) : Only (l ++ m) (fun x => offB (off x)) s u where
  regs := (h.regs.mono fun _ => List.mem_append_left _).trans (k.regs.mono fun _ => List.mem_append_right _)
  rest := by show offB (off u) = offB (off s); rw [c, k.rest, ← c, h.rest]

/-- A command that does its own part and records an error without a known detail. -/
theorem record_next {c : Instr} {w : State} (hc : Calm s) (hg : Loggable src s)
    (hx : exec c s = done (w.recordFree src cls kind none)) (h : Only l off s w) (o : OffCalm off) (ol : OffLog off)
    (hm : ∀ x, (off x).offWatch = off x.offWatch) (hl : ∀ f ∈ l, f.id ∉ calmRegs ++ logRegs) (hcl : cls = 1 ∨ cls = 2)
    (hk : kind < 256) : ∃ u, exec c s = .next (vectors u) ∧ Only (l ++ slotFields src cls) (fun x => (off x).offWatch) s u ∧
      Logged src cls kind s u ∧ Only (slotFields src cls) State.offWatch w u := by
  have hw : Loggable src w := hg.only h ol fun f hf n => hl f hf (List.mem_append_right _ n)
  have hw2 : Loggable src (w.free 32).2 := hw.congr rfl rfl rfl fun _ _ => rfl
  have k : Only (slotFields src cls) State.offWatch w (w.recordFree src cls kind none) := by
    have := record_only (kind := kind) (detail := (w.free 32).1) hw2 hcl
    exact ⟨this.regs, this.rest⟩
  have kk := h.then k hm
  have hcalm : Calm w := h.calm hc o fun f hf n => hl f hf (List.mem_append_left _ n)
  refine ⟨_, ?_, kk, ?_, k⟩
  · rw [hx, done_calm (k.calm hcalm offCalm_offWatch (by simp [slotFields, calmRegs]))]
  · have := record_logged (kind := kind) (detail := (w.free 32).1) hw2 hcl hk
    have r : ∀ f : Fld, f.id ∈ logRegs → w.rd f = s.rd f := fun f hf => h.regs f fun x hx y =>
      hl x hx (List.mem_append_right _ (y.1 ▸ hf))
    exact this.from (r _ (by simp [logRegs])) (r _ (by simp [logRegs])) (r _ (by simp [logRegs]))

/-- A command that does its own part and records an error of class F with the fixed reaction INTERRUPT. -/
theorem record_int_next {c : Instr} {w : State} (hc : Calm s) (hg : Loggable src s)
    (hx : exec c s = done (w.recordFree src cls kind (some 1))) (h : Only l off s w) (o : OffCalm off) (ol : OffLog off)
    (hm : ∀ x, (off x).offWatch = off x.offWatch) (hl : ∀ f ∈ l, f.id ∉ calmRegs ++ logRegs) (hcl : cls < 4)
    (hk : kind < 256) : ∃ u, exec c s = .next (vectors u) ∧ Only (l ++ slotFields src cls) (fun x => (off x).offWatch) s u ∧
      Logged src cls kind s u ∧ u.rd (R.WATCH_SLOT_HDR_APPLIED src) = 1 ∧ Only (slotFields src cls) State.offWatch w u := by
  have hw : Loggable src w := hg.only h ol fun f hf n => hl f hf (List.mem_append_right _ n)
  have hw2 : Loggable src (w.free 32).2 := hw.congr rfl rfl rfl fun _ _ => rfl
  have e := record_int (cls := cls) (kind := kind) (detail := (w.free 32).1) hw2
  have k1 := recordSlot_only (src := src) (cls := cls) (kind := kind) (detail := (w.free 32).1) hw2.awake ⟨1, false, 0, true⟩
  have k2 := recordSlot_logged (src := src) (cls := cls) (kind := kind) (detail := (w.free 32).1) hw2.awake ⟨1, false, 0, true⟩ hcl hk
  have k : Only (slotFields src cls) State.offWatch w (w.recordFree src cls kind (some 1)) := by
    unfold State.recordFree
    simp only
    rw [e]
    exact ⟨kept_message.2 k1.regs, (offWatch_message _ _).trans k1.rest⟩
  have kk := h.then k hm
  have hcalm : Calm w := h.calm hc o fun f hf n => hl f hf (List.mem_append_left _ n)
  refine ⟨_, ?_, kk, ?_, ?_, k⟩
  · rw [hx, done_calm (k.calm hcalm offCalm_offWatch (by simp [slotFields, calmRegs]))]
  · have r : ∀ f : Fld, f.id ∈ logRegs → w.rd f = s.rd f := fun f hf => h.regs f fun x hx y =>
      hl x hx (List.mem_append_right _ (y.1 ▸ hf))
    have := k2.from (u := s) (r _ (by simp [logRegs])) (r _ (by simp [logRegs])) (r _ (by simp [logRegs]))
    unfold State.recordFree
    simp only
    rw [e]
    unfold Logged State.slotHeld State.bit at *
    simpa using this
  · unfold State.recordFree
    simp only
    rw [e, message_rd]
    unfold State.recordSlot
    simp only
    rw [if_neg (by have := hw2.awake; omega)]
    split <;> split <;> simp [State.slotWrite, rd_wr_ne]

/-- What an equation over the Watch's part says of another part. -/
theorem offWatch_part {α : Type} (g : State → α) (h : u.offWatch = t.offWatch) : g u.offWatch = g t.offWatch := congrArg g h

end Sys2Proof.Machine
end

