-- ==== Sys2Proof/Laws/Trunk.lean ====
section
/-! SUPPORT. Laws of the trunks: what the shared operations of a trunk change, and that they change nothing else. -/

namespace Sys2Proof.Machine

variable {l : List Fld} {t : Nat} {s u : State}

theorem TrkOnly.refl : TrkOnly l t s s := ⟨.refl, fun _ _ => rfl, rfl, rfl⟩

theorem TrkOnly.trans {w : State} (h : TrkOnly l t s u) (k : TrkOnly l t u w) : TrkOnly l t s w :=
  ⟨h.regs.trans k.regs, fun n hn => (k.others n hn).trans (h.others n hn), k.line.trans h.line, k.rest.trans h.rest⟩

theorem TrkOnly.mono {m : List Fld} (h : TrkOnly l t s u) (k : ∀ f ∈ l, f ∈ m) : TrkOnly m t s u :=
  ⟨h.regs.mono k, h.others, h.line, h.rest⟩

theorem TrkOnly.wr (h : TrkOnly l t s u) {f : Fld} {v : Nat} (m : f ∈ l) : TrkOnly l t s (u.wr f v) :=
  ⟨h.regs.wr m, h.others, h.line, h.rest⟩

theorem TrkOnly.modTrk (h : TrkOnly l t s u) {g : Trunk → Trunk}
    (b : ∀ x, lineBusy (g x) = lineBusy x := by intro; rfl) : TrkOnly l t s (u.modTrk t g) :=
  ⟨h.regs, fun k hk => by rw [modTrk_trk_ne _ _ (Ne.symm hk)]; exact h.others k hk, by
    rw [modTrk_trk_self, b]; exact h.line, h.rest⟩

theorem TrkOnly.send (h : TrkOnly l t s u) {x : Out} : TrkOnly l t s (u.send x) :=
  ⟨h.regs, h.others, h.line, h.rest⟩

/-- A command that leaves the registers and the trunks alone, and nothing but reports, credit and free values changed. -/
theorem TrkOnly.same {w : State} (h : TrkOnly l t s u) (a : w.regs = u.regs) (b : w.trunks = u.trunks)
    (c : w.offTrunk = u.offTrunk) : TrkOnly l t s w :=
  ⟨h.regs.of_regs a, fun k hk => by rw [← h.others k hk, State.trk, b, State.trk], by
    rw [← h.line, State.trk, b, State.trk], c.trans h.rest⟩

theorem TrkOnly.frameLost (h : TrkOnly l t s u) {p : Nat} {f : TxFrame} : TrkOnly l t s (Machine.frameLost p f u) := by
  refine h.same ?_ ?_ ?_ <;> unfold Machine.frameLost creditBack stampReport <;> split <;> rfl

theorem TrkOnly.foldl {α : Type} {g : State → α → State} (hg : ∀ w a, TrkOnly l t s w → TrkOnly l t s (g w a))
    (h : TrkOnly l t s u) (L : List α) : TrkOnly l t s (L.foldl g u) := by
  induction L generalizing u with
  | nil => exact h
  | cons a L ih => exact ih (hg u a h)

/-! ## The equaliser -/

/-- The fields that clearing and stopping the echo canceller touch. -/
def echoFields (t : Nat) : List Fld :=
  ((upto 8).map fun w => R.TRK_EC_WIN_STATE t w) ++
    [R.TRK_EC_STAT_ACTIVE t, R.TRK_EC_STAT_REPLACING t, R.TRK_EC_STAT_PENDING t, R.TRK_EC_MOVE_CNT_RELEASED t]

theorem mem_upto {k n : Nat} : k ∈ upto n ↔ k < n := by
  induction n with
  | zero => simp [upto]
  | succ n ih => simp [upto, ih]; omega

theorem TrkOnly.winPark (h : TrkOnly l t s u) {w : Nat} (a : R.TRK_EC_WIN_STATE t w ∈ l) (b : R.TRK_EC_STAT_ACTIVE t ∈ l) :
    TrkOnly l t s (Machine.winPark t w u) := by
  unfold Machine.winPark State.modEq winSet
  exact ((h.wr a).wr b).modTrk

theorem TrkOnly.winSet (h : TrkOnly l t s u) {w n : Nat} (a : R.TRK_EC_WIN_STATE t w ∈ l)
    (b : R.TRK_EC_STAT_ACTIVE t ∈ l) : TrkOnly l t s (Machine.winSet t w n u) := by
  unfold Machine.winSet
  exact (h.wr a).wr b

theorem TrkOnly.foldl_mem {α : Type} {g : State → α → State} {L : List α}
    (hg : ∀ w, ∀ a ∈ L, TrkOnly l t s w → TrkOnly l t s (g w a)) (h : TrkOnly l t s u) : TrkOnly l t s (L.foldl g u) := by
  induction L generalizing u with
  | nil => exact h
  | cons a L ih => exact ih (fun w b hb => hg w b (.tail _ hb)) (hg u a (.head _) h)

theorem TrkOnly.echoClear (h : TrkOnly l t s u) (hl : ∀ f ∈ echoFields t, f ∈ l) : TrkOnly l t s (Machine.echoClear t u) := by
  have hw : ∀ w, w < 8 → R.TRK_EC_WIN_STATE t w ∈ l :=
    fun w hw => hl _ (by simp only [echoFields, List.mem_append, List.mem_map]; exact .inl ⟨w, mem_upto.2 hw, rfl⟩)
  have ha : R.TRK_EC_STAT_ACTIVE t ∈ l := hl _ (by simp [echoFields])
  have hr : R.TRK_EC_STAT_REPLACING t ∈ l := hl _ (by simp [echoFields])
  have hp : R.TRK_EC_STAT_PENDING t ∈ l := hl _ (by simp [echoFields])
  have f : TrkOnly l t s ((unpinned t u).foldl (fun a w => Machine.winPark t w a) u) :=
    TrkOnly.foldl_mem (fun w k hk hw' => hw'.winPark (hw k (by
      simp only [unpinned, List.mem_filter, mem_upto] at hk; exact hk.1)) ha) h
  unfold Machine.echoClear State.modEq
  exact ((f.wr hr).wr hp).modTrk

theorem TrkOnly.echoRetrain (h : TrkOnly l t s u) (hl : ∀ f ∈ echoFields t, f ∈ l) :
    TrkOnly l t s (Machine.echoRetrain t u) := by
  have hw : ∀ w, w < 8 → R.TRK_EC_WIN_STATE t w ∈ l :=
    fun w hw => hl _ (by simp only [echoFields, List.mem_append, List.mem_map]; exact .inl ⟨w, mem_upto.2 hw, rfl⟩)
  have ha : R.TRK_EC_STAT_ACTIVE t ∈ l := hl _ (by simp [echoFields])
  have hr : R.TRK_EC_STAT_REPLACING t ∈ l := hl _ (by simp [echoFields])
  have hp : R.TRK_EC_STAT_PENDING t ∈ l := hl _ (by simp [echoFields])
  have hm : R.TRK_EC_MOVE_CNT_RELEASED t ∈ l := hl _ (by simp [echoFields])
  have f := TrkOnly.foldl_mem (L := upto 8) (g := fun a w =>
    if winState t w a = 3 then (Machine.winPark t w a).sat (R.TRK_EC_MOVE_CNT_RELEASED t) 1
    else if winState t w a = 2 then Machine.winSet t w 1 a else a) (l := l) (t := t) (s := s) (u := u)
    (fun w k hk hw' => by
      have hk := hw k (mem_upto.1 hk)
      split
      · exact (hw'.winPark hk ha).wr hm
      · split
        · exact hw'.winSet hk ha
        · exact hw') h
  unfold Machine.echoRetrain State.modEq
  exact ((f.wr hr).wr hp).modTrk

/-- The fields that the start values of full training touch. -/
def eqFields (t : Nat) : List Fld :=
  [R.TRK_EQ_RX_FREQ t, R.TRK_EQ_STAT_EC_CONV t, R.TRK_EQ_STAT_FFE_CONV t, R.TRK_EQ_STAT_DFE_CONV t,
   R.TRK_EQ_STAT_TIMING_LOCK t, R.TRK_EQ_STAT_IMPULSE t]

theorem TrkOnly.eqRestart (h : TrkOnly l t s u) (hl : ∀ f ∈ eqFields t, f ∈ l) : TrkOnly l t s (Machine.eqRestart t u) := by
  simp only [eqFields, List.forall_mem_cons, List.not_mem_nil, false_imp_iff, implies_true, and_true] at hl
  obtain ⟨a, b, c, d, e, f⟩ := hl
  unfold Machine.eqRestart State.modEq
  exact ((((((h.wr a).wr b).wr c).wr d).wr e).wr f).modTrk

/-! ## Entering a state -/

/-- The fields that entering AN touches. -/
def anFields (t : Nat) : List Fld :=
  [R.TRK_STAT_VALID t, R.TRK_STAT_PRECODE_TX t, R.TRK_STAT_PRECODE_RX t, R.TRK_STAT_MASTER t, R.TRK_TX_FIR_PRE t,
   R.TRK_TX_FIR_POST t, R.TRK_TX_FIR_AMP_HDB t, R.TRK_AN_STAT_DONE t]

theorem TrkOnly.enterAn (h : TrkOnly l t s u) (hl : ∀ f ∈ anFields t ++ eqFields t, f ∈ l) :
    TrkOnly l t s (Machine.enterAn t u) := by
  have he : ∀ f ∈ eqFields t, f ∈ l := fun f hf => hl f (List.mem_append_right _ hf)
  have ha : ∀ f ∈ anFields t, f ∈ l := fun f hf => hl f (List.mem_append_left _ hf)
  simp only [anFields, List.forall_mem_cons, List.not_mem_nil, false_imp_iff, implies_true, and_true] at ha
  obtain ⟨a, b, c, d, e, f, g, i⟩ := ha
  unfold Machine.enterAn
  exact (((((((((h.wr a).wr b).wr c).wr d).wr e).wr f).wr g).wr i).eqRestart he).modTrk

/-- The fields that entering DATA touches. -/
def dataFields (t : Nat) : List Fld :=
  [R.TRK_LINK_EVT_RETRAIN_DONE t, R.TRK_LINK_EVT_LINK_UP t, R.TRK_TRAIN_STAT_LAST_MS t, R.TRK_STAT_AM_LOCK t]

theorem TrkOnly.enterData (h : TrkOnly l t s u) {old : Nat} (hl : ∀ f ∈ dataFields t, f ∈ l) :
    TrkOnly l t s (Machine.enterData t old u) := by
  simp only [dataFields, List.forall_mem_cons, List.not_mem_nil, false_imp_iff, implies_true, and_true] at hl
  obtain ⟨a, b, c, d⟩ := hl
  unfold Machine.enterData
  refine TrkOnly.modTrk ?_ (by intro x; unfold lineBusy; dsimp only; split <;> rfl)
  have h1 : TrkOnly l t s (if old = 9 then u.evt (R.TRK_LINK_EVT_RETRAIN_DONE t) else u.evt (R.TRK_LINK_EVT_LINK_UP t)) := by
    split
    · exact h.wr a
    · exact h.wr b
  generalize (if old = 9 then u.evt (R.TRK_LINK_EVT_RETRAIN_DONE t) else u.evt (R.TRK_LINK_EVT_LINK_UP t)) = u1 at *
  have h2 : TrkOnly l t s (if old = 7 ∨ old = 13 then
      u1.wr (R.TRK_TRAIN_STAT_LAST_MS t) (min 0xFFFF ((u1.age - (u1.trk t).anAge) / msec)) else u1) := by
    split
    · exact h1.wr c
    · exact h1
  generalize (if old = 7 ∨ old = 13 then
      u1.wr (R.TRK_TRAIN_STAT_LAST_MS t) (min 0xFFFF ((u1.age - (u1.trk t).anAge) / msec)) else u1) = u2 at *
  have h3 : TrkOnly l t s (if old = 7 then (u2.free 8).2 else u2) := by
    split
    · exact h2.same rfl rfl rfl
    · exact h2
  split
  · exact h3.wr d
  · exact h3

/-- The fields that entering FULL_PAM4 touches. -/
def pamFields (t : Nat) : List Fld := [R.TRK_STAT_PRECODE_RX t, R.TRK_STAT_PRECODE_TX t, R.TRK_SNR_REF_QDB t]

theorem TrkOnly.enterPam4 (h : TrkOnly l t s u) (hl : ∀ f ∈ pamFields t, f ∈ l) : TrkOnly l t s (Machine.enterPam4 t u) := by
  simp only [pamFields, List.forall_mem_cons, List.not_mem_nil, false_imp_iff, implies_true, and_true] at hl
  obtain ⟨a, b, c⟩ := hl
  unfold Machine.enterPam4
  exact (((h.wr a).wr b).wr c).modTrk

/-- The fields that arriving in a state touches. -/
def arriveFields (t : Nat) : List Fld :=
  echoFields t ++ eqFields t ++ anFields t ++ dataFields t ++ pamFields t ++ [R.TRK_BANK_DISC_CNT_COUNT t]

theorem TrkOnly.trkArrive (h : TrkOnly l t s u) {st old : Nat} (hl : ∀ f ∈ arriveFields t, f ∈ l) :
    TrkOnly l t s (Machine.trkArrive t st old u) := by
  have h1 : ∀ f ∈ echoFields t, f ∈ l := fun f hf => hl f (by simp [arriveFields, hf])
  have h2 : ∀ f ∈ anFields t ++ eqFields t, f ∈ l := fun f hf => hl f (by
    simp only [List.mem_append] at hf
    rcases hf with hf | hf <;> simp [arriveFields, hf])
  have h3 : ∀ f ∈ dataFields t, f ∈ l := fun f hf => hl f (by simp [arriveFields, hf])
  have h4 : ∀ f ∈ pamFields t, f ∈ l := fun f hf => hl f (by simp [arriveFields, hf])
  have h5 : R.TRK_BANK_DISC_CNT_COUNT t ∈ l := hl _ (by simp [arriveFields])
  have ite : ∀ (c : Prop) [Decidable c] (a b : State), TrkOnly l t s a → TrkOnly l t s b →
      TrkOnly l t s (if c then a else b) := fun c _ a b ha hb => by split <;> assumption
  have hd : ∀ w, TrkOnly l t s w → TrkOnly l t s (trkDiscard t w) := by
    intro w hw
    unfold trkDiscard
    exact (TrkOnly.foldl (fun _ _ h => h.frameLost) (hw.wr h5) _).modTrk
  unfold Machine.trkArrive
  extract_lets a b c d e f
  refine TrkOnly.modTrk ?_
  have ha : TrkOnly l t s a := ite _ _ _ (hd _ h) h
  have hb : TrkOnly l t s b := ite _ _ _ (ha.echoClear h1) ha
  have hc : TrkOnly l t s c := ite _ _ _ (hb.enterAn h2) hb
  have hd' : TrkOnly l t s d := ite _ _ _ (hc.echoRetrain h1) hc
  have he : TrkOnly l t s e := ite _ _ _ (hd'.enterData h3) hd'
  exact ite _ _ _ (he.enterPam4 h4) he

/-- The fields that leaving a state touches. -/
def leaveFields (t : Nat) : List Fld :=
  [R.TRK_LINK_EVT_LINK_DOWN t, R.TRK_LINK_DOWN_CNT_COUNT t, R.TRK_TX_ABORT_CNT_COUNT t, R.TRK_RX_ABORT_CNT_COUNT t,
   R.TRK_STAT_AM_LOCK t, R.TRK_STAT_LPI_TX t, R.TRK_STAT_LPI_RX t, R.TRK_QW_CNT_FAILED t, R.TRK_QW_STAT_STATE t]

theorem TrkOnly.qwDropRequest (h : TrkOnly l t s u) {b : Bool} (h1 : R.TRK_QW_CNT_FAILED t ∈ l)
    (h2 : R.TRK_QW_STAT_STATE t ∈ l) : TrkOnly l t s (Machine.qwDropRequest t b u) := by
  unfold Machine.qwDropRequest
  split
  · split
    · extract_lets s1 s2
      have k : TrkOnly l t s s2 := (h.modTrk.wr h1).wr h2
      unfold qwRetryLater
      split
      · exact k
      · exact k.modTrk
      · exact k.modTrk
    · exact h
  · exact h

theorem TrkOnly.leaveData (h : TrkOnly l t s u) (hu : Unheld t u) (hl : ∀ f ∈ leaveFields t, f ∈ l) :
    TrkOnly l t s (Machine.leaveData t u) := by
  simp only [leaveFields, List.forall_mem_cons, List.not_mem_nil, false_imp_iff, implies_true, and_true] at hl
  obtain ⟨a, b, c, d, e, f, g, i, j⟩ := hl
  have fl : ∀ (p : Nat) (x : TxFrame) (w : State), (Machine.frameLost p x w).trk t = w.trk t := by
    intro p x w
    unfold Machine.frameLost creditBack stampReport
    split <;> rfl
  unfold Machine.leaveData
  extract_lets x hide s1 s2 s3 s4 s5
  have k1 : TrkOnly l t s s1 ∧ (s1.trk t).qw.grant = none := by
    unfold s1
    split
    · exact ⟨h, hu.1⟩
    · refine ⟨(TrkOnly.foldl (fun _ _ h => h.frameLost) (h.wr c) _).modTrk, ?_⟩
      simp only [modTrk_trk_self]
      have : ∀ (L : List TxFrame) (w : State), ((L.foldl (fun a f => Machine.frameLost t f a) w).trk t) = w.trk t := by
        intro L
        induction L with
        | nil => intro w; rfl
        | cons y L ih => intro w; rw [List.foldl_cons, ih, fl]
      rw [this]
      exact hu.1
  have k2 : TrkOnly l t s s2 ∧ (s2.trk t).qw.grant = none := by
    unfold s2
    split
    · exact ⟨k1.1.wr d, k1.2⟩
    · exact k1
  have k3 : TrkOnly l t s s3 := by
    unfold s3 qwAbandon
    rw [k2.2]
    exact k2.1.qwDropRequest i j
  have k4 : TrkOnly l t s s4 := by
    unfold s4 x
    rw [hu.2]
    exact k3
  exact (((k4.wr e).wr f).wr g).modTrk

theorem TrkOnly.trkLeave (h : TrkOnly l t s u) {st old : Nat} (hu : old = 8 → Unheld t u)
    (hl : ∀ f ∈ leaveFields t, f ∈ l) : TrkOnly l t s (Machine.trkLeave t st old u) := by
  have hl' := hl
  simp only [leaveFields, List.forall_mem_cons, List.not_mem_nil, false_imp_iff, implies_true, and_true] at hl'
  unfold Machine.trkLeave
  extract_lets s1 s2
  have k1 : TrkOnly l t s s1 ∧ s1.trk t = u.trk t := by
    unfold s1
    split
    · exact ⟨(h.wr hl'.1).wr hl'.2.1, rfl⟩
    · exact ⟨h, rfl⟩
  have k2 : TrkOnly l t s s2 ∧ s2.trk t = u.trk t := by
    unfold s2
    split
    · exact ⟨k1.1.send, k1.2⟩
    · exact k1
  split
  · rename_i e
    refine k2.1.leaveData ?_ hl
    have := hu e
    exact ⟨by rw [k2.2]; exact this.1, by rw [k2.2]; exact this.2⟩
  · exact k2.1

/-- The twin of a trunk rests on TWIN_CFG alone. -/
theorem twinOf_kept (h : Kept l s u) (hl : ∀ f ∈ l, f.id ∉ [(R.TWIN_CFG_FORMED 0).id, (R.TWIN_CFG_MEMBER_A 0).id, (R.TWIN_CFG_MEMBER_B 0).id])
    (k : Nat) : twinOf k u = twinOf k s := by
  have r : ∀ g : Fld, g.id ∈ [(R.TWIN_CFG_FORMED 0).id, (R.TWIN_CFG_MEMBER_A 0).id, (R.TWIN_CFG_MEMBER_B 0).id] →
      u.rd g = s.rd g := fun g hg => h g fun f hf e => hl f hf (e.1 ▸ hg)
  have r1 : ∀ i, u.rd (R.TWIN_CFG_FORMED i) = s.rd (R.TWIN_CFG_FORMED i) := fun i => r _ (by simp)
  have r2 : ∀ i, u.rd (R.TWIN_CFG_MEMBER_A i) = s.rd (R.TWIN_CFG_MEMBER_A i) := fun i => r _ (by simp)
  have r3 : ∀ i, u.rd (R.TWIN_CFG_MEMBER_B i) = s.rd (R.TWIN_CFG_MEMBER_B i) := fun i => r _ (by simp)
  have r4 : ∀ i, u.bit (R.TWIN_CFG_FORMED i) = s.bit (R.TWIN_CFG_FORMED i) := fun i => by simp [State.bit, r1]
  unfold twinOf
  simp only [r4, r2, r3]

theorem twinOf_wr {f : Fld} {v : Nat} (n : f.id ∉ [(R.TWIN_CFG_FORMED 0).id, (R.TWIN_CFG_MEMBER_A 0).id, (R.TWIN_CFG_MEMBER_B 0).id])
    (k : Nat) : twinOf k (s.wr f v) = twinOf k s :=
  twinOf_kept (l := [f]) (Kept.refl.wr (by simp)) (by simpa using n) k

theorem memFollow_alone {st : Nat} (h : Alone t s) : memFollow t st s = s := by
  unfold memFollow
  rw [h]

/-- The law of entering a state, for a trunk that stands alone: its state and link, and nothing outside itself. -/
theorem trkEnter_only (h : Alone t s) (st : Nat) (hu : trkState t s = 8 → Unheld t s) :
    TrkOnly (enterFields t) t s (trkEnter t st s) ∧ (trkEnter t st s).rd (R.TRK_STAT_STATE t) = st % 16 ∧
      (trkEnter t st s).rd (R.TRK_STAT_LINK_UP t) = b2n (st = 8) := by
  have hlv : ∀ f ∈ leaveFields t, f ∈ enterFields t := by
    simp [leaveFields, enterFields]
  have har : ∀ f ∈ arriveFields t, f ∈ enterFields t := by
    simp only [arriveFields, echoFields, eqFields, anFields, dataFields, pamFields, List.forall_mem_append,
      List.forall_mem_cons, List.forall_mem_map, upto, List.nil_append, List.cons_append]
    simp [enterFields, upto]
  unfold trkEnter
  have k1 : TrkOnly (enterFields t) t s (Machine.trkLeave t st (trkState t s) s) := TrkOnly.refl.trkLeave hu hlv
  have k2 : TrkOnly (enterFields t) t s (((Machine.trkLeave t st (trkState t s) s).wr (R.TRK_STAT_STATE t) st).wrb
      (R.TRK_STAT_LINK_UP t) (st = 8)) := (k1.wr (by simp [enterFields])).wr (by simp [enterFields])
  have al : Alone t (((Machine.trkLeave t st (trkState t s) s).wr (R.TRK_STAT_STATE t) st).wrb
      (R.TRK_STAT_LINK_UP t) (st = 8)) := by
    unfold Alone
    rw [twinOf_kept k2.regs (by simp [enterFields, upto])]
    exact h
  simp only [memFollow_alone al]
  refine ⟨k2.trkArrive har, ?_, ?_⟩
  all_goals
    have k3 : TrkOnly (arriveFields t) t _ (Machine.trkArrive t st (trkState t s)
      (((Machine.trkLeave t st (trkState t s) s).wr (R.TRK_STAT_STATE t) st).wrb (R.TRK_STAT_LINK_UP t) (st = 8))) :=
      TrkOnly.refl.trkArrive fun f hf => hf
    rw [k3.regs _ (by
      simp [arriveFields, echoFields, eqFields, anFields, dataFields, pamFields, upto, Fld.same])]
    simp [State.wrb, rd_wr_ne]
  unfold b2n
  split <;> simp

/-- What changes a trunk alone keeps calm. -/
theorem TrkOnly.calm (h : TrkOnly l t s u) (c : Calm s) (hl : ∀ f ∈ l, f.id ∉ calmRegs) : Calm u := by
  have e := h.rest
  have f : ∀ {α : Type} (g : State → α), g u.offTrunk = g s.offTrunk := fun g => congrArg g e
  refine c.keep (f State.todo) (fun v _ => congrArg Pass.rungDelay (f fun w => w.pas v)) (congrArg Power.dom (f State.power))
    (f State.boot) fun g hg => h.regs g fun x hx y => hl x hx (y.1 ▸ hg)

/-- The end of a step changes nothing outside the trunk either. -/
theorem TrkOnly.vectors (h : TrkOnly l t s u) : TrkOnly l t s (Machine.vectors u) :=
  ⟨kept_vectors.2 h.regs, fun k hk => by rw [vectors_trk]; exact h.others k hk, by rw [vectors_trk]; exact h.line, by
    have := h.rest
    unfold State.offTrunk at *
    rw [vectors_rest]
    exact this⟩

/-- A command whose effect takes a trunk that stands alone to a state: `u` is the state that it enters from, `w` adds what
it changes of the trunk's own part. -/
theorem enters_of {c : Instr} {st : Nat} {more : List Fld} {w : State} (hx : exec c s = done w) (hc : Calm s)
    (hst : st < 16) (hs : TrkOnly more t s u) (hm : ∀ f ∈ more, f.id ∉ calmRegs ++
      [(R.TWIN_CFG_FORMED 0).id, (R.TWIN_CFG_MEMBER_A 0).id, (R.TWIN_CFG_MEMBER_B 0).id]) (ha : Alone t s)
    (hu : trkState t u = 8 → Unheld t u) (hw : TrkOnly [] t (trkEnter t st u) w) :
    Enters c t st more s (Machine.vectors w) := by
  have ha' : Alone t u := by
    unfold Alone
    rw [twinOf_kept hs.regs fun f hf h => hm f hf (List.mem_append_right _ h)]
    exact ha
  obtain ⟨k1, k2, k3⟩ := trkEnter_only ha' st hu
  have k4 : TrkOnly (more ++ enterFields t) t s w :=
    (hs.mono fun f hf => List.mem_append_left _ hf).trans
      ((k1.mono fun f hf => List.mem_append_right _ hf).trans (hw.mono fun f hf => by simp at hf))
  have hr : ∀ g, w.rd g = (trkEnter t st u).rd g := fun g => hw.regs g (by simp)
  have cu : Calm w := by
    refine k4.calm hc fun f hf h => ?_
    rcases List.mem_append.1 hf with g | g
    · exact hm f g (List.mem_append_left _ h)
    · revert g
      have : ∀ f ∈ enterFields t, f.id ∉ calmRegs := by simp [enterFields, upto, calmRegs]
      exact fun g => this f g h
  refine ⟨by rw [hx, done_calm cu], ?_, ?_, k4.vectors⟩
  · simp only [trkState, vectors_rd, hr, k2]; omega
  · simp only [State.bit, vectors_rd, hr, k3, b2n]
    by_cases e : st = 8 <;> simp [e]

/-- A field that entering a state does not touch. -/
theorem enter_rd (h : Alone t s) {st : Nat} (hu : trkState t s = 8 → Unheld t s) {g : Fld}
    (hg : ∀ f ∈ enterFields t, ¬ f.same g) : (trkEnter t st s).rd g = s.rd g := (trkEnter_only h st hu).1.regs g hg

/-! ## Aborts that are owed -/

/-- Nothing runs on the line, so an abort only opens the switch and shows the front end free. -/
theorem abort_idle (h : Idle t u) : TrkOnly [R.SURV_TRK_STAT_BUSY t] t u (calAbort t (survAbort t u)) := by
  obtain ⟨a, d⟩ := h
  simp only [lineBusy, Prod.mk.injEq] at a
  obtain ⟨a, b, c⟩ := a
  have k : TrkOnly [R.SURV_TRK_STAT_BUSY t] t u (survAbort t u) := by
    unfold survAbort
    simp only [a, b, c, Bool.false_eq_true, if_false]
    unfold survBusy loopOpen State.modSurv
    refine TrkOnly.wr ?_ (by simp)
    have k2 : TrkOnly [R.SURV_TRK_STAT_BUSY t] t u
        (if (u.trk t).surv.closed = true then u.send (.loopSwitch t false) else u) := by
      split
      · exact TrkOnly.refl.send
      · exact .refl
    refine ⟨k2.regs, fun n hn => ?_, ?_, k2.rest⟩
    · rw [modTrk_trk_ne _ _ (Ne.symm hn)]; exact k2.others n hn
    · rw [modTrk_trk_self]
      have e : (if (u.trk t).surv.closed = true then u.send (.loopSwitch t false) else u).trk t = u.trk t := by
        split <;> rfl
      rw [e]
      simp [lineBusy, c]
  have e : itemState t (survAbort t u) ≠ 3 := by
    unfold itemState
    rw [k.regs _ (by simp [Fld.same])]
    exact d
  unfold calAbort
  rw [if_neg e]
  exact k

theorem TrkOnly.paid {w : State} {x : Todo} (h : TrkOnly l t (s.owe x) w) (c : s.todo = []) :
    TrkOnly l t s w.paid := by
  refine ⟨h.regs, h.others, h.line, ?_⟩
  have e : w.paid.offTrunk = { w.offTrunk with todo := [] } := rfl
  have f : s.offTrunk = { (s.owe x).offTrunk with todo := [] } := by
    have : s.offTrunk.todo = [] := c
    calc s.offTrunk = { s.offTrunk with todo := [] } := by rw [← this]
      _ = _ := rfl
  rw [e, h.rest, f]

/-- As `enters_of`, where the entry first ends what runs on the line. -/
theorem enters_abort {c : Instr} {st : Nat} {more : List Fld} (hx : exec c s = done (trkEnter t st (actAbort t u)))
    (hc : Calm s) (hst : st < 16) (hs : TrkOnly more t s u) (hm : ∀ f ∈ more, f.id ∉ calmRegs ++
      [(R.TWIN_CFG_FORMED 0).id, (R.TWIN_CFG_MEMBER_A 0).id, (R.TWIN_CFG_MEMBER_B 0).id]) (ha : Alone t s)
    (hu : trkState t u = 8 → Unheld t u) (hi : Idle t u) :
    ∃ w, Enters c t st (R.SURV_TRK_STAT_BUSY t :: more) s w ∧
      (∀ g, (∀ f ∈ R.SURV_TRK_STAT_BUSY t :: enterFields t, ¬ f.same g) → w.rd g = u.rd g) := by
  have ha' : Alone t (actAbort t u) := by
    show twinOf t u = none
    rw [twinOf_kept hs.regs fun f hf h => hm f hf (List.mem_append_right _ h)]
    exact ha
  obtain ⟨k1, k2, k3⟩ := trkEnter_only ha' st hu
  have ut : u.todo = [] := by rw [show u.todo = u.offTrunk.todo from rfl, hs.rest]; exact hc.owed
  have wt : (trkEnter t st (actAbort t u)).todo = [.abortAct t] := by
    rw [show ∀ v : State, v.todo = v.offTrunk.todo from fun _ => rfl, k1.rest]
    show u.todo ++ _ = _
    rw [ut]; rfl
  generalize trkEnter t st (actAbort t u) = w at *
  have k5 : TrkOnly (enterFields t) t u w.paid := TrkOnly.paid k1 ut
  have i5 : Idle t w.paid := by
    refine ⟨by rw [paid_trk, k1.line]; exact hi.1, ?_⟩
    unfold itemState
    rw [paid_rd, k1.regs _ (by simp [enterFields, upto, Fld.same])]
    exact hi.2
  have k6 := abort_idle i5
  have k4 : TrkOnly ((R.SURV_TRK_STAT_BUSY t :: more) ++ enterFields t) t s (calAbort t (survAbort t w.paid)) :=
    (hs.mono fun f hf => by simp [hf]).trans ((k5.mono fun f hf => by simp [hf]).trans (k6.mono fun f hf => by
      simp only [List.mem_cons, List.not_mem_nil, or_false] at hf; simp [hf]))
  have cw : Calm (calAbort t (survAbort t w.paid)) := by
    refine k4.calm hc fun f hf h => ?_
    rcases List.mem_append.1 hf with g | g
    · rcases List.mem_cons.1 g with rfl | g
      · simp [calmRegs] at h
      · exact hm f g (List.mem_append_left _ h)
    · revert g
      have : ∀ f ∈ enterFields t, f.id ∉ calmRegs := by simp [enterFields, upto, calmRegs]
      exact fun g => this f g h
  have e6 : ∀ g, ¬ (R.SURV_TRK_STAT_BUSY t).same g → (calAbort t (survAbort t w.paid)).rd g = w.rd g := fun g hg => by
    rw [k6.regs g (by simpa using hg), paid_rd]
  refine ⟨vectors (calAbort t (survAbort t w.paid)), ⟨by rw [hx]; exact done_owed wt cw, ?_, ?_, k4.vectors⟩,
    fun g hg => ?_⟩
  · rw [trkState, vectors_rd, e6 _ (by simp [Fld.same]), k2]; omega
  · rw [State.bit, vectors_rd, e6 _ (by simp [Fld.same]), k3, b2n]
    by_cases e : st = 8 <;> simp [e]
  · rw [vectors_rd, e6 g (hg _ (by simp))]
    exact k1.regs g fun f hf => hg f (by simp [hf])

variable {w : State}

/-- Aborting the activities of an idle trunk changes at most the record of them. -/
theorem abort_trk (h : Idle t u) : ∃ x, (calAbort t (survAbort t u)).trk t = { u.trk t with surv := x } := by
  obtain ⟨a, d⟩ := h
  have k := abort_idle (t := t) (u := u) ⟨a, d⟩
  simp only [lineBusy, Prod.mk.injEq] at a
  obtain ⟨a, b, c⟩ := a
  have e : itemState t (survAbort t u) ≠ 3 := by
    have : (survAbort t u).rd (R.ASSAY_ITEM_STAT_STATE t) = u.rd (R.ASSAY_ITEM_STAT_STATE t) := by
      unfold survAbort survBusy loopOpen State.modSurv
      simp only [a, b, c, Bool.false_eq_true, if_false]
      simp only [State.wrb]
      rw [rd_wr_ne _ _ _ _ (by simp)]
      split <;> rfl
    unfold itemState at d ⊢
    rw [this]; exact d
  unfold calAbort
  rw [if_neg e]
  unfold survAbort
  simp only [a, b, c, Bool.false_eq_true, if_false]
  have e : (if (u.trk t).surv.closed = true then u.send (.loopSwitch t false) else u).trk t = u.trk t := by
    split <;> rfl
  simp only [survBusy, loopOpen, State.modSurv, State.wrb, wr_trk, modTrk_trk_self, e]
  exact ⟨_, rfl⟩

/-- A command that owes the abort of the activities of an idle trunk, from a calm state. -/
theorem abort_next {c : Instr} (hx : exec c s = done w) (hc : Calm s) (h : TrkOnly l t (s.owe (.abortAct t)) w)
    (hl : ∀ f ∈ l, f.id ∉ calmRegs) (hi : Idle t w) :
    ∃ u x, exec c s = .next u ∧ TrkOnly (R.SURV_TRK_STAT_BUSY t :: l) t s u ∧
      (∀ g, ¬ (R.SURV_TRK_STAT_BUSY t).same g → u.rd g = w.rd g) ∧ u.trk t = { w.trk t with surv := x } := by
  have ow : w.todo = [.abortAct t] := by
    have : w.todo = (s.owe (.abortAct t)).todo := by have z := congrArg State.todo h.rest; exact z
    rw [this]; simp [State.owe, hc.owed]
  have kp : TrkOnly l t s w.paid := h.paid hc.owed
  have hi' : Idle t w.paid := hi
  have k6 := abort_idle hi'
  obtain ⟨x, hx2⟩ := abort_trk hi'
  have k := (kp.mono (m := R.SURV_TRK_STAT_BUSY t :: l) (by simp +contextual)).trans (k6.mono (by simp))
  have cw : Calm (calAbort t (survAbort t w.paid)) := k.calm hc (by simpa [calmRegs] using hl)
  refine ⟨vectors (calAbort t (survAbort t w.paid)), x, by rw [hx]; exact done_owed ow cw, k.vectors, fun g hg => ?_, ?_⟩
  · rw [vectors_rd, k6.regs g (by simpa using hg), paid_rd]
  · rw [vectors_trk, hx2, paid_trk]

end Sys2Proof.Machine
end

