-- ==== Sys2Proof/Laws/Calm.lean ====
section
/-! SUPPORT. What keeps a state calm, one lemma for each update, and what a command answers from a calm state: its effect,
with the interrupt lines brought up to date; with an error on record; on a pass. -/

namespace Sys2Proof.Machine

variable {s : State}

theorem Calm.wr {f : Fld} {v : Nat} (n : f.id ∉ calmRegs) (h : Calm s) : Calm (s.wr f v) := (calm_wr n).2 h
theorem Calm.wrb {f : Fld} {v : Bool} (n : f.id ∉ calmRegs) (h : Calm s) : Calm (s.wrb f v) := (calm_wr n).2 h
theorem Calm.evt {f : Fld} (n : f.id ∉ calmRegs) (h : Calm s) : Calm (s.evt f) := (calm_wr n).2 h
theorem Calm.sat {f : Fld} {v : Nat} (n : f.id ∉ calmRegs) (h : Calm s) : Calm (s.sat f v) := (calm_wr n).2 h
theorem Calm.add {f : Fld} {v : Nat} (n : f.id ∉ calmRegs) (h : Calm s) : Calm (s.add f v) := (calm_wr n).2 h
theorem Calm.back {f : Fld} {v : Nat} (n : f.id ∉ calmRegs) (h : Calm s) : Calm (s.back f v) := (calm_wr n).2 h
theorem Calm.send {x : Out} (h : Calm s) : Calm (s.send x) := (calm_send s x).2 h
theorem Calm.free {w : Nat} (h : Calm s) : Calm (s.free w).2 := h.keep rfl (fun _ _ => rfl) rfl rfl fun _ _ => rfl
theorem Calm.bankPut {i : Nat} {f : RxFrame} (h : Calm s) : Calm (s.bankPut i f) := h.keep rfl (fun _ _ => rfl) rfl rfl fun _ _ => rfl
theorem Calm.modPass {n : Nat} {g : Pass → Pass} (e : (g (s.pas n)).rungDelay = (s.pas n).rungDelay) (h : Calm s) : Calm (s.modPass n g) := (calm_modPass s n g e).2 h
theorem Calm.message {n : Nat} (h : Calm s) : Calm (s.message n) := by
  obtain ⟨o, p, e⟩ := message_keeps s n
  rw [e]; exact h.keep rfl (fun _ _ => rfl) rfl rfl fun _ _ => rfl
theorem Calm.modTrk {n : Nat} {g : Trunk → Trunk} (h : Calm s) : Calm (s.modTrk n g) := h.keep rfl (fun _ _ => rfl) rfl rfl fun _ _ => rfl
theorem Calm.modTwin {n : Nat} {g : Twin → Twin} (h : Calm s) : Calm (s.modTwin n g) := h.keep rfl (fun _ _ => rfl) rfl rfl fun _ _ => rfl
theorem Calm.modDrp {n : Nat} {g : Drop → Drop} (h : Calm s) : Calm (s.modDrp n g) := h.keep rfl (fun _ _ => rfl) rfl rfl fun _ _ => rfl
theorem Calm.modCred {n : Nat} {g : Credit → Credit} (h : Calm s) : Calm (s.modCred n g) := h.keep rfl (fun _ _ => rfl) rfl rfl fun _ _ => rfl
theorem Calm.modQue {n : Nat} {g : MQueue → MQueue} (h : Calm s) : Calm (s.modQue n g) := h.keep rfl (fun _ _ => rfl) rfl rfl fun _ _ => rfl
theorem Calm.modHln {n : Nat} {g : HLane → HLane} (h : Calm s) : Calm (s.modHln n g) := h.keep rfl (fun _ _ => rfl) rfl rfl fun _ _ => rfl
theorem Calm.modCa {n : Nat} {g : Ca → Ca} (h : Calm s) : Calm (s.modCa n g) := h.keep rfl (fun _ _ => rfl) rfl rfl fun _ _ => rfl
theorem Calm.modSurv {n : Nat} {g : TrkSurv → TrkSurv} (h : Calm s) : Calm (s.modSurv n g) := h.keep rfl (fun _ _ => rfl) rfl rfl fun _ _ => rfl
theorem Calm.modDsurv {n : Nat} {g : DrpSurv → DrpSurv} (h : Calm s) : Calm (s.modDsurv n g) := h.keep rfl (fun _ _ => rfl) rfl rfl fun _ _ => rfl
theorem Calm.modVtime {n : Nat} {g : ValeTime → ValeTime} (h : Calm s) : Calm (s.modVtime n g) := h.keep rfl (fun _ _ => rfl) rfl rfl fun _ _ => rfl
theorem Calm.modEq {n : Nat} {g : Eq → Eq} (h : Calm s) : Calm (s.modEq n g) := h.keep rfl (fun _ _ => rfl) rfl rfl fun _ _ => rfl
theorem Calm.modQw {n : Nat} {g : Qw → Qw} (h : Calm s) : Calm (s.modQw n g) := h.keep rfl (fun _ _ => rfl) rfl rfl fun _ _ => rfl
theorem Calm.modItem {n : Nat} {g : Item → Item} (h : Calm s) : Calm (s.modItem n g) := h.keep rfl (fun _ _ => rfl) rfl rfl fun _ _ => rfl
theorem Calm.with_fabric {x} (h : Calm s) : Calm { s with fabric := x } := h.keep rfl (fun _ _ => rfl) rfl rfl fun _ _ => rfl
theorem Calm.with_warp {x} (h : Calm s) : Calm { s with warp := x } := h.keep rfl (fun _ _ => rfl) rfl rfl fun _ _ => rfl
theorem Calm.with_watch {x} (h : Calm s) : Calm { s with watch := x } := h.keep rfl (fun _ _ => rfl) rfl rfl fun _ _ => rfl
theorem Calm.with_time {x} (h : Calm s) : Calm { s with time := x } := h.keep rfl (fun _ _ => rfl) rfl rfl fun _ _ => rfl
theorem Calm.with_trunks {x} (h : Calm s) : Calm { s with trunks := x } := h.keep rfl (fun _ _ => rfl) rfl rfl fun _ _ => rfl
theorem Calm.with_twins {x} (h : Calm s) : Calm { s with twins := x } := h.keep rfl (fun _ _ => rfl) rfl rfl fun _ _ => rfl
theorem Calm.with_drops {x} (h : Calm s) : Calm { s with drops := x } := h.keep rfl (fun _ _ => rfl) rfl rfl fun _ _ => rfl
theorem Calm.with_credits {x} (h : Calm s) : Calm { s with credits := x } := h.keep rfl (fun _ _ => rfl) rfl rfl fun _ _ => rfl
theorem Calm.with_mill {x} (h : Calm s) : Calm { s with mill := x } := h.keep rfl (fun _ _ => rfl) rfl rfl fun _ _ => rfl
theorem Calm.with_hlanes {x} (h : Calm s) : Calm { s with hlanes := x } := h.keep rfl (fun _ _ => rfl) rfl rfl fun _ _ => rfl
theorem Calm.with_reports {x} (h : Calm s) : Calm { s with reports := x } := h.keep rfl (fun _ _ => rfl) rfl rfl fun _ _ => rfl
theorem Calm.with_cas {x} (h : Calm s) : Calm { s with cas := x } := h.keep rfl (fun _ _ => rfl) rfl rfl fun _ _ => rfl
theorem Calm.with_macConf {x} (h : Calm s) : Calm { s with macConf := x } := h.keep rfl (fun _ _ => rfl) rfl rfl fun _ _ => rfl
theorem Calm.with_macReplay {x} (h : Calm s) : Calm { s with macReplay := x } := h.keep rfl (fun _ _ => rfl) rfl rfl fun _ _ => rfl
theorem Calm.with_macPort {x} (h : Calm s) : Calm { s with macPort := x } := h.keep rfl (fun _ _ => rfl) rfl rfl fun _ _ => rfl
theorem Calm.with_macReqDrp {x} (h : Calm s) : Calm { s with macReqDrp := x } := h.keep rfl (fun _ _ => rfl) rfl rfl fun _ _ => rfl
theorem Calm.with_clock {x} (h : Calm s) : Calm { s with clock := x } := h.keep rfl (fun _ _ => rfl) rfl rfl fun _ _ => rfl
theorem Calm.with_valeTimes {x} (h : Calm s) : Calm { s with valeTimes := x } := h.keep rfl (fun _ _ => rfl) rfl rfl fun _ _ => rfl
theorem Calm.with_gran {x} (h : Calm s) : Calm { s with gran := x } := h.keep rfl (fun _ _ => rfl) rfl rfl fun _ _ => rfl
theorem Calm.with_memScrub {x} (h : Calm s) : Calm { s with memScrub := x } := h.keep rfl (fun _ _ => rfl) rfl rfl fun _ _ => rfl
theorem Calm.with_dsurv {x} (h : Calm s) : Calm { s with dsurv := x } := h.keep rfl (fun _ _ => rfl) rfl rfl fun _ _ => rfl
theorem Calm.with_survTurn {x} (h : Calm s) : Calm { s with survTurn := x } := h.keep rfl (fun _ _ => rfl) rfl rfl fun _ _ => rfl
theorem Calm.with_sensorHot {x} (h : Calm s) : Calm { s with sensorHot := x } := h.keep rfl (fun _ _ => rfl) rfl rfl fun _ _ => rfl
theorem Calm.with_caps {x} (h : Calm s) : Calm { s with caps := x } := h.keep rfl (fun _ _ => rfl) rfl rfl fun _ _ => rfl
theorem Calm.with_items {x} (h : Calm s) : Calm { s with items := x } := h.keep rfl (fun _ _ => rfl) rfl rfl fun _ _ => rfl
theorem Calm.with_sec {x} (h : Calm s) : Calm { s with sec := x } := h.keep rfl (fun _ _ => rfl) rfl rfl fun _ _ => rfl
theorem Calm.with_mgmt {x} (h : Calm s) : Calm { s with mgmt := x } := h.keep rfl (fun _ _ => rfl) rfl rfl fun _ _ => rfl
theorem Calm.with_archive {x} (h : Calm s) : Calm { s with archive := x } := h.keep rfl (fun _ _ => rfl) rfl rfl fun _ _ => rfl
theorem Calm.with_evtRep {x} (h : Calm s) : Calm { s with evtRep := x } := h.keep rfl (fun _ _ => rfl) rfl rfl fun _ _ => rfl
theorem Calm.with_rxBank {x} (h : Calm s) : Calm { s with rxBank := x } := h.keep rfl (fun _ _ => rfl) rfl rfl fun _ _ => rfl
theorem Calm.with_age {x} (h : Calm s) : Calm { s with age := x } := h.keep rfl (fun _ _ => rfl) rfl rfl fun _ _ => rfl
theorem Calm.with_freeCtr {x} (h : Calm s) : Calm { s with freeCtr := x } := h.keep rfl (fun _ _ => rfl) rfl rfl fun _ _ => rfl
theorem Calm.with_irq {x} (h : Calm s) : Calm { s with irq := x } := h.keep rfl (fun _ _ => rfl) rfl rfl fun _ _ => rfl
theorem Calm.with_msixOff {x} (h : Calm s) : Calm { s with msixOff := x } := h.keep rfl (fun _ _ => rfl) rfl rfl fun _ _ => rfl
theorem Calm.with_msixMask {x} (h : Calm s) : Calm { s with msixMask := x } := h.keep rfl (fun _ _ => rfl) rfl rfl fun _ _ => rfl
theorem Calm.with_msixPend {x} (h : Calm s) : Calm { s with msixPend := x } := h.keep rfl (fun _ _ => rfl) rfl rfl fun _ _ => rfl
theorem Calm.with_out {x} (h : Calm s) : Calm { s with out := x } := h.keep rfl (fun _ _ => rfl) rfl rfl fun _ _ => rfl
theorem Calm.with_pending {x} (h : Calm s) : Calm { s with pending := x } := h.keep rfl (fun _ _ => rfl) rfl rfl fun _ _ => rfl
theorem Calm.with_regsB {x} (h : Calm s) : Calm { s with regsB := x } := h.keep rfl (fun _ _ => rfl) rfl rfl fun _ _ => rfl
theorem Calm.with_regsC {x} (h : Calm s) : Calm { s with regsC := x } := h.keep rfl (fun _ _ => rfl) rfl rfl fun _ _ => rfl
theorem Calm.with_regsW {x} (h : Calm s) : Calm { s with regsW := x } := h.keep rfl (fun _ _ => rfl) rfl rfl fun _ _ => rfl

/-- A command whose effect leaves the state calm answers that effect with the interrupt lines brought up to date. -/
theorem next_of_done {c : Instr} {s t : State} (hx : exec c s = done t) (hc : Calm t) : exec c s = .next (vectors t) := by rw [hx, done_calm hc]

/-! ## Errors on record -/

theorem rd_wr_log {s : State} {f g : Fld} {v : Nat} (hf : f.id ∈ logRegs) (hg : g.id ∉ logRegs) : (s.wr g v).rd f = s.rd f :=
  rd_wr_ne s g f v fun e => absurd (e ▸ hf) hg

/-- A command that records an error with a free detail, beside what it does. -/
theorem records_free {c : Instr} {src cls kind : Nat} {s w : State} (hx : exec c s = done (w.recordFree src cls kind none)) (hg : Loggable src s)
    (hcl : cls = 1 ∨ cls = 2) (hk : kind < 256) (cw : Calm w) (hb : w.boot = s.boot) (hB : w.regsB = s.regsB) (hC : w.regsC = s.regsC)
    (r : ∀ f : Fld, f.id ∈ logRegs → w.rd f = s.rd f) : Records c src cls kind s w := by
  have hw : Loggable src w := hg.congr hb hB hC fun f hf => r f (by
    simp only [List.mem_cons, List.not_mem_nil, or_false] at hf
    rcases hf with h | h | h | h | h <;> subst h <;> simp [logRegs])
  have hw2 : Loggable src (w.free 32).2 := hw.congr rfl rfl rfl fun _ _ => rfl
  have k : Only (slotFields src cls) State.offWatch w (w.recordFree src cls kind none) := by
    have := record_only (kind := kind) (detail := (w.free 32).1) hw2 hcl
    exact ⟨this.regs, this.rest⟩
  refine ⟨_, ?_, ?_, k⟩
  · rw [hx, done_calm (k.calm cw offCalm_offWatch (by simp [slotFields, calmRegs]))]
  · have := record_logged (kind := kind) (detail := (w.free 32).1) hw2 hcl hk
    exact this.from (r _ (by simp [logRegs])) (r _ (by simp [logRegs])) (r _ (by simp [logRegs]))
/-- A command that records an error with a given detail, beside what it does. -/
theorem records_given {c : Instr} {src cls kind d : Nat} {s w : State} (hx : exec c s = done (w.record src cls kind d)) (hg : Loggable src s)
    (hcl : cls = 1 ∨ cls = 2) (hk : kind < 256) (cw : Calm w) (hb : w.boot = s.boot) (hB : w.regsB = s.regsB) (hC : w.regsC = s.regsC)
    (r : ∀ f : Fld, f.id ∈ logRegs → w.rd f = s.rd f) : Records c src cls kind s w := by
  have hw : Loggable src w := hg.congr hb hB hC fun f hf => r f (by
    simp only [List.mem_cons, List.not_mem_nil, or_false] at hf
    rcases hf with h | h | h | h | h <;> subst h <;> simp [logRegs])
  have k : Only (slotFields src cls) State.offWatch w (w.record src cls kind d) := record_only (kind := kind) (detail := d) hw hcl
  refine ⟨_, ?_, ?_, k⟩
  · rw [hx, done_calm (k.calm cw offCalm_offWatch (by simp [slotFields, calmRegs]))]
  · have := record_logged (kind := kind) (detail := d) hw hcl hk
    exact this.from (r _ (by simp [logRegs])) (r _ (by simp [logRegs])) (r _ (by simp [logRegs]))

/-- The registers a record is read by. -/
def loggedRegs : List Nat :=
  [(R.WATCH_SLOT_HDR_VALID 0).id, (R.WATCH_SLOT_HDR_CLASS 0).id, (R.WATCH_SLOT_HDR_KIND 0).id, (R.WATCH_SLOT_SEQ_SEQ 0).id,
   R.WATCH_LOG_HEAD_SEQ.id, (R.WATCH_CNT_COUNT 0).id]
theorem Logged.keep {src cls kind : Nat} {s t u : State} {l : List Fld} (h : Logged src cls kind s t) (k : Kept l t u)
    (hl : ∀ f ∈ l, f.id ∉ loggedRegs) : Logged src cls kind s u := by
  have r : ∀ f : Fld, f.id ∈ loggedRegs → u.rd f = t.rd f := fun f hf => k f fun x hx y => hl x hx (y.1 ▸ hf)
  unfold Logged State.slotHeld State.bit at *
  rw [r (R.WATCH_SLOT_HDR_CLASS src) (by simp [loggedRegs]), r (R.WATCH_SLOT_HDR_KIND src) (by simp [loggedRegs]),
    r (R.WATCH_SLOT_SEQ_SEQ src) (by simp [loggedRegs]), r R.WATCH_LOG_HEAD_SEQ (by simp [loggedRegs]),
    r (R.WATCH_CNT_COUNT (cls - 1)) (by simp [loggedRegs])]
  have e := r (R.WATCH_SLOT_HDR_VALID src) (by simp [loggedRegs])
  simp only [e]
  exact h

/-! ## Errors whose fixed action fences a vale -/

theorem blkVale_srcBlock : ∀ v : Fin 4, blkVale (srcBlock (32 + v.val)) = some v.val := by decide

/-- An error of vale `v` with the fixed reaction FENCE is recorded, vector 0 sent, and the fence owed. -/
theorem record_fence (v : Fin 4) {s : State} {kind d : Nat} (h : Loggable (32 + v) s) :
    s.recordWith (32 + v) 2 kind d (some 3) true =
      ((s.recordSlot (32 + v) 2 kind d ⟨3, false, 0, true⟩).message 0).owe (.fence (.vale v)) := by
  generalize hu : s.recordSlot (32 + v) 2 kind d ⟨3, false, 0, true⟩ = u
  have h2 := fun b => underTest_none (b := b) h.test
  have h4 : s.slotHeld (32 + v) = false := h.free
  have hb : u.boot = s.boot := by
    have z := recordSlot_only (src := 32 + v) (cls := 2) (kind := kind) (detail := d) h.awake ⟨3, false, 0, true⟩
    rw [hu] at z; have y := congrArg (fun y : State => y.boot) z.rest; exact y
  have e2 : (u.message 0).boot = u.boot := by
    have y := congrArg State.boot (offWatch_message u 0); exact y
  have h6 : ((u.message 0).owe (.fence (.vale v))).boot.selfTest = none := by
    show (u.message 0).boot.selfTest = none
    rw [e2, hb]; exact h.test
  have h5 := abortTestOf_none (src := 32 + v.val) h6
  unfold State.recordWith
  simp [h2, h4, State.reactionOf, State.oweAction, h5, hu, blkVale_srcBlock v]

/-- What such an error leaves: one fence owed, the record in the log, and nothing else. -/
theorem recordFree_fence (v : Fin 4) {s : State} {kind : Nat} (hc : Calm s) (h : Loggable (32 + v) s) (hk : kind < 256) :
    (s.recordFree (32 + v) 2 kind (some 3)).todo = [.fence (.vale v)] ∧ Logged (32 + v) 2 kind s (s.recordFree (32 + v) 2 kind (some 3)) ∧
      Only (slotFields (32 + v) 2) State.offWatch s { s.recordFree (32 + v) 2 kind (some 3) with todo := [] } := by
  have hw : Loggable (32 + v) (s.free 32).2 := h.congr rfl rfl rfl fun _ _ => rfl
  have k1 := recordSlot_only (src := 32 + v.val) (cls := 2) (kind := kind) (detail := (s.free 32).1) hw.awake ⟨3, false, 0, true⟩
  have k2 := recordSlot_logged (src := 32 + v.val) (cls := 2) (kind := kind) (detail := (s.free 32).1) hw.awake
    ⟨3, false, 0, true⟩ (by omega) hk
  have e2 : s.recordFree (32 + v) 2 kind (some 3) = _ := record_fence v (kind := kind) (d := (s.free 32).1) hw
  rw [e2]
  generalize (s.free 32).2.recordSlot (32 + v) 2 kind (s.free 32).1 ⟨3, false, 0, true⟩ = u at k1 k2
  have z := (offWatch_message u 0).trans k1.rest
  have t0 : (u.message 0).todo = [] := (congrArg (fun y : State => y.todo) z).trans hc.owed
  have r : ∀ f, ((u.message 0).owe (.fence (.vale v))).rd f = u.rd f := fun f => by
    show (u.message 0).rd f = _
    rw [message_rd]
  refine ⟨by simp [State.owe, t0], ?_, (kept_message (n := 0) |>.2 k1.regs).of_regs rfl, ?_⟩
  · have k3 := k2.from (u := s) rfl rfl rfl
    unfold Logged State.slotHeld State.bit at *
    simp only [r]
    exact k3
  · have z2 : ({ (u.message 0).owe (.fence (.vale v)) with todo := [] } : State).offWatch =
        { (u.message 0).offWatch with todo := [] } := rfl
    rw [z2, z]
    have : s.todo = [] := hc.owed
    show { s.offWatch with todo := [] } = s.offWatch
    unfold State.offWatch State.rest
    simp only [this]

/-! ## Passes -/

/-- A part that has to do with none of what calm looks at. -/
structure OffElse (g : State → State) : Prop where
  todo : ∀ x, (g x).todo = x.todo
  passes : ∀ x, (g x).passes = x.passes
  dom : ∀ x, (g x).power.dom = x.power.dom
  boot : ∀ x, (g x).boot = x.boot
/-- A command that works on the pass of vale `v` and leaves the delay of its answer as it was, from a calm state. -/
theorem pas_next {o : Host.Outcome State Fault Refusal} {w s : State} {l : List Fld} {v : Nat} {g : State → State} (og : OffElse g) (hc : Calm s) (hx : o = done w)
    (h : Only l (fun x => g (x.offPas v)) s w)
    (hd : (w.pas v).rungDelay = (s.pas v).rungDelay) (hl : ∀ f ∈ l, f.id ∉ calmRegs) : o = .next (vectors w) := by
  have e := h.rest
  have cw : Calm w := by
    refine hc.keep ?_ (fun k hk => ?_) ?_ ?_ fun g hg => h.regs g fun x hx y => hl x hx (y.1 ▸ hg)
    · have z := congrArg (fun y : State => y.todo) e
      simp only [og.todo] at z; exact z
    · by_cases hv : k = v
      · subst hv; exact hd
      · have z := congrArg (fun y : State => y.passes) e
        simp only [og.passes] at z
        have z2 : terase w.passes v = terase s.passes v := z
        have a := congrArg (fun p => tget {} p k) z2
        have b1 := tget_terase_ne ({} : Pass) w.passes (Ne.symm hv)
        have b2 := tget_terase_ne ({} : Pass) s.passes (Ne.symm hv)
        exact congrArg Pass.rungDelay (b1.symm.trans (a.trans b2))
    · have z := congrArg (fun y : State => y.power.dom) e
      simp only [og.dom] at z; exact z
    · have z := congrArg (fun y : State => y.boot) e
      simp only [og.boot] at z; exact z
  rw [hx, done_calm cw]

end Sys2Proof.Machine
end

