-- ==== Sys2Proof/Laws/Granary.lean ====
section
/-! SUPPORT. Laws of the granary's contents: an octet reads as it was written, every other octet is left alone, and every
operation keeps the canonical form. -/

namespace Sys2Proof.Machine

variable {g : Gran}

theorem find_terase (l : Tbl Byte) (a x : Nat) :
    (terase l a).find? (fun c => decide (c.1 = x)) = if a = x then none else l.find? fun c => decide (c.1 = x) := by
  induction l with
  | nil => simp [terase]
  | cons e l ih =>
    obtain ⟨i, v⟩ := e
    by_cases h : i = a <;> by_cases h2 : i = x <;> by_cases h3 : a = x <;> simp_all [terase, mem_terase]

theorem find_tinsert (l : Tbl Byte) (a x : Nat) (b : Byte) (n : ∀ c ∈ l, c.1 ≠ a) :
    (tinsert a b l).find? (fun c => decide (c.1 = x)) = if a = x then some (a, b) else l.find? fun c => decide (c.1 = x) := by
  induction l with
  | nil => by_cases h : a = x <;> simp [tinsert, h]
  | cons e l ih =>
    obtain ⟨i, v⟩ := e
    have n1 : i ≠ a := n (i, v) (.head _)
    have n2 := ih fun c hc => n c (.tail _ hc)
    unfold tinsert
    split
    · by_cases h : a = x
      · simp [h]
      · rw [List.find?_cons_of_neg (by simpa using h), if_neg h]
    · by_cases h : i = x
      · have : a ≠ x := fun e => n1 (h.trans e.symm)
        simp [h, this]
      · rw [List.find?_cons_of_neg (by simpa using h), n2]
        by_cases h2 : a = x
        · simp [h2]
        · simp [h2, h]

theorem segDefined_granPut (a x : Nat) (b : Byte) : segDefined (granPut a b g) x = segDefined g x := by
  unfold granPut
  split <;> rfl

/-- An octet reads as it was written, and every other one as before. -/
theorem granByte_granPut (a x : Nat) (b : Byte) : granByte (granPut a b g) x = if a = x then b else granByte g x := by
  unfold granPut
  by_cases h : b = 0 ∧ segDefined g a = true
  · rw [if_pos h]
    unfold granByte
    rw [find_terase]
    by_cases e : a = x
    · subst e
      rw [if_pos rfl, if_pos rfl]
      have : segDefined { g with mem := terase g.mem a } a = true := h.2
      simp only [this, if_true]; exact h.1.symm
    · rw [if_neg e, if_neg e]
      rfl
  · rw [if_neg h]
    unfold granByte
    rw [find_tinsert _ _ _ _ fun c hc => (mem_terase.1 hc).2, find_terase]
    by_cases e : a = x
    · simp [e]
    · rw [if_neg e, if_neg e, if_neg e]
      rfl

/-- Octets written from an address on: those read as written, every other one as before. -/
theorem granByte_granPutAll (l : List Byte) (a x : Nat) :
    granByte (granPutAll a l g) x = if a ≤ x ∧ x < a + l.length then l.getD (x - a) 0 else granByte g x := by
  induction l generalizing a g with
  | nil =>
    rw [if_neg (by simp)]
    rfl
  | cons b l ih =>
    rw [granPutAll, ih, granByte_granPut]
    simp only [List.length_cons]
    by_cases h : a + 1 ≤ x ∧ x < a + 1 + l.length
    · have e : x - a = (x - (a + 1)) + 1 := by omega
      rw [if_pos h, if_pos (by omega), e, List.getD_cons_succ]
    · rw [if_neg h]
      by_cases h2 : a = x
      · subst h2; simp
      · rw [if_neg h2, if_neg (by omega)]

theorem defd_granPutAll (l : List Byte) (a : Nat) : (granPutAll a l g).defd = g.defd := by
  induction l generalizing a g with
  | nil => rfl
  | cons b l ih =>
    rw [granPutAll, ih]
    unfold granPut
    split <;> rfl

/-- What the canonical form says. -/
theorem wf_iff : g.wf = true ↔ tsorted g.mem = true ∧
    ∀ c ∈ g.mem, c.1 < granOctets ∧ ¬ (c.2 = 0 ∧ segDefined g c.1 = true) := by
  unfold Gran.wf
  simp only [Bool.and_eq_true, List.all_eq_true, decide_eq_true_eq, Bool.not_eq_true', Bool.and_eq_false_iff,
    decide_eq_false_iff_not]
  constructor
  · rintro ⟨a, b⟩
    refine ⟨a, fun c hc => ⟨(b c hc).1, fun h => ?_⟩⟩
    rcases (b c hc).2 with h2 | h2
    · exact h2 h.1
    · rw [h.2] at h2; cases h2
  · rintro ⟨a, b⟩
    refine ⟨a, fun c hc => ⟨(b c hc).1, ?_⟩⟩
    by_cases h : c.2 = 0
    · right
      have := (b c hc).2
      cases e : segDefined g c.1
      · rfl
      · exact absurd ⟨h, e⟩ this
    · exact .inl h

theorem wf_granPut {a : Nat} {b : Byte} (h : g.wf = true) (ha : a < granOctets) : (granPut a b g).wf = true := by
  obtain ⟨h1, h2⟩ := wf_iff.1 h
  refine wf_iff.2 ?_
  have d : ∀ x, segDefined (granPut a b g) x = segDefined g x := fun x => segDefined_granPut a x b
  simp only [d]
  unfold granPut
  split
  · exact ⟨tsorted_terase h1, fun c hc => h2 c (mem_terase.1 hc).1⟩
  · rename_i n
    refine ⟨tsorted_tinsert (tsorted_terase h1) fun x hx => (mem_terase.1 hx).2, fun c hc => ?_⟩
    rcases mem_tinsert.1 hc with rfl | hc
    · exact ⟨ha, n⟩
    · exact h2 c (mem_terase.1 hc).1

/-- Every write of octets inside the granary keeps the canonical form. -/
theorem wf_granPutAll {l : List Byte} {a : Nat} (h : g.wf = true) (ha : a + l.length ≤ granOctets) :
    (granPutAll a l g).wf = true := by
  induction l generalizing a g with
  | nil => exact h
  | cons b l ih =>
    simp only [List.length_cons] at ha
    exact ih (wf_granPut h (by omega)) (by omega)

theorem wf_granUndef : (granUndef g).wf = true := rfl

theorem tsorted_filter {l : List Host.Cell} (p : Host.Cell → Bool) (h : tsorted l = true) : tsorted (l.filter p) = true := by
  induction l with
  | nil => rfl
  | cons e l ih =>
    obtain ⟨a, b⟩ := (tsorted_iff _ _).1 h
    rw [List.filter_cons]
    split
    · exact (tsorted_iff _ _).2 ⟨ih a, fun x hx => b x (List.mem_filter.1 hx).1⟩
    · exact ih a

theorem tbit_land (m n i : Nat) : tbit (Nat.land m n) i = (tbit m i && tbit n i) := by
  have e : ∀ k, tbit k i = k.testBit i := fun k => by
    simp [tbit, Nat.testBit, Nat.shiftRight_eq_div_pow, Nat.and_comm 1, Nat.and_one_is_mod]
    rfl
  rw [e, e, e]
  exact Nat.testBit_land m n i

/-- The loss of the segments outside a set keeps the canonical form. -/
theorem wf_granLose {keep : Nat} (h : g.wf = true) : (granLose keep g).wf = true := by
  obtain ⟨h1, h2⟩ := wf_iff.1 h
  refine wf_iff.2 ⟨tsorted_filter _ h1, fun c hc => ?_⟩
  obtain ⟨hm, _⟩ := List.mem_filter.1 hc
  refine ⟨(h2 c hm).1, fun n => (h2 c hm).2 ⟨n.1, ?_⟩⟩
  have := n.2
  simp only [segDefined, granLose, tbit_land, Bool.and_eq_true] at this
  exact this.1

theorem find_filter (l : List Host.Cell) (p : Nat → Bool) (x : Nat) :
    (l.filter fun c => p c.1).find? (fun c => decide (c.1 = x)) = if p x then l.find? (fun c => decide (c.1 = x)) else none := by
  induction l with
  | nil => simp
  | cons e l ih =>
    obtain ⟨i, v⟩ := e
    rw [List.filter_cons]
    by_cases h : i = x
    · subst h
      cases hp : p i
      · simp only [hp, Bool.false_eq_true, if_false] at ih ⊢
        exact ih
      · simp
    · cases hp : p i <;> simp_all

/-- The contents of a segment filled with zero. -/
def fillGran (seg : Nat) (g : Gran) : Gran :=
  { g with mem := g.mem.filter fun c => c.1 / segOctets ≠ seg, defd := setBit g.defd seg true }

/-- A fill: the segment reads as zero, and every other octet as before. -/
theorem granByte_fill (seg x : Nat) : granByte (fillGran seg g) x = if x / segOctets = seg then 0 else granByte g x := by
  have d : segDefined (fillGran seg g) x = if seg = x / segOctets then true else segDefined g x := tbit_setBit _ _ _
  have f := find_filter g.mem (fun a => decide (a / segOctets ≠ seg)) x
  by_cases h : x / segOctets = seg
  · rw [if_pos h]
    rw [if_pos h.symm] at d
    rw [if_neg (by simp [h])] at f
    unfold granByte
    rw [d]
    have : (fillGran seg g).mem.find? (fun c => decide (c.1 = x)) = none := f
    rw [this]; rfl
  · rw [if_neg h]
    rw [if_neg (Ne.symm h)] at d
    rw [if_pos (by simp [h])] at f
    unfold granByte
    rw [d]
    have : (fillGran seg g).mem.find? (fun c => decide (c.1 = x)) = g.mem.find? (fun c => decide (c.1 = x)) := f
    rw [this]; rfl

/-- A fill keeps the canonical form. -/
theorem wf_fill {seg : Nat} (h : g.wf = true) : (fillGran seg g).wf = true := by
  obtain ⟨h1, h2⟩ := wf_iff.1 h
  refine wf_iff.2 ⟨tsorted_filter _ h1, fun c hc => ?_⟩
  obtain ⟨hm, hn⟩ := List.mem_filter.1 hc
  simp only [ne_eq, decide_not, Bool.not_eq_true', decide_eq_false_iff_not] at hn
  have d : segDefined (fillGran seg g) c.1 = if seg = c.1 / segOctets then true else segDefined g c.1 := tbit_setBit _ _ _
  rw [if_neg (Ne.symm hn)] at d
  exact ⟨(h2 c hm).1, fun n => (h2 c hm).2 ⟨n.1, by rw [← d]; exact n.2⟩⟩

/-- Entering self-refresh or leaving it touches no contents. -/
theorem wf_histReset (h : g.wf = true) : (histReset g).wf = true := h

end Sys2Proof.Machine
end

