-- ==== Sys2Proof/Laws/Parts.lean ====
section
/-! SUPPORT. Counting, adding and flagging in a register touch no part of the state beside the registers. -/

namespace Sys2Proof.Machine

variable (s : State) (f : Fld) (n v : Nat) (b : Bool)
@[simp] theorem sat_pas : (s.sat f n).pas v = s.pas v := rfl
@[simp] theorem sat_trk : (s.sat f n).trk v = s.trk v := rfl
@[simp] theorem sat_drp : (s.sat f n).drp v = s.drp v := rfl
@[simp] theorem sat_twin : (s.sat f n).twin v = s.twin v := rfl
@[simp] theorem sat_hln : (s.sat f n).hln v = s.hln v := rfl
@[simp] theorem sat_ca : (s.sat f n).ca v = s.ca v := rfl
@[simp] theorem sat_cred : (s.sat f n).cred v = s.cred v := rfl
@[simp] theorem sat_que : (s.sat f n).que v = s.que v := rfl
@[simp] theorem sat_out : (s.sat f n).out = s.out := rfl
@[simp] theorem sat_rxBank : (s.sat f n).rxBank = s.rxBank := rfl
@[simp] theorem sat_todo : (s.sat f n).todo = s.todo := rfl
@[simp] theorem sat_gran : (s.sat f n).gran = s.gran := rfl
@[simp] theorem sat_mill : (s.sat f n).mill = s.mill := rfl
@[simp] theorem sat_watch : (s.sat f n).watch = s.watch := rfl
@[simp] theorem sat_power : (s.sat f n).power = s.power := rfl
@[simp] theorem sat_boot : (s.sat f n).boot = s.boot := rfl
@[simp] theorem sat_time : (s.sat f n).time = s.time := rfl
@[simp] theorem sat_caps : (s.sat f n).caps = s.caps := rfl
@[simp] theorem sat_reports : (s.sat f n).reports = s.reports := rfl
@[simp] theorem sat_sec : (s.sat f n).sec = s.sec := rfl
@[simp] theorem sat_warp : (s.sat f n).warp = s.warp := rfl
@[simp] theorem sat_items : (s.sat f n).items = s.items := rfl
@[simp] theorem sat_clock : (s.sat f n).clock = s.clock := rfl
@[simp] theorem sat_fabric : (s.sat f n).fabric = s.fabric := rfl
@[simp] theorem add_pas : (s.add f n).pas v = s.pas v := rfl
@[simp] theorem add_trk : (s.add f n).trk v = s.trk v := rfl
@[simp] theorem add_drp : (s.add f n).drp v = s.drp v := rfl
@[simp] theorem add_twin : (s.add f n).twin v = s.twin v := rfl
@[simp] theorem add_hln : (s.add f n).hln v = s.hln v := rfl
@[simp] theorem add_ca : (s.add f n).ca v = s.ca v := rfl
@[simp] theorem add_cred : (s.add f n).cred v = s.cred v := rfl
@[simp] theorem add_que : (s.add f n).que v = s.que v := rfl
@[simp] theorem add_out : (s.add f n).out = s.out := rfl
@[simp] theorem add_rxBank : (s.add f n).rxBank = s.rxBank := rfl
@[simp] theorem add_todo : (s.add f n).todo = s.todo := rfl
@[simp] theorem add_gran : (s.add f n).gran = s.gran := rfl
@[simp] theorem add_mill : (s.add f n).mill = s.mill := rfl
@[simp] theorem add_watch : (s.add f n).watch = s.watch := rfl
@[simp] theorem add_power : (s.add f n).power = s.power := rfl
@[simp] theorem add_boot : (s.add f n).boot = s.boot := rfl
@[simp] theorem add_time : (s.add f n).time = s.time := rfl
@[simp] theorem add_caps : (s.add f n).caps = s.caps := rfl
@[simp] theorem add_reports : (s.add f n).reports = s.reports := rfl
@[simp] theorem add_sec : (s.add f n).sec = s.sec := rfl
@[simp] theorem add_warp : (s.add f n).warp = s.warp := rfl
@[simp] theorem add_items : (s.add f n).items = s.items := rfl
@[simp] theorem add_clock : (s.add f n).clock = s.clock := rfl
@[simp] theorem add_fabric : (s.add f n).fabric = s.fabric := rfl
@[simp] theorem evt_pas : (s.evt f).pas v = s.pas v := rfl
@[simp] theorem evt_trk : (s.evt f).trk v = s.trk v := rfl
@[simp] theorem evt_drp : (s.evt f).drp v = s.drp v := rfl
@[simp] theorem evt_twin : (s.evt f).twin v = s.twin v := rfl
@[simp] theorem evt_hln : (s.evt f).hln v = s.hln v := rfl
@[simp] theorem evt_ca : (s.evt f).ca v = s.ca v := rfl
@[simp] theorem evt_cred : (s.evt f).cred v = s.cred v := rfl
@[simp] theorem evt_que : (s.evt f).que v = s.que v := rfl
@[simp] theorem evt_out : (s.evt f).out = s.out := rfl
@[simp] theorem evt_rxBank : (s.evt f).rxBank = s.rxBank := rfl
@[simp] theorem evt_todo : (s.evt f).todo = s.todo := rfl
@[simp] theorem evt_gran : (s.evt f).gran = s.gran := rfl
@[simp] theorem evt_mill : (s.evt f).mill = s.mill := rfl
@[simp] theorem evt_watch : (s.evt f).watch = s.watch := rfl
@[simp] theorem evt_power : (s.evt f).power = s.power := rfl
@[simp] theorem evt_boot : (s.evt f).boot = s.boot := rfl
@[simp] theorem evt_time : (s.evt f).time = s.time := rfl
@[simp] theorem evt_caps : (s.evt f).caps = s.caps := rfl
@[simp] theorem evt_reports : (s.evt f).reports = s.reports := rfl
@[simp] theorem evt_sec : (s.evt f).sec = s.sec := rfl
@[simp] theorem evt_warp : (s.evt f).warp = s.warp := rfl
@[simp] theorem evt_items : (s.evt f).items = s.items := rfl
@[simp] theorem evt_clock : (s.evt f).clock = s.clock := rfl
@[simp] theorem evt_fabric : (s.evt f).fabric = s.fabric := rfl
@[simp] theorem wrb_pas : (s.wrb f b).pas v = s.pas v := rfl
@[simp] theorem wrb_trk : (s.wrb f b).trk v = s.trk v := rfl
@[simp] theorem wrb_drp : (s.wrb f b).drp v = s.drp v := rfl
@[simp] theorem wrb_twin : (s.wrb f b).twin v = s.twin v := rfl
@[simp] theorem wrb_hln : (s.wrb f b).hln v = s.hln v := rfl
@[simp] theorem wrb_ca : (s.wrb f b).ca v = s.ca v := rfl
@[simp] theorem wrb_cred : (s.wrb f b).cred v = s.cred v := rfl
@[simp] theorem wrb_que : (s.wrb f b).que v = s.que v := rfl
@[simp] theorem wrb_out : (s.wrb f b).out = s.out := rfl
@[simp] theorem wrb_rxBank : (s.wrb f b).rxBank = s.rxBank := rfl
@[simp] theorem wrb_todo : (s.wrb f b).todo = s.todo := rfl
@[simp] theorem wrb_gran : (s.wrb f b).gran = s.gran := rfl
@[simp] theorem wrb_mill : (s.wrb f b).mill = s.mill := rfl
@[simp] theorem wrb_watch : (s.wrb f b).watch = s.watch := rfl
@[simp] theorem wrb_power : (s.wrb f b).power = s.power := rfl
@[simp] theorem wrb_boot : (s.wrb f b).boot = s.boot := rfl
@[simp] theorem wrb_time : (s.wrb f b).time = s.time := rfl
@[simp] theorem wrb_caps : (s.wrb f b).caps = s.caps := rfl
@[simp] theorem wrb_reports : (s.wrb f b).reports = s.reports := rfl
@[simp] theorem wrb_sec : (s.wrb f b).sec = s.sec := rfl
@[simp] theorem wrb_warp : (s.wrb f b).warp = s.warp := rfl
@[simp] theorem wrb_items : (s.wrb f b).items = s.items := rfl
@[simp] theorem wrb_clock : (s.wrb f b).clock = s.clock := rfl
@[simp] theorem wrb_fabric : (s.wrb f b).fabric = s.fabric := rfl

end Sys2Proof.Machine
end

