-- ==== Sys2Proof/Laws/Rows.lean ====
section
/-! SUPPORT. The one law of the commands that write one register: what the fields take, and which effects follow. -/

namespace Sys2Proof.Machine

/-! ## The word and its fields -/

theorem fldPart_one {x : FldDesc} (h : x.lo + x.width ≤ 32) (w : 0 < x.width) : fldPart x 0 = some (0, x.lo, x.width) := by
  unfold fldPart
  have h1 : max x.lo 0 = x.lo := by omega
  have h2 : min (x.lo + x.width) 32 = x.lo + x.width := by omega
  simp [h2, w]

/-- fields placed in a word, from the top down -/
theorem place_sum (g : FldDesc → Nat) (l : List FldDesc) (hp : l.Pairwise fun a b => b.lo + b.width ≤ a.lo) :
    (∀ n, (∀ x ∈ l, x.lo + x.width ≤ n) → (l.map fun x => g x % 2 ^ x.width * 2 ^ x.lo).sum < 2 ^ n) ∧
    ∀ x ∈ l, (l.map fun x => g x % 2 ^ x.width * 2 ^ x.lo).sum / 2 ^ x.lo % 2 ^ x.width = g x % 2 ^ x.width := by
  induction l with
  | nil => simp
  | cons y l ih =>
    obtain ⟨hy, hl⟩ := List.pairwise_cons.1 hp
    obtain ⟨h1, h2⟩ := ih hl
    have hb := h1 y.lo hy
    constructor
    · intro n hn
      have hyn := hn y (.head _)
      have e : 2 ^ n = 2 ^ y.lo * 2 ^ y.width * 2 ^ (n - y.lo - y.width) := by
        rw [← Nat.pow_add, ← Nat.pow_add]; congr 1; omega
      have m := Nat.mod_lt (g y) (Nat.two_pow_pos y.width)
      have q := Nat.two_pow_pos (n - y.lo - y.width)
      simp only [List.map_cons, List.sum_cons]
      have : (g y % 2 ^ y.width + 1) * 2 ^ y.lo ≤ 2 ^ y.width * 2 ^ y.lo := Nat.mul_le_mul_right _ m
      have a1 : 2 ^ y.lo * 2 ^ y.width ≤ 2 ^ n := by rw [e]; exact Nat.le_mul_of_pos_right _ q
      calc _ < g y % 2 ^ y.width * 2 ^ y.lo + 2 ^ y.lo := Nat.add_lt_add_left hb _
        _ = (g y % 2 ^ y.width + 1) * 2 ^ y.lo := by ring
        _ ≤ 2 ^ y.width * 2 ^ y.lo := this
        _ = 2 ^ y.lo * 2 ^ y.width := Nat.mul_comm _ _
        _ ≤ _ := a1
    · intro x hx
      simp only [List.map_cons, List.sum_cons]
      cases hx with
      | head =>
        rw [Nat.add_comm, Nat.add_mul_div_right _ _ (Nat.two_pow_pos _), Nat.div_eq_of_lt hb]
        simp
      | tail _ hx =>
        have hle := hy x hx
        have e : 2 ^ y.lo = 2 ^ x.lo * 2 ^ x.width * 2 ^ (y.lo - x.lo - x.width) := by
          rw [← Nat.pow_add, ← Nat.pow_add]; congr 1; omega
        rw [← h2 x hx, Nat.add_comm, e,
          show g y % 2 ^ y.width * (2 ^ x.lo * 2 ^ x.width * 2 ^ (y.lo - x.lo - x.width)) =
            2 ^ x.lo * (2 ^ x.width * (g y % 2 ^ y.width * 2 ^ (y.lo - x.lo - x.width))) by ring,
          Nat.add_mul_div_left _ _ (Nat.two_pow_pos _), Nat.add_mul_mod_self_left]

/-- The value that a row's word holds for a field. -/
def rowVal (r : RegAt) (l : List (Fld × Nat)) (s : State) (x : FldDesc) : Nat :=
  match rowValue (r.fld x) l with
  | some v => v % 2 ^ x.width
  | none => if x.acc = .rw then s.rd (r.fld x) else 0

theorem rowVal_lt (r : RegAt) (l : List (Fld × Nat)) (s : State) (x : FldDesc) : rowVal r l s x < 2 ^ x.width := by
  unfold rowVal
  split
  · exact Nat.mod_lt _ (Nat.two_pow_pos _)
  · split
    · exact rd_lt s (r.fld x)
    · exact Nat.two_pow_pos _

/-- A part of a row's word is the value of its field. -/
theorem rowWord_part {r : RegAt} {l : List (Fld × Nat)} {s : State} (h : plainReg r = true) {x : FldDesc}
    (hx : x ∈ r.d.fields) : wordVal (rowWord r l s) x = rowVal r l s x := by
  simp only [plainReg, Bool.and_eq_true, decide_eq_true_eq, List.all_eq_true, Bool.not_eq_true'] at h
  obtain ⟨⟨⟨hk, hp⟩, ha⟩, -⟩ := h
  have e : rowWord r l s = (r.d.fields.map fun x => rowVal r l s x % 2 ^ x.width * 2 ^ x.lo).sum := by
    unfold rowWord
    refine congrArg List.sum (List.map_congr_left fun y hy => ?_)
    have hy := ha y hy
    have fp : fldPart y r.k = some (0, y.lo, y.width) := by
      rw [hk]; exact fldPart_one hy.1.1.1.1.1 hy.1.1.1.1.2
    simp only [rowPart, fp, rowVal, fldGet, hy.1.1.1.2, Nat.pow_zero, Nat.div_one]
    cases rowValue (r.fld y) l <;> simp
  unfold wordVal
  rw [e, (place_sum (rowVal r l s) _ (hp.imp fun h => h.1)).2 x hx, Nat.mod_eq_of_lt (rowVal_lt r l s x)]

/-! ## The writes and the effects -/

theorem fldWrite_one {r : RegAt} {arm : Bool} {w v : Nat} {s t : State} {H : List (Fld × Nat × Nat)} {y : FldDesc}
    (fp : fldPart y r.k = some (0, y.lo, y.width)) (hv : y.voted = false) (ho : t.rd (r.fld y) = s.rd (r.fld y))
    (hw : w / 2 ^ y.lo % 2 ^ y.width = v) (mask : ∀ n, fldMask (r.fld y) n = n)
    (f1 : (y.keyed && !arm) = true → y.acc ≠ .wo ∧ v = if y.acc = .rw then s.rd (r.fld y) else 0)
    (f2 : (y.keyed && !arm) = false →
      (y.acc = .rw → modeBar (r.fld y) v t = false ∧ encOk y (r.fld y) (s.rd (r.fld y)) v w t = true) ∧
      (y.acc = .w1s → v ≠ 0 → modeBar (r.fld y) v t = false)) :
    fldWrite arm false r w (t, { hooks := H }) y =
      (if y.keyed && !arm then t
        else match y.acc with
        | .rw => if v = s.rd (r.fld y) then t else t.wr (r.fld y) v
        | .w1c => if v = 0 then t else t.wr (r.fld y) (s.rd (r.fld y) - Nat.land (s.rd (r.fld y)) v)
        | _ => t,
        { hooks := H ++
          if y.keyed && !arm then []
          else match y.acc with
          | .rw | .wo => [(r.fld y, s.rd (r.fld y), v)]
          | .w1c | .w1s => if v = 0 then [] else [(r.fld y, s.rd (r.fld y), v)]
          | _ => [] }) := by
  have olt : s.rd (r.fld y) < 2 ^ y.width := rd_lt s (r.fld y)
  unfold fldWrite
  simp only [fp, fldGet, hv, Bool.false_eq_true, if_false, ho, hw, Nat.pow_zero, Nat.mul_one, Nat.div_one, mask,
    Nat.mod_eq_of_lt olt, Nat.sub_self, Nat.zero_add, Bool.false_and, fldPut]
  generalize s.rd (r.fld y) = o at *
  cases hk : (y.keyed && !arm)
  · have f3 := f2 hk
    cases hacc : y.acc <;> simp only [reduceCtorEq, or_self, if_true, if_false, or_true, true_or, Bool.false_eq_true,
      List.append_nil]
    · have f4 := f3.1 hacc
      rw [f4.1, f4.2]
      simp
    · split <;> simp
    · by_cases e : v = 0
      · simp [e]
      · simp [e, f3.2 hacc e]
  · have f3 := f1 hk
    cases hacc : y.acc <;> simp_all

/-- The fields of a row's word are written as its law says. -/
theorem writeFields_open {r : RegAt} {w : Nat} {s s' : State} {arm : Bool} (h : plainReg r = true)
    (hs : s'.regs = s.regs) (hq : s'.rest = { s.rest with fabric := s'.fabric }) (hf : ∀ x ∈ r.d.fields, FieldFine r w arm s x) :
    writeFields arm false r (w) s' = (regPuts r w arm s s', { hooks := regHooks r w arm s }) := by
  simp only [plainReg, Bool.and_eq_true, decide_eq_true_eq, List.all_eq_true, Bool.not_eq_true'] at h
  obtain ⟨⟨⟨hk, hp⟩, ha⟩, -⟩ := h
  have hv : regVote r s' = s' := by
    have : ∀ (L : List FldDesc) (t : State), (∀ x ∈ L, x ∈ r.d.fields) →
        L.foldl (fun a x => if x.voted then a.voteRepair (r.fld x) (sourceAt r.addr) r.addr else a) t = t := by
      intro L
      induction L with
      | nil => intro t _; rfl
      | cons y L ih =>
        intro t hm
        rw [List.foldl_cons, ih _ fun x hx => hm x (.tail _ hx)]
        simp [(ha y (hm y (.head _))).1.1.1.2]
    exact this _ _ fun _ h => h
  have aux : ∀ (L : List FldDesc) (t : State) (H : List (Fld × Nat × Nat)), (∀ x ∈ L, x ∈ r.d.fields) →
      L.Pairwise (fun a b => a.id ≠ b.id) → t.mode = s.mode → t.rest = { s.rest with fabric := t.fabric } →
      (∀ g : Fld, (∀ y ∈ r.d.fields, ¬ (r.fld y).same g) → t.rd g = s.rd g) →
      (∀ x ∈ L, t.rd (r.fld x) = s.rd (r.fld x)) →
      L.foldl (fldWrite arm false r (w)) (t, { hooks := H }) =
        (L.foldl (fieldPut r w arm s) t, { hooks := H ++ L.flatMap (fieldHook r w arm s) }) := by
    intro L
    induction L with
    | nil => intro t H _ _ _ _ _ _; simp
    | cons y L ih =>
      intro t H hm hd hmo hre hgo hrd
      have hy := ha y (hm y (.head _))
      have fp : fldPart y r.k = some (0, y.lo, y.width) := by
        rw [hk]; exact fldPart_one hy.1.1.1.1.1 hy.1.1.1.1.2
      have fy := hf y (hm y (.head _))
      have ry := hrd y (.head _)
      obtain ⟨dy, dl⟩ := List.pairwise_cons.1 hd
      have olt : s.rd (r.fld y) < 2 ^ y.width := rd_lt s (r.fld y)
      have mask : ∀ v, fldMask (r.fld y) v = v := by
        intro v
        unfold fldMask
        rw [if_neg (by simp [hy.1.2]), if_neg (by simp [hy.2])]
      have wr : ∀ v, (t.wr (r.fld y) v).mode = s.mode ∧ (t.wr (r.fld y) v).rest = { s.rest with fabric := (t.wr (r.fld y) v).fabric } ∧
          (∀ g : Fld, (∀ y ∈ r.d.fields, ¬ (r.fld y).same g) → (t.wr (r.fld y) v).rd g = s.rd g) ∧
          ∀ x ∈ L, (t.wr (r.fld y) v).rd (r.fld x) = s.rd (r.fld x) := by
        intro v
        refine ⟨?_, ?_, ?_, ?_⟩
        · rw [State.mode, rd_wr_ne _ _ _ _ fun e => absurd e hy.1.1.2]; exact hmo
        · exact hre
        · intro g hg
          rw [rd_wr_ne _ _ _ _ fun e e' => hg y (hm y (.head _)) ⟨e, e'⟩]; exact hgo g hg
        · intro x hx
          rw [rd_wr_ne _ _ _ _ fun e => absurd e (dy x hx)]; exact hrd x (.tail _ hx)
      have step : fldWrite arm false r (w) (t, { hooks := H }) y =
          (fieldPut r w arm s t y, { hooks := H ++ fieldHook r w arm s y }) := by
        refine fldWrite_one fp hy.1.1.1.2 ry rfl mask (fun hk => ?_) fun hk => ?_
        · simp only [Bool.and_eq_true, Bool.not_eq_true'] at hk
          exact fy.1 hk.1 hk.2
        · refine fy.2.resolve_left (fun n => ?_) t hmo hre fun g hg => hgo g fun y hy => hg _ (List.mem_map_of_mem hy)
          simp [n.1, n.2] at hk
      have keep : (fieldPut r w arm s t y).mode = s.mode ∧ (fieldPut r w arm s t y).rest = { s.rest with fabric := (fieldPut r w arm s t y).fabric } ∧
          (∀ g : Fld, (∀ y ∈ r.d.fields, ¬ (r.fld y).same g) → (fieldPut r w arm s t y).rd g = s.rd g) ∧
          ∀ x ∈ L, (fieldPut r w arm s t y).rd (r.fld x) = s.rd (r.fld x) := by
        have z : t.mode = s.mode ∧ t.rest = { s.rest with fabric := t.fabric } ∧ (∀ g : Fld, (∀ y ∈ r.d.fields, ¬ (r.fld y).same g) → t.rd g = s.rd g) ∧
            ∀ x ∈ L, t.rd (r.fld x) = s.rd (r.fld x) := ⟨hmo, hre, hgo, fun x hx => hrd x (.tail _ hx)⟩
        unfold fieldPut
        split
        · exact z
        · split
          · split
            · exact z
            · exact wr _
          · split
            · exact z
            · exact wr _
          · exact z
      rw [List.foldl_cons, List.foldl_cons, step,
        ih _ _ (fun x hx => hm x (.tail _ hx)) dl keep.1 keep.2.1 keep.2.2.1 keep.2.2.2]
      simp
  unfold writeFields
  rw [hv]
  have := aux r.d.fields s' [] (fun _ h => h) (hp.imp fun h => h.2) (by simp [State.mode, rd_eq, hs]) hq
    (fun g _ => by simp [rd_eq, hs]) (fun x _ => by simp [rd_eq, hs])
  simpa [regPuts, regHooks] using this

theorem regFrom_regs (p : Port) (r : RegAt) (s : State) : (regFrom p r s).regs = s.regs := by
  unfold regFrom disarm; split <;> rfl

/-- The law of a word that an open register takes: its fields are written, then their effects follow. -/
theorem writeAt_open {e : Ext} {p : Port} {w : Nat} {s : State} {r : RegAt} (h : Opens p r w s) :
    writeAt e p 15 r.addr w s =
      (regHooks r w (armed p s) s).foldl (fun s h => hook e p r h.1 h.2.1 h.2.2 s) (regPuts r w (armed p s) s (regFrom p r s)) := by
  have h8 : r.addr ≠ 8 := by
    have := h.plain
    simp only [plainReg, Bool.and_eq_true, decide_eq_true_eq] at this
    exact this.2
  have hq' : regShut p r (regFrom p r s) = false := by
    rw [← h.shut]; unfold regFrom; split <;> rfl
  have main : writeExec e p (armed p s) false r w (regFrom p r s) =
      (regHooks r w (armed p s) s).foldl (fun s h => hook e p r h.1 h.2.1 h.2.2 s)
        (regPuts r w (armed p s) s (regFrom p r s)) := by
    have x := writeFields_open (w := w) (arm := armed p s) h.plain (regFrom_regs p r s) (by unfold regFrom; split <;> rfl) h.fields
    unfold writeExec
    simp only [h8, if_false, hq', Bool.false_eq_true, Bool.false_and, x, hitNote]
  unfold writeAt writeIssue
  simp only [h.map, if_false, h.served, h.mirror, Option.map_some, Option.getD_some, Bool.or_false, ne_eq, reduceCtorEq,
    not_false_eq_true, true_and, Option.isNone_some, Bool.false_and, Bool.false_eq_true, not_true_eq_false]
  have e1 : (if r.keyed = true then disarm p s else s) = regFrom p r s := by unfold regFrom; rfl
  rw [e1, ← main]
  unfold writeNow
  simp [h.map]

end Sys2Proof.Machine
end

