-- ==== Sys2Proof/Tests/Slice0.lean ====
section
/-! SUPPORT. Tests: terms that WellFormed refuses, single steps against figures of the spec, and for each statement of
Certificates/Slice0/Obligations.lean a state and operands that meet its hypotheses, clause by clause. -/

namespace Sys2Proof.Machine

-- One thread: so many closed evaluations at once ask for more stacks than the memory limit allows.
set_option Elab.async false

/-! ## States to test on -/

/-- Registers at given values. -/
def State.put (s : State) (l : List (Fld × Nat)) : State := l.foldl (fun a e => a.wr e.1 e.2) s

/-- `Calm`, as a check. -/
def calmB (s : State) : Bool :=
  decide (s.todo = []) && ((upto 4).all fun v => decide ((s.pas v).rungDelay = none)) &&
    ((upto 5).all fun k => match domOf k s with
      | .idle => !domTakes k s || decide (domRung k s ≤ targetOf k s)
      | .asked r _ => decide (k ≠ 0) && (!domTakes k s || decide (targetOf k s = r))
      | _ => true) && !s.bit R.WARP_STAT_LIVE_BUSY && !(decide (s.mode = 0) && decide (s.boot.step = 9))

theorem calm_of {s : State} (h : calmB s = true) : Calm s := by
  simp only [calmB, Bool.and_eq_true, decide_eq_true_eq, List.all_eq_true, mem_upto, Bool.not_eq_true', Bool.and_eq_false_imp,
    decide_eq_false_iff_not] at h
  obtain ⟨⟨⟨⟨a, b⟩, c⟩, d⟩, e⟩ := h
  refine ⟨a, b, fun k hk => ?_, d, fun x => e x.1 x.2⟩
  have := c k hk
  unfold Resting
  split <;> simp_all
  · intro h; simp_all
  · intro h; simp_all

/-- The device in SERVICE, its vales powered, nothing under way. -/
def svc : State :=
  { State.reset.put [(R.GLB_MODE_MODE, 2)] with
    boot := { step := 13, reactionsLive := true },
    passes := [(0, { powered := true }), (1, { powered := true }), (2, { powered := true }), (3, { powered := true })] }

/-- Trunk `t` in a state of R113, with what else it holds. -/
def onTrk (t st : Nat) (x : Trunk) (l : List (Fld × Nat)) : State :=
  { svc.put ((R.TRK_STAT_STATE t, st) :: l) with trunks := [(t, x)] }

/-- Drop `d` in a state of R179, with what else it holds. -/
def onDrp (d st : Nat) (x : Drop) (l : List (Fld × Nat)) : State :=
  { svc.put ((R.DRP_STAT_STATE d, st) :: l) with drops := [(d, x)] }

/-- Vale 3 with what its pass holds. -/
def onPas (x : Pass) (l : List (Fld × Nat)) : State := { svc.put l with passes := [(3, { x with powered := true })] }

/-- `Loggable`, as a check. -/
def logB (src : Nat) (s : State) : Bool :=
  s.boot.reactionsLive && decide (s.boot.selfTest = none) && !s.slotHeld src &&
    decide (∀ f ∈ [R.WATCH_REACT_GRACE_MS src, R.WATCH_REACT_F_ACTION src, R.WATCH_REACT_U_ACTION src],
      (s.copies f).1 = (s.copies f).2.1 ∧ (s.copies f).1 = (s.copies f).2.2) &&
    decide (s.rd (R.WATCH_REACT_U_ACTION src) = 0) && decide (s.rd R.PWR_STAT_HOST_RUNG < 2)

theorem log_of {src : Nat} {s : State} (h : logB src s = true) : Loggable src s := by
  simp only [logB, Bool.and_eq_true, decide_eq_true_eq, Bool.not_eq_true'] at h
  obtain ⟨⟨⟨⟨⟨a, b⟩, c⟩, d⟩, e⟩, f⟩ := h
  exact ⟨a, b, c, d, e, f⟩

/-- No action for errors of class U at a source. -/
def State.mute (s : State) (src : Nat) : State := s.wrV (R.WATCH_REACT_U_ACTION src) 0

/-! ## Hypotheses that can be met: trunks -/

theorem wit_TrunkTimersMoveOn :
    (∃ s, Calm s ∧ Alone 7 s ∧ trkState 7 s = 12) ∧ (∃ s, Calm s ∧ Alone 7 s ∧ trkState 7 s = 10 ∧ (s.trk 7).wake = 1) ∧
    (∃ s, Calm s ∧ Alone 7 s ∧ trkState 7 s = 13) ∧ (∃ s, Calm s ∧ Alone 7 s ∧ 2 ≤ trkState 7 s ∧ trkState 7 s ≤ 4) ∧
    (∃ s, Calm s ∧ Alone 7 s ∧ trkState 7 s = 10 ∧ (s.trk 7).wake = 2) ∧
    (∃ s, Calm s ∧ Alone 7 s ∧ trkState 7 s = 10 ∧ (s.trk 7).wake = 3) :=
  ⟨⟨onTrk 7 12 {} [], calm_of (by decide), rfl, rfl⟩, ⟨onTrk 7 10 { wake := 1 } [], calm_of (by decide), rfl, rfl, rfl⟩,
    ⟨onTrk 7 13 {} [], calm_of (by decide), rfl, rfl⟩, ⟨onTrk 7 4 {} [], calm_of (by decide), rfl, by decide, by decide⟩,
    ⟨onTrk 7 10 { wake := 2 } [], calm_of (by decide), rfl, rfl, rfl⟩,
    ⟨onTrk 7 10 { wake := 3 } [], calm_of (by decide), rfl, rfl, rfl⟩⟩

theorem wit_TrunkFailuresHold :
    (∃ s, Calm s ∧ Alone 0 s ∧ 5 ≤ trkState 0 s ∧ trkState 0 s ≤ 7 ∧ (s.trk 0).alignWait = false) ∧
    (∃ s, Calm s ∧ Alone 0 s ∧ trkState 0 s = 1 ∧ (s.trk 0).anPeer = true) ∧
    (∃ s, Calm s ∧ Alone 0 s ∧ 3 ≤ trkState 0 s ∧ trkState 0 s ≤ 7) ∧
    (∃ s, Calm s ∧ Alone 0 s ∧ trkState 0 s = 9 ∧ (s.trk 0).alignWait = false) ∧
    (∃ s, Calm s ∧ Alone 0 s ∧ trkState 0 s = 13) :=
  ⟨⟨onTrk 0 5 {} [], calm_of (by decide), rfl, by decide, by decide, rfl⟩,
    ⟨onTrk 0 1 { anPeer := true } [], calm_of (by decide), rfl, rfl, rfl⟩,
    ⟨onTrk 0 3 {} [], calm_of (by decide), rfl, by decide, by decide⟩,
    ⟨onTrk 0 9 {} [], calm_of (by decide), rfl, rfl, rfl⟩, ⟨onTrk 0 13 {} [], calm_of (by decide), rfl, rfl⟩⟩

theorem wit_TriggersRetrain :
    ∃ s, Calm s ∧ Alone 7 s ∧ Unheld 7 s ∧ Idle 7 s ∧ trkState 7 s = 8 ∧ trkCR 7 s = true ∧ (s.trk 7).qw.suspended = false ∧
      s.bit (R.TRK_RETRAIN_CTL_FR_EN 7) = true ∧ ((s.trk 7).triggers.filter fun a => s.age < a + second).length < 4 ∧
      4 ≤ (s.trk 7).missRun ∧ 1024 ≤ (s.trk 7).lowRun ∧ s.rd (R.TRK_RETRAIN_CTL_UNC_LIM 7) ≤ (s.trk 7).uncPeriod :=
  ⟨onTrk 7 8 { missRun := 4, lowRun := 1024, uncPeriod := 255 } [(R.TRK_STAT_RESOLVED 7, 4), (R.TRK_RETRAIN_CTL_FR_EN 7, 1)],
    calm_of (by decide), rfl, ⟨rfl, rfl⟩, ⟨rfl, by decide⟩, rfl, rfl, rfl, rfl, by decide, by decide, by decide, by decide⟩

theorem wit_TrunkExchanges :
    (∃ s, Calm s ∧ trkState 7 s = 1) ∧ (∃ s, Calm s ∧ trkState 7 s ≠ 6 ∧ (s.trk 7).alignWait = true) ∧
    (∃ s, ∃ seq : BitVec 8, Calm s ∧ Alone 7 s ∧ (s.trk 7).sleepSeq = some seq.toNat ∧ (s.trk 7).rungAsk = none) ∧
    (∃ s, Calm s ∧ trkState 7 s = 8 ∧ trkCR 7 s = true ∧ Alone 7 s ∧ (s.trk 7).lchDone = none) ∧
    (∃ s r, Calm s ∧ (s.trk 7).lch = some r ∧ r.left = 0 ∧ r.type = 2 ∧ (s.trk 7).rungAsk = none) ∧
    (∃ s, Calm s ∧ trkState 7 s = 8 ∧ eeeInUse 7 s = true ∧ (s.trk 7).bank4 = []) ∧
    (∃ s, Calm s ∧ trkState 7 s = 8 ∧ trkCR 7 s = true ∧ s.bit (R.TRK_STAT_LPI_TX 7) = true) ∧
    (∃ s, Calm s ∧ trkState 7 s = 10 ∧ (s.trk 7).wake = 1) :=
  ⟨⟨onTrk 7 1 {} [], calm_of (by decide), rfl⟩, ⟨onTrk 7 9 { alignWait := true } [], calm_of (by decide), by decide, rfl⟩,
    ⟨onTrk 7 8 { sleepSeq := some 255 } [], 255, calm_of (by decide), rfl, rfl, rfl⟩,
    ⟨onTrk 7 8 {} [(R.TRK_STAT_RESOLVED 7, 5)], calm_of (by decide), rfl, rfl, rfl, rfl⟩,
    ⟨onTrk 7 8 { lch := some ⟨2, 9, 0, 0, none⟩ } [], ⟨2, 9, 0, 0, none⟩, calm_of (by decide), rfl, rfl, rfl, rfl⟩,
    ⟨onTrk 7 8 {} [(R.TRK_STAT_RESOLVED 7, 5), (R.TRK_AN_CR_LOC_WORD 7, 2 ^ 32 - 1), (R.TRK_AN_CR_LP_WORD 7, 2 ^ 32 - 1)],
      calm_of (by decide), rfl, by decide, rfl⟩,
    ⟨onTrk 7 8 {} [(R.TRK_STAT_RESOLVED 7, 5), (R.TRK_STAT_LPI_TX 7, 1)], calm_of (by decide), rfl, rfl, rfl⟩,
    ⟨onTrk 7 10 { wake := 1 } [], calm_of (by decide), rfl, rfl⟩⟩

theorem wit_AnResolves :
    (∃ s, ∃ r : AnResult, ∃ m, Calm s ∧ Alone 7 s ∧ trkState 7 s = 1 ∧ r.msFault = false ∧ bestMode (bothModes 7 r s) = some m ∧ 4 ≤ m) ∧
    (∃ s, ∃ r : AnResult, ∃ m, Calm s ∧ Alone 7 s ∧ trkState 7 s = 1 ∧ r.msFault = false ∧ bestMode (bothModes 7 r s) = some m ∧ m < 4) ∧
    (∃ s, ∃ r : AnResult, Calm s ∧ Alone 7 s ∧ trkState 7 s = 1 ∧ r.msFault = true) ∧
    ∃ s, ∃ r : AnResult, Calm s ∧ Alone 7 s ∧ trkState 7 s = 1 ∧ r.msFault = false ∧ bestMode (bothModes 7 r s) = none :=
  let s := onTrk 7 1 {} [(R.TRK_CTL_MODE 7, 5), (R.TRK_CTL_ADV_MASK 7, 63)]
  ⟨⟨s, ⟨0, some 0x1FFFFFFF, true, false⟩, 5, calm_of (by decide), rfl, rfl, rfl, by decide, by decide⟩,
    ⟨s, ⟨1, none, true, false⟩, 0, calm_of (by decide), rfl, rfl, rfl, by decide, by decide⟩,
    ⟨s, ⟨1, none, true, true⟩, calm_of (by decide), rfl, rfl, rfl⟩,
    ⟨s, ⟨0, none, true, false⟩, calm_of (by decide), rfl, rfl, rfl, by decide⟩⟩

theorem wit_LinesReceive :
    (∃ s, Calm s ∧ Alone 7 s ∧ trkState 7 s = 8 ∧ laneCount (s.pas (7 / 2)).upUse = 3 ∧ trkCR 7 s = true ∧
      qwOpen 7 s = false ∧ (s.trk 7).cwPos ≠ 0 ∧ (s.trk 7).qw.suspended = false ∧ (CwStatus.corrected 15).wf 15 = true) ∧
    ∃ s, Calm s ∧ Alone 7 s ∧ trkState 7 s = 8 ∧ laneCount (s.pas (7 / 2)).upUse = 3 ∧ trkCR 7 s = false :=
  ⟨⟨{ onTrk 7 8 { cwPos := 4095 } [(R.TRK_STAT_RESOLVED 7, 4)] with passes := [(3, { upUse := 7, powered := true })] },
      calm_of (by decide), rfl, rfl, rfl, rfl, rfl, by decide, rfl, rfl⟩,
    ⟨{ onTrk 7 8 {} [(R.TRK_STAT_RESOLVED 7, 3)] with passes := [(3, { upUse := 7, powered := true })] },
      calm_of (by decide), rfl, rfl, rfl, rfl⟩⟩

theorem wit_ImpulseGuard :
    (∃ s, Calm s ∧ 5 ≤ trkState 0 s ∧ trkState 0 s ≤ 9) ∧ (∃ s, Calm s ∧ trkState 0 s = 3) ∧
    ∃ s, Calm s ∧ adaptStopped 0 s = true :=
  ⟨⟨onTrk 0 9 {} [], calm_of (by decide), by decide, by decide⟩, ⟨onTrk 0 3 {} [], calm_of (by decide), rfl⟩,
    ⟨onTrk 0 8 {} [(R.TRK_EQ_STAT_IMPULSE 0, 1)], calm_of (by decide), by decide⟩⟩

theorem wit_EqualiserLoops :
    (∃ s, Calm s ∧ qwOpen 0 s = false) ∧ (∃ s, Calm s ∧ trkState 0 s = 11) ∧ (∃ s, Calm s ∧ trkState 0 s = 8) ∧
    ∃ s, Calm s ∧ adaptStopped 0 s = false ∧ (loopsAdapt 0 s).2 = true ∧ s.rd (R.TRK_EQ_RX_GAIN_QDB 0) ≤ 120 :=
  ⟨⟨svc, calm_of (by decide), rfl⟩, ⟨onTrk 0 11 {} [], calm_of (by decide), rfl⟩, ⟨onTrk 0 8 {} [], calm_of (by decide), rfl⟩,
    ⟨onTrk 0 8 {} [(R.TRK_EQ_RX_GAIN_QDB 0, 120)], calm_of (by decide), by decide, by decide, by decide⟩⟩

theorem wit_SparseWindows :
    (∃ s goal, Calm s ∧ adaptStopped 7 s = false ∧ tget none (s.trk 7).eq.slides 7 = some goal ∧ goal < 2 ^ 13 ∧
      s.rd (R.TRK_EC_WIN_START 7 7) + 1 < goal ∧ ((winGet (s.trk 7).eq.sparse 7).getD 0 0).natAbs < 64) ∧
    (∃ s, Calm s ∧ winState 7 7 s = 3 ∧ adaptStopped 7 s = false ∧ Placed 7 s) ∧
    (∃ s, Calm s ∧ winState 7 7 s = 2 ∧ adaptStopped 7 s = false ∧ Placed 7 s) ∧
    (∃ s, Calm s ∧ winState 7 7 s = 1 ∧ s.bit (R.TRK_EC_WIN_PIN 7 7) = false ∧ tget none (s.trk 7).eq.slides 7 = none ∧
      strongestTap (winGet (s.trk 7).eq.sparse 7) = 21 ∧ adaptStopped 7 s = false) ∧
    (∃ s, Calm s ∧ s.bit (R.TRK_EC_CTL_AUTO_PLACE 7) = true ∧ s.bit (R.TRK_EC_CTL_SPARSE_EN 7) = true ∧ qwOpen 7 s = false ∧
      trkState 7 s = 8 ∧ s.bit (R.TRK_EC_STAT_REPLACING 7) = true) ∧
    ∃ s d l, Calm s ∧ searchRuns 7 s = true ∧ (s.trk 7).eq.block < 89 ∧ (∀ k < 8, winState 7 k s = 0) ∧
      256 + 64 * (s.trk 7).eq.block ≤ d ∧ d < 320 + 64 * (s.trk 7).eq.block ∧ d ≤ 5999 ∧
      l ≤ 2 * s.rd (R.TRK_EC_CTL_PLACE_DB 7) :=
  ⟨⟨onTrk 7 8 { eq := { slides := [(7, some 8191)], sparse := [(448, 63)] } } [(R.TRK_EC_WIN_START 7 7, 8189)], 8191,
      calm_of (by decide), by decide, rfl, by decide, by decide, by decide⟩,
    ⟨onTrk 7 8 {} [(R.TRK_EC_WIN_STATE 7 7, 3)], calm_of (by decide), rfl, by decide, rfl, by decide⟩,
    ⟨onTrk 7 8 {} [(R.TRK_EC_WIN_STATE 7 7, 2)], calm_of (by decide), rfl, by decide, rfl, by decide⟩,
    ⟨onTrk 7 8 { eq := { sparse := [(469, 5)] } } [(R.TRK_EC_WIN_STATE 7 7, 1)], calm_of (by decide), by decide +kernel⟩,
    ⟨onTrk 7 8 {} [(R.TRK_EC_CTL_AUTO_PLACE 7, 1), (R.TRK_EC_CTL_SPARSE_EN 7, 1), (R.TRK_EC_STAT_REPLACING 7, 1)],
      calm_of (by decide), rfl, rfl, rfl, rfl, rfl⟩,
    ⟨onTrk 7 8 { eq := { block := 88 } } [(R.TRK_EC_CTL_SEARCH_EN 7, 1), (R.TRK_EC_CTL_PLACE_DB 7, 40)], 5951, 80,
      calm_of (by decide), by decide, by decide, by decide, by decide, by decide, by decide, by decide⟩⟩

theorem wit_QuietWindows :
    (∃ s, Calm s ∧ Alone 7 s ∧ calWants 7 s = true ∧ trkState 7 s = 8 ∧ trkCR 7 s = true ∧
      s.bit (R.TRK_QW_LIM_QW_EN 7) = true ∧ (s.trk 7).lch = none ∧ (s.trk 7).qw.grant = none ∧ (s.trk 7).qw.waiting = [] ∧
      (s.trk 7).qw.retry = [(.calibration, s.age)]) ∧
    (∃ s, ∃ p : BitVec 48, Calm s ∧ Alone 7 s ∧ trkState 7 s = 8 ∧ trkCR 7 s = true ∧ tbits p.toNat 47 46 = 0 ∧
      tbits p.toNat 45 44 ∈ [0, 3] ∧ (s.trk 7).lchDone = none ∧ QwFree 7 (tbits p.toNat 39 32) (tbits p.toNat 31 16) s) ∧
    (∃ s, ∃ seq : BitVec 8, ∃ r, Calm s ∧ Alone 7 s ∧ (s.trk 7).lch = some r ∧ r.type = 0x10 ∧ r.seq = seq.toNat ∧
      tbits r.payload 45 44 ∈ [0, 3] ∧ r.purpose = some .host ∧ (s.trk 7).qw.waiting = []) ∧
    (∃ s, ∃ p : BitVec 48, ∃ g, Calm s ∧ Alone 7 s ∧ (s.trk 7).qw.grant = some g ∧ g.isLocal = false ∧ g.opened = false ∧
      g.seq = tbits p.toNat 15 8 ∧ Idle 7 s) ∧
    (∃ s g, Calm s ∧ Alone 7 s ∧ (s.trk 7).qw.grant = some g ∧ g.opened = false ∧ g.purpose ≠ 2 ∧ trkState 7 s = 8 ∧
      g.isLocal = true ∧ (s.trk 7).amTx = g.start) ∧
    (∃ s g, Calm s ∧ Alone 7 s ∧ (s.trk 7).qw.grant = some g ∧ g.opened = false ∧ g.purpose ≠ 2 ∧ trkState 7 s = 8 ∧
      g.isLocal = false ∧ (s.trk 7).amRx = some g.start) ∧
    ∃ s g, Calm s ∧ Alone 7 s ∧ (s.trk 7).qw.grant = some g ∧ g.opened = true ∧ (s.trk 7).qw.waiting = [] ∧ Idle 7 s :=
  ⟨⟨onTrk 7 8 { qw := { retry := [(.calibration, 0)] } }
        [(R.TRK_STAT_RESOLVED 7, 5), (R.TRK_QW_LIM_QW_EN 7, 1), (R.ASSAY_CTL_EN, 1), (R.ASSAY_ITEM_STAT_STATE 7, 1)],
      calm_of (by decide), rfl, by decide, rfl, rfl, rfl, rfl, rfl, rfl, rfl⟩,
    ⟨onTrk 7 8 { amRx := some 255 } [(R.TRK_STAT_RESOLVED 7, 5), (R.TRK_QW_LIM_QW_EN 7, 1), (R.TRK_QW_LIM_MAX_US 7, 400)],
      0x007E01900000, calm_of (by decide), rfl, rfl, rfl, by decide, by decide, rfl,
      ⟨rfl, by decide, by decide, rfl, rfl, rfl, ⟨rfl, rfl⟩, by decide, rfl⟩⟩,
    ⟨onTrk 7 8 { lch := some ⟨0x10, 255, 0x300001900000, 3, some .host⟩ } [], 255, ⟨0x10, 255, 0x300001900000, 3, some .host⟩,
      calm_of (by decide), rfl, rfl, rfl, rfl, by decide, rfl, rfl⟩,
    ⟨onTrk 7 8 { qw := { grant := some ⟨false, 0, 0, 0, 400, 255, false, 0⟩ } } [], 0xFF00, ⟨false, 0, 0, 0, 400, 255, false, 0⟩,
      calm_of (by decide), rfl, rfl, rfl, rfl, by decide, ⟨rfl, by decide⟩⟩,
    ⟨onTrk 7 8 { qw := { grant := some ⟨true, 0, 0, 0, 400, 255, false, 0⟩ } } [], ⟨true, 0, 0, 0, 400, 255, false, 0⟩,
      calm_of (by decide), rfl, rfl, rfl, by decide, rfl, rfl, rfl⟩,
    ⟨onTrk 7 8 { amRx := some 255, qw := { grant := some ⟨false, 0, 3, 255, 400, 255, false, 0⟩ } } [],
      ⟨false, 0, 3, 255, 400, 255, false, 0⟩, calm_of (by decide), rfl, rfl, rfl, by decide, rfl, rfl, rfl⟩,
    ⟨onTrk 7 8 { qw := { grant := some ⟨true, 0, 0, 0, 400, 255, true, 0⟩ } } [], ⟨true, 0, 0, 0, 400, 255, true, 0⟩,
      calm_of (by decide), rfl, rfl, rfl, rfl, ⟨rfl, by decide⟩⟩⟩

/-- A copy of a position, corrected in `n` symbols. -/
def copyOf (n : Nat) : TwinCopy := { am := 255, index := 4095, status := .corrected n, message := 7, stampPs := 0, frames := [] }

theorem wit_TwinStream :
    (∃ s, Calm s ∧ s.bit (R.TWIN_CFG_FORMED 3) = true ∧ joined 3 false s = false ∧ joined 3 true s = false) ∧
    (∃ s, Calm s ∧ joined 3 true s = true ∧ (s.twin 3).copyHeld = some (b2n true, copyOf 15)) ∧
    (∃ s, Calm s ∧ s.bit (R.TWIN_CFG_FORMED 3) = true ∧ joined 3 false s = true ∧ joined 3 true s = true ∧
      offsetOk 3 s = true ∧ (s.twin 3).lastSel = none ∧ (copyOf 0).index ≠ 0 ∧ (s.twin 3).copyHeld = none) ∧
    ∃ s, Calm s ∧ s.bit (R.TWIN_CFG_FORMED 3) = true ∧ joined 3 false s = true ∧ joined 3 true s = true ∧
      offsetOk 3 s = true ∧ (s.twin 3).lastSel = none ∧ (s.twin 3).copyHeld = some (b2n (!false), copyOf 15) ∧
      posNum (copyOf 15) = posNum (copyOf 0) ∧ (copyOf 15).message = (copyOf 0).message ∧ (copyOf 0).status = .corrected 0 :=
  let l := [(R.TWIN_CFG_FORMED 3, 1), (R.TWIN_STAT_STATE_A 3, 3), (R.TWIN_STAT_STATE_B 3, 3), (R.TWIN_ARRIVAL_OFFSET_NS 3, 8000)]
  ⟨⟨svc.put [(R.TWIN_CFG_FORMED 3, 1), (R.TWIN_STAT_STATE_A 3, 2)], calm_of (by decide +kernel), by decide +kernel⟩,
    ⟨{ svc.put l with twins := [(3, { copyHeld := some (1, copyOf 15) })] }, calm_of (by decide +kernel), by decide +kernel⟩,
    ⟨svc.put l, calm_of (by decide +kernel), by decide +kernel⟩,
    ⟨{ svc.put l with twins := [(3, { copyHeld := some (1, copyOf 15) })] }, calm_of (by decide +kernel), by decide +kernel⟩⟩

theorem wit_TwinMembers :
    (∃ s, Calm s ∧ (getMem 3 true s).await = (5, true) :: []) ∧
    (∃ s, ∃ m : HelloMsg, Calm s ∧ twinOf 7 s = some (3, true) ∧ memState 3 true s = 1 ∧ m.role = 2 ∧
      s.rd (peerRoleFld 3 (!true)) = 0 ∧ soloReady (getMem 3 true s) = true ∧
      s.rd (R.TWIN_STAT_TWIN_STATE 3) = b2n (joined 3 (!true) s)) ∧
    ∃ s, Calm s ∧ twinOf 7 s = some (3, true) ∧ memState 3 true s = 2 :=
  let l := [(R.TWIN_CFG_FORMED 3, 1), (R.TWIN_CFG_MEMBER_A 3, 6), (R.TWIN_CFG_MEMBER_B 3, 7)]
  ⟨⟨{ svc with twins := [(3, { b := { await := [(5, true)] } })] }, calm_of (by decide +kernel), by decide +kernel⟩,
    ⟨{ svc.put (l ++ [(R.TWIN_STAT_STATE_B 3, 1)]) with twins := [(3, { b := { helloSeenSent := 4, helloGotSeen := true } })] },
      ⟨2, true, 3, 0⟩, calm_of (by decide +kernel), by decide +kernel⟩,
    ⟨svc.put (l ++ [(R.TWIN_STAT_STATE_B 3, 2)]), calm_of (by decide +kernel), by decide +kernel⟩⟩

/-! ## Drops -/

/-- The shortest frame of zeros with its FCS (the CRC-32 of 60 zero octets is 0x04128908). -/
def zeroFrame : LineFrame := ⟨List.replicate 60 0 ++ [0x08, 0x89, 0x12, 0x04], ⟨0, 0, 0⟩⟩

theorem wit_DropCycleRuns :
    (∃ s, Calm s ∧ drpState 63 s = 1) ∧
    (∃ s, Calm s ∧ drpState 63 s = 2 ∧ (s.drp 63).opp = none ∧ drpLong 63 s = false ∧ (∀ e ∈ s.warp.pendStn, e.1 ≠ 63) ∧
      (s.drp 63).line = []) ∧
    (∃ s, Calm s ∧ drpState 63 s = 2 ∧ (s.drp 63).opp = none ∧ (s.drp 63).deferred = false ∧ drpCalDue 63 s = true) ∧
    (∃ s, Calm s ∧ drpState 63 s = 2 ∧ (s.drp 63).opp = none ∧ (s.drp 63).deferred = false ∧ drpSurvDue 63 s = true) ∧
    (∃ s, Calm s ∧ drpState 63 s = 3 ∧ drpLong 63 s = false ∧ (∀ e ∈ s.warp.pendStn, e.1 ≠ 63) ∧ (s.drp 63).defer ≠ some false) ∧
    (∃ s, Calm s ∧ drpState 63 s = 4 ∧ drpLong 63 s = false ∧ (∀ e ∈ s.warp.pendStn, e.1 ≠ 63) ∧ (s.drp 63).defer ≠ some false) ∧
    ∃ s, Calm s ∧ drpBarred 63 30 s = true :=
  ⟨⟨onDrp 63 1 {} [], calm_of (by decide +kernel), by decide +kernel⟩,
    ⟨onDrp 63 2 {} [], calm_of (by decide +kernel), by decide +kernel⟩,
    ⟨onDrp 63 2 {} [(R.ASSAY_CTL_EN, 1), (R.ASSAY_ITEM_STAT_STATE 71, 1)], calm_of (by decide +kernel), by decide +kernel⟩,
    ⟨{ onDrp 63 2 {} [] with dsurv := [(63, { due := true })] }, calm_of (by decide +kernel), by decide +kernel⟩,
    ⟨onDrp 63 3 { defer := some true } [], calm_of (by decide +kernel), by decide +kernel⟩,
    ⟨onDrp 63 4 {} [], calm_of (by decide +kernel), by decide +kernel⟩,
    ⟨onDrp 63 2 { bars := [(30, true)] } [], calm_of (by decide +kernel), by decide +kernel⟩⟩

theorem wit_DropLineEvents :
    (∃ s, Calm s ∧ drpState 63 s = 2 ∧ drpLong 63 s = false ∧ (s.drp 63).opp = some (30 + 1) ∧ 64 ≤ zeroFrame.octets.length ∧
      fcsOk zeroFrame.octets = true ∧ stnFind 63 zeroFrame.octets s = some 30 ∧ drpBarred 63 30 s = false ∧
      bankOctets s (63 / 16) (drpBank 63) + zeroFrame.octets.length ≤ 524288) ∧
    (∃ s, Calm s ∧ drpState 63 s = 2 ∧ drpLong 63 s = false ∧ (s.drp 63).line = [] ∧ (s.drp 63).opp = none ∧
      Loggable (128 + 63) s) ∧
    ∃ s, Calm s ∧ drpState 63 s = 5 ∧ s.bit (R.DRP_PWR_WAKE_EN 63) = true ∧ tbit (s.rd R.PWR_WAKE_MASK) 1 = true ∧
      (s.drp 63).detector = true :=
  ⟨⟨onDrp 63 2 { opp := some 31 } [(R.DRP_STN_HI_VALID 63 30, 1)], calm_of (by decide +kernel), by decide +kernel⟩,
    ⟨(onDrp 63 2 {} []).mute 191, calm_of (by decide +kernel), by decide +kernel, by decide +kernel, by decide +kernel, by decide +kernel,
      log_of (by decide +kernel)⟩,
    ⟨onDrp 63 5 {} [(R.DRP_PWR_WAKE_EN 63, 1), (R.PWR_WAKE_MASK, 2)], calm_of (by decide +kernel), by decide +kernel⟩⟩

/-- A burst of one codeword beyond correction. -/
def badBurst : LdBurst :=
  { qpsk := [⟨.uncorrectable, List.replicate 239 0⟩], qam := [], snr := 255, cfo := 0, ffe := [], dfe := [], stamp := ⟨0, 0, 0⟩ }

/-- A burst without codewords. -/
def emptyBurst : LdBurst := { badBurst with qpsk := [] }

theorem wit_LongDropReceives :
    (∃ s, Calm s ∧ drpLong 63 s = true ∧ drpState 63 s = 2 ∧ (s.drp 63).line = [] ∧ (s.drp 63).stage = .idle) ∧
    (∃ s, ∃ sync : BitVec 48, ∃ hdr : BitVec 64, Calm s ∧ (s.drp 63).stage = .search ∧
      ldSyncMatch (s.rd (R.DRP_LD_CTL_SYNC_TOL 63)) sync = some false ∧ ldHdrDecode hdr = some ⟨2, 32, 1, 2, 5, 0⟩) ∧
    (∃ s n, Calm s ∧ (s.drp 63).stage = .burst 1 0 ∧ s.rd (R.DRP_LD_CTL_LD_MOD 63) ≠ 2 ∧
      ldSegment emptyBurst.qpsk ++ ldSegment emptyBurst.qam = List.replicate n .bad ∧ emptyBurst.snr < 256) ∧
    (∃ s, Calm s ∧ (s.drp 63).stage = .waitLoss) ∧
    (∃ s, Calm s ∧ (s.drp 63).stage = .burst 1 0 ∧ s.bit (R.DRP_LD_CTL_CAP_EN 63) = true) ∧
    ∃ s, ∃ sync : BitVec 48, Calm s ∧ s.bit (R.DRP_LD_STAT_CAP_ARMED 63) = true ∧
      (ldSyncMatch (s.rd (R.DRP_LD_CTL_SYNC_TOL 63)) sync).isSome = true ∧
      ldSegment emptyBurst.qpsk ++ ldSegment emptyBurst.qam = [] ∧ (s.drp 63).rxOpp = none :=
  ⟨⟨onDrp 63 2 {} [(R.DRP_CTL_MODE 63, 1)], calm_of (by decide +kernel), by decide +kernel⟩,
    ⟨onDrp 63 2 { stage := .search } [], BitVec.ofNat 48 ldSync, BitVec.ofNat 64 2882374701491980396,
      calm_of (by decide +kernel), by decide +kernel⟩,
    ⟨onDrp 63 2 { stage := .burst 1 0 } [(R.DRP_LD_CTL_LD_MOD 63, 0)], 0, calm_of (by decide +kernel), by decide +kernel⟩,
    ⟨onDrp 63 2 { stage := .waitLoss } [], calm_of (by decide +kernel), by decide +kernel⟩,
    ⟨onDrp 63 2 { stage := .burst 1 0 } [(R.DRP_LD_CTL_CAP_EN 63, 1)], calm_of (by decide +kernel), by decide +kernel⟩,
    ⟨onDrp 63 2 {} [(R.DRP_LD_STAT_CAP_ARMED 63, 1)], BitVec.ofNat 48 ldSync, calm_of (by decide +kernel), by decide +kernel⟩⟩

/-! ## The pass -/

theorem wit_PassLanes :
    (∃ s, ∃ b : PassBlock, Calm s ∧ tbit (dataLocks 3 true s) 2 = true ∧ hdrValid b.hdr 2 = true ∧ b.stuffBad = false ∧
      b.status = .corrected 8 ∧ hdrKind b.hdr ≠ 2) ∧
    (∃ s, Calm s ∧ tbit (dataLocks 3 false s) 2 = true) ∧ (∃ s, Calm s ∧ laneCount (lanesReported 3 true s) < 3) ∧
    ∃ s, Calm s ∧ lanesUsed 3 true s = 0 ∧ Loggable (32 + 3) s :=
  ⟨⟨onPas { dnLock := 4 } [], ⟨0xA4, false, .corrected 8, List.replicate 128 0, ⟨0, 0, 0⟩, []⟩, calm_of (by decide +kernel),
      by decide +kernel⟩,
    ⟨onPas {} [(R.PASS_STAT_UP_LOCK 3, 4)], calm_of (by decide +kernel), by decide +kernel⟩,
    ⟨onPas {} [], calm_of (by decide +kernel), by decide +kernel⟩,
    ⟨(onPas {} []).mute 35, calm_of (by decide +kernel), by decide +kernel, log_of (by decide +kernel)⟩⟩

/-- An EAPOL frame (EtherType 0x888E). -/
def eapol : List Byte := List.replicate 12 0 ++ [0x88, 0x8E] ++ List.replicate 50 0

/-- A received frame of the last drop. -/
def rxEapol : RxFrame := { port := 71, cls := 0, octets := eapol, stamp := ⟨0, 0, 0⟩, slot := 0, bad := false }

/-- A frame to send from a queue. -/
def txFrom (q : Nat) : TxFrame :=
  { queue := q, octets := eapol, tsreq := true, tag := 0, lane := 5, slot := 31, iso := false, collisions := 0 }

theorem wit_PassTraffic :
    (∃ s q, Calm s ∧ laneCount (s.pas 3).upUse = 3 ∧ tget [] s.rxBank (8 * 3 + 7) = rxEapol :: [] ∧ rxEapol.bad = false ∧
      frameType rxEapol.octets = 0x888E ∧ q = 4544 + rxEapol.port % 32 ∧
      (s.que q).total + (queuedRx q rxEapol).cells ≤ s.rd (R.MILLQ_LIMIT_LIMIT q) ∧
      s.rd (R.MILL_PART_USED_USED 4) + (queuedRx q rxEapol).cells ≤ s.rd (R.MILL_PART_RES_RESERVE 4)) ∧
    (∃ s, Calm s ∧ (s.pas 3).down = txFrom 4159 :: [] ∧ queuePort (txFrom 4159).queue < 8) ∧
    (∃ s, Calm s ∧ (s.pas 3).down = txFrom 4095 :: [] ∧ 8 ≤ queuePort (txFrom 4095).queue) ∧
    (∃ s, ∃ ls : List (Fin 18), Calm s ∧ ∃ l ∈ ls.take 4, (s.cred (portOf 3 l)).returned ≠ (s.cred (portOf 3 l)).reported) ∧
    ∃ s, Calm s ∧ s.bit (R.PASS_STAT_BEACON 3) = true :=
  ⟨⟨{ onPas { upUse := 7 } [(R.MILLQ_LIMIT_LIMIT 4551, 1000), (R.MILL_PART_RES_RESERVE 4, 1000)] with rxBank := [(31, [rxEapol])] },
      4551, calm_of (by decide +kernel), by decide +kernel⟩,
    ⟨onPas { down := [txFrom 4159] } [], calm_of (by decide +kernel), by decide +kernel⟩,
    ⟨onPas { down := [txFrom 4095] } [], calm_of (by decide +kernel), by decide +kernel⟩,
    ⟨{ svc with credits := [(portOf 3 17, { returned := 1 })] }, [17], calm_of (by decide +kernel), 17, by decide +kernel,
      by decide +kernel⟩,
    ⟨onPas {} [(R.PASS_STAT_BEACON 3, 1)], calm_of (by decide +kernel), by decide +kernel⟩⟩

theorem wit_PassTimes :
    (∃ s, Calm s ∧ s.valeRung 3 ≤ 2 ∧ s.isFenced (.vale 3) = false) ∧ (∃ s, Calm s ∧ (s.pas 3).t1 = some (-5)) ∧
    ∃ s, ∃ seq : BitVec 8, Calm s ∧ (s.pas 3).powered = true ∧ seq.toNat = (s.pas 3).upRx ∧ (s.pas 3).upHeld = [] ∧
      (s.pas 3).t3 = some 9 ∧ (s.pas 3).t4 = none :=
  ⟨⟨svc, calm_of (by decide +kernel), by decide +kernel⟩, ⟨onPas { t1 := some (-5) } [], calm_of (by decide +kernel), by decide +kernel⟩,
    ⟨onPas { upRx := 255, t3 := some 9 } [], 255, calm_of (by decide +kernel), by decide +kernel⟩⟩

/-- A request of the host die to vale 3, outstanding with SEQ 255. -/
def asks (b : HostBody) (x : Pass) : State := onPas { x with rx := 255, out := [⟨255, b, 1⟩] } []

/-- The write of a trunk's register in vale 3. -/
def acc (w : Option Nat) : ValeAcc := { port := .spi, addr := 0x137FC, write := w, armed := false }

theorem wit_TalliesRunOnce :
    (∃ kind r s, hostTally (.wake 3 true 255) = some (3, 255, kind) ∧ hostFind 3 255 s = some r ∧ kind r.body = true ∧
      (s.pas 3).powered = true ∧ (s.pas 3).rx = 255 ∧ Calm (bodyExec 3 r.body s).2 ∧ ((bodyExec 3 r.body s).2.pas 3).held = []) ∧
    (∃ kind r s, hostTally (.regWrReq 3 255) = some (3, 255, kind) ∧ hostFind 3 255 s = some r ∧ kind r.body = true ∧
      (s.pas 3).powered = true ∧ (s.pas 3).rx = 255 ∧ Calm (bodyExec 3 r.body s).2 ∧ ((bodyExec 3 r.body s).2.pas 3).held = []) ∧
    (∃ r s, hostFind 3 255 s = some r ∧ isReg true r.body = true ∧ (s.pas 3).powered = true ∧ Calm s ∧
      128 ≤ dist 8 255 (s.pas 3).rx ∧ cacheGet 3 255 s ≠ none) ∧
    (∃ b s, valeTally (.evt 3 255 17) = some (3, 255, b) ∧ (s.pas 3).powered = true ∧ (s.pas 3).upRx = 255 ∧
      Calm (upExec 3 b (hostGot 3 s)) ∧ ((upExec 3 b (hostGot 3 s)).pas 3).upHeld = []) ∧
    ∃ s, (s.pas 3).powered = true ∧ Calm s ∧ 128 ≤ dist 8 255 (s.pas 3).upRx ∧ (s.pas 3).upCache.contains 255 = true :=
  ⟨⟨_, ⟨255, .wake, 1⟩, asks .wake {}, rfl, by decide +kernel, rfl, by decide +kernel,
      by decide +kernel, calm_of (by decide +kernel), by decide +kernel⟩,
    ⟨_, ⟨255, .reg (acc (some 1)), 1⟩, asks (.reg (acc (some 1))) {}, rfl, by decide +kernel, rfl, by decide +kernel,
      by decide +kernel, calm_of (by decide +kernel), by decide +kernel⟩,
    ⟨⟨255, .reg (acc (some 1)), 1⟩, onPas { rx := 127, cache := [(255, .reg 0 0)], out := [⟨255, .reg (acc (some 1)), 1⟩] } [],
      by decide +kernel, rfl, by decide +kernel, calm_of (by decide +kernel), by decide +kernel, by decide +kernel⟩,
    ⟨_, onPas { upRx := 255 } [], rfl, by decide +kernel, by decide +kernel, calm_of (by decide +kernel), by decide +kernel⟩,
    ⟨onPas { upRx := 0, upCache := [255] } [], by decide +kernel, calm_of (by decide +kernel), by decide +kernel, by decide +kernel⟩⟩

/-- Each command of the host die runs in order at the vale: the request that it finds, and a calm state after it. -/
theorem wit_hostTallies : ∀ e ∈ [(Instr.regRdReq 3 255, HostBody.reg (acc none)), (.regWrReq 3 255, .reg (acc (some 1))),
      (.cmdSurveyPass 3 255, .cmd (.surv 0 1 0)), (.cmdSurveyPulse 3 255, .cmd (.surv 1 1 0)),
      (.cmdSurveyLoop 3 255, .cmd (.surv 2 1 0)), (.cmdSurveyAbort 3 255, .cmd (.surv 3 1 0)),
      (.cmdSurveyArmCapture 3 255, .cmd (.surv 4 1 0)), (.cmdAssayerAgent 3 255, .cmd (.assay 111 true)),
      (.cmdSelfTest 3 255, .cmd (.selfTest (.drop 63))), (.cmdFence 3 255, .cmd (.fence (.drop 63))),
      (.cmdRelease 3 255, .cmd (.release (.drop 63))), (.rungReq 3 255, .rung 3), (.wake 3 true 255, .wake)],
    (match hostTally e.1 with | some (v, q, k) => v = 3 && q = 255 && k e.2 | none => false) = true ∧
    (hostFind 3 255 (asks e.2 {})).isSome = true ∧ ((asks e.2 {}).pas 3).rx = 255 ∧
    calmB (bodyExec 3 e.2 (asks e.2 {})).2 = true ∧ ((bodyExec 3 e.2 (asks e.2 {})).2.pas 3).held = [] := by
  decide +kernel

/-- Each command of a vale runs in order at the host die. -/
theorem wit_valeTallies : ∀ e ∈ [(Instr.evt 3 255 17, ({} : Pass)), (.cmdDone 3 255, { dones := [⟨.surv 3 1 0, 0, [], false⟩] }),
      (.rungDone 3 255, { rungAns := some (3, 0, 31, 0) }), (.wake 3 false 255, { wakes := [1] }),
      (.fault 3 255 191 1 true 0x44 0, {})],
    (match valeTally e.1 with
      | some (v, q, b) => v = 3 && q = 255 && calmB (upExec 3 b (hostGot 3 (onPas { e.2 with upRx := 255 } [])))
      | none => false) = true := by
  decide +kernel

theorem wit_TallyAnswers :
    (∃ s r c, Calm s ∧ hostFind 3 255 s = some r ∧ NoneWaiting 3 s ∧ r.body = .cmd c ∧ cacheGet 3 255 s = some (.cmd 0)) ∧
    (∃ s r, Calm s ∧ hostFind 3 255 s = some r ∧ NoneWaiting 3 s ∧ r.body = .wake ∧ cacheGet 3 255 s = some .ack ∧ r.sends < 4) ∧
    (∃ s, Calm s ∧ (s.pas 3).upCache.contains 255 = true) ∧
    ∃ s, Calm s ∧ (s.pas 3).upHeld = [(255, .dreq)] ∧ 0 < dist 8 255 (s.pas 3).upRx :=
  ⟨⟨asks (.cmd (.surv 3 1 0)) { cache := [(255, .cmd 0)] }, ⟨255, .cmd (.surv 3 1 0), 1⟩, .surv 3 1 0, calm_of (by decide +kernel),
      by decide +kernel, by unfold NoneWaiting; decide +kernel, by decide +kernel⟩,
    ⟨asks .wake { cache := [(255, .ack)] }, ⟨255, .wake, 1⟩, calm_of (by decide +kernel), by decide +kernel,
      by unfold NoneWaiting; decide +kernel, by decide +kernel⟩,
    ⟨onPas { upCache := [255] } [], calm_of (by decide +kernel), by decide +kernel⟩,
    ⟨onPas { upHeld := [(255, .dreq)] } [], calm_of (by decide +kernel), by decide +kernel⟩⟩

theorem wit_ValeAccessesEnd :
    (∃ s x r, Calm s ∧ NoneStalled s ∧ hostFind 3 255 s = some r ∧ NoneWaiting 3 s ∧ r.body = .reg x ∧ x.write = none ∧
      cacheGet 3 255 s = some (.reg 7 0) ∧ x ∈ inFlight 3 s) ∧
    ∃ s x l, Calm s ∧ NoneStalled s ∧ inFlight 3 s = x :: l ∧ Loggable 0 s :=
  ⟨⟨{ asks (.reg (acc none)) { cache := [(255, .reg 7 0)] } with fabric := { flight := [(3, [acc none])] } }, acc none,
      ⟨255, .reg (acc none), 1⟩, calm_of (by decide +kernel), fun p => by cases p <;> rfl, by decide +kernel,
      by unfold NoneWaiting; decide +kernel, by decide +kernel⟩,
    ⟨({ svc with fabric := { flight := [(3, [acc none])] } } : State).mute 0, acc none, [], calm_of (by decide +kernel),
      fun p => by cases p <;> rfl, by decide +kernel, log_of (by decide +kernel)⟩⟩

theorem wit_TallyLanes :
    (∃ s, Calm s ∧ (s.pas 3).powered = true ∧ s.bit (tallyLockFld 3 true) = true) ∧
    ∃ s, Calm s ∧ (s.pas 3).powered = true ∧ s.bit (tallyLockFld 3 true) = false ∧ Loggable (32 + 3) s :=
  ⟨⟨onPas {} [(R.PASS_STAT_TDN_LOCK 3, 1)], calm_of (by decide +kernel), by decide +kernel⟩,
    ⟨(onPas {} []).mute 35, calm_of (by decide +kernel), by decide +kernel, by decide +kernel, log_of (by decide +kernel)⟩⟩

/-- An INFO field of state 0 with its CRC-16. -/
def infoZero : BitVec 64 := BitVec.ofNat 64 13033417321610266641

/-- Vale 3 is asked for Keep, and its answer has arrived. -/
def rungState (code : Nat) : State :=
  { onPas { out := [⟨255, .rung 3, 1⟩], cache := [(255, .rung 3 code 17 1)] } [] with power := { dom := [(4, .asked 3 [])] } }

theorem wit_AnswersArrive :
    (∃ s, (s.pas 3).t1 = some 0 ∧ (s.pas 3).t2 = some 0 ∧ (s.pas 3).t3 = some 0 ∧ (s.pas 3).t4 = some 0 ∧ Calm s ∧
      (exchange 0 0 0 0 0).2.2.natAbs ≤ 1000 ∧ s.rd (R.PASS_ASYM_ASYM_PS 3) = 0) ∧
    (∀ code ∈ [0, 1, 2], hostFind 3 255 (rungState code) = some ⟨255, .rung 3, 1⟩ ∧
      cacheGet 3 255 (rungState code) = some (.rung 3 code 17 1) ∧
      domOf 4 (hostDrop 3 255 (hostGot 3 (rungState code))) = .asked 3 []) ∧
    Calm (domPut 4 (.committed 3) (hostDrop 3 255 (hostGot 3 (rungState 0)))) ∧
    Calm (domPut 4 .idle (refusal 4 3 (2 + portOf 3 17) 1 (hostDrop 3 255 (hostGot 3 (rungState 1))))) ∧
    Calm (domPut 4 (.asked 3 [2 + portOf 3 17]) (hostDrop 3 255 (hostGot 3 (rungState 2)))) ∧
    (∃ s, trkState 7 s = 8 ∧ trkCR 7 s = true ∧ ∃ f, infoDecode infoZero = some f ∧ Calm (infoData 7 f s)) ∧
    (∃ s, trkState 7 s = 10 ∧ (s.trk 7).wake = 2 ∧ Calm (trkResume 7 s)) ∧ ∃ s, trkState 7 s = 11 ∧ Calm s :=
  ⟨⟨onPas { t1 := some 0, t2 := some 0, t3 := some 0, t4 := some 0 } [], by decide +kernel, by decide +kernel, by decide +kernel,
      by decide +kernel, calm_of (by decide +kernel), by decide +kernel⟩,
    by decide +kernel, calm_of (by decide +kernel), calm_of (by decide +kernel), calm_of (by decide +kernel),
    ⟨onTrk 7 8 {} [(R.TRK_STAT_RESOLVED 7, 5)], by decide +kernel, by decide +kernel, (infoDecode infoZero).get (by decide +kernel),
      by decide +kernel, calm_of (by decide +kernel)⟩,
    ⟨onTrk 7 10 { wake := 2 } [], by decide +kernel, by decide +kernel, calm_of (by decide +kernel)⟩,
    ⟨onTrk 7 11 {} [], by decide +kernel, calm_of (by decide +kernel)⟩⟩

/-! ## Host lanes and the Miller -/

theorem wit_HostLanes :
    (∃ s, Calm s ∧ s.bit (R.HLN_STAT_LOCK 5) = false ∧ s.rd R.PWR_STAT_HOST_RUNG < 2) ∧
    (∃ s, Calm s ∧ s.bit (R.HLN_STAT_LOCK 5) = true ∧ (s.hln 5).busy = none) ∧
    (∃ s, Calm s ∧ s.bit (R.HLN_CTL_ENABLE 5) = true ∧ s.bit (R.HLN_STAT_TX_IDLE 5) = false ∧ (s.hln 5).busy = none ∧
      s.rd (R.HLN_CTL_IDLE_US 5) ≠ 0) ∧
    ∃ s, ∃ r : Report, Calm s ∧ laneUp 5 s = true ∧ s.rd R.PWR_STAT_HOST_RUNG < 2 ∧ (s.hln 5).busy = none ∧
      s.reports = r :: [] ∧ r.lane = 5 ∧ s.bit (R.HLN_STAT_TX_IDLE 5) = false :=
  ⟨⟨svc, calm_of (by decide +kernel), by decide +kernel⟩,
    ⟨svc.put [(R.HLN_STAT_LOCK 5, 1)], calm_of (by decide +kernel), by decide +kernel⟩,
    ⟨svc.put [(R.HLN_CTL_ENABLE 5, 1), (R.HLN_CTL_IDLE_US 5, 255), (R.HLN_STAT_TX_IDLE 5, 0)], calm_of (by decide +kernel),
      by decide +kernel⟩,
    ⟨{ svc.put [(R.HLN_CTL_ENABLE 5, 1), (R.HLN_STAT_LOCK 5, 1), (R.HLN_STAT_TX_IDLE 5, 0)] with reports := [⟨5, 4607, 65535, none⟩] },
      ⟨5, 4607, 65535, none⟩, calm_of (by decide +kernel), by decide +kernel⟩⟩

/-- An egress waybill of queue 4095: its fifteen upper digits are 7, F, F, 8 and zeros, so that CHK is 0. -/
def topWaybill : BitVec 64 := 0x7FF8000000000000

theorem wit_HostRecordsEnter :
    ∃ s, Calm s ∧ RecordFits 5 4095 topWaybill.toNat (List.replicate 2000 0) s := by
  refine ⟨svc.put [(R.HLN_CTL_ENABLE 5, 1), (R.HLN_STAT_LOCK 5, 1), (R.DRP_CTL_ENABLE 63, 1), (R.MILLQ_LIMIT_LIMIT 4095, 8),
    (R.MILL_PART_RES_RESERVE 0, 8)], calm_of (by decide +kernel), ?_⟩
  constructor <;> decide +kernel

theorem wit_FramesLeave :
    ∃ s, Calm s ∧ Alone 7 s ∧ trkState 7 s = 8 ∧ (s.trk 7).bank4 = txFrom 4159 :: [] :=
  ⟨onTrk 7 8 { bank4 := [txFrom 4159] } [], calm_of (by decide +kernel), rfl, by decide +kernel⟩

/-- A frame of `n` octets in queue `q`. -/
def held (q n : Nat) : MFrame :=
  { queue := q, octets := List.replicate n 0, port := queuePort q, slot := 31, stamp := ⟨0, 0, 0⟩, tsreq := false, tag := 0,
    lane := 0, sec := false, poison := false }

/-- The granary serves, and paging is on. -/
def pageable : List (Fld × Nat) :=
  [(R.GRAN_STAT_STATE, 2), (R.GRAN_STAT_FILLED, 255), (R.GRAN_SEG_PAGE_SEG, 128), (R.MILL_CTL_PAGE_EN, 1),
   (R.MILLQ_PAGE_HEAD_KEEP 4479, 8), (R.MILLQ_PAGE_RES_MAX 4479, 39), (R.MILLQ_CFG_PIN 4479, 0)]

/-- A queue of 40 cells. -/
def full : Mill := { queues := [(4479, { frames := List.replicate 5 (held 4479 2000) })] }

theorem wit_MillerPages :
    (∃ s, Calm s ∧ granServes s = true ∧ pageNext s = some 4479 ∧ s.rd R.MILL_PAGE_STAT_BALES_USED < baleSlots s) ∧
    (∃ s, Calm s ∧ granServes s = true ∧ (pageNext s).isSome = true ∧ s.rd R.MILL_PAGE_STAT_BALES_USED ≥ baleSlots s) ∧
    (∃ s, Calm s ∧ queueIso 4479 = false ∧ (s.que 4479).writing ≠ 0) ∧
    (∃ s, Calm s ∧ queueIso 4479 = false ∧ granServes s = true ∧ fetchDue 4479 s = true ∧
      s.rd (R.MILL_PART_USED_USED (queueRange 4479)) + 32 ≤ s.rd (R.MILL_PART_RES_RESERVE (queueRange 4479))) ∧
    (∃ s, Calm s ∧ queueIso 4479 = false ∧ (s.que 4479).orphans ≠ 0) ∧
    ∃ s, Calm s ∧ queueIso 4479 = false ∧ (s.que 4479).orphans = 0 ∧ (s.que 4479).fetching ≠ 0 :=
  ⟨⟨{ svc.put pageable with mill := full }, calm_of (by decide +kernel), by decide +kernel⟩,
    ⟨{ svc.put ((R.MILL_PAGE_STAT_BALES_USED, 28672) :: pageable) with mill := full }, calm_of (by decide +kernel), by decide +kernel⟩,
    ⟨{ svc with mill := { queues := [(4479, { writing := 1 })] } }, calm_of (by decide +kernel), by decide +kernel⟩,
    ⟨{ svc.put ((R.MILL_PART_RES_RESERVE 3, 32) :: pageable) with mill := { queues := [(4479, { paged := 1 })] } },
      calm_of (by decide +kernel), by decide +kernel⟩,
    ⟨{ svc with mill := { queues := [(4479, { orphans := 1 })] } }, calm_of (by decide +kernel), by decide +kernel⟩,
    ⟨{ svc with mill := { queues := [(4479, { paged := 1, fetching := 1 })] } }, calm_of (by decide +kernel), by decide +kernel⟩⟩

theorem wit_MillerReleases :
    (∃ s, Calm s ∧ mayRelease (8 + 63) s = true ∧ s.warp.pendSched = [] ∧ portFrames (8 + 63) s = 1 ∧ isoNext 63 s = some 30 ∧
      HeadGoes (8 + 63) 1 (64 * 63 + 2 * 30 + 1) (held 4093 64) s) ∧
    (∃ s, Calm s ∧ s.serving = true ∧ s.rd R.PWR_STAT_HOST_RUNG < 2 ∧ s.trkFenced 7 = false ∧ Alone 7 s ∧ s.warp.pendSched = [] ∧
      portFrames 7 s = 1 ∧ strictNext 7 s = some 7 ∧ HeadGoes 7 7 (4096 + 8 * 7 + 7) (held 4159 64) s) ∧
    (∃ s, Calm s ∧ Loggable 9 s ∧ s.rd R.MILL_ISO_CTL_PANIC_NOW ≠ 0) ∧ ∃ s, Calm s ∧ shaperOk 71 7 s = false :=
  ⟨⟨{ svc with mill := { queues := [(4093, { frames := [held 4093 64] })] } }, calm_of (by decide +kernel), by decide +kernel,
      by decide +kernel, by decide +kernel, by decide +kernel, by decide +kernel, by decide +kernel, by decide +kernel,
      by decide +kernel, by decide +kernel⟩,
    ⟨{ onTrk 7 8 {} [(R.MILL_TRK_SP_SP 7, 128)] with mill := { queues := [(4159, { frames := [held 4159 64] })] } },
      calm_of (by decide +kernel), by decide +kernel, by decide +kernel, by decide +kernel, rfl, by decide +kernel, by decide +kernel,
      by decide +kernel, by decide +kernel, by decide +kernel, by decide +kernel, by decide +kernel, by decide +kernel⟩,
    ⟨(svc.put [(R.MILL_ISO_CTL_PANIC_NOW, 1)]).mute 9, calm_of (by decide +kernel), log_of (by decide +kernel), by decide +kernel⟩,
    ⟨{ svc with mill := { shape := [(575, 1)], buckets := [(575, { debt := 2 ^ 60 })] } }, calm_of (by decide +kernel),
      by decide +kernel⟩⟩

/-! ## Memories and time -/

theorem wit_MemoryScrubs :
    (∃ s, Calm s ∧ s.isFenced (.vale 3) = false ∧ Loggable (bankMasters 3 7).head! s) ∧
    (∃ s, Calm s ∧ s.bit R.MEM_SCRUB_CTL_PS_EN = true ∧ s.memScrub.psAt + 1 ≠ 1572864) ∧
    ∃ s, Calm s ∧ s.bit R.MEM_SCRUB_CTL_PS_EN = true ∧ s.memScrub.psAt + 1 = 1572864 :=
  ⟨⟨svc.mute 47, calm_of (by decide +kernel), by decide +kernel, log_of (by decide +kernel)⟩,
    ⟨svc.put [(R.MEM_SCRUB_CTL_PS_EN, 1)], calm_of (by decide +kernel), by decide +kernel⟩,
    ⟨{ svc.put [(R.MEM_SCRUB_CTL_PS_EN, 1)] with memScrub := { psAt := 1572863 } }, calm_of (by decide +kernel), by decide +kernel⟩⟩

/-- The granary runs, all its segments filled. -/
def granOn : State := svc.put [(R.GRAN_STAT_STATE, 2), (R.GRAN_STAT_FILLED, 255)]

theorem wit_GranaryQueues :
    ∃ s, Calm s ∧ GranRuns s ∧ tbit (s.rd R.GRAN_STAT_FILLED) (29360127 / segBursts) = true ∧
      (granChan (burstPlace 29360127 s).ch s).reads = [] ∧ (granChan (burstPlace 29360127 s).ch s).writes = [] :=
  ⟨granOn, calm_of (by decide +kernel), ⟨by decide +kernel, by decide +kernel⟩, by decide +kernel⟩

/-- A request for burst 0. -/
def greq (wr : Bool) : GReq := { seq := 0, cls := 4, wr := wr, burst := 0, data := List.replicate 64 0xA5, lost := 4095 }

theorem wit_GranaryServes :
    (∃ s, Calm s ∧ GranRuns s ∧ OnlyRequest 0 (greq false) s) ∧
    ∃ s, Calm s ∧ GranRuns s ∧ OnlyRequest 0 (greq true) s ∧ (greq true).data.length = 64 :=
  ⟨⟨{ granOn.put [(R.GRAN_WQ_CTL_WQ_HIGH, 24)] with gran := { chans := [(0, { reads := [greq false] })] } },
      calm_of (by decide +kernel), ⟨by decide +kernel, by decide +kernel⟩, ⟨⟨_, rfl, rfl, by decide +kernel, by decide +kernel⟩,
        by decide +kernel, by decide +kernel, by decide +kernel, by decide +kernel, by decide +kernel⟩⟩,
    ⟨{ granOn.put [(R.GRAN_WQ_CTL_WQ_HIGH, 24)] with gran := { chans := [(0, { writes := [greq true] })] } },
      calm_of (by decide +kernel), ⟨by decide +kernel, by decide +kernel⟩, ⟨⟨_, rfl, rfl, by decide +kernel, by decide +kernel⟩,
        by decide +kernel, by decide +kernel, by decide +kernel, by decide +kernel, by decide +kernel⟩, by decide +kernel⟩⟩

theorem wit_GranaryUpkeep :
    (∃ s, Calm s ∧ s.rd R.GRAN_STAT_STATE = 2 ∧ s.bit R.GRAN_STAT_PANIC = false ∧ s.bit R.GRAN_SR_CTL_AUTO_EN = true ∧
      granQuiet s = true) ∧
    (∃ s, Calm s ∧ s.rd R.GRAN_STAT_STATE = 2 ∧ s.bit R.GRAN_STAT_PANIC = true ∧
      (tget {} (granChan 1 s).banks 15).postponed < s.rd R.GRAN_PAGE_CTL_REFRESH_POSTPONE) ∧
    (∃ s, Calm s ∧ s.isFenced .gran = false ∧ Loggable 9 s) ∧
    ∃ s, Calm s ∧ s.rd R.GRAN_STAT_STATE = 2 ∧ tbit (s.rd R.GRAN_STAT_FILLED) 7 = false :=
  ⟨⟨granOn.put [(R.GRAN_SR_CTL_AUTO_EN, 1)], calm_of (by decide +kernel), by decide +kernel⟩,
    ⟨granOn.put [(R.GRAN_STAT_PANIC, 1), (R.GRAN_PAGE_CTL_REFRESH_POSTPONE, 1)], calm_of (by decide +kernel), by decide +kernel⟩,
    ⟨granOn.mute 9, calm_of (by decide +kernel), by decide +kernel, log_of (by decide +kernel)⟩,
    ⟨granOn.put [(R.GRAN_STAT_FILLED, 127)], calm_of (by decide +kernel), by decide +kernel⟩⟩

theorem wit_GranaryChanges :
    (∃ s, Calm s ∧ s.gran.freqNow = some (1, 2) ∧ (granChan 0 s).writes = [] ∧ (granChan 1 s).writes = []) ∧
    (∃ s, Calm s ∧ s.gran.freqNow = some (2, 2) ∧ s.gran.freqPend = none ∧ tbit (s.rd R.GRAN_FREQ_TRAINED) 2 = true) ∧
    (∃ s, Calm s ∧ s.gran.freqNow = some (2, 2) ∧ s.gran.freqPend = none ∧ tbit (s.rd R.GRAN_FREQ_TRAINED) 2 = false) ∧
    (∃ s, Calm s ∧ s.gran.training = some 2) ∧ (∃ s, Calm s ∧ s.bit R.GRAN_TRN_CTL_BUSY = true) ∧
    (∃ s b n, Calm s ∧ s.bit R.GRAN_CTL_SCRUB_EN = true ∧ s.rd R.GRAN_STAT_STATE = 2 ∧
      scrubNext (s.rd R.GRAN_STAT_FILLED) s.gran.scrubAt = some b ∧ scrubNext (s.rd R.GRAN_STAT_FILLED) (b + 1) = some n ∧ n ≤ b) ∧
    ∃ s b n, Calm s ∧ s.bit R.GRAN_CTL_SCRUB_EN = true ∧ s.rd R.GRAN_STAT_STATE = 2 ∧
      scrubNext (s.rd R.GRAN_STAT_FILLED) s.gran.scrubAt = some b ∧ scrubNext (s.rd R.GRAN_STAT_FILLED) (b + 1) = some n ∧ b < n ∧
      s.age ≤ s.gran.scrubStart + 4 * s.rd R.GRAN_SCRUB_PERIOD_H * 3600 * second :=
  ⟨⟨{ granOn with gran := { freqNow := some (1, 2) } }, calm_of (by decide +kernel), by decide +kernel⟩,
    ⟨{ granOn.put [(R.GRAN_FREQ_TRAINED, 4)] with gran := { freqNow := some (2, 2) } }, calm_of (by decide +kernel), by decide +kernel⟩,
    ⟨{ granOn.put [(R.GRAN_FREQ_TRAINED, 0)] with gran := { freqNow := some (2, 2) } }, calm_of (by decide +kernel), by decide +kernel⟩,
    ⟨{ granOn with gran := { training := some 2 } }, calm_of (by decide +kernel), by decide +kernel⟩,
    ⟨granOn.put [(R.GRAN_TRN_CTL_BUSY, 1)], calm_of (by decide +kernel), by decide +kernel⟩,
    ⟨{ granOn.put [(R.GRAN_CTL_SCRUB_EN, 1)] with gran := { scrubAt := 8 * segBursts - 1 } }, 8 * segBursts - 1, 0,
      calm_of (by decide +kernel), by decide +kernel⟩,
    ⟨granOn.put [(R.GRAN_CTL_SCRUB_EN, 1)], 0, 1, calm_of (by decide +kernel), by decide +kernel⟩⟩

theorem wit_TimeEvents :
    (∃ s, Calm s ∧ s.bit R.TIME_STAT_REF_ACT = true ∧ Loggable 6 s) ∧
    (∃ s a, Calm s ∧ s.bit R.TIME_CTL_PPS_IN_EN = true ∧ s.clock.ppsAt = some a ∧ s.age < a + second / 2) ∧
    (∃ s a, Calm s ∧ s.bit R.TIME_CTL_PPS_IN_EN = true ∧ s.clock.ppsAt = some a ∧ a + second / 2 ≤ s.age ∧
      s.rd R.TIME_CTL_SRC ≠ 1 ∧ tbit (s.rd R.PWR_WAKE_MASK) 5 = false) ∧
    (∃ s a, Calm s ∧ s.bit R.TIME_CTL_PPS_OUT_EN = true ∧ s.clock.out = false ∧ s.clock.outAt = some a ∧ a + second / 2 ≤ s.age) ∧
    ∃ s, Calm s ∧ s.clock.out = true :=
  ⟨⟨(svc.put [(R.TIME_STAT_REF_ACT, 1)]).mute 6, calm_of (by decide +kernel), by decide +kernel, log_of (by decide +kernel)⟩,
    ⟨{ svc.put [(R.TIME_CTL_PPS_IN_EN, 1)] with clock := { ppsAt := some 1 }, age := second / 2 }, 1, calm_of (by decide +kernel),
      by decide +kernel⟩,
    ⟨{ svc.put [(R.TIME_CTL_PPS_IN_EN, 1), (R.TIME_CTL_SRC, 0), (R.PWR_WAKE_MASK, 0)] with
      clock := { ppsAt := some 0 }, age := second / 2 }, 0, calm_of (by decide +kernel), by decide +kernel⟩,
    ⟨{ svc.put [(R.TIME_CTL_PPS_OUT_EN, 1)] with clock := { outAt := some 0 }, age := second / 2 }, 0, calm_of (by decide +kernel),
      by decide +kernel⟩,
    ⟨{ svc with clock := { out := true } }, calm_of (by decide +kernel), by decide +kernel⟩⟩

/-! ## Start-up, warp and security -/

/-- A warp image of two records, DEVICE and SEC_POLICY, both empty. -/
def smallWarp : List Word :=
  [0x4B575250, 0x10000, BitVec.ofNat 32 commitWord, 0x8264, 2, 184, 7, 0, 0, 0, 0, 0, 0, 0, 0, 0, 0x10000, 0, 0x20000, 0,
    0x454E4457, 184] ++ List.replicate 24 0

/-- Every check passes. -/
def good : Verdict := ⟨true, true, []⟩

/-- BOOT at the end of step `n`. -/
def booting (n : Nat) (x : Boot) : State := { State.reset with boot := { x with step := n } }

/-- BOOT before the warp is chosen, with an image in slot A. -/
def toWarp (x : Boot) : State :=
  { booting 11 x with regs := ((booting 11 x).wr R.SEC_STAT_AUTH_FUSED 1).regs, warp := { slots := [(1, smallWarp)] } }

/-- Firmware slot 1 holds an image that has been committed. -/
def withFw (s : State) : State := { s with sec := { s.sec with fw := [(1, [0x4B465752, 0x10005, 0x5A5AC3C3])] } }

/-- The three slots tried in order, before the selection. -/
def selection (s : State) : Option WImage × State :=
  let w := s.wr R.WARP_FLOOR_FLOOR s.warp.floor
  trySlots (fun _ => good) (slotOrderBoot w) ([1, 2, 3].foldl (fun a k => a.wr (reasonFld k) 15) (w.wr R.WARP_BOOT_PREF_ONCE 0))

theorem wit_BootAdvances :
    (∃ s : State, s.mode = 0 ∧ s.boot.step ≤ 2 ∧
      let t := { s with
        boot := { s.boot with step := 4, repairs := s.boot.repairs.map fun (r : Block × Nat × Bool) => (r.1, r.2.1, false) },
        sec := { s.sec with lcNow := s.rd R.SEC_LC_STATE } }
      let t := (t.wr R.STW_BOOT_STAT_REPAIRS (min 15 (s.boot.repairs.filter fun (r : Block × Nat × Bool) => r.2.2).length)).wr
        R.STW_BOOT_STAT_STAGE 1
      Calm (tamperBoot 31 t)) ∧
    (∃ s : State, s.mode = 0 ∧ s.boot.step = 4) ∧
    (∃ s : State, s.mode = 0 ∧ s.boot.step = 6 ∧ fwTried 1 s = true ∧ fwOk 1 true s = true) ∧
    (∃ s : State, s.mode = 0 ∧ s.boot.step = 6 ∧ Calm s ∧ fwTried 1 s = false ∧ fwTried 2 s = false) ∧
    (∃ s : State, s.mode = 0 ∧ s.boot.step = 10) ∧
    (∃ s : State, s.mode = 0 ∧ s.boot.step = 11 ∧ ∃ img, (selection s).1 = some img ∧
      Calm { (selection s).2.wr R.STW_BOOT_STAT_STAGE 6 with boot := { (selection s).2.boot with step := 12 } }) ∧
    (∃ s : State, s.mode = 0 ∧ s.boot.step = 11 ∧ (selection s).1 = none ∧ s.boot.bound = false ∧
      Calm (State.setMode { (selection s).2.wr R.STW_BOOT_STAT_STAGE 7 with boot := { (selection s).2.boot with step := 13 } } 1)) ∧
    (∃ s : State, s.mode = 0 ∧ s.boot.step = 11 ∧ (selection s).1 = none ∧ (selection s).2.boot.bound = true) ∧
    ∃ s : State, s.mode = 0 ∧ s.boot.step = 12 ∧ s.warp.selected = some ⟨1, smallWarp, []⟩ :=
  ⟨⟨booting 2 {}, by decide +kernel, by decide +kernel, calm_of (by decide +kernel)⟩,
    ⟨booting 4 {}, by decide +kernel⟩, ⟨withFw (booting 6 {}), by decide +kernel⟩,
    ⟨booting 6 {}, by decide +kernel, by decide +kernel, calm_of (by decide +kernel), by decide +kernel⟩,
    ⟨booting 10 {}, by decide +kernel⟩,
    ⟨toWarp {}, by decide +kernel, by decide +kernel, ⟨1, smallWarp, [⟨1, 0, 0, []⟩, ⟨2, 0, 0, []⟩]⟩, by decide +kernel,
      calm_of (by decide +kernel)⟩,
    ⟨booting 11 {}, by decide +kernel, by decide +kernel, by decide +kernel, by decide +kernel, calm_of (by decide +kernel)⟩,
    ⟨booting 11 { bound := true }, by decide +kernel⟩,
    ⟨{ booting 12 {} with warp := { selected := some ⟨1, smallWarp, []⟩ } }, by decide +kernel⟩⟩

theorem wit_TestsEnd :
    (∃ s : State, s.mode = 4 ∧ s.bit R.STW_SCAN_CTL_REQ = true ∧ Calm s) ∧
    (∃ s : State, ∃ x, s.boot.selfTest = some x ∧ x.aborted = false ∧ x.block ≠ .gran ∧
      let t := { s with boot := { s.boot with selfTest := none } }
      let t := (((t.wr R.STW_SELFTEST_STAT_MEM_ID 0).wr R.STW_SELFTEST_FAIL_BIT 0).wr R.STW_SELFTEST_FAIL_ADDR 0).wr
        R.STW_SELFTEST_STAT_STATE 2
      let t := { t with boot := { t.boot with passes := x.block :: t.boot.passes.filter fun b => b ≠ x.block } }
      Calm (assayFree t)) ∧
    ∃ s : State, ∃ x, s.boot.selfTest = some x ∧ x.aborted = true :=
  ⟨⟨svc.put [(R.GLB_MODE_MODE, 4), (R.STW_SCAN_CTL_REQ, 1)], by decide +kernel, by decide +kernel, calm_of (by decide +kernel)⟩,
    ⟨{ svc with boot := { step := 13, selfTest := some ⟨.drop 63, false, false⟩ } }, ⟨.drop 63, false, false⟩, by decide +kernel,
      by decide +kernel, by decide +kernel, calm_of (by decide +kernel)⟩,
    ⟨{ svc with boot := { step := 13, selfTest := some ⟨.drop 63, false, true⟩ } }, ⟨.drop 63, false, true⟩, by decide +kernel,
      by decide +kernel⟩⟩

theorem wit_WarpLoadsEnd :
    (∃ s : State, Calm s ∧ s.warp.stageOpen = true) ∧
    (∃ s : State, ∃ img, s.warp.committing = some (img, false) ∧ s.mode ≠ 5 ∧ Calm s ∧ s.mode ≠ 1) ∧
    (∃ s : State, ∃ img, s.warp.committing = some (img, false) ∧ s.mode = 1) ∧
    ∃ s : State, ∃ img, s.warp.committing = some (img, true) ∧ s.mode ≠ 5 ∧ s.serving = true :=
  ⟨⟨{ svc with warp := { stageOpen := true } }, calm_of (by decide +kernel), by decide +kernel⟩,
    ⟨{ svc with warp := { committing := some (⟨2, smallWarp, []⟩, false) } }, ⟨2, smallWarp, []⟩, by decide +kernel,
      by decide +kernel, calm_of (by decide +kernel), by decide +kernel⟩,
    ⟨{ State.reset.put [(R.GLB_MODE_MODE, 1)] with warp := { committing := some (⟨2, smallWarp, []⟩, false) } },
      ⟨2, smallWarp, []⟩, by decide +kernel⟩,
    ⟨{ svc with warp := { committing := some (⟨2, smallWarp, []⟩, true) } }, ⟨2, smallWarp, []⟩, by decide +kernel⟩⟩

theorem wit_ResetsAnswer : ∃ s : State, 8 ≤ s.boot.step := ⟨booting 8 {}, by decide +kernel⟩

/-- A bundle of device type 0 with the given kind, body and octets of signature and tag. -/
def bundle (kind : Nat) (mid : List Word) (tail : Nat) : List Word :=
  [0x4B424E44, BitVec.ofNat 32 (kind * 65536), 0, 0, 5, BitVec.ofNat 32 (144 + 4 * mid.length + tail)] ++ List.replicate 30 0 ++
    mid ++ List.replicate (tail / 4) 0

/-- The bundle is being checked. -/
def checking (l : List Word) (len : Nat) : State :=
  { svc.put [(R.SEC_STAT_AUTH_FUSED, 1), (R.SEC_LC_STATE, 1)] with sec := { loadLen := len, loadBusy := true, loadWords := l } }

/-- One storage entry of 32 octets. -/
def keyPlain : List Word := [0x00100003, 0x00200000] ++ List.replicate 8 0xA5A5A5A5

/-- A committed firmware image without body. -/
def firmware : List Word :=
  [0x4B465752, 0x10005, 0x5A5AC3C3, 0x8264, 0, 168] ++ List.replicate 10 0 ++ [0x454E4446, 168] ++ List.replicate 24 0

theorem wit_SecLoadsEnd :
    (∃ s : State, Calm s ∧ s.sec.loadOpen = true) ∧
    (∃ s : State, ∃ v es, s.sec.loadBusy = true ∧ s.sec.loadTarget = 0 ∧ s.mode ≠ 5 ∧ bundleCheck s.sec.loadWords v s = (0, es) ∧
      bundleKind s.sec.loadWords = 2 ∧ es.length = 1 ∧ es.flatMap entryCas = [] ∧
      Calm (secResult 0 (secClose 3 { s with sec := { s.sec with store := es.foldl (fun a e => entryApply e a) s.sec.store } }))) ∧
    (∃ s : State, ∃ v e, s.sec.loadBusy = true ∧ s.sec.loadTarget = 0 ∧ s.mode ≠ 5 ∧
      bundleCheck s.sec.loadWords v s = (0, [e]) ∧ bundleKind s.sec.loadWords = 3 ∧ Calm (secResult 0 (secClose 3 s))) ∧
    (∃ s : State, ∃ v, s.sec.loadBusy = true ∧ s.sec.loadTarget = 0 ∧ s.mode ≠ 5 ∧ (bundleCheck s.sec.loadWords v s).1 ≠ 0 ∧
      Calm (secResult (bundleCheck s.sec.loadWords v s).1 (secClose 3 (s.sat (R.SEC_CNT_COUNT 3) 1)))) ∧
    ∃ s : State, s.sec.loadBusy = true ∧ s.sec.loadTarget = 2 ∧ s.mode ≠ 5 ∧
      fwCheck (tget [] s.sec.fw s.sec.loadTarget) true true s = 0 ∧ Calm (secResult 0 (secClose 3 s)) :=
  ⟨⟨{ svc with sec := { loadOpen := true } }, calm_of (by decide +kernel), by decide +kernel⟩,
    ⟨checking (bundle 2 (List.replicate 10 0) 112) 296, ⟨true, true, keyPlain⟩,
      (bundleCheck (bundle 2 (List.replicate 10 0) 112) ⟨true, true, keyPlain⟩ (checking (bundle 2 (List.replicate 10 0) 112) 296)).2,
      by decide +kernel, by decide +kernel, by decide +kernel, by decide +kernel, by decide +kernel, by decide +kernel,
      by decide +kernel, calm_of (by decide +kernel)⟩,
    ⟨checking (bundle 3 [0x400000, 0x10000, 0x03000000, 0] 96) 256, good, ⟨0x40, 0, [3]⟩, by decide +kernel, by decide +kernel,
      by decide +kernel, by decide +kernel, by decide +kernel, calm_of (by decide +kernel)⟩,
    ⟨checking [] 0, good, by decide +kernel, by decide +kernel, by decide +kernel, by decide +kernel, calm_of (by decide +kernel)⟩,
    ⟨{ svc with sec := { loadLen := 168, loadTarget := 2, loadBusy := true, fw := [(2, firmware)] } }, by decide +kernel,
      by decide +kernel, by decide +kernel, by decide +kernel, calm_of (by decide +kernel)⟩⟩

theorem wit_StrongroomActs :
    (∃ s : State, Calm s ∧ tamperOn 4 (s.wr R.SEC_TAMPER_ACTIVE 16) = false) ∧
    (∃ s : State, Calm s ∧ tamperOn 4 (s.wr R.SEC_TAMPER_ACTIVE 16) = true ∧ s.bit R.SEC_TAMPER_LATCH = true) ∧
    (∃ s : State, Calm s ∧ tamperOn 4 (s.wr R.SEC_TAMPER_ACTIVE 16) = true ∧ s.bit R.SEC_TAMPER_LATCH = false) ∧
    ∃ s : State, Calm s ∧ s.bit R.SEC_PROV_CTL_BUSY = true :=
  ⟨⟨svc.put [(R.SEC_TAMPER_EN, 0)], calm_of (by decide +kernel), by decide +kernel⟩,
    ⟨svc.put [(R.SEC_TAMPER_EN, 31), (R.SEC_TAMPER_LATCH, 1)], calm_of (by decide +kernel), by decide +kernel⟩,
    ⟨svc.put [(R.SEC_TAMPER_EN, 31)], calm_of (by decide +kernel), by decide +kernel⟩,
    ⟨svc.put [(R.SEC_PROV_CTL_BUSY, 1)], calm_of (by decide +kernel), by decide +kernel⟩⟩

/-- The words of the attestation report leave a state calm, and NOTICE_EN as it was. -/
theorem calm_words (l : List (Nat × Nat)) {s : State} (h : Calm s) (n : s.bit R.SEC_CTL_NOTICE_EN = false) :
    Calm (l.foldl (fun a e => a.wr (R.SEC_ATT_REPORT_DATA e.2) e.1) s) ∧
      (l.foldl (fun a e => a.wr (R.SEC_ATT_REPORT_DATA e.2) e.1) s).bit R.SEC_CTL_NOTICE_EN = false := by
  induction l generalizing s with
  | nil => exact ⟨h, n⟩
  | cons e l ih =>
    refine ih (h.wr (by simp [calmRegs])) ?_
    unfold State.bit at *
    rw [rd_wr_ne _ _ _ _ (by simp)]; exact n

theorem wit_AttestationDone : ∃ s : State, s.bit R.SEC_ATT_CTL_BUSY = true ∧ s.mode ≠ 5 ∧
    let t := s.sat (R.SEC_CNT_COUNT 4) 1
    let f := t.freeOctets 96
    let u := (octetWords 84 (reportOctets t ++ f.1)).zipIdx.foldl (fun a e => a.wr (R.SEC_ATT_REPORT_DATA e.2) e.1) f.2
    Calm (stewardNotice 3 (((u.wr R.SEC_ATT_CTL_BUSY 0).wr R.SEC_ATT_CTL_DONE 1).evt R.SEC_EVT_ATT)) := by
  refine ⟨svc.put [(R.SEC_ATT_CTL_BUSY, 1), (R.SEC_CTL_NOTICE_EN, 0)], by decide +kernel, by decide +kernel, ?_⟩
  have c : Calm ((svc.put [(R.SEC_ATT_CTL_BUSY, 1), (R.SEC_CTL_NOTICE_EN, 0)]).sat (R.SEC_CNT_COUNT 4) 1) := calm_of (by decide +kernel)
  have n : ((svc.put [(R.SEC_ATT_CTL_BUSY, 1), (R.SEC_CTL_NOTICE_EN, 0)]).sat (R.SEC_CNT_COUNT 4) 1).bit R.SEC_CTL_NOTICE_EN = false := by decide +kernel
  generalize (svc.put [(R.SEC_ATT_CTL_BUSY, 1), (R.SEC_CTL_NOTICE_EN, 0)]).sat (R.SEC_CNT_COUNT 4) 1 = t at c n
  obtain ⟨a, b⟩ := calm_words (octetWords 84 (reportOctets t ++ (t.freeOctets 96).1)).zipIdx (s := (t.freeOctets 96).2)
    (Calm.free (w := 768) c) n
  simp only
  generalize List.foldl _ (t.freeOctets 96).2 _ = u at a b
  have k : (((u.wr R.SEC_ATT_CTL_BUSY 0).wr R.SEC_ATT_CTL_DONE 1).evt R.SEC_EVT_ATT).bit R.SEC_CTL_NOTICE_EN = false := by
    unfold State.bit State.evt at *
    rw [rd_wr_ne _ _ _ _ (by simp), rd_wr_ne _ _ _ _ (by simp), rd_wr_ne _ _ _ _ (by simp)]; exact b
  unfold stewardNotice
  rw [if_neg (by simp [k])]
  exact Calm.evt (by simp [calmRegs]) (Calm.wr (by simp [calmRegs]) (Calm.wr (by simp [calmRegs]) a))

/-! ## MACsec, the Watch and power -/

/-- The last CA, of drop 63 and the group slot, has its CAK; a port of DATA or CYCLE, and what the CA holds. -/
def onCa (e : Nat) (x : Ca) (l : List (Fld × Nat)) : State :=
  { svc.put ((R.MSEC_STAT_STATE e, 2) :: l) with
    cas := [(e, x)], sec := { room := [⟨0x20, 7, []⟩, ⟨0x21, 63, []⟩] } }

/-- A peer. -/
def peer (u : Bool) : MkaPeer := ⟨1, u, u⟩

theorem wit_KeyAgreement :
    (∃ s : State, Calm s ∧ MkaRuns 2055 s ∧ ((s.ca 2055).peers.any fun p => p.id = 1) = true) ∧
    (∃ s : State, Calm s ∧ MkaRuns 7 s ∧ ((s.ca 7).peers.any fun p => p.id = 1) = false ∧ (s.ca 7).peers.length < 32 ∧
      (s.ca 7).txReady = true ∧ caGroup 7 = false) ∧
    (∃ s : State, Calm s ∧ MkaRuns 2055 s ∧ ((s.ca 2055).peers.any fun p => p.id = 1) = false ∧ (s.ca 2055).peers.length < 32 ∧
      (s.ca 2055).txReady = true ∧ caGroup 2055 = true ∧
      Calm (rotAsk 2055 ((s.modCa 2055 fun x => { x with peers := x.peers ++ [⟨1, false, false⟩] }).wr (R.MSEC_STAT_PEERS 2055) 1))) ∧
    (∃ s : State, Calm s ∧ MkaRuns 7 s ∧ ((s.ca 7).peers.any fun p => p.id = 1) = false ∧ (s.ca 7).peers.length < 32 ∧
      (s.ca 7).txReady = false ∧ (s.ca 7).newAn = none ∧
      Calm (rotStart 7 ((s.modCa 7 fun x => { x with peers := x.peers ++ [⟨1, false, false⟩] }).wr (R.MSEC_STAT_PEERS 7) 1))) ∧
    (∃ s : State, casUsed s = [7] ∧ MkaRuns 7 s ∧ caAsleep 7 s = false ∧ (mkaHello 7 s).bit (R.MSEC_CTL_ROTATE 7) = false ∧
      (mkaHello 7 s).rd (R.MSEC_TX_PN_PN 7) < 2 ^ 62 ∧ Calm (mkaHello 7 s)) ∧
    (∃ s : State, Calm s ∧ caAsleep 7 s = false ∧ (s.ca 7).peers = [peer true, ⟨2, true, true⟩] ∧ caGroup 7 = false) ∧
    (∃ s : State, Calm s ∧ caAsleep 2055 s = false ∧ (s.ca 2055).peers = [peer true, ⟨2, true, true⟩] ∧ caGroup 2055 = true ∧
      Calm (rotAsk 2055 ((s.modCa 2055 fun x => { x with peers := [⟨2, true, true⟩] }).wr (R.MSEC_STAT_PEERS 2055) 1))) ∧
    ∃ s : State, Calm s ∧ caAsleep 7 s = false ∧ (s.ca 7).peers = [peer true] ∧
      Calm (caNoSak 7 ((s.modCa 7 fun x => { x with peers := [] }).wr (R.MSEC_STAT_PEERS 7) 0)) :=
  have run (e : Nat) (s : State) (a : caUsed e s = true ∧ cakHeld e s = true ∧ s.serving = true ∧
      s.isFenced (portBlock (caPort e)) = false ∧ s.isFenced .macsec = false) : MkaRuns e s := ⟨a.1, a.2.1, a.2.2.1, a.2.2.2.1, a.2.2.2.2⟩
  ⟨⟨onCa 2055 { peers := [peer false] } [], calm_of (by decide +kernel), run _ _ (by decide +kernel), by decide +kernel⟩,
    ⟨onCa 7 { txReady := true } [], calm_of (by decide +kernel), run _ _ (by decide +kernel), by decide +kernel⟩,
    ⟨onCa 2055 { txReady := true } [], calm_of (by decide +kernel), run _ _ (by decide +kernel), by decide +kernel, by decide +kernel,
      by decide +kernel, by decide +kernel, calm_of (by decide +kernel)⟩,
    ⟨onCa 7 {} [], calm_of (by decide +kernel), run _ _ (by decide +kernel), by decide +kernel, by decide +kernel, by decide +kernel,
      by decide +kernel, calm_of (by decide +kernel)⟩,
    ⟨onCa 7 {} [], by decide +kernel, run _ _ (by decide +kernel), by decide +kernel, by decide +kernel, by decide +kernel,
      calm_of (by decide +kernel)⟩,
    ⟨onCa 7 { peers := [peer true, ⟨2, true, true⟩] } [], calm_of (by decide +kernel), by decide +kernel⟩,
    ⟨onCa 2055 { peers := [peer true, ⟨2, true, true⟩] } [], calm_of (by decide +kernel), by decide +kernel, by decide +kernel,
      by decide +kernel, calm_of (by decide +kernel)⟩,
    ⟨onCa 7 { peers := [peer true] } [], calm_of (by decide +kernel), by decide +kernel, by decide +kernel, calm_of (by decide +kernel)⟩⟩

theorem wit_SakRotation :
    (∃ s : State, Calm s ∧ (s.ca 7).txReady = true ∧ caUsed 7 s = true ∧ (s.ca 7).newAn = none ∧ caPortUp 7 s = false) ∧
    (∃ s : State, Calm s ∧ (s.ca 7).txReady = true ∧ caUsed 7 s = true ∧ (s.ca 7).newAn = none ∧ caPortUp 7 s = true ∧
      Calm (rotStart 7 (s.wr (R.MSEC_CTL_ROTATE 7) 1))) ∧
    (∃ s : State, Calm s ∧ (s.ca 7).newAn = some 3 ∧ (s.ca 7).peers ≠ [] ∧ ((s.ca 7).peers.all fun p => p.installed) = true ∧
      (s.ca 7).txReady = false) ∧
    ∃ s : State, Calm s ∧ (s.ca 7).oldAn = some 3 :=
  ⟨⟨onCa 7 { txReady := true } [], calm_of (by decide +kernel), by decide +kernel⟩,
    ⟨onCa 7 { txReady := true } [(R.TRK_STAT_LINK_UP 7, 1)], calm_of (by decide +kernel), by decide +kernel, by decide +kernel,
      by decide +kernel, by decide +kernel, calm_of (by decide +kernel)⟩,
    ⟨onCa 7 { newAn := some 3, peers := [peer true] } [], calm_of (by decide +kernel), by decide +kernel⟩,
    ⟨onCa 7 { oldAn := some 3 } [], calm_of (by decide +kernel), by decide +kernel⟩⟩

theorem wit_WatchServes :
    (∃ s : State, Calm s ∧ Loggable 191 s ∧ srcKnown 191 = true ∧ kindClass 0x30 191 = some 2 ∧ kindFixed 0x30 191 = none) ∧
    (∃ s : State, Calm s ∧ tget none s.watch.grace 191 = some (0, 1) ∧ s.mode ≠ 5) ∧
    (∃ s : State, Calm s ∧ tget none s.watch.grace 191 = some (0, 3) ∧ s.mode = 5) ∧
    (∃ s : State, Calm s ∧ s.bit R.WATCH_LOG_CTL_ARCH = true ∧ s.bit R.WATCH_LOG_CTL_READY = false) ∧
    ∃ s : State, Calm s ∧ s.watch.toArchive ≠ [] :=
  ⟨⟨svc.mute 191, calm_of (by decide +kernel), log_of (by decide +kernel), by decide +kernel⟩,
    ⟨{ svc with watch := { grace := [(191, some (0, 1))] } }, calm_of (by decide +kernel), by decide +kernel⟩,
    ⟨{ svc.put [(R.GLB_MODE_MODE, 5)] with watch := { grace := [(191, some (0, 3))] } }, calm_of (by decide +kernel), by decide +kernel⟩,
    ⟨svc.put [(R.WATCH_LOG_CTL_ARCH, 1), (R.WATCH_LOG_CTL_READY, 0)], calm_of (by decide +kernel), by decide +kernel⟩,
    ⟨{ svc with watch := { toArchive := [⟨0, 191, 3, false, 0x33, 1, false, 2, 0, 0, 0⟩] } }, calm_of (by decide +kernel),
      by decide +kernel⟩⟩

/-- The device with a ladder under way; all votes are for Keep. -/
def ladderAt (dom : Tbl Ladder) (l : List (Fld × Nat)) : State := { svc.put l with power := { dom := dom } }

theorem attempts_of {k : Nat} {s : State} (h : s.serving = true ∧ domTakes k s = true ∧ domOf k s = .idle ∧
    domRung k s < targetOf k s ∧ s.bit R.PWR_STAT_HOLD = false ∧ tget false s.power.barred k = false ∧ liveBusy s = false) :
    Attempts k s := ⟨h.1, h.2.1, h.2.2.1, h.2.2.2.1, h.2.2.2.2.1, h.2.2.2.2.2.1, .inl h.2.2.2.2.2.2⟩

theorem wit_LadderEntries :
    (∃ s : State, Attempts 0 s ∧ targetOf 0 s = 3 ∧
      let t := { s with mill := { s.mill with paused := true } }
      (hostAnswer 3 t).2 = .accept ∧ Calm (domPut 0 (.committed 3) t)) ∧
    (∃ s : State, Attempts 0 s ∧ targetOf 0 s = 3 ∧
      let t := { s with mill := { s.mill with paused := true } }
      hostAnswer 3 t = (1, .refuse 0x0E) ∧
      let u := refusal 0 3 1 0x0E t
      Calm { domPut 0 .idle u with mill := { u.mill with paused := false } }) ∧
    (∃ s : State, Attempts 4 s ∧ Calm (hostRequest 3 (.rung (targetOf 4 s)) (domPut 4 (.asked (targetOf 4 s) []) s))) ∧
    (∃ s : State, domOf 0 s = .asked 3 [] ∧
      let t := domPut 0 .idle (refusal 0 3 0x7F 0x0D s)
      Calm { t with mill := { t.mill with paused := false } }) ∧
    (∃ s : State, domOf 4 s = .asked 3 [] ∧
      let t := domPut 4 .idle (refusal 4 3 0x7F 0x0D s)
      Calm (hostRequest 3 (.rung (t.valeRung 3)) t)) ∧
    (∃ s : State, domOf 4 s = .committed 3 ∧
      Calm (wakeNext 4 (valeEnter 3 3 ((domRungSet 4 3 (domPut 4 .idle s)).evt R.PWR_EVT_ENTERED)))) ∧
    ∃ s : State, domOf 4 s = .climbing 0 ∧ Calm (wakeNext 4 (valeClimbed 3 0 (domRungSet 4 0 (domPut 4 .idle s)))) :=
  ⟨⟨ladderAt [] [(R.PWR_STAT_VALE_RUNG, 1755)], attempts_of (by decide +kernel), by decide +kernel, by decide +kernel,
      calm_of (by decide +kernel)⟩,
    ⟨{ ladderAt [] [(R.PWR_STAT_VALE_RUNG, 1755)] with warp := { stageOpen := true } }, attempts_of (by decide +kernel),
      by decide +kernel, by decide +kernel, calm_of (by decide +kernel)⟩,
    ⟨svc, attempts_of (by decide +kernel), calm_of (by decide +kernel)⟩,
    ⟨ladderAt [(0, .asked 3 [])] [], by decide +kernel, calm_of (by decide +kernel)⟩,
    ⟨ladderAt [(4, .asked 3 [])] [], by decide +kernel, calm_of (by decide +kernel)⟩,
    ⟨ladderAt [(4, .committed 3)] [], by decide +kernel, calm_of (by decide +kernel)⟩,
    ⟨ladderAt [(4, .climbing 0)] [(R.PWR_STAT_VALE_RUNG, 1536)], by decide +kernel, calm_of (by decide +kernel)⟩⟩

theorem wit_WakeSources :
    (∃ s : State, Calm s ∧ s.power.wakeNOff = false ∧ tbit (s.rd R.PWR_WAKE_MASK) 0 = false) ∧
    (∃ s : State, s.power.wakeNOff = false ∧ tbit (s.rd R.PWR_WAKE_MASK) 0 = true ∧
      Calm (wakeAll 0 (s.sat (R.PWR_WAKE_CNT_COUNT 0) 1)) ∧
      tbit ((wakeAll 0 (s.sat (R.PWR_WAKE_CNT_COUNT 0) 1)).rd R.PWR_WAKE_MASK) 0 = true) ∧
    (∃ s : State, wakeSourceArmed 4 s = true ∧ tbit (s.rd R.PWR_WAKE_MASK) 4 = false ∧ Calm s) ∧
    (∃ s : State, wakeSourceArmed 6 s = true ∧ Calm (wakeAll 6 (s.sat (R.PWR_WAKE_CNT_COUNT 6) 1))) ∧
    (∃ s : State, s.bit R.PWR_TIMER_CTL_EN = true ∧ s.bit R.PWR_TIMER_CTL_PERIODIC = true ∧
      Calm (wakeDetect 4 (timerLoad (s.evt R.PWR_TIMER_CTL_EXPIRED)))) ∧
    ∃ s : State, s.bit R.PWR_TIMER_CTL_EN = true ∧ s.bit R.PWR_TIMER_CTL_PERIODIC = false ∧
      Calm (wakeDetect 4 (({ ((s.evt R.PWR_TIMER_CTL_EXPIRED).wr R.PWR_TIMER_CTL_EN 0).wr R.PWR_TIMER_LEFT_LEFT 0 with
        power := { s.power with timerEnd := none } }))) :=
  ⟨⟨svc.put [(R.PWR_WAKE_MASK, 0)], calm_of (by decide +kernel), by decide +kernel⟩,
    ⟨svc.put [(R.PWR_WAKE_MASK, 1)], by decide +kernel, by decide +kernel, calm_of (by decide +kernel), by decide +kernel⟩,
    ⟨svc.put [(R.PWR_WAKE_MASK, 0)], by decide +kernel, by decide +kernel, calm_of (by decide +kernel)⟩,
    ⟨svc, by decide +kernel, calm_of (by decide +kernel)⟩,
    ⟨svc.put [(R.PWR_TIMER_CTL_EN, 1), (R.PWR_TIMER_CTL_PERIODIC, 1), (R.PWR_WAKE_MASK, 16)], by decide +kernel, by decide +kernel,
      calm_of (by decide +kernel)⟩,
    ⟨svc.put [(R.PWR_TIMER_CTL_EN, 1)], by decide +kernel, by decide +kernel, calm_of (by decide +kernel)⟩⟩

/-- A fresh key identifier leaves a state calm, and every other field as it was. -/
theorem kiFresh_calm (e : Nat) {s : State} (h : Calm s) :
    Calm (kiFresh e s) ∧ ∀ f : Fld, f.id ≠ (R.MSEC_KI_KI e 0).id → (kiFresh e s).rd f = s.rd f := by
  unfold kiFresh
  generalize upto 4 = l
  induction l generalizing s with
  | nil => exact ⟨h, fun _ _ => rfl⟩
  | cons i l ih =>
    obtain ⟨a, b⟩ := ih (s := (s.free 32).2.wr (R.MSEC_KI_KI e i) (s.free 32).1) ((Calm.free h).wr (by simp [calmRegs]))
    refine ⟨a, fun f hf => (b f hf).trans (rd_wr_ne _ _ _ _ fun k => absurd k.symm hf)⟩

theorem wit_SakRotationDone : ∃ s : State, Calm s ∧ (s.ca 7).newAn = some 3 ∧ (s.ca 7).peers ≠ [] ∧
    ((s.ca 7).peers.all fun p => p.installed) = true ∧ (s.ca 7).txReady = false ∧
    let t := (kiFresh 7 ((s.wr (R.MSEC_STAT_TX_AN 7) 3).wr (R.MSEC_TX_PN_PN 7) 1)).modCa 7 fun x => { x with
      newAn := none, oldAn := none, txReady := true }
    Calm (caState 7 2 (t.wr (R.MSEC_CTL_ROTATE 7) 0)) := by
  have c : Calm (onCa 7 { newAn := some 3, peers := [peer true] } []) := calm_of (by decide +kernel)
  have r : (onCa 7 { newAn := some 3, peers := [peer true] } []).rd (R.MSEC_STAT_STATE 7) = 2 := by decide +kernel
  refine ⟨_, c, by decide +kernel, by decide +kernel, by decide +kernel, by decide +kernel, ?_⟩
  generalize onCa 7 { newAn := some 3, peers := [peer true] } [] = s at c r
  obtain ⟨a, b⟩ := kiFresh_calm 7 (s := (s.wr (R.MSEC_STAT_TX_AN 7) 3).wr (R.MSEC_TX_PN_PN 7) 1)
    ((c.wr (by simp [calmRegs])).wr (by simp [calmRegs]))
  have b2 := b (R.MSEC_STAT_STATE 7) (by simp)
  rw [rd_wr_ne _ _ _ _ (by simp), rd_wr_ne _ _ _ _ (by simp), r] at b2
  simp only
  generalize kiFresh 7 ((s.wr (R.MSEC_STAT_TX_AN 7) 3).wr (R.MSEC_TX_PN_PN 7) 1) = u at a b2
  unfold caState
  rw [if_pos (by rw [rd_wr_ne _ _ _ _ (by simp)]; exact b2)]
  exact Calm.wr (by simp [calmRegs]) (Calm.modCa a)

/-! ## The Surveyor and the Assayer -/

theorem wit_SurveyPasses :
    (∃ s : State, Calm s ∧ Alone 7 s ∧ feServes 3 s = true ∧ s.trkFenced 7 = false ∧ survPending 7 s = false ∧
      trkState 7 s ≠ 8 ∧ trkState 7 s ≠ 12) ∧
    (∃ s : State, Calm s ∧ Alone 7 s ∧ feServes 3 s = true ∧ s.trkFenced 7 = false ∧ survPending 7 s = false ∧
      trkState 7 s = 8 ∧ trkCR 7 s = false) ∧
    (∃ s : State, Calm s ∧ Alone 7 s ∧ feServes 3 s = true ∧ (s.trk 7).surv.passRuns = true ∧ (s.trk 7).surv.loopWait = false ∧
      (s.trk 7).surv.capArm = false ∧ s.bit (R.SURV_TRK_CTL_CAPTURE 7) = false) ∧
    ∃ s : State, Calm s ∧ Alone 7 s ∧ feServes 3 s = true ∧ trkState 7 s = 2 ∧ survMay 7 s = true ∧ (s.trk 7).surv.passRuns = false :=
  ⟨⟨onTrk 7 7 {} [], calm_of (by decide +kernel), rfl, by decide +kernel⟩,
    ⟨onTrk 7 8 {} [(R.TRK_STAT_RESOLVED 7, 3)], calm_of (by decide +kernel), rfl, by decide +kernel⟩,
    ⟨onTrk 7 8 { surv := { passRuns := true } } [], calm_of (by decide +kernel), rfl, by decide +kernel⟩,
    ⟨onTrk 7 2 {} [], calm_of (by decide +kernel), rfl, by decide +kernel⟩⟩

/-- A LOOP_REQ payload: START 255, interval offset 100 and hold 50 (15_surveyor R330). -/
def loopPay : BitVec 48 := BitVec.ofNat 48 (255 * 2 ^ 32 + 100 * 2 ^ 17 + 50 * 2 ^ 2)

theorem wit_LoopMessages :
    (∃ s : State, Calm s ∧ Alone 7 s ∧ trkState 7 s = 8 ∧ trkCR 7 s = true ∧ (s.trk 7).lchDone = none ∧
      loopReason 7 (tbits loopPay.toNat 39 32) (tbits loopPay.toNat 31 17) (tbits loopPay.toNat 16 2) s = 0) ∧
    (∃ s : State, Calm s ∧ Alone 7 s ∧ trkState 7 s = 8 ∧ trkCR 7 s = true ∧ (s.trk 7).lchDone = none ∧
      loopReason 7 (tbits loopPay.toNat 39 32) (tbits loopPay.toNat 31 17) (tbits loopPay.toNat 16 2) s ≠ 0) ∧
    (∃ s : State, ∃ r g, Calm s ∧ Alone 7 s ∧ (s.trk 7).lch = some r ∧ r.type = 0x20 ∧ r.seq = 255 ∧
      (s.trk 7).qw.grant = some g ∧ g.opened = false ∧ g.isLocal = true ∧
      2 ≤ (g.start + 256 - (s.trk 7).amTx) % 256 ∧ (g.start + 256 - (s.trk 7).amTx) % 256 ≤ 127) ∧
    (∃ s : State, Calm s ∧ Alone 7 s ∧ qwOpen 7 s = true ∧ (s.trk 7).surv.closure.isSome = true ∧ (s.trk 7).surv.closed = false ∧
      feServes 3 s = true) ∧
    ∃ s : State, Calm s ∧ Alone 7 s ∧ (s.trk 7).surv.closed = true :=
  ⟨⟨onTrk 7 8 { qw := { grant := some ⟨false, 0, 0, 255, 150, 0, false, 0⟩ } } [(R.TRK_STAT_RESOLVED 7, 4)],
      calm_of (by decide +kernel), rfl, by decide +kernel⟩,
    ⟨onTrk 7 8 {} [(R.TRK_STAT_RESOLVED 7, 4)], calm_of (by decide +kernel), rfl, by decide +kernel⟩,
    ⟨onTrk 7 8 { lch := some ⟨0x20, 255, 0, 8, none⟩, qw := { grant := some ⟨true, 0, 0, 127, 150, 0, false, 0⟩ } } [],
      ⟨0x20, 255, 0, 8, none⟩, ⟨true, 0, 0, 127, 150, 0, false, 0⟩, calm_of (by decide +kernel), rfl, by decide +kernel⟩,
    ⟨onTrk 7 8 { surv := { closure := some (100, 50) }, qw := { grant := some ⟨true, 0, 0, 0, 150, 0, true, 0⟩ } } [],
      calm_of (by decide +kernel), rfl, by decide +kernel⟩,
    ⟨onTrk 7 8 { surv := { closed := true } } [], calm_of (by decide +kernel), rfl, by decide +kernel⟩⟩

theorem wit_ContactCare :
    (∃ s : State, Calm s ∧ (s.trk 7).surv.loopWait = true ∧ (s.trk 7).surv.loopOnly = true ∧ (s.trk 7).surv.ccEn = false ∧
      (s.trk 7).surv.trained = false) ∧
    (∃ s : State, ∃ g, Calm s ∧ dayFree 7 (dayPrune 7 s) = true ∧ (s.trk 7).qw.grant = some g ∧ g.opened = true ∧ g.isLocal = true ∧
      g.purpose = 1 ∧ (s.trk 7).surv.loopOk = true ∧ (s.trk 7).surv.pulsePend = true ∧ (s.trk 7).surv.pulseRuns = false ∧
      survMay 7 s = true) ∧
    (∃ s : State, Calm s ∧ (s.trk 7).surv.pulseRuns = true ∧ s.bit (R.SURV_TRK_CC_STAT_ACTIVE 7) = false) ∧
    ∃ s : State, Calm s ∧ s.bit (R.SURV_TRK_CC_STAT_DAY_HELD 7) = true ∧ dayFree 7 (dayPrune 7 s) = true :=
  ⟨⟨onTrk 7 8 { surv := { loopWait := true, loopOnly := true } } [], calm_of (by decide +kernel), by decide +kernel⟩,
    ⟨onTrk 7 8 { surv := { loopOk := true, pulsePend := true }, qw := { grant := some ⟨true, 0, 1, 0, 150, 0, true, 0⟩ } }
      [(R.SURV_TRK_CC_CTL_DAY_MAX 7, 1)], ⟨true, 0, 1, 0, 150, 0, true, 0⟩, calm_of (by decide +kernel), by decide +kernel⟩,
    ⟨onTrk 7 8 { surv := { pulseRuns := true } } [], calm_of (by decide +kernel), by decide +kernel⟩,
    ⟨onTrk 7 8 {} [(R.SURV_TRK_CC_CTL_DAY_MAX 7, 1), (R.SURV_TRK_CC_STAT_DAY_HELD 7, 1)], calm_of (by decide +kernel),
      by decide +kernel⟩⟩

theorem wit_SurveyorSamples :
    (∃ s : State, Calm s ∧ feServes 3 s = true ∧ (s.trk 7).surv.shieldRun = 99 ∧ s.rd (R.SURV_TRK_SHIELD_LIM_LIM_MA 7) < 65535 ∧
      Loggable (64 + 7) s) ∧
    (∃ s : State, Calm s ∧ tget false s.sensorHot 0 = false ∧ int16 0 ≤ int16 (s.rd (R.SURV_ENV_LIMIT 0)) ∧
      int16 0 < 8 * (s.rd R.PWR_THERM_WARN_C : Int)) ∧
    ∃ s : State, Calm s ∧ (s.pas 3).powered = true ∧
      8 * (s.rd R.PWR_THERM_CUT_C : Int) ≤ int16 (s.rd (R.SURV_VALE_ENV_VALUE 3 1)) :=
  ⟨⟨(onTrk 7 8 { surv := { shieldRun := 99 } } [(R.SURV_TRK_SHIELD_LIM_LIM_MA 7, 500)]).mute 71, calm_of (by decide +kernel),
      by decide +kernel, by decide +kernel, by decide +kernel, log_of (by decide +kernel)⟩,
    ⟨svc.put [(R.SURV_ENV_LIMIT 0, 800), (R.PWR_THERM_WARN_C, 100)], calm_of (by decide +kernel), by decide +kernel⟩,
    ⟨svc.put [(R.PWR_THERM_CUT_C, 125), (R.SURV_VALE_ENV_VALUE 3 1, 1000)], calm_of (by decide +kernel), by decide +kernel⟩⟩

theorem wit_AssayerItems :
    (∃ s : State, Calm s ∧ itemHeld 112 s = false ∧ itemState 112 s = 0) ∧
    (∃ s : State, Calm s ∧ itemHeld 71 s = false ∧ calCan 71 s = true ∧ calFirst 71 s = true ∧ calrefOk 25250 = true) ∧
    (∃ s : State, ∃ res, Calm s ∧ itemHeld 112 s = false ∧ itemState 112 s = 3 ∧ rangeOk res = true ∧
      repeatOk res (s.item 112).stored = true) ∧
    (∃ s : State, ∃ l t, Calm s ∧ itemHeld 112 s = false ∧ (s.item 112).writing = some (l, t)) ∧
    (∃ s : State, Calm s ∧ itemHeld 111 s = false ∧ itemState 111 s = 4 ∧ itemVale 111 = some 3 ∧ s.valeRung 3 < 2 ∧
      (s.item 111).steps + 1 < 256) ∧
    ∃ s : State, Calm s ∧ s.bit R.ASSAY_STAT_REF_OK = false ∧ calrefOk 24750 = true :=
  ⟨⟨svc, calm_of (by decide +kernel), by decide +kernel⟩,
    ⟨svc.put [(R.ASSAY_CTL_EN, 1), (R.ASSAY_ITEM_STAT_STATE 71, 1)], calm_of (by decide +kernel), by decide +kernel⟩,
    ⟨svc.put [(R.ASSAY_ITEM_STAT_STATE 112, 3)], [], calm_of (by decide +kernel), by decide +kernel⟩,
    ⟨{ svc with items := [(112, { writing := some ([], -40) })] }, [], -40, calm_of (by decide +kernel), by decide +kernel⟩,
    ⟨{ svc.put [(R.ASSAY_ITEM_STAT_STATE 111, 4)] with items := [(111, { steps := 254 })] }, calm_of (by decide +kernel),
      by decide +kernel⟩,
    ⟨svc.put [(R.ASSAY_STAT_REF_OK, 0)], calm_of (by decide +kernel), by decide +kernel⟩⟩

/-! ## Register writes that are open -/

/-- A field of a word may take its part, as a check; the fields whose values hang on others are looked at by id. -/
def fineB (r : RegAt) (w : Nat) (arm : Bool) (s : State) (x : FldDesc) : Bool :=
  let f := r.fld x
  let away (g : Fld) : Bool := r.d.fields.all fun y => decide (y.id = g.id → r.ix ≠ g.ix)
  (!x.keyed || arm) && (x.ranges.isEmpty || x.ranges.any fun g => decide (g.1 ≤ wordVal w x) && decide (wordVal w x ≤ g.2)) &&
    (!(isFld f (R.TRK_CTL_TEST 0) || isFld f (R.DRP_CTL_TEST 0)) || decide (wordVal w x = 0) || decide (s.mode = 4)) &&
    (!(isFld f R.TIME_STEP_GO || isFld f R.TIME_ADJ_FREQ_FREQ || isFld f R.TIME_ADJ_PHASE_PHASE_NS) ||
      (away R.TIME_CTL_SRC && !timeBarred s)) &&
    (!isFld f (R.TRK_EC_WIN_START 0 0) ||
      (decide (256 ≤ wordVal w x ∧ wordVal w x ≤ 5936) && (upto 8).all fun u => decide (u = f.ix % 64) ||
        (away (R.TRK_EC_WIN_STATE (f.ix / 64) u) && decide (s.rd (R.TRK_EC_WIN_STATE (f.ix / 64) u) = 0)))) &&
    (!isFld f R.GRAN_CTL_ORDER || decide (s.rd f = wordVal w x)) &&
    !(isFld f (R.WATCH_REACT_U_ACTION 0) || isFld f (R.WATCH_REACT_F_ACTION 0) || isFld f R.MILL_ISO_TH_REFILL_CELLS ||
      isFld f R.MILL_ISO_TH_PANIC_CELLS || isFld f R.GRAN_WQ_CTL_WQ_HIGH)

theorem fine_of {r : RegAt} {w : Nat} {arm : Bool} {s : State} {x : FldDesc} (h : fineB r w arm s x = true) :
    FieldFine r w arm s x := by
  unfold fineB at h
  simp only [Bool.and_eq_true, Bool.or_eq_true, Bool.not_eq_true', decide_eq_true_eq, Bool.or_eq_false_iff, List.all_eq_true,
    mem_upto] at h
  obtain ⟨⟨⟨⟨⟨⟨h1, h2⟩, h3⟩, h4⟩, h5⟩, h6⟩, h7⟩ := h
  refine ⟨fun k a => by simp_all, .inr fun t m _ kept => ?_⟩
  have kept (g : Fld) (h : ∀ y ∈ r.d.fields, y.id = g.id → r.ix ≠ g.ix) : t.rd g = s.rd g :=
    kept g fun f hf e => by
      obtain ⟨y, hy, rfl⟩ := List.mem_map.1 hf
      exact h y hy e.1 e.2
  have bar : modeBar (r.fld x) (wordVal w x) t = false := by
    unfold modeBar
    simp only
    split
    · next hc =>
      rcases h3 with (h | h) | h
      · simp_all
      · simp [h]
      · simp [m, h]
    · split
      · next hc => 
        have : isFld (r.fld x) R.TIME_STEP_GO = true ∨ isFld (r.fld x) R.TIME_ADJ_FREQ_FREQ = true ∨
          isFld (r.fld x) R.TIME_ADJ_PHASE_PHASE_NS = true := by simpa [or_assoc] using hc
        have h4' : (∀ y ∈ r.d.fields, y.id = (R.TIME_CTL_SRC).id → r.ix ≠ (R.TIME_CTL_SRC).ix) ∧ timeBarred s = false := by
          rcases h4 with h | h
          · simp_all
          · exact h
        unfold timeBarred at h4' ⊢
        rw [kept _ h4'.1]; exact h4'.2
      · rfl
  refine ⟨fun _ => ⟨bar, ?_⟩, fun _ _ => bar⟩
  unfold encOk
  simp only [Bool.and_eq_true, Bool.or_eq_true]
  refine ⟨by simpa using h2, ?_⟩
  split
  · next hc =>
    rcases h5 with h | ⟨h, h'⟩
    · simp_all
    · unfold winStartOk
      simp only [Bool.and_eq_true, decide_eq_true_eq, Bool.not_eq_true', List.any_eq_false, mem_upto]
      refine ⟨h, fun u hu => ?_⟩
      rcases h' u hu with e | ⟨e, e'⟩
      · simp [e]
      · have := kept (R.TRK_EC_WIN_STATE ((r.fld x).ix / 64) u) e
        simp [winState, this, e']
  · split
    · simp_all
    · split
      · simp_all
      · split
        · simp_all
        · split
          · simp_all
          · split
            · simp_all
            · rfl

/-- `Opens`, as a check. -/
def opensB (p : Port) (r : RegAt) (w : Nat) (s : State) : Bool :=
  decide (p ≠ .mdio) && decide (regAt r.addr = some r) && plainReg r && !mirrorMode r.addr &&
    decide (serviceAt p true r.addr (some r) s = .normal) && !regShut p r s && r.d.fields.all (fineB r w (armed p s) s)

theorem opens_of {p : Port} {r : RegAt} {w : Nat} {s : State} (h : opensB p r w s = true) : Opens p r w s := by
  simp only [opensB, Bool.and_eq_true, decide_eq_true_eq, Bool.not_eq_true', List.all_eq_true] at h
  obtain ⟨⟨⟨⟨⟨⟨a, b⟩, c⟩, d⟩, e⟩, f⟩, g⟩ := h
  exact ⟨a, b, c, d, e, f, fun x hx => fine_of (g x hx)⟩

/-- The command is the write of a register that is open to it. -/
def wordOpens (c : Instr) (s : State) : Bool :=
  match wordOf c s with
  | some (_, p, r, w) => opensB p r w s
  | none => false

theorem wordOpens_of {c : Instr} {s : State} (h : wordOpens c s = true) :
    ∃ e p r w, wordOf c s = some (e, p, r, w) ∧ Opens p r w s := by
  unfold wordOpens at h
  split at h
  · next e p r w hw => exact ⟨e, p, r, w, hw, opens_of h⟩
  · cases h

/-- Every host port is armed. -/
def State.allArmed (s : State) : State := { s with fabric := { arm := [(0, 1000), (1, 1000), (2, 1000), (3, 1000)] } }

/-- A device in SERVICE whose ports are armed and whose first trunk uses the CA 0. -/
def armedSvc : State := (svc.put [(R.MSEC_STAT_STATE 0, 1)]).allArmed

theorem opens_trunks : ([.registerWrite .pcie 0x60000 15 0, .trkEnableWrite .pcie 7 true, .trkModeWrite .spi 7 3,
    .trkRestartAn .pcie 0, .trkRetrain .spi 7, .trkTestWrite .pcie 7 0, .ecWinStartWrite .pcie 7 7 5936, .ecAutoPlaceOff .pcie 0,
    .eqCursorWrite .spi 7 32, .eqFfeEnWrite .pcie 0 false, .eqDfeEnWrite .pcie 7 false, .coefSnap .pcie 7,
    .qwHostRequest .pcie 7] : List Instr).all (fun c => wordOpens c armedSvc) = true := by decide +kernel
theorem opens_drops : ([.drpEnableWrite .pcie 63 true, .drpModeWrite .pcie 63 true, .drpRestart .pcie 0, .drpTestWrite .spi 63 0,
    .ldCoefSnap .pcie 63, .drpCycCtlWrite .pcie 63 0x20000850, .passRetrain .pcie 3, .hlnRelock .pcie 5, .hlnRateWrite .pcie 0 true true,
    .hlnEnableWrite .spi 5 true] : List Instr).all (fun c => wordOpens c armedSvc) = true := by decide +kernel
theorem opens_memory : ([.millFlush .pcie 8191, .granFreqReq .pcie 2, .granTrnGo .steward 1, .granOrderWrite .pcie 0, .timeStep .pcie,
    .timeAdjPhaseWrite .pcie 0xffffffff, .timeRefRestore .pcie true, .survCcClear .pcie 7, .survCapFree .pcie 7,
    .survStart .pcie 0 none, .survStart .pcie 71 none, .assayRunGo .pcie 71, .assayAcceptGo .pcie 0] : List Instr).all
    (fun c => wordOpens c armedSvc) = true := by decide +kernel
theorem opens_steward : ([.stwResetWarm .pcie, .stwModeMaint .spi, .stwModeExitMaint .pcie, .stwScanReq .pcie,
    .stwSelftestStart .pcie 1 0, .stwRelease .pcie 1 0, .warpLoadBegin .pcie 1 true, .warpLoadData .pcie 5, .warpLoadAbort .pcie,
    .warpLoadCommit .pcie default, .watchSlotRelease .pcie 191, .watchHostClr .pcie, .watchIrqRearm .pcie 0xffff,
    .watchLogSelect .pcie 255, .archiveSelect .pcie 4095] : List Instr).all (fun c => wordOpens c armedSvc) = true := by decide +kernel
theorem opens_power : ([.pwrLowestWrite .pcie 3 2,
    .pwrNightEnWrite .pcie true, .pwrTimerStart .pcie true] : List Instr).all (fun c => wordOpens c armedSvc) = true := by decide +kernel
theorem opens_sec : ([ .secLcReq .pcie 2 0x5a, .secGenkey .pcie, .secLoadBegin .pcie 1,
    .secLoadData .pcie 1, .secLoadCommit .pcie, .secLoadAbort .pcie, .secRollFwd .pcie, .secAttGo .pcie, .msecRotate .pcie 0] : List Instr).all (fun c => wordOpens c armedSvc) = true := by decide +kernel
theorem opens_recovery : ([.mgmtRecovBegin .spi 1, .mgmtRecovData .spi 0, .mgmtRecovCommit .spi true] : List Instr).all
    (fun c => wordOpens c (State.allArmed { State.reset.put [(R.STW_BOOT_STAT_STAGE, 8)] with boot := { step := 6 } })) = true := by decide +kernel

theorem wit_RegisterWrites :
    (∀ c ∈ ([.registerWrite .pcie 0x60000 15 0, .trkTestWrite .pcie 7 0, .ecWinStartWrite .pcie 7 7 5936, .eqCursorWrite .spi 7 32,
      .drpCycCtlWrite .pcie 63 0x20000850, .granTrnGo .steward 1, .granOrderWrite .pcie 0, .timeStep .pcie, .stwResetWarm .pcie,
      .msecRotate .pcie 0] : List Instr), ∃ e p r w, wordOf c armedSvc = some (e, p, r, w) ∧ Opens p r w armedSvc) ∧
    ∃ r : RegAt, plainReg r = true ∧ r.d.fields ≠ [] :=
  have h : ([.registerWrite .pcie 0x60000 15 0, .trkTestWrite .pcie 7 0, .ecWinStartWrite .pcie 7 7 5936, .eqCursorWrite .spi 7 32,
      .drpCycCtlWrite .pcie 63 0x20000850, .granTrnGo .steward 1, .granOrderWrite .pcie 0, .timeStep .pcie, .stwResetWarm .pcie,
      .msecRotate .pcie 0] : List Instr).all (fun c => wordOpens c armedSvc) = true := by decide +kernel
  ⟨fun c hc => wordOpens_of (List.all_eq_true.1 h c hc),
    (fieldAt R.MILL_FLUSH_GO).get (by decide +kernel), by decide +kernel, by decide +kernel⟩

/-- Drop 63 read in full: its 64-bit octet count, with a snapshot of the SPI port. -/
def snapped : State := { svc with fabric := { snaps := [⟨.spi, winBase 3403848, 3403848, 7⟩] } }

theorem wit_RegisterReads :
    ([(.registerReadClear .pcie 2555912, 2555912), (.wideCounterRead .spi 3403848, 3403848), (.wideCounterRead .spi 3403852, 3403852),
      (.registerReadClear .pcie 0, 0)] : List (Instr × Nat)).all (fun c => match readOf c.1, regAt (c.2 / 4 * 4) with
      | some (p, a), some r => decide (a = c.2) && decide (p ≠ .mdio) && decide (serviceAt p false (a / 4 * 4) (some r) snapped = .normal) &&
        (if a = 3403848 then wideRead r && decide (r.k = 0)
         else if a = 3403852 then wideRead r && decide (r.k ≠ 0) &&
          ((snapOf p (winBase r.addr) (regVote r snapped)).filter (fun x => x.addr = r.low)).isSome
         else !wideRead r)
      | _, _ => false) = true ∧
    ([.warpClampDataRead .spi, .coefDataRead .pcie 7, .ldCoefDataRead .pcie 63] : List Instr).all (fun c => match readOf c with
      | some (p, a) => match regAt (a / 4 * 4) with
        | some r => decide (p ≠ .mdio) && decide (serviceAt p false (a / 4 * 4) (some r) svc = .normal)
        | none => false
      | none => false) = true := by decide +kernel

/-- The PCIe link is up. -/
def linked : State := svc.put [(R.MGMT_PCIE_STAT_LINK_UP, 1)]

theorem wit_PortAccesses :
    (([.spiReadFrame 0xE0010, .pcieMemoryRead 0x60000 1, .spiReadFrame 2556224, .pcieMemoryRead 2556224 1] : List Instr).all
      fun c => match portReadOf c linked with
      | some (p, a) => decide (stalledAt p linked = []) && (match crossVale a (serviceAt p false a (regAt a) linked) with
        | none => decide (a < 0x200000)
        | some k => decide (k = 3) && decide ((inFlight k linked).length < 16))
      | none => false) = true ∧
    (([.spiWriteFrame 0xE0010 3, .pcieMemoryWrite 0x60000 [(5, 7)] false, .spiWriteFrame 2556224 7,
        .pcieMemoryWrite 2556224 [(7, 15)] false] : List Instr).all
      fun c => match portWriteOf c linked with
      | some (p, a, be, _) => decide (stalledAt p linked = []) && (match crossVale a (serviceAt p true a (regAt a) linked), regAt a with
        | none, _ => decide (a < 0x200000)
        | some k, some r => decide (k = 3) && decide ((inFlight k linked).length < 16) && !r.keyed && !mirrorMode a && decide (be = 15)
        | some _, none => false)
      | none => false) = true ∧
    (∃ s, Calm s ∧ Loggable 11 s ∧ pcieUp s = true) ∧
    ∀ n : Fin 2097152, n = 0 ∨ n = 2097151 → regAt (0x800000 + 4 * n.val) = none ∧
      serviceAt .pcie false (0x800000 + 4 * n.val) none linked = .normal ∧
      serviceAt .pcie true (0x800000 + 4 * n.val) none (linked.put [(R.GRAN_SEG_PAGE_SEG, 2)]) = .normal ∧
      apertureBarred n (linked.put [(R.GRAN_SEG_PAGE_SEG, 2)]) = false :=
  ⟨by decide +kernel, by decide +kernel, ⟨linked.mute 11, calm_of (by decide +kernel), log_of (by decide +kernel), by decide +kernel⟩,
    fun _ h => by rcases h with rfl | rfl <;> decide +kernel⟩

/-- BOOT as the ports first answer. -/
def starting : State := { State.reset with boot := { step := 5 } }

/-- Two copies of TIME_ADJ_FREQ disagree, and the scrubber stands before it. -/
def torn : State :=
  { svc.put [(R.TIME_ADJ_FREQ_FREQ, 1)] with fabric := { scrubAt := 1536 } }

theorem wit_FabricKeys :
    (Calm svc ∧ serviceAt .pcie true 8 (regAt 8) svc = .normal) ∧
    (Calm starting ∧ serviceAt .spi true 8 (regAt 8) starting = .readOnly ∧ recovering starting = false) ∧
    ((svc.copies (votedAt svc.fabric.scrubAt).1).1 = (svc.copies (votedAt svc.fabric.scrubAt).1).2.1 ∧
      (svc.copies (votedAt svc.fabric.scrubAt).1).1 = (svc.copies (votedAt svc.fabric.scrubAt).1).2.2) ∧
    (∃ s : State, ¬ (s.copies (votedAt s.fabric.scrubAt).1).1 = (s.copies (votedAt s.fabric.scrubAt).1).2.1) ∧
    (serviceAt .pcie true 0x60034 (regAt 0x60034) svc = .normal ∧
      (svc.copies R.TIME_ADJ_FREQ_FREQ).1 = (svc.copies R.TIME_ADJ_FREQ_FREQ).2.1 ∧
      (svc.copies R.TIME_ADJ_FREQ_FREQ).1 = (svc.copies R.TIME_ADJ_FREQ_FREQ).2.2 ∧ timeBarred svc = false) ∧
    ∀ v ∈ [(549755813 : Word), 3745211483], ∀ r x, regAt 0x60034 = some r → x ∈ r.d.fields →
      encOk x R.TIME_ADJ_FREQ_FREQ (svc.rd R.TIME_ADJ_FREQ_FREQ) v.toNat v.toNat svc = true := by
  refine ⟨⟨calm_of (by decide +kernel), by decide +kernel⟩, ⟨calm_of (by decide +kernel), by decide +kernel, by decide +kernel⟩,
    by decide +kernel, ⟨torn, by decide +kernel⟩, by decide +kernel, fun v hv r x hr hx => ?_⟩
  have : [(549755813 : Word), 3745211483].all (fun v => match regAt 0x60034 with
    | some r => r.d.fields.all fun x =>
        encOk x R.TIME_ADJ_FREQ_FREQ (svc.rd R.TIME_ADJ_FREQ_FREQ) v.toNat v.toNat svc
    | none => true) = true := by decide +kernel
  have := List.all_eq_true.1 this v hv
  rw [hr] at this
  exact List.all_eq_true.1 this x hx

/-- The device recovers its firmware, and COMMIT has been written. -/
def recov : State :=
  { State.reset.put [(R.STW_BOOT_STAT_STAGE, 8), (R.MGMT_RECOV_STAT_STATE, 2)] with boot := { step := 6 } }

/-- MDIO stands at register 4,095 of MMD 7 of trunk 7. -/
def mdioAt (m : Nat) : State := { svc with mgmt := { svc.mgmt with mmd := [(32 * 7 + 7, m)] } }

theorem wit_ManagementPorts :
    (Calm linked ∧ pcieUp linked = true ∧ linked.rd R.PWR_STAT_HOST_RUNG < 2) ∧
    (Calm svc ∧ svc.isFenced .pcie = false ∧ ¬ (svc.mode = 0 ∧ svc.boot.step < 4)) ∧
    (Calm recov ∧ recovering recov = true ∧ recov.rd R.MGMT_RECOV_STAT_STATE = 2) ∧
    (Calm (mdioAt 0) ∧ mdioTrunk 7 7 (mdioAt 0) = some 7) ∧
    (∃ s : State, Calm s ∧ mdioTrunk 0 1 s = some 0 ∧ s.mgmt.pre = some ⟨7, 7, 4095, none⟩) ∧
    (∃ s : State, Calm s ∧ mdioTrunk 7 7 s = some 7 ∧ s.mgmt.wrHeld = none ∧ s.mgmt.rdHeld = none ∧ mmdOf 7 7 s = 4094 ∧
      s.mgmt.pre = some ⟨7, 7, 4094, some 0x12345678⟩) ∧
    ∃ s : State, Calm s ∧ mdioTrunk 7 7 s = some 7 ∧ mmdOf 7 7 s = 4094 + 1 ∧ s.mgmt.wrHeld = some (7, 7, 4094, 65535) :=
  ⟨⟨calm_of (by decide +kernel), by decide +kernel⟩, ⟨calm_of (by decide +kernel), by decide +kernel⟩,
    ⟨calm_of (by decide +kernel), by decide +kernel⟩, ⟨calm_of (by decide +kernel), by decide +kernel⟩,
    ⟨{ svc with mgmt := { svc.mgmt with pre := some ⟨7, 7, 4095, none⟩ } }, calm_of (by decide +kernel), by decide +kernel⟩,
    ⟨{ mdioAt 4094 with mgmt := { (mdioAt 4094).mgmt with pre := some ⟨7, 7, 4094, some 0x12345678⟩ } }, calm_of (by decide +kernel),
      by decide +kernel⟩,
    ⟨{ mdioAt 4095 with mgmt := { (mdioAt 4095).mgmt with wrHeld := some (7, 7, 4094, 65535) } }, calm_of (by decide +kernel),
      by decide +kernel⟩⟩

/-- An ingress queue whose front frame has begun on a lane, and a second frame behind it. -/
def laned (q : Nat) (lane : Option Nat) : State :=
  { armedSvc with mill := { armedSvc.mill with
      queues := [(q, { lane := lane, frames := [queuedRx q ⟨7, 0, [1], ⟨0, 0, 0⟩, 0, false⟩, queuedRx q ⟨7, 0, [2], ⟨0, 0, 0⟩, 0, false⟩] })] } }

theorem wit_FlushDiscards :
    (∀ q : BitVec 13, q = 0 ∨ q = 4479 ∨ q = 4480 ∨ q = 8191 → ∃ e p r w, wordOf (.millFlush .pcie q) armedSvc = some (e, p, r, w) ∧
      Opens p r w armedSvc) ∧
    (wordOpens (.millFlush .spi 4479) (laned 4479 none) = true ∧ ((laned 4479 none).que 4479).lane = none ∧
      ((laned 4479 none).que 4479).frames.length = 2) ∧
    wordOpens (.millFlush .spi 4479) (laned 4479 (some 5)) = true ∧ ((laned 4479 (some 5)).que 4479).lane ≠ none :=
  ⟨fun q h => by
      refine wordOpens_of ?_
      rcases h with rfl | rfl | rfl | rfl <;> decide +kernel,
    by decide +kernel⟩

/-! ## The block as a whole -/

/-- The host die is in Still. -/
def still : State := State.reset.put [(R.PWR_STAT_HOST_RUNG, 2)]

theorem wit_StepRunsFront :
    (State.reset.pending = [] ∧ State.reset.rd R.PWR_STAT_HOST_RUNG < 2 ∧
      (State.reset.copies R.TIME_ADJ_FREQ_FREQ).1 = (State.reset.copies R.TIME_ADJ_FREQ_FREQ).2.1 ∧
      (State.reset.copies R.TIME_ADJ_FREQ_FREQ).1 = (State.reset.copies R.TIME_ADJ_FREQ_FREQ).2.2) ∧
    still.pending = [] ∧ 2 ≤ still.rd R.PWR_STAT_HOST_RUNG := by decide +kernel

/-- The granary reports an error that its mask lets through: vector 10 is up. -/
def raised : State := { State.reset.put [(R.GRAN_EVT_CORR, 1), (R.GRAN_EVT_EN_EN, 63)] with irq := 1024 }

theorem wit_InterruptsTrue : IrqTrue State.reset ∧ IrqTrue raised ∧ tbit raised.irq 10 = true := by
  unfold IrqTrue; decide +kernel

/-! ## Ill-formed commands -/

/-- A stamp of one second's length in nanoseconds. -/
def badStamp : Stamp := ⟨0, 1000000000, 0⟩

theorem refused_stamp : Stamp.wf ⟨2 ^ 48, 0, 0⟩ = false ∧ badStamp.wf = false ∧ Stamp.wf ⟨0, 0, 65536⟩ = false := by decide
theorem refused_block : Block.wf (.trunk 8) = false ∧ Block.wf (.drop 64) = false ∧ Block.wf (.vale 4) = false ∧
    Block.wf (.hostLane 6) = false ∧ Block.wf (.surv 4) = false ∧ Block.wf (.agent 4) = false := by decide
theorem refused_codewords : CwStatus.wf 15 (.corrected 16) = false ∧ LdCw.wf ⟨.corrected 9, List.replicate 239 0⟩ = false ∧
    LdCw.wf ⟨.uncorrectable, []⟩ = false := by decide +kernel
theorem refused_coefficients : CoefUpd.wf ⟨4, 0, 0⟩ = false ∧ CoefUpd.wf ⟨0, 512, 0⟩ = false := by decide
theorem refused_bist : Instr.wf (.hostSelftestDone [⟨.gran, 512, none, 0, 0, 0, true, true⟩]) = false ∧
    Instr.wf (.valeSelftestDone [⟨.vale 1, 33, some 8, 0, 0, 0, true, true⟩]) = false ∧
    Instr.wf (.selftestDone (some ⟨.drop 64, 0, none, 0, 0, 0, false, false⟩)) = false := by decide
theorem refused_trunk : Instr.wf (.anComplete 0 ⟨64, none, false, false⟩) = false ∧
    Instr.wf (.trainingFrameReceive 0 0 ⟨0, 256, false, false, false, false, false, []⟩) = false ∧
    Instr.wf (.trainingFrameReceive 0 0 ⟨0, 0, false, false, false, false, false, [⟨4, 0, 0⟩]⟩) = false ∧
    Instr.wf (.crCodewordReceive 0 (.corrected 16) 0 0 false false [] []) = false ∧
    Instr.wf (.crCodewordReceive 0 .uncorrectable 0 0 false false [⟨[], badStamp⟩] []) = false ∧
    Instr.wf (.crCodewordReceive 0 .uncorrectable 0 0 false false [] [⟨4, 0, 0⟩]) = false ∧
    Instr.wf (.stdFrameReceive 0 ⟨[], badStamp⟩) = false ∧ Instr.wf (.frameTransmitComplete 0 badStamp) = false := by decide
theorem refused_twin : Instr.wf (.twinCopyArrival 0 false ⟨256, 0, .uncorrectable, 0, 0, []⟩ 0) = false ∧
    Instr.wf (.twinCopyArrival 0 false ⟨0, 5, .uncorrectable, 0, 0, []⟩ 0) = false ∧
    Instr.wf (.twinCopyArrival 0 false ⟨0, 0, .corrected 16, 0, 0, []⟩ 0) = false ∧
    Instr.wf (.twinCopyArrival 0 false ⟨0, 0, .uncorrectable, 2 ^ 5140, 0, []⟩ 0) = false := by decide +kernel
theorem refused_drop : Instr.wf (.dropFrameReceive 0 (.frame ⟨[], badStamp⟩ true) false) = false ∧
    Instr.wf (.ldBurstEnd 0 ⟨[⟨.uncorrectable, []⟩], [], 0, 0, [], [], ⟨0, 0, 0⟩⟩) = false ∧
    Instr.wf (.ldBurstEnd 0 ⟨[], [⟨.uncorrectable, []⟩], 0, 0, [], [], ⟨0, 0, 0⟩⟩) = false ∧
    Instr.wf (.ldCaptureSync 0 0 ⟨[], [], 256, 0, [], [], ⟨0, 0, 0⟩⟩) = false ∧
    Instr.wf (.ldBurstEnd 0 ⟨[], [], 0, 0, [], [], badStamp⟩) = false := by decide
theorem refused_pass : Instr.wf (.passBlockReceive 0 false 0 ⟨0, false, .uncorrectable, [], ⟨0, 0, 0⟩, []⟩) = false ∧
    PassBlock.wf ⟨0, false, .corrected 9, List.replicate 128 0, ⟨0, 0, 0⟩, []⟩ = false ∧
    PassBlock.wf ⟨0, false, .uncorrectable, List.replicate 128 0, badStamp, []⟩ = false := by decide +kernel
theorem refused_accesses : Instr.wf (.pcieMemoryRead 0 0) = false ∧ Instr.wf (.pcieMemoryRead 0 1025) = false ∧
    Instr.wf (.pcieMemoryWrite 0 [] false) = false ∧ Instr.wf (.pcieMemoryWrite 0 (List.replicate 65 (0, 0)) false) = false ∧
    Instr.wf (.granaryRequest 0 0 (some [])) = false := by decide +kernel
theorem accepted : Instr.wf (.pcieMemoryRead 0 1024) = true ∧ Instr.wf (.granaryRequest 0 0 (some (List.replicate 64 0))) = true ∧
    Instr.wf (.frameTransmitComplete 71 ⟨2 ^ 48 - 1, 999999999, 65535⟩) = true ∧
    Instr.wf (.passBlockReceive 3 true 2 ⟨0, false, .corrected 8, List.replicate 128 0, ⟨0, 0, 0⟩, []⟩) = true := by decide +kernel

/-! ## Figures of the spec -/

/-- The table gives its rows no bits. -/
theorem test_no_words : decodeTableWord 8 0 = none ∧ State.reset.withFetchWord 8 0 = State.reset := ⟨rfl, rfl⟩

/-- 00_scope, addresses of car 3's first amplifier drop and first trunk; 08_drop_segments, the station table of drop 0. -/
theorem test_windows : (fieldAt (R.DRP_CTL_ENABLE 16)).map RegAt.addr = some 0x310000 ∧
    (fieldAt (R.TRK_CTL_ENABLE 2)).map RegAt.addr = some 0x220000 ∧
    (regAt 0x300160).map (fun r => r.d.name) = some "DRP_STN_LO" ∧ (regAt 0x300164).map RegAt.ix = some 12 := by decide +kernel

/-- 10_pass, one delay exchange of car 3. -/
theorem test_exchange : exchange 0 192400 450000 640200 800 = (191700, 190900, 700) ∧ tenPs 191700 = 0x4AE2 ∧
    tenPs 190900 = 0x4A92 ∧ (exchange 0 192400 450000 640200 0).2.2 = 1100 := by decide

/-- 13_memory_granary, where bale slot 1,000 of segment 2 lies. -/
theorem test_bale_place :
    let b := (2 * 234881024 + 8192000) / 64
    granPlace 0 b = ⟨1, 13, 8334, 12⟩ ∧ granPlace 0 (b + 127) = ⟨1, 15, 8334, 27⟩ ∧ (granPlace 1 b).col = 24 ∧
      (granPlace 1 (b + 127)).col = 27 ∧ (granPlace 2 b).bank = 3 := by decide

/-- What holds in the state after a command. -/
def after (c : Instr) (s : State) (p : State → Bool) : Bool :=
  match exec c s with
  | .next t => p t
  | _ => false

/-- The word of a register. -/
def wordAt (a : Nat) (s : State) : Nat := ((regAt a).map fun r => (regRead .pcie r s).1).getD 0

/-- 04_register_interface, drop 49 released without arming: GO is not taken, KIND and INDEX change. -/
theorem test_release_unarmed : after (.registerWrite .pcie 0x4004C 15 0x80001031) svc
    (fun t => decide (wordAt 0x10 t = 0x2204004C) && decide (wordAt 0x4004C t = 0x1031)) = true := by decide +kernel

/-- 12_miller_queues: a PA frame of 178 octets fills one cell. -/
theorem test_cells : (queuedRx 0 ⟨0, 0, List.replicate 178 0, ⟨0, 0, 0⟩, 0, false⟩).cells = 1 ∧
    (queuedRx 0 ⟨0, 0, List.replicate 225 0, ⟨0, 0, 0⟩, 0, false⟩).cells = 2 := by decide +kernel

end Sys2Proof.Machine
end

section
/-! PROOFS. What leaves a trunk, and the scrubs of the memories. -/

namespace Sys2Proof.Machine

variable {s : State}

/-! ## Frames leave a trunk (R21, R259) -/

/-- On a trunk in DATA outside a twin, the head of bank 4 leaves with its report and its credit. -/
theorem effFrameSent_alone {p : Nat} {f : TxFrame} {l : List TxFrame} {st : Stamp} (hp : p < 8) (ha : Alone p s)
    (hd : trkState p s = 8) (hb : (s.trk p).bank4 = f :: l) :
    effFrameSent p st s = creditBack p f.octets.length (stampReport f (some st) (s.modTrk p fun x => { x with bank4 := l })) := by
  have ht : twinOf p s = none := ha
  simp [effFrameSent, hp, ht, hd, hb]

theorem exec_frameTransmitComplete_trunk (p : Fin 8) (st : Stamp) :
    exec (.frameTransmitComplete ⟨p, by omega⟩ st) s = done (effFrameSent p st s) := congrArg done (if_pos p.isLt)

theorem Calm.stampReport {f : TxFrame} {st : Option Stamp} (h : Calm s) : Calm (stampReport f st s) := by
  unfold Machine.stampReport
  split
  · exact h.with_reports
  · exact h

theorem Calm.creditBack {p n : Nat} (h : Calm s) : Calm (creditBack p n s) := h.modCred

/-- Settles O38: the command is the three effects of `effFrameSent_alone`, each of which keeps the state calm. -/
theorem framesLeave : Obligations.FramesLeave := by
  intro p st f l s hc ha hd hb
  have hx := exec_frameTransmitComplete_trunk (s := s) p st
  rw [effFrameSent_alone p.isLt ha hd hb] at hx
  exact next_of_done hx hc.modTrk.stampReport.creditBack

/-! ## Scrubs (R289, R291) -/

/-- The scrub pointer of a vale bank stands at the next word. -/
def bankScrubbed (v bank : Nat) (s : State) : State :=
  { s with memScrub := { s.memScrub with
    valeAt := tset 0 s.memScrub.valeAt (8 * v + bank) ((tget 0 s.memScrub.valeAt (8 * v + bank) + 1) % 16384) } }

theorem Calm.bankScrubbed {v bank : Nat} (h : Calm s) : Calm (bankScrubbed v bank s) := h.with_memScrub

/-- In a vale that is not fenced the pointer moves on, and the word is handled as it was found. -/
theorem exec_valeBankScrub_unfenced (v : Fin 4) (bank : Fin 8) (f : WordFind) (hf : s.isFenced (.vale v) = false) :
    exec (.valeBankScrub v bank f) s =
      done (bankFind v bank (tget 0 s.memScrub.valeAt (8 * v.val + bank)) f (bankScrubbed v bank s)) :=
  congrArg done (if_neg (by simp [hf]))

/-- With PS_EN set and nothing found, a scrub read of the packet store only moves its pointer. -/
theorem exec_psScrubRead_clean (he : s.bit R.MEM_SCRUB_CTL_PS_EN = true) :
    exec (.psScrubRead none false) s = done (if s.memScrub.psAt + 1 = 1572864 then
      { (s.sat R.MEM_PS_STAT_PASSES 1).wr R.MEM_PS_STAT_LAST_MS (min 65535 ((s.age - s.memScrub.psStart) / msec)) with
        memScrub := { s.memScrub with psAt := 0, psStart := s.age } }
    else { s with memScrub := { s.memScrub with psAt := s.memScrub.psAt + 1 } }) :=
  congrArg done (if_neg (by simp [he]))

/-- Settles O42: a clean word leaves the moved pointer alone, a corrected one is counted and recorded, and the packet
store's pointer starts a new pass exactly at its last word. -/
theorem memoryScrubs : Obligations.MemoryScrubs := by
  refine ⟨fun v bank s hc hf => ⟨?clean, fun bit hg => ?corrected⟩, fun s hc he => ⟨fun hn => ?next, fun hl => ?last⟩⟩
  case clean => exact next_of_done (exec_valeBankScrub_unfenced v bank .clean hf) hc.bankScrubbed
  case corrected =>
    exact records_given (exec_valeBankScrub_unfenced v bank (.corrected bit) hf) hg (.inl rfl) (by decide)
      (hc.bankScrubbed.sat (by simp [calmRegs])) rfl rfl rfl fun f hf => rd_wr_log hf (by simp [logRegs])
  case next => exact next_of_done ((exec_psScrubRead_clean he).trans (by rw [if_neg hn])) hc.with_memScrub
  case last =>
    exact next_of_done ((exec_psScrubRead_clean he).trans (by rw [if_pos hl]))
      ((hc.sat (by decide)).wr (by decide)).with_memScrub

end Sys2Proof.Machine
end

section
/-! PROOFS. The tally lanes of a pass, and the errors that have their vale fenced. -/

namespace Sys2Proof.Machine

variable {s : State}

/-! ## Tally lanes lock and unlock (R239) -/

/-- The lock of one direction leaves the lock of the other as it was. -/
theorem wr_tallyLock_other (v : Nat) (down : Bool) (n : Nat) :
    (s.wr (tallyLockFld v down) n).bit (tallyLockFld v (!down)) = s.bit (tallyLockFld v (!down)) := by
  cases down <;> simp [State.bit, tallyLockFld, rd_wr_ne]

/-- The lock of a tally lane shows in a bit of its own. -/
theorem wr_tallyLock_self (v : Nat) (down : Bool) (b : Bool) :
    (s.wr (tallyLockFld v down) (b2n b)).bit (tallyLockFld v down) = b := by
  cases down <;> cases b <;> simp [State.bit, tallyLockFld, b2n]

/-- Both lanes are locked where one is and the other is. -/
theorem both_tallyLocks (v : Nat) (down : Bool) :
    (s.bit (R.PASS_STAT_TDN_LOCK v) && s.bit (R.PASS_STAT_TUP_LOCK v)) =
      (s.bit (tallyLockFld v down) && s.bit (tallyLockFld v (!down))) := by
  cases down <;> simp [tallyLockFld, Bool.and_comm]

/-- A field other than the two locks reads as before a lock was shown. -/
theorem wr_tallyLock_rd_ne {v n : Nat} {down : Bool} {g : Fld} (hd : g.id ≠ (R.PASS_STAT_TDN_LOCK v).id)
    (hu : g.id ≠ (R.PASS_STAT_TUP_LOCK v).id) : (s.wr (tallyLockFld v down) n).rd g = s.rd g := by
  refine rd_wr_ne s _ g n fun e => absurd e ?_
  cases down
  · exact fun h => hu h.symm
  · exact fun h => hd h.symm

/-- A lock reads as before a field other than the two locks was written. -/
theorem wr_bit_tallyLock {v n : Nat} {down : Bool} {g : Fld} (hd : g.id ≠ (R.PASS_STAT_TDN_LOCK v).id)
    (hu : g.id ≠ (R.PASS_STAT_TUP_LOCK v).id) :
    (s.wr g n).bit (tallyLockFld v down) = s.bit (tallyLockFld v down) := by
  unfold State.bit
  rw [rd_wr_ne s g _ n fun e => absurd e ?_]
  cases down
  · exact hu
  · exact hd

/-- In a powered vale the lock shows, and FALLBACK ends where the other lane is locked too. -/
theorem exec_tallyLaneLock_powered {v : Fin 4} {down : Bool} (hp : (s.pas v).powered = true) :
    exec (.tallyLaneLock v down) s = done (if s.bit (tallyLockFld v (!down)) then
      (s.wr (tallyLockFld v down) 1).wr (R.PASS_STAT_FALLBACK v) 0 else s.wr (tallyLockFld v down) 1) := by
  have hl := wr_tallyLock_self (s := s) v down true
  have hb := both_tallyLocks (s := s.wr (tallyLockFld v down) 1) v down
  rw [wr_tallyLock_other, show (s.wr (tallyLockFld v down) 1).bit _ = true from hl, Bool.true_and] at hb
  show execTallyLaneLock v down s = _
  simp only [execTallyLaneLock, hp, hb, Bool.not_true, Bool.false_eq_true, if_false]

/-- A locked lane shows its loss, and with FALLBACK_EN the fallback begins. -/
theorem exec_tallyLaneUnlock_locked {v : Fin 4} {down : Bool} (hl : s.bit (tallyLockFld v down) = true) :
    exec (.tallyLaneUnlock v down) s = done (if s.bit (R.PASS_CTL_FALLBACK_EN v) then
      ((s.wr (tallyLockFld v down) 0).wr (R.PASS_STAT_FALLBACK v) 1).evt (R.PASS_EVT_FALLBACK v)
      else s.wr (tallyLockFld v down) 0) := by
  have hf : (s.wr (tallyLockFld v down) 0).bit (R.PASS_CTL_FALLBACK_EN v) = s.bit (R.PASS_CTL_FALLBACK_EN v) := by
    unfold State.bit
    rw [wr_tallyLock_rd_ne (by simp) (by simp)]
  show execTallyLaneUnlock v down s = _
  simp only [execTallyLaneUnlock, hl, hf, if_true]

/-- Calm rests on none of the fields that show the tally lanes. -/
theorem tallyLock_fields_not_calm (v : Nat) (down : Bool) :
    ∀ f ∈ [tallyLockFld v down, R.PASS_STAT_FALLBACK v, R.PASS_EVT_FALLBACK v], f.id ∉ calmRegs := by
  cases down <;> simp [tallyLockFld, calmRegs]

/-- TALLY_LANE_LOCK shows the lock, and ends the fallback exactly where the other lane is locked. -/
theorem tallyLaneLock_shows {v : Fin 4} {down : Bool} (hc : Calm s) (hp : (s.pas v).powered = true) :
    ∃ u, exec (.tallyLaneLock v down) s = .next u ∧ u.bit (tallyLockFld v down) = true ∧
      (s.bit (tallyLockFld v (!down)) = true → u.bit (R.PASS_STAT_FALLBACK v) = false) ∧
      (s.bit (tallyLockFld v (!down)) = false → u.rd (R.PASS_STAT_FALLBACK v) = s.rd (R.PASS_STAT_FALLBACK v)) ∧
      RegsOnly [tallyLockFld v down, R.PASS_STAT_FALLBACK v] s u := by
  have hx := exec_tallyLaneLock_powered (down := down) hp
  have hk : Kept [tallyLockFld v down, R.PASS_STAT_FALLBACK v] s (s.wr (tallyLockFld v down) 1) := Kept.refl.wr (by simp)
  have hn : ∀ f ∈ [tallyLockFld v down, R.PASS_STAT_FALLBACK v], f.id ∉ calmRegs := fun f hf =>
    tallyLock_fields_not_calm v down f (by simp at hf ⊢; tauto)
  have hs : (s.wr (tallyLockFld v down) 1).bit (tallyLockFld v down) = true := wr_tallyLock_self v down true
  cases ho : s.bit (tallyLockFld v (!down)) with
  | true =>
    rw [if_pos ho] at hx
    have hw : RegsOnly [tallyLockFld v down, R.PASS_STAT_FALLBACK v] s
        ((s.wr (tallyLockFld v down) 1).wr (R.PASS_STAT_FALLBACK v) 0) := ⟨hk.wr (by simp), rfl⟩
    refine ⟨_, only_next hc hx hw offCalm_rest hn, ?_, fun _ => ?_, nofun, hw.vectors vectors_rest⟩
    · rw [vectors_bit, wr_bit_tallyLock (by simp) (by simp), hs]
    · simp [State.bit]
  | false =>
    rw [if_neg (by simp [ho])] at hx
    have hw : RegsOnly [tallyLockFld v down, R.PASS_STAT_FALLBACK v] s (s.wr (tallyLockFld v down) 1) := ⟨hk, rfl⟩
    refine ⟨_, only_next hc hx hw offCalm_rest hn, ?_, nofun, fun _ => ?_, hw.vectors vectors_rest⟩
    · rw [vectors_bit, hs]
    · rw [vectors_rd, wr_tallyLock_rd_ne (by simp) (by simp)]

/-- TALLY_LANE_UNLOCK shows the loss of the lock, and with FALLBACK_EN the fallback and its event. -/
theorem tallyLaneUnlock_shows {v : Fin 4} {down : Bool} (hc : Calm s) (hl : s.bit (tallyLockFld v down) = true) :
    ∃ u, exec (.tallyLaneUnlock v down) s = .next u ∧ u.bit (tallyLockFld v down) = false ∧
      (s.bit (R.PASS_CTL_FALLBACK_EN v) = true →
        u.bit (R.PASS_STAT_FALLBACK v) = true ∧ u.bit (R.PASS_EVT_FALLBACK v) = true) ∧
      RegsOnly [tallyLockFld v down, R.PASS_STAT_FALLBACK v, R.PASS_EVT_FALLBACK v] s u := by
  have hx := exec_tallyLaneUnlock_locked hl
  have hk : Kept [tallyLockFld v down, R.PASS_STAT_FALLBACK v, R.PASS_EVT_FALLBACK v] s (s.wr (tallyLockFld v down) 0) :=
    Kept.refl.wr (by simp)
  have hn := tallyLock_fields_not_calm v down
  have hs : (s.wr (tallyLockFld v down) 0).bit (tallyLockFld v down) = false := wr_tallyLock_self v down false
  cases he : s.bit (R.PASS_CTL_FALLBACK_EN v) with
  | true =>
    rw [if_pos he] at hx
    have hw : RegsOnly [tallyLockFld v down, R.PASS_STAT_FALLBACK v, R.PASS_EVT_FALLBACK v] s
        (((s.wr (tallyLockFld v down) 0).wr (R.PASS_STAT_FALLBACK v) 1).evt (R.PASS_EVT_FALLBACK v)) :=
      ⟨(hk.wr (by simp)).wr (by simp), rfl⟩
    refine ⟨_, only_next hc hx hw offCalm_rest hn, ?_, fun _ => ?_, hw.vectors vectors_rest⟩
    · rw [vectors_bit, State.evt, wr_bit_tallyLock (by simp) (by simp), wr_bit_tallyLock (by simp) (by simp), hs]
    · simp [State.bit, State.evt, rd_wr_ne]
  | false =>
    rw [if_neg (by simp [he])] at hx
    have hw : RegsOnly [tallyLockFld v down, R.PASS_STAT_FALLBACK v, R.PASS_EVT_FALLBACK v] s
        (s.wr (tallyLockFld v down) 0) := ⟨hk, rfl⟩
    refine ⟨_, only_next hc hx hw offCalm_rest hn, ?_, nofun, hw.vectors vectors_rest⟩
    rw [vectors_bit, hs]

/-! ## The errors that fence a vale (R240, R245) -/

/-- In a powered vale with a tally lane unlocked, TALLY_LANE_LOST only records its error. -/
theorem exec_tallyLaneLost_unlocked {v : Fin 4} {down : Bool} (hp : (s.pas v).powered = true)
    (hl : s.bit (tallyLockFld v down) = false) : exec (.tallyLaneLost v) s = done (s.recordFree (32 + v) 2 0x35 (some 3)) := by
  have hb := both_tallyLocks (s := s) v down
  rw [hl, Bool.false_and] at hb
  refine congrArg done (if_pos ?_)
  rw [hp, Bool.true_and, Bool.or_assoc, ← Bool.not_and, hb, Bool.not_false, Bool.or_true]

theorem exec_valePowerFault_powered {v : Fin 4} (hp : (s.pas v).powered = true) :
    exec (.valePowerFault v) s = done (valePowerOff v (s.recordFree (32 + v) 2 0x36 (some 3))) := congrArg done (if_pos hp)

/-- A vale whose supply is removed is without power. -/
theorem valePowerOff_powered (v : Nat) : ((valePowerOff v s).pas v).powered = false := by
  simp [valePowerOff]

theorem valePowerOff_todo (v : Nat) : (valePowerOff v s).todo = s.todo := rfl

/-- Settles O34: the two lock commands by their frames, the two errors by what an error with the fixed reaction FENCE
leaves (`recordFree_fence`). -/
theorem tallyLanes : Obligations.TallyLanes := by
  intro v down s hc hp
  refine ⟨tallyLaneLock_shows hc hp, tallyLaneUnlock_shows hc, fun hl hg => ?lost, fun hg => ?fault⟩
  case lost => exact ⟨exec_tallyLaneLost_unlocked hp hl, recordFree_fence v hc hg (by decide)⟩
  case fault =>
    obtain ⟨hfence, hlog, honly⟩ := recordFree_fence v hc hg (kind := 0x36) (by decide)
    exact ⟨exec_valePowerFault_powered hp, valePowerOff_powered v, (valePowerOff_todo v).trans hfence, hlog, honly⟩

end Sys2Proof.Machine
end

section
/-! PROOFS. A frame that fits enters its queue: what ENQUEUE takes, shows and leaves alone (R272, R273). -/

namespace Sys2Proof.Machine

variable {s : State}

@[simp] theorem qShow_que (q k : Nat) (s : State) : (qShow q s).que k = s.que k := rfl

/-- Showing a queue writes only the fields that show it. -/
theorem kept_qShow (q : Nat) (s : State) : Kept (queueFields q) s (qShow q s) := by
  simp [qShow, State.wrb, kept_wr, queueFields, Kept.refl]

/-- Within the reserve of their range, cells are taken from it alone. -/
theorem takeCells_reserve {r n : Nat} (h : s.rd (R.MILL_PART_USED_USED r) + n ≤ s.rd (R.MILL_PART_RES_RESERVE r)) :
    takeCells r n s = some (s.wr (R.MILL_PART_USED_USED r) (s.rd (R.MILL_PART_USED_USED r) + n)) := if_pos h

/-- A frame enters queue `q` within the reserve of the queue's range. -/
def queued (q : Nat) (f : MFrame) (s : State) : State :=
  let r := queueRange q
  qShow q (((s.wr (R.MILL_PART_USED_USED r) (s.rd (R.MILL_PART_USED_USED r) + f.cells)).modQue q
    fun x => { x with frames := x.frames ++ [f] }).add (R.MILLQ_ENQ_FRAMES_COUNT q) 1)

/-- A frame enters within LIMIT and the reserve. -/
theorem enqueue_fits {q : Nat} {f : MFrame} (hl : (s.que q).total + f.cells ≤ s.rd (R.MILLQ_LIMIT_LIMIT q))
    (hr : s.rd (R.MILL_PART_USED_USED (queueRange q)) + f.cells ≤ s.rd (R.MILL_PART_RES_RESERVE (queueRange q))) :
    enqueue q f s = (true, queued q f s) := by
  simp only [enqueue, takeCells_reserve hr, if_neg (Nat.not_lt.2 hl), queued]

section
variable (q : Nat) (f : MFrame)

@[simp] theorem queued_rxBank : (queued q f s).rxBank = s.rxBank := rfl

theorem queued_que : (queued q f s).que q = { s.que q with frames := (s.que q).frames ++ [f] } := by
  simp [queued]

theorem queued_enqFrames : Wrapped (R.MILLQ_ENQ_FRAMES_COUNT q) 1 s (queued q f s) := by
  unfold Wrapped queued
  rw [kept_qShow q _ _ (by simp [queueFields, Fld.same]), add_rd, modQue_rd, rd_wr_ne _ _ _ _ (by simp)]

/-- The cells of the range in use count up by the frame's, which the reserve bounds. -/
theorem queued_used
    (hr : s.rd (R.MILL_PART_USED_USED (queueRange q)) + f.cells ≤ s.rd (R.MILL_PART_RES_RESERVE (queueRange q))) :
    (queued q f s).rd (R.MILL_PART_USED_USED (queueRange q)) = s.rd (R.MILL_PART_USED_USED (queueRange q)) + f.cells := by
  have hb : s.rd (R.MILL_PART_RES_RESERVE (queueRange q)) < 2 ^ 17 := rd_lt s _
  unfold queued
  rw [kept_qShow q _ _ (by simp [queueFields, Fld.same]), add_rd_ne _ _ _ _ (by simp), modQue_rd, rd_wr_self]
  exact Nat.mod_eq_of_lt (by show _ < 2 ^ 18; omega)

theorem queued_kept :
    Kept (R.MILLQ_ENQ_FRAMES_COUNT q :: R.MILL_PART_USED_USED (queueRange q) :: queueFields q) s (queued q f s) := by
  refine Kept.trans ?_ ((kept_qShow q _).mono fun g hg => .tail _ (.tail _ hg))
  exact ((kept_modQue q _).2 (Kept.refl.wr (by simp))).wr (by simp)

end

@[simp] theorem offQue_wr (q : Nat) (f : Fld) (n : Nat) : (s.wr f n).offQue q = s.offQue q := rfl
@[simp] theorem offQue_qShow (q k : Nat) : (qShow k s).offQue q = s.offQue q := rfl
@[simp] theorem offQue_modQue (q : Nat) (g : MQueue → MQueue) : (s.modQue q g).offQue q = s.offQue q := by
  simp [State.offQue, State.modQue, State.rest]
theorem offQue_queued (q : Nat) (f : MFrame) : (queued q f s).offQue q = s.offQue q := by
  simp [queued, State.add]

/-- An entry stays within its queue and the fields of its count, its range and its show. -/
theorem queued_only (q : Nat) (f : MFrame) :
    Only (R.MILLQ_ENQ_FRAMES_COUNT q :: R.MILL_PART_USED_USED (queueRange q) :: queueFields q) (State.offQue q) s (queued q f s) :=
  ⟨queued_kept q f, offQue_queued q f⟩

theorem wrapped_congr {f : Fld} {n : Nat} {t u : State} (h : t.rd f = s.rd f) : Wrapped f n t u ↔ Wrapped f n s u := by
  simp [Wrapped, h]

end Sys2Proof.Machine
end

section
/-! PROOFS. Frames, credit and beacons cross the pass. -/

namespace Sys2Proof.Machine

variable {s : State}

/-! ## Frames (R20, R270) -/

/-- The internal queues share one range. -/
theorem queueRange_internal (n : Nat) : queueRange (4544 + n) = 4 := by
  unfold queueRange
  rw [if_neg (by omega), if_neg (by omega), if_neg (by omega), if_neg (by omega)]

/-- A sound key-agreement frame goes to its port's internal queue as it is. -/
theorem ingressFrame_keyAgreement {f : RxFrame} {clear : Option (List Byte)} (hb : f.bad = false)
    (ht : frameType f.octets = 0x888E) :
    ingressFrame f clear s = (enqueue (4544 + f.port % 32) (queuedRx (4544 + f.port % 32) f) s).2 := by
  simp only [ingressFrame, hb, ht, Bool.false_eq_true, if_false, if_true, queuedRx]

/-- The frames of a receive bank that stay. -/
def State.bankLeft (s : State) (i : Nat) (l : List RxFrame) : State := { s with rxBank := tset [] s.rxBank i l }

@[simp] theorem bankLeft_rd (i : Nat) (l : List RxFrame) (f : Fld) : (s.bankLeft i l).rd f = s.rd f := rfl
@[simp] theorem bankLeft_que (i : Nat) (l : List RxFrame) (q : Nat) : (s.bankLeft i l).que q = s.que q := rfl
theorem offBank_bankLeft (i : Nat) (l : List RxFrame) : (s.bankLeft i l).offBank i = s.offBank i := by
  simp [State.bankLeft, State.offBank, State.rest]
theorem bankLeft_only (i : Nat) (l : List RxFrame) : Only [] (State.offBank i) s (s.bankLeft i l) :=
  ⟨.refl, offBank_bankLeft i l⟩

/-- With three lanes in use the oldest frame of a bank leaves it for the host die. -/
theorem exec_passIngressFrame_cons {v : Fin 4} {bank : Fin 8} {f : RxFrame} {l : List RxFrame} {clear : Option (List Byte)}
    (hu : laneCount (s.pas v).upUse = 3) (hb : tget [] s.rxBank (8 * v.val + bank) = f :: l) :
    exec (.passIngressFrame v bank clear) s = done (ingressFrame f clear (s.bankLeft (8 * v.val + bank) l)) := by
  show execPassIngressFrame v bank clear s = _
  simp [execPassIngressFrame, hu, hb, State.bankLeft]

theorem offCalm_offBank_offQue (i q : Nat) : OffCalm fun x => (x.offBank i).offQue q :=
  ⟨fun _ => rfl, fun _ _ _ => rfl, fun _ => rfl, fun _ => rfl⟩

/-- PASS_INGRESS_FRAME brings the head of a bank, a key-agreement frame that fits, to its internal queue. -/
theorem passIngressFrame_keyAgreement {v : Fin 4} {bank : Fin 8} {f : RxFrame} {l : List RxFrame} {clear : Option (List Byte)}
    {q : Nat} (hc : Calm s) (hu : laneCount (s.pas v).upUse = 3) (hb : tget [] s.rxBank (8 * v.val + bank) = f :: l)
    (hbad : f.bad = false) (ht : frameType f.octets = 0x888E) (hq : q = 4544 + f.port % 32)
    (hlim : (s.que q).total + (queuedRx q f).cells ≤ s.rd (R.MILLQ_LIMIT_LIMIT q))
    (hres : s.rd (R.MILL_PART_USED_USED 4) + (queuedRx q f).cells ≤ s.rd (R.MILL_PART_RES_RESERVE 4)) :
    ∃ u, exec (.passIngressFrame v bank clear) s = .next u ∧ tget [] u.rxBank (8 * v.val + bank) = l ∧
      u.que q = { s.que q with frames := (s.que q).frames ++ [queuedRx q f] } ∧
      Wrapped (R.MILLQ_ENQ_FRAMES_COUNT q) 1 s u ∧
      u.rd (R.MILL_PART_USED_USED 4) = s.rd (R.MILL_PART_USED_USED 4) + (queuedRx q f).cells ∧
      Only (R.MILLQ_ENQ_FRAMES_COUNT q :: R.MILL_PART_USED_USED 4 :: queueFields q)
        (fun x => (x.offBank (8 * v.val + bank)).offQue q) s u := by
  have hr : queueRange q = 4 := hq ▸ queueRange_internal _
  have hx : exec (.passIngressFrame v bank clear) s =
      done (queued q (queuedRx q f) (s.bankLeft (8 * v.val + bank) l)) := by
    rw [exec_passIngressFrame_cons hu hb, ingressFrame_keyAgreement hbad ht, ← hq, enqueue_fits (by simpa using hlim)
      (by simpa [hr] using hres)]
  have ho := (bankLeft_only (s := s) (8 * v.val + bank) l).then (queued_only q (queuedRx q f)) fun _ => rfl
  have hn := queued_used (s := s.bankLeft (8 * v.val + bank) l) q (queuedRx q f) (by simpa [hr] using hres)
  rw [hr] at ho hn
  refine ⟨_, only_next hc hx ho (offCalm_offBank_offQue _ _) (by simp [queueFields, calmRegs]), ?_, ?_, ?_, ?_,
    ho.vectors fun x => by rw [offBank_vectors]⟩
  · rw [vectors_rxBank, queued_rxBank, State.bankLeft, tget_tset_self]
  · rw [vectors_que, queued_que, bankLeft_que]
  · rw [wrapped_vectors, ← wrapped_congr (bankLeft_rd _ l _)]; exact queued_enqFrames q _
  · rw [vectors_rd, hn, bankLeft_rd]

/-- A frame crossing to the vale arrives in its port's share. -/
theorem exec_passEgressFrame_cons {v : Fin 4} {f : TxFrame} {l : List TxFrame} (hd : (s.pas v).down = f :: l) :
    exec (.passEgressFrame v) s = done (if queuePort f.queue < 8 then
      (s.modPass v fun x => { x with down := l }).modTrk (queuePort f.queue) fun x => { x with bank4 := x.bank4 ++ [f] }
      else (s.modPass v fun x => { x with down := l }).modDrp (queuePort f.queue - 8)
        fun x => { x with lists := x.lists ++ [f] }) := by
  show execPassEgressFrame v s = _
  simp only [execPassEgressFrame, hd]

theorem offElse_id : OffElse fun x => x := ⟨fun _ => rfl, fun _ => rfl, fun _ => rfl, fun _ => rfl⟩
theorem offElse_offTrk (p : Nat) : OffElse (State.offTrk p) := ⟨fun _ => rfl, fun _ => rfl, fun _ => rfl, fun _ => rfl⟩
theorem offElse_offDrp (d : Nat) : OffElse (State.offDrp d) := ⟨fun _ => rfl, fun _ => rfl, fun _ => rfl, fun _ => rfl⟩

theorem modPass_only (v : Nat) (g : Pass → Pass) : Only [] (State.offPas v) s (s.modPass v g) :=
  ⟨.refl, offPas_modPass s v g⟩
theorem modTrk_only (t : Nat) (g : Trunk → Trunk) : Only [] (State.offTrk t) s (s.modTrk t g) :=
  ⟨.refl, offTrk_modTrk s t g⟩
theorem modDrp_only (d : Nat) (g : Drop → Drop) : Only [] (State.offDrp d) s (s.modDrp d g) :=
  ⟨.refl, offDrp_modDrp s d g⟩

/-- A frame for a trunk joins bank 4. -/
theorem passEgressFrame_trunk {v : Fin 4} {f : TxFrame} {l : List TxFrame} (hc : Calm s) (hd : (s.pas v).down = f :: l)
    (hp : queuePort f.queue < 8) : ∃ u, exec (.passEgressFrame v) s = .next u ∧ u.pas v = { s.pas v with down := l } ∧
      u.trk (queuePort f.queue) = { s.trk (queuePort f.queue) with bank4 := (s.trk (queuePort f.queue)).bank4 ++ [f] } ∧
      Only [] (fun x => (x.offPas v).offTrk (queuePort f.queue)) s u := by
  have hx := exec_passEgressFrame_cons hd
  rw [if_pos hp] at hx
  have ho := (modPass_only (s := s) v fun x => { x with down := l }).then
    (modTrk_only (queuePort f.queue) fun x => { x with bank4 := x.bank4 ++ [f] }) fun _ => rfl
  exact ⟨_, pas_next (offElse_offTrk _) hc hx ho (by simp) (by simp), by simp, by simp,
    ho.vectors fun x => by rw [offPas_vectors]⟩

/-- A frame for a drop joins the drop's lists. -/
theorem passEgressFrame_drop {v : Fin 4} {f : TxFrame} {l : List TxFrame} (hc : Calm s) (hd : (s.pas v).down = f :: l)
    (hp : 8 ≤ queuePort f.queue) : ∃ u, exec (.passEgressFrame v) s = .next u ∧ u.pas v = { s.pas v with down := l } ∧
      u.drp (queuePort f.queue - 8) =
        { s.drp (queuePort f.queue - 8) with lists := (s.drp (queuePort f.queue - 8)).lists ++ [f] } ∧
      Only [] (fun x => (x.offPas v).offDrp (queuePort f.queue - 8)) s u := by
  have hx := exec_passEgressFrame_cons hd
  rw [if_neg (Nat.not_lt.2 hp)] at hx
  have ho := (modPass_only (s := s) v fun x => { x with down := l }).then
    (modDrp_only (queuePort f.queue - 8) fun x => { x with lists := x.lists ++ [f] }) fun _ => rfl
  exact ⟨_, pas_next (offElse_offDrp _) hc hx ho (by simp) (by simp), by simp, by simp,
    ho.vectors fun x => by rw [offPas_vectors]⟩

/-! ## Credit (R21, R238) -/

@[simp] theorem offCred_vectors : (vectors s).offCred = s.offCred := by
  unfold State.offCred
  simp
theorem offCalm_offCred : OffCalm State.offCred := ⟨fun _ => rfl, fun _ _ _ => rfl, fun _ => rfl, fun _ => rfl⟩

/-- A tally that the host die receives is counted, and nothing else. -/
theorem kept_hostGot (v : Nat) : Kept [R.PASS_TALLY_CNT_COUNT v 1] s (hostGot v s) := Kept.refl.wr (by simp)
theorem counted_hostGot (v : Nat) : Counted (R.PASS_TALLY_CNT_COUNT v 1) 1 s (hostGot v s) := sat_rd s _ 1

/-- A tally that the host die sends is counted, and nothing else. -/
theorem kept_hostSend (v ty seq : Nat) : Kept [R.PASS_TALLY_CNT_COUNT v 0] s (hostSend v ty seq s) := Kept.refl.wr (by simp)
theorem counted_hostSend (v ty seq : Nat) : Counted (R.PASS_TALLY_CNT_COUNT v 0) 1 s (hostSend v ty seq s) := sat_rd s _ 1

/-- CREDIT for one port reports what its vale has returned. -/
theorem credit_reports (v : Fin 4) (l : Fin 18) (hc : Calm s) : ∃ u, exec (.credit v [l]) s = .next u ∧
    u.cred (portOf v l) = { s.cred (portOf v l) with reported := (s.cred (portOf v l)).returned } ∧
    (∀ p, p ≠ portOf v l → u.cred p = s.cred p) ∧
    Counted (R.PASS_TALLY_CNT_COUNT v 1) 1 s u ∧ Only [R.PASS_TALLY_CNT_COUNT v 1] State.offCred s u := by
  have hx : exec (.credit v [l]) s =
      done ((hostGot v s).modCred (portOf v l) fun c => { c with reported := c.returned }) := rfl
  have ho : Only [R.PASS_TALLY_CNT_COUNT v 1] State.offCred s
      ((hostGot v s).modCred (portOf v l) fun c => { c with reported := c.returned }) := ⟨kept_hostGot v, rfl⟩
  refine ⟨_, only_next hc hx ho offCalm_offCred (by simp [calmRegs]), ?_, fun p hp => ?_,
    counted_vectors.2 (counted_hostGot v), ho.vectors fun _ => offCred_vectors⟩
  · rw [vectors_cred, modCred_cred_self]; rfl
  · rw [vectors_cred, modCred_cred_ne _ _ (Ne.symm hp)]; rfl

/-- CREDIT_REPORT sends CREDIT where a port named has credit that it has not reported. -/
theorem creditReport_sends {v : Fin 4} {ls : List (Fin 18)} (hc : Calm s)
    (hl : ∃ l ∈ ls.take 4, (s.cred (portOf v l)).returned ≠ (s.cred (portOf v l)).reported) :
    ∃ u, exec (.creditReport v ls) s = .next u ∧ .tally v 0x20 0 ∈ u.out ∧ RegsOnly [] s u := by
  have hx : exec (.creditReport v ls) s = done (s.send (.tally v 0x20 0)) :=
    congrArg done (if_pos (by simpa only [List.any_eq_true, decide_eq_true_eq] using hl))
  have ho : RegsOnly [] s (s.send (.tally v 0x20 0)) := ⟨.refl, rfl⟩
  exact ⟨_, only_next hc hx ho offCalm_rest (by simp), mem_vectors_out (.head _), ho.vectors vectors_rest⟩

/-! ## Beacon mode (R241) -/

/-- The vale sees the rung of the host die. -/
theorem beacon_shows_hostRung {v : Fin 4} (hc : Calm s) (hb : s.bit (R.PASS_STAT_BEACON v) = true) :
    ∃ u, exec (.beacon v true) s = .next u ∧ u.pas v = { s.pas v with rungDn := s.rd R.PWR_STAT_HOST_RUNG } ∧
      Only [] (State.offPas v) s u := by
  have hx : exec (.beacon v true) s = done (s.modPass v fun x => { x with rungDn := s.rd R.PWR_STAT_HOST_RUNG }) :=
    congrArg done (if_neg (by simp [hb]))
  have ho := modPass_only (s := s) v fun x => { x with rungDn := s.rd R.PWR_STAT_HOST_RUNG }
  exact ⟨_, pas_next offElse_id hc hx ho (by simp) (by simp), by simp, ho.vectors fun _ => offPas_vectors _ _⟩

/-- The host die sees the rung of the vale, and counts the tally. -/
theorem beacon_shows_valeRung {v : Fin 4} (hc : Calm s) (hb : s.bit (R.PASS_STAT_BEACON v) = true) :
    ∃ u, exec (.beacon v false) s = .next u ∧ u.pas v = { s.pas v with rungUp := s.valeRung v } ∧
      Counted (R.PASS_TALLY_CNT_COUNT v 1) 1 s u ∧ Only [R.PASS_TALLY_CNT_COUNT v 1] (State.offPas v) s u := by
  have hx : exec (.beacon v false) s = done ((hostGot v s).modPass v fun x => { x with rungUp := s.valeRung v }) :=
    congrArg done (if_neg (by simp [hb]))
  have ho : Only [R.PASS_TALLY_CNT_COUNT v 1] (State.offPas v) s
      ((hostGot v s).modPass v fun x => { x with rungUp := s.valeRung v }) :=
    ⟨kept_hostGot v, (modPass_only v _).rest⟩
  refine ⟨_, pas_next offElse_id hc hx ho ?_ (by simp [calmRegs]), ?_, counted_vectors.2 (counted_hostGot v),
    ho.vectors fun _ => offPas_vectors _ _⟩
  · rw [modPass_pas_self]; rfl
  · rw [vectors_pas, modPass_pas_self]; rfl

/-- Each end sends a BEACON; the host die counts its own. -/
theorem beaconSend_sends {v : Fin 4} (down : Bool) (hc : Calm s) (hb : s.bit (R.PASS_STAT_BEACON v) = true) :
    ∃ u, exec (.beaconSend v down) s = .next u ∧ .tally v 0x01 0 ∈ u.out ∧
      (down = true → Counted (R.PASS_TALLY_CNT_COUNT v 0) 1 s u) ∧ RegsOnly [R.PASS_TALLY_CNT_COUNT v 0] s u := by
  have hx : exec (.beaconSend v down) s = done (if down then hostSend v 0x01 0 s else s.send (.tally v 0x01 0)) :=
    congrArg done (if_neg (by simp [hb]))
  cases down with
  | true =>
    have ho : RegsOnly [R.PASS_TALLY_CNT_COUNT v 0] s (hostSend v 0x01 0 s) := ⟨kept_hostSend v 1 0, rfl⟩
    exact ⟨_, only_next hc hx ho offCalm_rest (by simp [calmRegs]), mem_vectors_out (.head _),
      fun _ => counted_vectors.2 (counted_hostSend v 1 0), ho.vectors vectors_rest⟩
  | false =>
    have ho : RegsOnly [R.PASS_TALLY_CNT_COUNT v 0] s (s.send (.tally v 0x01 0)) := ⟨.refl, rfl⟩
    exact ⟨_, only_next hc hx ho offCalm_rest (by simp [calmRegs]), mem_vectors_out (.head _), nofun,
      ho.vectors vectors_rest⟩

/-- Settles O29: one lemma for each tally and each direction of the frames. -/
theorem passTraffic : Obligations.PassTraffic := by
  intro v s hc
  exact ⟨fun bank f l clear q hu hb hbad ht hq hlim hres => passIngressFrame_keyAgreement hc hu hb hbad ht hq hlim hres,
    fun f l hd => ⟨passEgressFrame_trunk hc hd, passEgressFrame_drop hc hd⟩, fun l => credit_reports v l hc,
    fun ls hl => creditReport_sends hc hl,
    fun hb => ⟨beacon_shows_hostRung hc hb, beacon_shows_valeRung hc hb, fun down => beaconSend_sends down hc hb⟩⟩

end Sys2Proof.Machine
end

section
/-! PROOFS. The state after a reset, cold and warm (R33 to R35). -/

namespace Sys2Proof.Machine

variable {s : State}

/-! ## Right after power-up (R33) -/

/-- No register has been written, so every field holds its reset value. -/
theorem reset_rd (f : Fld) : State.reset.rd f = f.rst % 2 ^ f.width := rfl

/-- Each vale stands in Run: PWR_STAT is 0, and so is every part of it. -/
theorem reset_valeRung (v : Nat) : State.reset.valeRung v = 0 := by
  show 0 / 2 ^ (3 * v) % 2 ^ (3 * v + 2 + 1 - 3 * v) = 0
  rw [Nat.zero_div, Nat.zero_mod]

/-- The host die and the vales stand in Run. -/
theorem reset_domRung (k : Nat) : domRung k State.reset = 0 := by
  unfold domRung
  split
  · rfl
  · exact reset_valeRung _

/-- A device in Run has no deeper rung to leave, and power-up leaves nothing else under way. -/
theorem reset_calm : Calm State.reset where
  owed := rfl
  answers _ _ := rfl
  ladder k _ _ := (reset_domRung k).trans_le (Nat.zero_le _)
  live := rfl
  boot := by decide

/-- Event bits whose reset values are 0 read 0. -/
theorem reset_evtBits {l : List Fld} (h : ∀ f ∈ l, f.rst = 0) : evtBits l State.reset = 0 := by
  induction l with
  | nil => rfl
  | cons f l ih =>
    obtain ⟨hf, hl⟩ := List.forall_mem_cons.1 h
    show 2 * evtBits l State.reset + State.reset.rd f = 0
    rw [ih hl, reset_rd, hf, Nat.zero_mod]

/-- Every event bit that a vector serves has the reset value 0. -/
theorem vectorEvts_rst : ∀ n < 16, ∀ e ∈ vectorEvts n, ∀ f ∈ e.1, f.rst = 0 := by decide

/-- No event bit is set and no vale has reported one, so no vector has a cause. -/
theorem reset_vectorOn {n : Nat} (hn : n < 16) : vectorOn n State.reset = false := by
  unfold vectorOn
  rw [List.any_eq_false.2 fun e he => by rw [reset_evtBits (vectorEvts_rst n hn e he)]; simp]
  rfl

theorem reset_irqTrue : IrqTrue State.reset := fun n hn => by
  have hi : tbit 0 n = false := by simp [tbit]
  rw [reset_vectorOn hn, Bool.and_false]
  exact hi

/-- Settles O2: every part of the reset state holds its initial value. -/
theorem resetStands : Obligations.ResetStands :=
  ⟨reset_rd, rfl, rfl, rfl, rfl, rfl, fun _ _ => rfl, fun _ _ => rfl, fun k _ => reset_domRung k, reset_irqTrue, reset_calm⟩

/-! ## What a reset keeps of the registers -/

/-- A table cut down to the keys that `p` lets through. -/
theorem tget_filter_key {α : Type} (d : α) (l : Tbl α) (p : Nat → Bool) (k : Nat) :
    tget d (l.filter fun e => p e.1) k = if p k then tget d l k else d := by
  induction l with
  | nil => simp [tget]
  | cons e l ih =>
    by_cases hk : e.1 = k
    · subst hk
      cases hp : p e.1 <;> simp_all [tget]
    · cases hp : p e.1 <;> simp_all [tget]

/-- The registers in which a reset shows what flash holds: the default SCI, and the calibrations in force (R352). -/
def flashShown : List Nat :=
  [(R.SEC_SCI_MAC 0).id, (R.TIME_PORT_DLY_TX_10PS 0).id, (R.TIME_PORT_DLY_RX_10PS 0).id, (R.PASS_ASYM_ASYM_PS 0).id]

theorem rd_wr_shown {f g : Fld} {n : Nat} (hg : g.id ∈ flashShown) (hf : f.id ∉ flashShown) : (s.wr g n).rd f = s.rd f :=
  rd_wr_ne s g f n fun e => absurd (e ▸ hg) hf

theorem RegsOnly.wr {l : List Fld} {t : State} {f : Fld} {n : Nat} (h : RegsOnly l s t) (m : f ∈ l) : RegsOnly l s (t.wr f n) :=
  ⟨h.regs.wr m, h.rest⟩

/-- The registers that show the values in force of item `i`. -/
def corrFields (i : Nat) : List Fld :=
  [R.TIME_PORT_DLY_TX_10PS i, R.TIME_PORT_DLY_RX_10PS i, R.PASS_ASYM_ASYM_PS (itemLane i).1]

theorem corrShow_only (i : Nat) : RegsOnly (corrFields i) s (corrShow i s) := by
  unfold corrShow
  extract_lets l d t
  clear_value d
  have ht : RegsOnly (corrFields i) s t := by
    unfold t
    split
    · split
      · exact RegsOnly.wr (RegsOnly.wr .refl (by simp [corrFields])) (by simp [corrFields])
      · exact .refl
    · exact .refl
  split
  · split
    · exact RegsOnly.wr ht (by simp [corrFields])
    · exact ht
  · exact ht

theorem corrShow_rd (i : Nat) {f : Fld} (hf : f.id ∉ flashShown) : (corrShow i s).rd f = s.rd f := by
  have hi : ∀ g ∈ corrFields i, g.id ∈ flashShown := by simp [corrFields, flashShown]
  exact (corrShow_only i).regs f fun g hg e => hf (e.1 ▸ hi g hg)

theorem foldl_corrShow_rd (l : Tbl Item) {f : Fld} (hf : f.id ∉ flashShown) :
    (l.foldl (fun a e => corrShow e.1 a) s).rd f = s.rd f := by
  induction l generalizing s with
  | nil => rfl
  | cons e l ih => rw [List.foldl_cons, ih, corrShow_rd _ hf]

theorem foldl_corrShow_rest (l : Tbl Item) : (l.foldl (fun a e => corrShow e.1 a) s).rest = s.rest := by
  induction l generalizing s with
  | nil => rfl
  | cons e l ih => rw [List.foldl_cons, ih, (corrShow_only e.1).rest]

theorem foldl_corrShow_archive (l : Tbl Item) : (l.foldl (fun a e => corrShow e.1 a) s).archive = s.archive := by
  have h := congrArg State.archive (foldl_corrShow_rest (s := s) l)
  exact h

/-- A field keeps its value where the reset keeps its register, and holds its reset value where not. -/
theorem resetKeeping_rd (ids : List Nat) (s : State) {f : Fld} (hf : f.id ∉ flashShown) :
    (resetKeeping ids s).rd f = if ids.contains f.id then s.rd f else State.reset.rd f := by
  unfold resetKeeping sciReset
  rw [foldl_corrShow_rd _ hf, rd_wr_shown (by simp [flashShown]) hf, rd_wr_shown (by simp [flashShown]) hf]
  show getFld (s.regs.filter fun e => ids.contains e.1) f = _
  unfold getFld
  rw [tget_filter_key]
  split
  · rfl
  · rfl

section
variable (ids : List Nat) (s : State)
@[simp] theorem resetKeeping_trunks : (resetKeeping ids s).trunks = [] := congrArg State.trunks (foldl_corrShow_rest _)
@[simp] theorem resetKeeping_drops : (resetKeeping ids s).drops = [] := congrArg State.drops (foldl_corrShow_rest _)
@[simp] theorem resetKeeping_passes : (resetKeeping ids s).passes = [] := congrArg State.passes (foldl_corrShow_rest _)
@[simp] theorem resetKeeping_mill : (resetKeeping ids s).mill = {} := congrArg State.mill (foldl_corrShow_rest _)
@[simp] theorem resetKeeping_power : (resetKeeping ids s).power = {} := congrArg State.power (foldl_corrShow_rest _)
@[simp] theorem resetKeeping_todo : (resetKeeping ids s).todo = [] := congrArg State.todo (foldl_corrShow_rest _)
@[simp] theorem resetKeeping_archive : (resetKeeping ids s).archive = s.archive := by
  unfold resetKeeping sciReset
  rw [foldl_corrShow_archive, wr_archive, wr_archive]
@[simp] theorem resetKeeping_boot : (resetKeeping ids s).boot =
    { step := 1, startAt := s.age, repairs := s.boot.repairs, unusable := s.boot.unusable } :=
  congrArg State.boot (foldl_corrShow_rest _)
@[simp] theorem resetKeeping_warp : (resetKeeping ids s).warp = { slots := s.warp.slots, floor := s.warp.floor } :=
  congrArg State.warp (foldl_corrShow_rest _)
@[simp] theorem resetKeeping_sec : (resetKeeping ids s).sec =
    { devTag := s.sec.devTag, storageKey := s.sec.storageKey, storageDead := s.sec.storageDead, store := s.sec.store,
      floor := s.sec.floor, fw := s.sec.fw } :=
  congrArg State.sec (foldl_corrShow_rest _)
end

/-- Neither reset keeps a register that calm rests on, nor does one show flash. -/
theorem calmRegs_not_kept : ∀ n ∈ calmRegs, n ∉ warmIds ∧ n ∉ tamperIds ++ flashIds ∧ n ∉ flashShown := by decide

/-- A state is as calm as the reset state where it agrees with it on all that calm rests on. -/
theorem calm_afterReset {t : State} (ht : t.todo = []) (hp : t.passes = []) (hd : t.power.dom = [])
    (hf : t.boot.fences = []) (hs : t.boot.selfTest = none) (hb : t.boot.step ≠ 9)
    (hr : ∀ g : Fld, g.id ∈ calmRegs → t.rd g = State.reset.rd g) : Calm t :=
  reset_calm.congr ht (fun v _ => by rw [State.pas, hp]; rfl) hd hf hs (fun h => hb h.2) hr

/-! ## The cold reset (R33, R35) -/

/-- The pin and the supply differ in the registers alone. -/
theorem coldReset_eq (pin : Bool) (s : State) : ∃ ids r, coldReset pin s = { resetKeeping ids s with regs := r } := by
  cases pin with
  | false => exact ⟨flashIds, _, rfl⟩
  | true => exact ⟨tamperIds ++ flashIds, _, rfl⟩

/-- The registers that calm rests on hold their reset values. -/
theorem coldReset_rd_calm (pin : Bool) (s : State) {g : Fld} (hg : g.id ∈ calmRegs) :
    (coldReset pin s).rd g = State.reset.rd g := by
  obtain ⟨-, hcold, hshown⟩ := calmRegs_not_kept g.id hg
  cases pin with
  | false =>
    have hflash : g.id ∉ flashIds := fun h => hcold (List.mem_append_right _ h)
    exact (resetKeeping_rd flashIds s hshown).trans (if_neg (by simpa using hflash))
  | true =>
    have hcause : ∀ f ∈ [R.STW_RESET_CAUSE_PIN, R.STW_RESET_CAUSE_POWER], f.id ∉ calmRegs := by decide
    have hw : ∀ (t : State) (n : Nat), ∀ f ∈ [R.STW_RESET_CAUSE_PIN, R.STW_RESET_CAUSE_POWER], (t.wr f n).rd g = t.rd g :=
      fun t n f hf => rd_wr_ne t f g n fun e => absurd (e ▸ hg) (hcause f hf)
    show (((resetKeeping (tamperIds ++ flashIds) s).wr R.STW_RESET_CAUSE_POWER 0).wr R.STW_RESET_CAUSE_PIN 1).rd g = _
    rw [hw _ _ _ (by simp), hw _ _ _ (by simp), resetKeeping_rd _ _ hshown, if_neg (by simpa using hcold)]

theorem coldReset_calm (pin : Bool) (s : State) : Calm (coldReset pin s) := by
  obtain ⟨ids, r, e⟩ := coldReset_eq pin s
  refine calm_afterReset ?_ ?_ ?_ ?_ ?_ ?_ fun _ hg => coldReset_rd_calm pin s hg
  all_goals simp [e]

/-- The device is in BOOT. -/
theorem coldReset_mode (pin : Bool) (s : State) : (coldReset pin s).mode = 0 := coldReset_rd_calm pin s (by decide)

/-! ## The warm reset (R34, R35) -/

/-- A change of mode leaves alone all but registers, the Watch, the free values and what is owed. -/
theorem setMode_offWatch (m : Nat) (s : State) : ∃ l, (s.setMode m).offWatch = { s.offWatch with todo := l } := by
  unfold State.setMode
  split
  · exact ⟨s.todo, rfl⟩
  · extract_lets p t u f v
    have ht : t.offWatch = s.offWatch := by
      unfold t
      split <;> rfl
    have hv : v.offWatch = s.offWatch := (offWatch_message _ 0).trans ht
    by_cases hwake : (p = 2 ∨ p = 3) ∧ m ≠ 2 ∧ m ≠ 3
    · rw [if_pos hwake]
      exact ⟨v.todo ++ [.wake 6], congrArg (fun x : State => { x with todo := v.todo ++ [Todo.wake 6] }) hv⟩
    · rw [if_neg hwake]
      exact ⟨s.todo, hv⟩

/-- The registers that a change of mode writes. -/
def modeFields : List Fld := [R.STW_BOOT_STAT_BOOT_MS, R.GLB_MODE_PREV, R.GLB_MODE_MODE, R.WATCH_LOG_HEAD_SEQ]

theorem kept_setMode (m : Nat) (s : State) : Kept modeFields s (s.setMode m) := by
  unfold State.setMode
  split
  · exact .refl
  · extract_lets p t u f v
    have ht : Kept modeFields s t := by
      unfold t
      split
      · exact Kept.refl.wr (by simp [modeFields])
      · exact .refl
    have hu : Kept modeFields s u := (ht.wr (by simp [modeFields])).wr (by simp [modeFields])
    have hf : Kept modeFields s f.2 := hu.of_regs rfl
    have hv : Kept modeFields s v := kept_message.2 (Kept.wr (hf.of_regs rfl) (by simp [modeFields]))
    split
    · exact hv.of_regs rfl
    · exact hv

section
variable (m : Nat) (s : State)
theorem setMode_time : (s.setMode m).time = s.time := by
  obtain ⟨l, h⟩ := setMode_offWatch m s
  have e := congrArg State.time h
  exact e
theorem setMode_warp : (s.setMode m).warp = s.warp := by
  obtain ⟨l, h⟩ := setMode_offWatch m s
  have e := congrArg State.warp h
  exact e
theorem setMode_archive : (s.setMode m).archive = s.archive := by
  obtain ⟨l, h⟩ := setMode_offWatch m s
  have e := congrArg State.archive h
  exact e
end

section
variable (cause : Fld) (s : State)

theorem warmReset_rd_calm {g : Fld} (hg : g.id ∈ calmRegs) : (warmReset cause s).rd g = State.reset.rd g := by
  obtain ⟨hwarm, -, hshown⟩ := calmRegs_not_kept g.id hg
  exact (resetKeeping_rd warmIds _ hshown).trans (if_neg (by simpa using hwarm))

theorem warmReset_mode : (warmReset cause s).mode = 0 := warmReset_rd_calm cause s (by decide)

theorem warmReset_boot : (warmReset cause s).boot =
    { (resetKeeping warmIds ((s.wr cause 1).setMode 0)).boot with step := 2 } := rfl

theorem warmReset_trunks : (warmReset cause s).trunks = [] := resetKeeping_trunks warmIds _
theorem warmReset_mill : (warmReset cause s).mill = {} := resetKeeping_mill warmIds _
theorem warmReset_time : (warmReset cause s).time = s.time := setMode_time 0 (s.wr cause 1)
theorem warmReset_archive : (warmReset cause s).archive = s.archive :=
  (resetKeeping_archive warmIds _).trans (setMode_archive 0 (s.wr cause 1))
theorem warmReset_slots : (warmReset cause s).warp.slots = s.warp.slots :=
  (congrArg Warp.slots (resetKeeping_warp warmIds _)).trans (by rw [setMode_warp, wr_warp])

theorem warmReset_calm : Calm (warmReset cause s) :=
  calm_afterReset (resetKeeping_todo warmIds _) (resetKeeping_passes warmIds _) rfl
    (by rw [warmReset_boot, resetKeeping_boot]) (by rw [warmReset_boot, resetKeeping_boot]) (by simp [warmReset_boot])
    fun _ hg => warmReset_rd_calm cause s hg
end

/-- The Steward's watchdog shows as the cause: the field is sticky, and no change of mode writes it. -/
theorem warmReset_watchdog (s : State) :
    (warmReset R.STW_RESET_CAUSE_WATCHDOG s).bit R.STW_RESET_CAUSE_WATCHDOG = true := by
  have hk : (warmReset R.STW_RESET_CAUSE_WATCHDOG s).rd R.STW_RESET_CAUSE_WATCHDOG =
      ((s.wr R.STW_RESET_CAUSE_WATCHDOG 1).setMode 0).rd R.STW_RESET_CAUSE_WATCHDOG :=
    (resetKeeping_rd warmIds _ (by decide)).trans (if_pos (by decide))
  unfold State.bit
  rw [hk, kept_setMode 0 _ _ (by simp [modeFields, Fld.same]), rd_wr_self]
  rfl

/-- Settles O9: both resets leave a calm state, of which the laws above say what stands and what is gone. -/
theorem resetsAnswer : Obligations.ResetsAnswer := by
  refine ⟨fun pin s => ⟨next_of_done rfl (coldReset_calm pin s), coldReset_mode pin s, ?_⟩, fun s h8 => ?_⟩
  · obtain ⟨ids, r, e⟩ := coldReset_eq pin s
    simp [e]
  · have hx : exec .stewardWatchdogExpiry s = done (warmReset R.STW_RESET_CAUSE_WATCHDOG s) :=
      congrArg done (if_pos (by simpa [stewardRuns] using h8))
    exact ⟨next_of_done hx (warmReset_calm _ s), warmReset_mode _ s, rfl, warmReset_trunks _ s, warmReset_mill _ s,
      warmReset_watchdog s, warmReset_time _ s, warmReset_slots _ s, warmReset_archive _ s⟩

end Sys2Proof.Machine
end

section
/-! PROOFS. The steps of BOOT (R37 to R43, R60, R61). -/

namespace Sys2Proof.Machine

variable {s : State}

/-- Calm bars no step of BOOT but the ninth. -/
theorem Calm.at_step {n : Nat} (hn : n ≠ 9) (h : Calm s) : Calm { s with boot := { s.boot with step := n } } :=
  h.congr rfl (fun _ _ => rfl) rfl rfl rfl (fun hb => hn hb.2) fun _ _ => rfl

/-- A BOOT command acts where its step has come. -/
theorem boot_here {n : Nat} (hm : s.mode = 0) (hs : s.boot.step = n) : ¬ (s.mode ≠ 0 ∨ s.boot.step ≠ n) := by
  simp [hm, hs]

/-! ## Steps 3 to 9 (R37, R38, R40) -/

/-- BOOT_ROM_START: from step 1 or 2. -/
theorem bootRomStart_early {active : BitVec 5} (hm : s.mode = 0) (hs : s.boot.step ≤ 2) :
    let t := { s with
      boot := { s.boot with step := 4, repairs := s.boot.repairs.map fun (r : Block × Nat × Bool) => (r.1, r.2.1, false) },
      sec := { s.sec with lcNow := s.rd R.SEC_LC_STATE } }
    let n := (s.boot.repairs.filter fun (r : Block × Nat × Bool) => r.2.2).length
    let t := (t.wr R.STW_BOOT_STAT_REPAIRS (min 15 n)).wr R.STW_BOOT_STAT_STAGE 1
    exec (.bootRomStart active) s = done (tamperBoot active.toNat t) :=
  congrArg done (if_neg (by simp [hm, hs]))

theorem hostSelftestDone_here {fails : List BistFail} (hm : s.mode = 0) (hs : s.boot.step = 4) :
    let w := bistEnd (fun b => (blkVale b).isNone) fails s
    exec (.hostSelftestDone fails) s = done { w.wr R.STW_BOOT_STAT_STAGE 2 with boot := { w.boot with step := 6 } } :=
  congrArg done (if_neg (boot_here hm hs))

/-- Slot 1 is tried and verifies: the Steward starts from it. -/
theorem firmwareVerifyDone_slot1 {sig1 sig2 ok : Bool} (hm : s.mode = 0) (hs : s.boot.step = 6) (ht : fwTried 1 s = true)
    (hv : fwOk 1 sig1 s = true) : exec (.firmwareVerifyDone sig1 sig2 ok) s = done (stewardStart 1 ok s) :=
  congrArg done ((if_neg (boot_here hm hs)).trans (if_pos ⟨ht, hv⟩))

/-- No slot is tried: nothing counts as a failure, and the recovery stage begins. -/
theorem firmwareVerifyDone_none {sig1 sig2 ok : Bool} (hm : s.mode = 0) (hs : s.boot.step = 6) (h1 : fwTried 1 s = false)
    (h2 : fwTried 2 s = false) : exec (.firmwareVerifyDone sig1 sig2 ok) s =
      done { s.wr R.STW_BOOT_STAT_STAGE 8 with boot := { s.boot with step := 7 } } := by
  show done (effFwVerify sig1 sig2 ok s) = _
  simp only [effFwVerify, if_neg (boot_here hm hs), h1, h2, Bool.false_eq_true, false_and, if_false]

/-! ## Steps 10 to 13 (R40, R43, R60, R61) -/

theorem valeSelftestDone_here {fails : List BistFail} (hm : s.mode = 0) (hs : s.boot.step = 10) :
    let w := bistEnd (fun b => (blkVale b).isSome) fails s
    exec (.valeSelftestDone fails) s = done { w.wr R.STW_BOOT_STAT_STAGE 5 with boot := { w.boot with step := 11 } } :=
  congrArg done (if_neg (boot_here hm hs))

/-- The three slots tried in the order of step 11, from results that say "not tried". -/
def slotsTried (a b g : Verdict) (s : State) : Option WImage × State :=
  let w := s.wr R.WARP_FLOOR_FLOOR s.warp.floor
  trySlots (fun k => if k = 1 then a else if k = 2 then b else g) (slotOrderBoot w)
    ([1, 2, 3].foldl (fun a k => a.wr (reasonFld k) 15) (w.wr R.WARP_BOOT_PREF_ONCE 0))

/-- A slot passes: its image is selected. -/
theorem warpSelect_some {a b g : Verdict} {img : WImage} (hm : s.mode = 0) (hs : s.boot.step = 11)
    (hr : (slotsTried a b g s).1 = some img) :
    let u := (slotsTried a b g s).2
    exec (.warpSelect a b g) s = done { u.wr R.STW_BOOT_STAT_STAGE 6 with
      boot := { u.boot with step := 12 }, warp := { u.warp with selected := some img } } := by
  show done (effWarpSelect _ s) = _
  unfold slotsTried at hr
  simp only [effWarpSelect, if_neg (boot_here hm hs), slotsTried, hr]

/-- No slot passes: BOOT ends in PROVISION, or in QUARANTINE where it is bound for it. -/
theorem warpSelect_none {a b g : Verdict} (hm : s.mode = 0) (hs : s.boot.step = 11) (hr : (slotsTried a b g s).1 = none) :
    let u := (slotsTried a b g s).2
    let t := { u.wr R.STW_BOOT_STAT_STAGE 7 with boot := { u.boot with step := 13 } }
    exec (.warpSelect a b g) s = done (if t.boot.bound then enterQuarantine t else t.setMode 1) := by
  show done (effWarpSelect _ s) = _
  unfold slotsTried at hr
  simp only [effWarpSelect, if_neg (boot_here hm hs), slotsTried, hr]
  rfl

/-- The selected image is in force, and BOOT ends in the mode that the fences and a bound QUARANTINE leave. -/
theorem warpApplyDone_selected {img : WImage} (hm : s.mode = 0) (hs : s.boot.step = 12) (hi : s.warp.selected = some img) :
    let t := floorRaise img ((warpApply img s).wr R.WARP_STAT_APPLIED 1)
    let t := { t.wr R.STW_BOOT_STAT_STAGE 7 with
      boot := { t.boot with step := 13, reactionsLive := true }, warp := { t.warp with selected := none } }
    let t := if t.fencedProper .macsec then fenceEffects .macsec t else t
    exec .warpApplyDone s =
      done (if t.boot.bound then enterQuarantine t else linesStart (t.setMode (if t.boot.fences.isEmpty then 2 else 3))) := by
  show done (effWarpApply s) = _
  simp only [effWarpApply, hi, if_neg (boot_here hm hs)]

/-- Settles O10: each command acts in its step, and where the state it leaves is calm its step ends there. -/
theorem bootAdvances : Obligations.BootAdvances := by
  refine ⟨fun active s hm hs => next_of_done (bootRomStart_early hm hs), fun fails s hm hs => hostSelftestDone_here hm hs,
    fun sig2 ok s hm hs ht hv => firmwareVerifyDone_slot1 hm hs ht hv, fun ok s hm hs hc h1 h2 => ?recovery,
    fun fails s hm hs => valeSelftestDone_here hm hs,
    fun a b g s hm hs => ⟨fun img hr => ?selected, fun hr => ⟨?provision, ?bound⟩⟩,
    fun img s hm hs hi => warpApplyDone_selected hm hs hi⟩
  case recovery => exact next_of_done (firmwareVerifyDone_none hm hs h1 h2) ((hc.wr (by decide)).at_step (by decide))
  case selected => exact next_of_done (warpSelect_some hm hs hr)
  case provision =>
    intro hb hc
    exact next_of_done ((warpSelect_none hm hs hr).trans (congrArg done (if_neg (ne_true_of_eq_false hb)))) hc
  case bound => exact fun hb => (warpSelect_none hm hs hr).trans (congrArg done (if_pos hb))

end Sys2Proof.Machine
end

section
/-! PROOFS. The ends of the scan wipe and of a self-test (R46, R48 to R50). -/

namespace Sys2Proof.Machine

variable {s : State}

/-! ## The scan wipe (R46) -/

/-- Calm looks at no key store. -/
theorem Calm.with_keyReadOff {b : Bool} (h : Calm s) : Calm { s with boot := { s.boot with keyReadOff := b } } :=
  h.congr rfl (fun _ _ => rfl) rfl rfl rfl h.boot fun _ _ => rfl

/-- In MAINTENANCE with a request standing, the wipe ends it. -/
theorem exec_scanWipeDone (ok : Bool) (hm : s.mode = 4) (hr : s.bit R.STW_SCAN_CTL_REQ = true) :
    let t := s.wr R.STW_SCAN_CTL_REQ 0
    exec (.scanWipeDone ok) s = done (if ok then
      { (t.wr R.STW_SCAN_CTL_WIPED 1).wr R.STW_SCAN_CTL_SCAN_EN 1 with boot := { s.boot with keyReadOff := true } }
      else (t.wr R.STW_SCAN_CTL_REFUSED 1).recordFree 5 3 0x52 none) :=
  congrArg done (if_neg (by simp [hm, hr]))

/-! ## Self-test (R48 to R50) -/

/-- A self-test is over, and its findings are cleared for the new ones. -/
def testCleared (s : State) : State :=
  (({ s with boot := { s.boot with selfTest := none } }.wr R.STW_SELFTEST_STAT_MEM_ID 0).wr R.STW_SELFTEST_FAIL_BIT 0).wr
    R.STW_SELFTEST_FAIL_ADDR 0

/-- A test passes: STATE 2, the pass is remembered, and items that were held for a block other than the granary are freed. -/
theorem selftestDone_pass {x : SelfTest} (hx : s.boot.selfTest = some x) (ha : x.aborted = false) (hb : x.block ≠ .gran) :
    let t := (testCleared s).wr R.STW_SELFTEST_STAT_STATE 2
    exec (.selftestDone none) s = done (assayFree
      { t with boot := { t.boot with passes := x.block :: t.boot.passes.filter fun b => b ≠ x.block } }) := by
  show done (effSelftestDone none s) = _
  simp only [effSelftestDone, hx, ha, hb, testCleared, failShow, Option.toList, Option.isSome, List.find?, Bool.or_self,
    Bool.false_eq_true, false_and, if_false]

/-- A test that was aborted or found a failure: STATE 3 with the finding, the pass forgotten, the record and the fence. -/
theorem selftestDone_fail {x : SelfTest} {res : Option BistFail} (hx : s.boot.selfTest = some x)
    (hf : x.aborted = true ∨ res.isSome = true) :
    let t := (failShow res.toList (testCleared s)).wr R.STW_SELFTEST_STAT_STATE 3
    let t := { t with boot := { t.boot with passes := t.boot.passes.filter fun b => b ≠ x.block } }
    exec (.selftestDone res) s = done (fenceBlock x.block
      ((t.free 32).2.recordWith (blockSrc x.block) 2 0x58 (t.free 32).1 none false)) := by
  have hbad : (x.aborted || res.isSome) = true := by simpa using hf
  show done (effSelftestDone res s) = _
  simp only [effSelftestDone, hx, hbad, testCleared, if_true]

/-- Settles O11: the two results of the wipe and the two of a test. -/
theorem testsEnd : Obligations.TestsEnd := by
  refine ⟨fun s hm hr => ⟨fun hc => ?wiped, exec_scanWipeDone false hm hr⟩,
    fun x s hx ha hb => next_of_done (selftestDone_pass hx ha hb), fun x res s hx hf => selftestDone_fail hx hf⟩
  case wiped =>
    exact next_of_done (exec_scanWipeDone true hm hr)
      (((hc.wr (by decide)).wr (by decide)).wr (by decide)).with_keyReadOff

end Sys2Proof.Machine
end

section
/-! PROOFS. The ends of a warp load (R62), and what a committed image takes with it (R34, R74, R75). -/

namespace Sys2Proof.Machine

variable {s : State}

/-! ## The load's state and its stage -/

/-- STATE and LOAD_BUSY are no mode. -/
@[simp] theorem loadState_mode (n : Nat) : (loadState n s).mode = s.mode :=
  (rd_wr_ne _ _ _ _ (by decide)).trans (rd_wr_ne s _ _ _ (by decide))

@[simp] theorem loadState_serving (n : Nat) : (loadState n s).serving = s.serving := by
  unfold State.serving
  rw [loadState_mode]

/-- Calm looks at no register of a load. -/
theorem Calm.loadState {n : Nat} (h : Calm s) : Calm (loadState n s) := (h.wr (by decide)).wrb (by decide)

/-! ## The staging timeout (R62) -/

theorem warpStagingTimeout_open (ho : s.warp.stageOpen = true) :
    exec .warpStagingTimeout s = done (loadState 0 (stageDrop (s.wr R.WARP_LOAD_CTL_ABORT 0))) :=
  congrArg done (if_pos ho)

/-! ## The end of a commit (R62, R34, R75) -/

/-- The slot holds the image whole, and the load shows its end. -/
def committed (img : WImage) (s : State) : State :=
  loadState 3 { s with warp := { s.warp with slots := tset [] s.warp.slots img.slot img.words, committing := none } }

theorem committed_mode (img : WImage) : (committed img s).mode = s.mode := loadState_mode 3

theorem committed_serving (img : WImage) : (committed img s).serving = s.serving := loadState_serving 3

theorem Calm.committed {img : WImage} (h : Calm s) : Calm (committed img s) := h.with_warp.loadState

/-- Outside QUARANTINE the image takes its slot; the mode and LIVE decide what it starts. -/
theorem warpCommitDone_committing {img : WImage} {live : Bool} (hx : s.warp.committing = some (img, live)) (h5 : s.mode ≠ 5) :
    exec .warpCommitDone s = done (
      if s.mode = 1 then warmReset R.STW_RESET_CAUSE_WARP_ACCEPT (committed img s)
      else if live = true ∧ s.serving = true then liveApply img (committed img s) else committed img s) := by
  rw [← committed_mode img, ← committed_serving img]
  show done (effCommitDone s) = _
  unfold effCommitDone
  rw [hx]
  exact congrArg done (if_neg h5)

/-- SERVICE and DEGRADED are not PROVISION. -/
theorem serving_not_provision (h : s.serving = true) : s.mode ≠ 1 := fun e => by simp [State.serving, e] at h

/-- Settles O12: an open stage is dropped; a committed image rests in its slot, restarts the device out of PROVISION, or
goes live. -/
theorem warpLoadsEnd : Obligations.WarpLoadsEnd := by
  refine ⟨fun s hc ho => ?timeout, fun img live s hx h5 => ⟨fun hc h1 hl => ?rests, fun h1 => ?provision, fun hl hs => ?live⟩⟩
  case timeout => exact next_of_done (warpStagingTimeout_open ho) (hc.wr (by decide)).with_warp.loadState
  case rests =>
    have hlive : ¬ (live = true ∧ s.serving = true) := by rintro ⟨rfl, hs⟩; simp [hs] at hl
    exact next_of_done ((warpCommitDone_committing hx h5).trans (congrArg done ((if_neg h1).trans (if_neg hlive)))) hc.committed
  case provision =>
    exact next_of_done ((warpCommitDone_committing hx h5).trans (congrArg done (if_pos h1))) (warmReset_calm _ _)
  case live =>
    exact (warpCommitDone_committing hx h5).trans
      (congrArg done ((if_neg (serving_not_provision hs)).trans (if_pos ⟨hl, hs⟩)))

end Sys2Proof.Machine
end

section
/-! PROOFS. The commands that write one register (R78, R82 to R85). -/

namespace Sys2Proof.Machine

variable {s : State}

/-! ## The word that a command writes -/

theorem rowWrite_of_rowWords {e e' : Ext} {p p' : Port} {l : List (Fld × Nat)} {r : RegAt} {w : Nat}
    (h : rowWords e p l s = some (e', p', r, w)) (hp : p' ≠ .mdio) : rowWrite e p l s = writeAt e' p' 15 r.addr w s := by
  cases l with
  | nil => cases h
  | cons x l =>
    simp only [rowWords, Option.map_eq_some_iff] at h
    obtain ⟨q, hq, h⟩ := h
    cases h
    simp only [rowWrite, hq, if_neg hp]

theorem rowPut_of_rowWhole {e' : Ext} {p p' : Port} {f : Fld} {v w : Nat} {r : RegAt}
    (h : rowWhole p f v = some (e', p', r, w)) (hp : p' ≠ .mdio) : rowPut Ext.plain p f v s = writeAt e' p' 15 r.addr w s := by
  simp only [rowWhole, Option.map_eq_some_iff] at h
  obtain ⟨q, hq, h⟩ := h
  cases h
  simp only [rowPut, hq, if_neg hp]

/-- A command that is the write of one register issues that write: REGISTER_WRITE with its own word, a row that gives the whole
word, and a row that names fields of it. -/
theorem exec_of_wordOf {c : Instr} {e : Ext} {p : Port} {r : RegAt} {w : Nat} (h : wordOf c s = some (e, p, r, w))
    (hp : p ≠ .mdio) : exec c s = done (writeAt e p 15 r.addr w s) := by
  unfold wordOf at h
  split at h
  case h_1 q a be v =>
    split at h
    · next r' hr =>
      obtain ⟨⟨ha, hb⟩, h⟩ := Option.ite_none_right_eq_some.1 h
      cases h
      rw [← hb, ha]
      exact congrArg done (if_neg fun n => hp n.1)
    · cases h
  -- DRP_CYC_CTL_WRITE, GRAN_TRN_GO, GRAN_ORDER_WRITE and TIME_ADJ_PHASE_WRITE give the whole word
  case h_58 | h_59 | h_60 | h_61 => exact congrArg done (rowPut_of_rowWhole h hp)
  case h_66 => cases h
  all_goals exact congrArg done (rowWrite_of_rowWords h hp)

/-- Settles O4: the command issues the word, and `writeAt_open` says what an open register makes of it; the word is read
back field by field. -/
theorem registerWrites : Obligations.RegisterWrites := by
  refine ⟨fun c e p r w s hw ho => ?_, fun r l s hr x hx => ?_⟩
  · rw [exec_of_wordOf hw ho.port, writeAt_open ho]
    rfl
  · have hl : rowValue (r.fld x) l = (l.find? fun e => e.1.id = x.id ∧ e.1.ix = r.ix).map fun e => e.2 := rfl
    rw [rowWord_part hr hx, rowVal, hl]
    cases l.find? fun e => e.1.id = x.id ∧ e.1.ix = r.ix <;> rfl

end Sys2Proof.Machine
end

section
/-! PROOFS. The commands that read one register (R78, R81, R86). -/

namespace Sys2Proof.Machine

variable {s : State}

/-! ## The read that a command issues -/

/-- A command that is the read of one register issues that read. -/
theorem exec_of_readOf {c : Instr} {p : Port} {a : Nat} (h : readOf c = some (p, a)) :
    exec c s = done (effRead Ext.plain p a s) := by
  have row {q : Port} {f : Fld} (h : (fieldAt f).map (fun r => (q, r.addr)) = some (p, a)) :
      rowRead q f s = effRead Ext.plain p a s := by
    obtain ⟨r, hr, h⟩ := Option.map_eq_some_iff.1 h
    cases h
    simp only [rowRead, hr]
  unfold readOf at h
  split at h
  case h_1 | h_2 => cases h; rfl
  case h_6 => cases h
  all_goals exact congrArg done (row h)

/-- A port that the register is open to is sent what the read of its word yields. -/
theorem effRead_served {e : Ext} {p : Port} {a : Nat} {r : RegAt} (hp : p ≠ .mdio) (hr : regAt (a / 4 * 4) = some r)
    (hs : serviceAt p false (a / 4 * 4) (some r) s = .normal ∨ serviceAt p false (a / 4 * 4) (some r) s = .readOnly) :
    effRead e p a s = (wordRead p r s).2.send (.answer p (a / 4 * 4) (wordRead p r s).1) := by
  have hw : readAt e p (a / 4 * 4) s = (some (wordRead p r s).1, (wordRead p r s).2) := by
    rcases hs with hs | hs <;> simp only [readAt, hr, hs]
  unfold effRead
  rw [if_neg fun n => hp n.1, hw]
  rfl

/-! ## The word that a read yields -/

/-- A register of one word, and a wide one that host software writes, is read as it stands. -/
theorem wordRead_narrow {p : Port} {r : RegAt} (h : wideRead r = false) :
    wordRead p r s = (tbits (regRead p r (regVote r s)).1 (32 * r.k + 31) (32 * r.k),
      readEffect r (regClear r (regRead p r (regVote r s)).2)) := by
  simp [wordRead, h]

/-- The first word of a wide register takes a snapshot of the whole. -/
theorem wordRead_first {p : Port} {r : RegAt} (h : wideRead r = true) (hk : r.k = 0) :
    wordRead p r s = (tbits (regRead p r (regVote r s)).1 31 0,
      regClear r (snapPut { port := p, window := winBase r.addr, addr := r.low, value := (regRead p r (regVote r s)).1 }
        (regRead p r (regVote r s)).2)) := by
  simp [wordRead, h, hk]

/-- A later word of a wide register comes from the snapshot of it. -/
theorem wordRead_later {p : Port} {r : RegAt} {x : Snap} (h : wideRead r = true) (hk : r.k ≠ 0)
    (hx : (snapOf p (winBase r.addr) (regVote r s)).filter (fun x => x.addr = r.low) = some x) :
    wordRead p r s = (tbits x.value (32 * r.k + 31) (32 * r.k), regVote r s) := by
  simp [wordRead, h, hk, hx]

/-- Settles O5: the port is sent the word of the read, which is a register as it stands, the first word of a snapshot, or
a later one. -/
theorem registerReads : Obligations.RegisterReads := by
  intro c p a r s hc hp hr hs
  have hx : exec c s = .next (settle ((wordRead p r s).2.send (.answer p (a / 4 * 4) (wordRead p r s).1))) :=
    (exec_of_readOf hc).trans (congrArg done (effRead_served hp hr hs))
  refine ⟨fun hw => ?_, fun hw hk => ?_, fun hw hk x hf => ?_⟩
  · rw [hx, wordRead_narrow hw]
  · rw [hx, wordRead_first hw hk]
  · rw [hx, wordRead_later hw hk hf]

end Sys2Proof.Machine
end

section
/-! PROOFS. Accesses at the ports: where they are served, and the granary's aperture (R76, R77, R80, R267, R296). -/

namespace Sys2Proof.Machine

variable {s : State}

/-! ## An access at a port on which nothing waits (R80) -/

theorem portAccess_free {p : Port} {x : PortAcc} (hs : stalledAt p s = []) (hb : accBlocked p x s = false) :
    portAccess p x s = accIssue p x s := by
  simp [portAccess, hs, hb]

theorem accBlocked_host {p : Port} {x : PortAcc}
    (h : crossVale x.addr (serviceAt p x.write.isSome x.addr (regAt x.addr) s) = none) : accBlocked p x s = false := by
  simp [accBlocked, h]

theorem accBlocked_vale {p : Port} {x : PortAcc} {k : Nat}
    (h : crossVale x.addr (serviceAt p x.write.isSome x.addr (regAt x.addr) s) = some k) (hk : (inFlight k s).length < 16) :
    accBlocked p x s = false := by
  simp [accBlocked, h, hk]

/-! ## Reads -/

/-- A read on the host die is answered. -/
theorem portRead_host {p : Port} {a be : Nat} (hs : stalledAt p s = []) (h : crossVale a (serviceAt p false a (regAt a) s) = none) :
    portAccess p { addr := a, be := be, write := none } s = answerTo p a (readAt Ext.plain p a s) := by
  rw [portAccess_free hs (accBlocked_host h)]
  simp [accIssue, h]

/-- A read of a vale with a place joins its accesses in flight. -/
theorem portRead_vale {p : Port} {a be k : Nat} (hs : stalledAt p s = [])
    (h : crossVale a (serviceAt p false a (regAt a) s) = some k) (hk : (inFlight k s).length < 16) :
    portAccess p { addr := a, be := be, write := none } s =
      flightAdd k { port := p, addr := a, write := none, armed := false } s := by
  rw [portAccess_free hs (accBlocked_vale h hk)]
  simp [accIssue, h]

/-! ## Writes -/

/-- What an access meets that a vale serves by tally: the register is served, normally or as asleep. -/
theorem served_of_crossVale {a k : Nat} {x : Service} (h : crossVale a x = some k) : x = .normal ∨ x = .asleep := by
  cases x <;> simp_all [crossVale]

/-- The registers whose writes no mode drops lie on the host die. -/
theorem crossVale_alwaysWritten {a : Nat} (h : alwaysWritten a = true) (x : Service) : crossVale a x = none := by
  have hv : valeAt a = none := by
    rcases (by simpa [alwaysWritten] using h : a = 8 ∨ a = 0x40010) with rfl | rfl <;> rfl
  unfold crossVale
  split <;> simp [hv]

/-- A write is issued with what serves it where it arrives: as the mode says, or in full where no mode drops it. -/
theorem writeIssue_congr {p : Port} {be a v : Nat} {go go' : Bool → Service → State → State}
    (hx : ∀ arm, go arm (serviceAt p true a (regAt a) s) = go' arm (serviceAt p true a (regAt a) s))
    (hn : alwaysWritten a = true → ∀ arm, go arm .normal = go' arm .normal) :
    writeIssue p be a v go s = writeIssue p be a v go' s := by
  unfold writeIssue
  simp only
  generalize serviceAt p true a (regAt a) s = x at hx
  cases x with
  | readOnly =>
    by_cases h : alwaysWritten a = true
    · simp only [hn h]
    · simp only [if_neg fun n : alwaysWritten a = true ∧ _ => h n.1]
  | _ => simp only [hx]

/-- A write on the host die is served at once. -/
theorem portWrite_host {p : Port} {a be v : Nat} (hs : stalledAt p s = [])
    (h : crossVale a (serviceAt p true a (regAt a) s) = none) :
    portAccess p { addr := a, be := be, write := some v } s = writeAt Ext.plain p be a v s := by
  rw [portAccess_free hs (accBlocked_host h)]
  unfold accIssue writeAt
  refine writeIssue_congr (fun arm => ?_) fun ha arm => ?_
  · simp [h]
  · simp [crossVale_alwaysWritten ha]

/-- A whole word for an unkeyed register that is served, in full or as asleep, is passed on with the arming of its port. -/
theorem writeIssue_unkeyed {p : Port} {a v : Nat} {go : Bool → Service → State → State} {r : RegAt} {x : Service}
    (hx : serviceAt p true a (regAt a) s = x) (h : x = .normal ∨ x = .asleep) (hr : regAt a = some r) (hkey : r.keyed = false)
    (hm : mirrorMode a = false) : writeIssue p 15 a v go s = go (armed p s) x s := by
  rw [hr] at hx
  rcases h with rfl | rfl <;> simp [writeIssue, hx, hr, hkey, hm]

/-- A whole word for an unkeyed register of a vale with a place joins its accesses in flight, with its arming. -/
theorem portWrite_vale {p : Port} {a v k : Nat} {r : RegAt} (hs : stalledAt p s = [])
    (h : crossVale a (serviceAt p true a (regAt a) s) = some k) (hk : (inFlight k s).length < 16) (hr : regAt a = some r)
    (hkey : r.keyed = false) (hm : mirrorMode a = false) :
    portAccess p { addr := a, be := 15, write := some v } s =
      flightAdd k { port := p, addr := a, write := some v, armed := armed p s } s := by
  rw [portAccess_free hs (accBlocked_vale h hk)]
  unfold accIssue
  simp only
  rw [writeIssue_unkeyed rfl (served_of_crossVale h) hr hkey hm, h]

/-! ## The commands -/

theorem pcieWake_awake (h : s.rd R.PWR_STAT_HOST_RUNG < 2) : pcieWake s = s := if_neg (by omega)

/-- The word at an address of BAR0 is named again by its offset. -/
theorem word_mod_bar (a : BitVec 24) : a.toNat / 4 * 4 % 0x1000000 = a.toNat / 4 * 4 := by omega

theorem exec_of_portReadOf {c : Instr} {p : Port} {a : Nat} (h : portReadOf c s = some (p, a)) :
    exec c s = done (portAccess p { addr := a, be := 15, write := none } s) := by
  unfold portReadOf at h
  split at h
  case h_1 => cases h; rfl
  case h_2 b n =>
    obtain ⟨⟨rfl, hu, hr⟩, e⟩ := Option.ite_none_right_eq_some.1 h
    cases e
    refine congrArg done ((if_pos hu).trans ?_)
    simp [upto, pcieWake_awake hr, word_mod_bar]
  case h_3 => cases h

theorem exec_of_portWriteOf {c : Instr} {p : Port} {a be v : Nat} (h : portWriteOf c s = some (p, a, be, v)) :
    exec c s = done (portAccess p { addr := a, be := be, write := some v } s) := by
  unfold portWriteOf at h
  split at h
  case h_1 => cases h; rfl
  case h_2 b w e =>
    obtain ⟨⟨hu, hr⟩, e⟩ := Option.ite_none_right_eq_some.1 h
    cases e
    refine congrArg done ((if_pos hu).trans ?_)
    simp [pcieWake_awake hr, word_mod_bar]
  case h_3 => cases h

/-- A poisoned write at an endpoint that is up and awake is recorded alone. -/
theorem exec_pcieMemoryWrite_poisoned {a : BitVec 24} {data : List (Word × BitVec 4)} (hu : pcieUp s = true)
    (hr : s.rd R.PWR_STAT_HOST_RUNG < 2) : exec (.pcieMemoryWrite a data true) s = done (s.recordFree 11 1 0x08 none) := by
  refine congrArg done ((if_pos hu).trans ?_)
  rw [pcieWake_awake hr]
  rfl

/-! ## The aperture (R296) -/

section
variable (n : Fin 2097152)

theorem winOf_aperture : winOf (0x800000 + 4 * n.val) = some .aper := by
  have := n.isLt
  unfold winOf
  repeat rw [if_neg (by omega)]
  rw [if_pos (by omega)]

theorem aperture_word : (0x800000 + 4 * n.val) / 4 * 4 = 0x800000 + 4 * n.val := by omega

theorem aperture_index : (0x800000 + 4 * n.val - 0x800000) / 4 = n.val := by omega

theorem mirrorAt_aperture : mirrorAt (0x800000 + 4 * n.val) = none := by
  simp only [mirrorAt, winOf_aperture]

theorem mirrorMode_aperture : mirrorMode (0x800000 + 4 * n.val) = false := by
  simp only [mirrorMode, mirrorAt_aperture]

theorem plainAt_aperture : plainAt (0x800000 + 4 * n.val) = true := by
  simp [plainAt, winOf_aperture]

end

theorem exec_apertureRead_served {p : Port} {n : Fin 2097152} {f : BurstFind} (hp : p ≠ .mdio)
    (hr : regAt (0x800000 + 4 * n.val) = none) (hs : serviceAt p false (0x800000 + 4 * n.val) none s = .normal) :
    exec (.apertureRead p n f) s =
      done ((apertureRead n f s).2.send (.answer p (0x800000 + 4 * n.val) (apertureRead n f s).1)) := by
  have hw : readAt { Ext.plain with find := some f } p (0x800000 + 4 * n.val) s =
      (some (apertureRead n f s).1, (apertureRead n f s).2) := by
    simp only [readAt, hr, hs, plainAt_aperture, if_true, plainGet, winOf_aperture, aperGet, Ext.findOf, aperture_index]
  show done (effRead { Ext.plain with find := some f } p (0x800000 + 4 * n.val) s) = _
  unfold effRead
  rw [if_neg fun e => hp e.1, aperture_word, hw]
  simp only [answerTo, aperture_word]

theorem exec_apertureWrite_served {p : Port} {n : Fin 2097152} {v : Word} {f : BurstFind} (hp : p ≠ .mdio)
    (hr : regAt (0x800000 + 4 * n.val) = none) (hs : serviceAt p true (0x800000 + 4 * n.val) none s = .normal)
    (hb : apertureBarred n s = false) : exec (.apertureWrite p n v f) s = done (apertureWrite n v.toNat f s) := by
  refine congrArg done ((if_neg hp).trans ?_)
  simp [writeAt, writeIssue, writeNow, hr, hs, mirrorMode_aperture, plainAt_aperture, plainPut, winOf_aperture, aperPut,
    hb, Ext.findOf]

/-- Settles O6: an access on the host die is served where it is issued, one to a vale joins its flight; the aperture reads
and writes the granary. -/
theorem portAccesses : Obligations.PortAccesses := by
  refine ⟨fun c p a s hc hs => ⟨fun h => ?_, fun k h hk => ?_⟩,
    fun c p a be v s hc hs => ⟨fun h => ?_, fun k r h hk hr hkey hm hbe => ?_⟩,
    fun a data s hc hl hu => ?_, fun p n f s hp hr => ⟨fun hs => ?_, fun v hs hb => ?_⟩⟩
  · exact (exec_of_portReadOf hc).trans (congrArg done (portRead_host hs h))
  · exact (exec_of_portReadOf hc).trans (congrArg done (portRead_vale hs h hk))
  · exact (exec_of_portWriteOf hc).trans (congrArg done (portWrite_host hs h))
  · subst hbe
    exact (exec_of_portWriteOf hc).trans (congrArg done (portWrite_vale hs h hk hr hkey hm))
  · exact records_free (exec_pcieMemoryWrite_poisoned hu hl.awake) hl (.inl rfl) (by decide) hc rfl rfl rfl fun _ _ => rfl
  · exact exec_apertureRead_served hp hr hs
  · exact exec_apertureWrite_served hp hr hs hb

end Sys2Proof.Machine
end

section
/-! PROOFS. The fabric's keys: arming, the scrubbing of voted fields, and the voted TIME_ADJ_FREQ (R83, R84, R86). -/

namespace Sys2Proof.Machine

variable {s : State}

/-! ## Arming (R84) -/

/-- The register at 0x000_0008. -/
def keygateReg : RegAt := ⟨⟨"GLB_KEYGATE", 8, 32, 0, (0, 0, 0), (0, 0, 0),
  [⟨63, 0, 32, .wo, false, false, false, false, true, .const 0, []⟩]⟩, 0, 0, 0⟩

theorem regAt_keygate : regAt 8 = some keygateReg := by decide +kernel

/-- GLB_KEYGATE takes a write whatever serves it. -/
theorem writeNow_keygate {e : Ext} {p : Port} {arm : Bool} {v : Nat} {x : Service} :
    writeNow e p arm 8 v x s = keygate p v s := by
  simp only [writeNow, regAt_keygate]
  rfl

/-- A mode that serves reads only lets a write of GLB_KEYGATE through, outside recovery. -/
theorem writeIssue_keygate_readOnly {p : Port} {be v : Nat} {go : Bool → Service → State → State}
    (hs : serviceAt p true 8 (regAt 8) s = .readOnly) (hr : recovering s = false) :
    writeIssue p be 8 v go s = go (armed p s) .normal s := by
  have hk : ((regAt 8).map RegAt.keyed).getD false = false := by rw [regAt_keygate]; rfl
  have hm : mirrorMode 8 = false := rfl
  have ha : alwaysWritten 8 = true := rfl
  simp [writeIssue, hs, hk, hm, ha, hr]

/-- A write to GLB_KEYGATE reaches the arming wherever no recovery bars it. -/
theorem writeAt_keygate {e : Ext} {p : Port} {v : Nat}
    (hs : serviceAt p true 8 (regAt 8) s = .normal ∨ serviceAt p true 8 (regAt 8) s = .readOnly ∧ recovering s = false) :
    writeAt e p 15 8 v s = keygate p v s := by
  rcases hs with hs | ⟨hs, hr⟩
  · exact (writeIssue_unkeyed hs (.inl rfl) regAt_keygate rfl rfl).trans writeNow_keygate
  · exact (writeIssue_keygate_readOnly hs hr).trans writeNow_keygate

theorem exec_glbKeygateWrite_served {p : Port} {v : Word} (hp : p ≠ .mdio)
    (hs : serviceAt p true 8 (regAt 8) s = .normal ∨ serviceAt p true 8 (regAt 8) s = .readOnly ∧ recovering s = false) :
    exec (.glbKeygateWrite p v) s = done (keygate p v.toNat s) :=
  congrArg done ((if_neg hp).trans (writeAt_keygate hs))

theorem keygate_key {p : Port} : keygate p (0xC0A51E5D : Word).toNat s =
    { s with fabric := { s.fabric with arm := tset 0 s.fabric.arm (portCode p) (s.age + msec) } } := if_pos rfl

theorem keygate_mismatch {p : Port} {v : Word} (h : v ≠ 0xC0A51E5D) : keygate p v.toNat s = accNote 3 p true 8 (disarm p s) :=
  if_neg fun n => h (BitVec.eq_of_toNat_eq n)

/-- GLB_ACC_STAT is no register that calm looks at. -/
theorem Calm.accNote {k a : Nat} {p : Port} {wr : Bool} (h : Calm s) : Calm (accNote k p wr a s) :=
  ((((h.wr (by decide)).wr (by decide)).wrb (by decide)).wr (by decide)).sat (by decide)

/-! ## Voting (R86) -/

/-- The copies of a field agree. -/
abbrev Agree (f : Fld) (s : State) : Prop := (s.copies f).1 = (s.copies f).2.1 ∧ (s.copies f).1 = (s.copies f).2.2

/-- Copies that disagree all take the voted value, and the Watch is owed an event: of class C where two of them agree, else
of class U. -/
theorem voteRepair_disagree {f : Fld} {src o : Nat} (h : ¬ Agree f s) : s.voteRepair f src o = (s.wrV f (s.rdV f)).owe
    (.record src (if (vote3 (s.copies f).1 (s.copies f).2.1 (s.copies f).2.2).isSome then 1 else 2)
      (if (vote3 (s.copies f).1 (s.copies f).2.1 (s.copies f).2.2).isSome then 0x04 else 0x05) o) := by
  unfold State.voteRepair
  rw [if_neg h]
  cases vote3 (s.copies f).1 (s.copies f).2.1 (s.copies f).2.2 <;> rfl

/-! ## TIME_ADJ_FREQ (14_time R313) -/

/-- The field of TIME_ADJ_FREQ as the catalogue describes it. -/
def adjFreqDesc : FldDesc :=
  ⟨510, 0, 32, .rw, false, true, false, false, false, .const 0, [(0, 549755813), (3745211483, 4294967295)]⟩

/-- The register at 0x006_0034. -/
def adjFreqReg : RegAt := ⟨⟨"TIME_ADJ_FREQ", 393268, 32, 0, (0, 0, 0), (0, 0, 0), [adjFreqDesc]⟩, 0, 0, 0⟩

theorem regAt_adjFreq : regAt 0x60034 = some adjFreqReg := by decide +kernel

theorem fieldAt_adjFreq : fieldAt R.TIME_ADJ_FREQ_FREQ = some adjFreqReg := by decide +kernel

/-- The write of TIME_ADJ_FREQ stores in all copies a value that is new and neither barred nor reserved. -/
theorem fldWrite_adjFreq {arm : Bool} {v : Nat} (hv : v < 2 ^ 32) (ha : Agree R.TIME_ADJ_FREQ_FREQ s) (hb : timeBarred s = false)
    (he : encOk adjFreqDesc R.TIME_ADJ_FREQ_FREQ (s.rd R.TIME_ADJ_FREQ_FREQ) v v s = true) :
    fldWrite arm false adjFreqReg v (s, {}) adjFreqDesc =
      (if v = s.rd R.TIME_ADJ_FREQ_FREQ then s else s.wrV R.TIME_ADJ_FREQ_FREQ v,
        { hooks := [(R.TIME_ADJ_FREQ_FREQ, s.rd R.TIME_ADJ_FREQ_FREQ, v)] }) := by
  have hf : adjFreqReg.fld adjFreqDesc = R.TIME_ADJ_FREQ_FREQ := rfl
  have hold : fldGet adjFreqDesc R.TIME_ADJ_FREQ_FREQ s = s.rd R.TIME_ADJ_FREQ_FREQ := rdV_agree ha
  have hlt : s.rd R.TIME_ADJ_FREQ_FREQ < 2 ^ 32 := rd_lt s _
  have hbar : modeBar R.TIME_ADJ_FREQ_FREQ v s = false := hb
  have hpart : fldPart adjFreqDesc adjFreqReg.k = some (0, 0, 32) := rfl
  have hmask : fldMask R.TIME_ADJ_FREQ_FREQ v = v := rfl
  have hrw : adjFreqDesc.acc = .rw := rfl
  have hkeyed : adjFreqDesc.keyed = false := rfl
  have hvoted : adjFreqDesc.voted = true := rfl
  unfold fldWrite
  simp only [hpart, hf, hold, Nat.pow_zero, Nat.div_one, Nat.mul_one, Nat.mod_eq_of_lt hlt, Nat.mod_eq_of_lt hv, Nat.sub_self,
    Nat.zero_add]
  simp [hrw, hkeyed, hvoted, hmask, hbar, he, fldPut]

/-- The register holds no voted field but one whose copies agree, so that no repair precedes its write. -/
theorem writeFields_adjFreq {arm : Bool} {v : Nat} (ha : Agree R.TIME_ADJ_FREQ_FREQ s) :
    writeFields arm false adjFreqReg v s = fldWrite arm false adjFreqReg v (s, {}) adjFreqDesc := by
  have hv : regVote adjFreqReg s = s := voteRepair_agree ha
  unfold writeFields
  rw [hv]
  rfl

theorem writeExec_adjFreq {e : Ext} {p : Port} {arm : Bool} {v : Nat} (hv : v < 2 ^ 32) (ha : Agree R.TIME_ADJ_FREQ_FREQ s)
    (hb : timeBarred s = false)
    (he : encOk adjFreqDesc R.TIME_ADJ_FREQ_FREQ (s.rd R.TIME_ADJ_FREQ_FREQ) v v s = true) :
    writeExec e p arm false adjFreqReg v s = if v = s.rd R.TIME_ADJ_FREQ_FREQ then s else s.wrV R.TIME_ADJ_FREQ_FREQ v := by
  have hshut : regShut p adjFreqReg s = false := rfl
  unfold writeExec
  simp only [writeFields_adjFreq ha, fldWrite_adjFreq hv ha hb he, hshut]
  rfl

theorem exec_timeAdjFreqWrite_served {p : Port} {v : Word} (hp : p ≠ .mdio)
    (hs : serviceAt p true 0x60034 (regAt 0x60034) s = .normal) (ha : Agree R.TIME_ADJ_FREQ_FREQ s) (hb : timeBarred s = false)
    (he : encOk adjFreqDesc R.TIME_ADJ_FREQ_FREQ (s.rd R.TIME_ADJ_FREQ_FREQ) v.toNat v.toNat s = true) :
    exec (.timeAdjFreqWrite p v) s =
      done (if v.toNat = s.rd R.TIME_ADJ_FREQ_FREQ then s else s.wrV R.TIME_ADJ_FREQ_FREQ v.toNat) := by
  have hput : rowPut Ext.plain p R.TIME_ADJ_FREQ_FREQ v.toNat s = writeAt Ext.plain p 15 0x60034 v.toNat s := by
    simp only [rowPut, fieldAt_adjFreq, if_neg hp]
    rfl
  have hnow : writeNow Ext.plain p (armed p s) 0x60034 v.toNat .normal s =
      writeExec Ext.plain p (armed p s) false adjFreqReg v.toNat s := by
    simp only [writeNow, regAt_adjFreq]
    rfl
  have hx : writeAt Ext.plain p 15 0x60034 v.toNat s = writeNow Ext.plain p (armed p s) 0x60034 v.toNat .normal s :=
    writeIssue_unkeyed hs (.inl rfl) regAt_adjFreq rfl rfl
  exact congrArg done (hput.trans (hx.trans (hnow.trans (writeExec_adjFreq v.isLt ha hb he))))

/-- Calm looks at no copy but the first. -/
theorem Calm.wrV {f : Fld} {n : Nat} (hf : f.id ∉ calmRegs) (h : Calm s) : Calm (s.wrV f n) :=
  (h.wr hf).with_regsB.with_regsC

/-- Settles O7: GLB_KEYGATE arms or disarms, the scrubber repairs what disagrees, and TIME_ADJ_FREQ is written in all copies. -/
theorem fabricKeys : Obligations.FabricKeys := by
  refine ⟨fun p v s hp hc hs => ⟨fun hv => ?arms, fun hv => ?mismatch⟩, fun p s hc => ?expiry,
    fun s => ⟨fun ha hc => ?agree, fun ha => ?differ⟩, fun p v s hp hc hs h1 h2 hb he => ?adjFreq⟩
  case arms =>
    subst hv
    exact next_of_done ((exec_glbKeygateWrite_served hp hs).trans (congrArg done keygate_key)) hc.with_fabric
  case mismatch =>
    have hx := (exec_glbKeygateWrite_served hp hs).trans (congrArg done (keygate_mismatch hv))
    exact next_of_done hx (Calm.accNote hc.with_fabric)
  case expiry => exact next_of_done rfl hc.with_fabric
  case agree => exact next_of_done (congrArg done (voteRepair_agree ha)) hc.with_fabric
  case differ => exact congrArg done (voteRepair_disagree ha)
  case adjFreq =>
    refine next_of_done (exec_timeAdjFreqWrite_served hp hs ⟨h1, h2⟩ hb (he _ _ regAt_adjFreq (.head _))) ?_
    split
    · exact hc
    · exact hc.wrV (by decide)

end Sys2Proof.Machine
end

section
/-! PROOFS. The management ports: the PCIe endpoint, the SPI port with firmware recovery, and the MDIO port (R90, R91, R261 to
R268). -/

namespace Sys2Proof.Machine

variable {s : State}

/-! ## The PCIe endpoint (R261 to R263) -/

/-- Vectors that are let go only send messages. -/
theorem Calm.msixFlush (h : Calm s) : Calm (msixFlush s) := by
  unfold Machine.msixFlush
  generalize upto 16 = l
  induction l generalizing s with
  | nil => exact h
  | cons n l ih =>
    rw [List.foldl_cons]
    refine ih ?_
    split
    · exact h.with_msixPend.send
    · exact h

/-- A configuration request works on the endpoint alone. -/
theorem Calm.effConfig (r : CfgReq) (h : Calm s) : Calm (effConfig r s) := by
  cases r with
  | read dw => exact h.send
  | power d3 => exact (h.wr (by decide)).with_mgmt
  | msix enable mask => exact h.with_msixOff.msixFlush
  | command v | bar0 v | deviceControl v => exact h.with_mgmt
  | other a b => exact h

theorem exec_pcieConfigRequest_awake (r : CfgReq) (hu : pcieUp s = true) (hr : s.rd R.PWR_STAT_HOST_RUNG < 2) :
    exec (.pcieConfigRequest r) s = done (effConfig r s) :=
  congrArg done ((if_pos hu).trans (congrArg (effConfig r) (pcieWake_awake hr)))

theorem exec_pcieUnsupportedRequest_awake (hu : pcieUp s = true) (hr : s.rd R.PWR_STAT_HOST_RUNG < 2) :
    exec .pcieUnsupportedRequest s = done (s.send .unsupported) :=
  congrArg done ((if_pos hu).trans (congrArg (State.send · .unsupported) (pcieWake_awake hr)))

theorem Calm.wrAll {l : List Fld} {v : Nat} (hl : ∀ f ∈ l, f.id ∉ calmRegs) (h : Calm s) : Calm (s.wrAll l v) := by
  induction l generalizing s with
  | nil => exact h
  | cons f l ih => exact ih (fun g hg => hl g (.tail _ hg)) (h.wr (hl f (.head _)))

/-- The link trains from BOOT step 4 on, outside a fence. -/
theorem exec_pcieLinkUp_trains {speed : BitVec 4} {width : BitVec 2} (hf : s.isFenced .pcie = false)
    (hb : ¬ (s.mode = 0 ∧ s.boot.step < 4)) : exec (.pcieLinkUp true speed width) s =
      done (((s.wr R.MGMT_PCIE_STAT_LINK_UP 1).wr R.MGMT_PCIE_STAT_SPEED speed.toNat).wr R.MGMT_PCIE_STAT_WIDTH width.toNat) :=
  have hn : ¬ (s.isFenced .pcie = true ∨ (s.mode = 0 ∧ s.boot.step < 4)) := by simp [hf, hb]
  congrArg done (if_neg hn)

/-! ## The end of a recovery load (R268) -/

/-- Programming ends in the recovery stage: the image leaves staging, and its slot takes it or REASON says that it did not. -/
theorem effRecovDone_programmed {ok : Bool} (hr : recovering s = true) (h2 : s.rd R.MGMT_RECOV_STAT_STATE = 2) :
    effRecovDone ok s =
      let t := { s.wr R.MGMT_RECOV_STAT_STATE 3 with mgmt := { s.mgmt with recov := [] } }
      if ok then { t.wr R.MGMT_RECOV_STAT_DONE 1 with
        sec := { s.sec with fw := tset [] s.sec.fw s.mgmt.recSlot (imgCommit s.mgmt.recov commitWord) } }
      else t.wr R.MGMT_RECOV_STAT_REASON 4 :=
  if_neg (by simp [hr, h2])

/-! ## The MDIO port (R90, R265) -/

section
variable {t dev : Nat}

theorem mdioFlush_none (h : s.mgmt.wrHeld = none) : mdioFlush s = s := by
  simp only [mdioFlush, h]

/-- The lower half of the word read ahead is returned, and the upper half held. -/
theorem mdioRead_lower {x : Nat} (hw : s.mgmt.wrHeld = none) (hr : s.mgmt.rdHeld = none) (ha : mmdOf t dev s % 2 = 0)
    (hp : s.mgmt.pre = some { trunk := t, dev := dev, addr := mmdOf t dev s, word := some x }) :
    mdioRead t dev s =
      { s with mgmt := { s.mgmt with rdHeld := some (t, dev, mmdOf t dev s, x / 65536) } }.send (.mdio (x % 65536)) := by
  simp [mdioRead, mdioFlush_none hw, hr, hp, ha]

/-- A lower half is held where none is. -/
theorem mdioWrite_lower {v : Nat} (hw : s.mgmt.wrHeld = none) (ha : mmdOf t dev s % 2 = 0) :
    mdioWrite t dev v s = { s with mgmt := { s.mgmt with rdHeld := none, wrHeld := some (t, dev, mmdOf t dev s, v) } } := by
  unfold mdioWrite
  refine (if_pos ha).trans ?_
  rw [mdioFlush_none (s := { s with mgmt := { s.mgmt with rdHeld := none } }) hw]

/-- The upper half that follows a held lower half writes the whole word. -/
theorem mdioWrite_upper {v b lo : Nat} (ha : mmdOf t dev s = b + 1) (hb : b % 2 = 0) (hw : s.mgmt.wrHeld = some (t, dev, b, lo)) :
    mdioWrite t dev v s = mdioPut t dev (mmdOf t dev s) (v * 65536 + lo)
      { s with mgmt := { s.mgmt with rdHeld := none, wrHeld := none } } := by
  have hodd : ¬ (b + 1) % 2 = 0 := by omega
  simp [mdioWrite, ha, hodd, hw]

end

section
variable {prtad devad : BitVec 5} {t : Nat}

/-- A frame whose address selects a trunk does what it says of that trunk. -/
theorem mdio_served {g : Nat → State} (ht : mdioTrunk prtad.toNat devad.toNat s = some t) :
    done (match mdioTrunk prtad.toNat devad.toNat s with | some t => g t | none => s) = done (g t) := by
  rw [ht]

theorem exec_mdioAddressFrame_trunk {x : BitVec 16} (ht : mdioTrunk prtad.toNat devad.toNat s = some t) :
    exec (.mdioAddressFrame prtad devad x) s = done (mdioSeek t devad.toNat x.toNat s) :=
  mdio_served (g := fun t => mdioSeek t devad.toNat x.toNat s) ht

theorem exec_mdioReadFrame_trunk (ht : mdioTrunk prtad.toNat devad.toNat s = some t) :
    exec (.mdioReadFrame prtad devad) s = done (mdioRead t devad.toNat s) :=
  mdio_served (g := fun t => mdioRead t devad.toNat s) ht

/-- The half is returned, and the read ahead of the next address starts. -/
def mdioReadNext (t dev : Nat) (s : State) : State :=
  mdioSeek t dev (min 65535 (mmdOf t dev (mdioRead t dev s) + 1)) (mdioRead t dev s)

theorem exec_mdioPostReadIncrement_trunk (ht : mdioTrunk prtad.toNat devad.toNat s = some t) :
    exec (.mdioPostReadIncrement prtad devad) s = done (mdioReadNext t devad.toNat s) :=
  mdio_served (g := fun t => mdioReadNext t devad.toNat s) ht

theorem exec_mdioWriteFrame_trunk {v : BitVec 16} (ht : mdioTrunk prtad.toNat devad.toNat s = some t) :
    exec (.mdioWriteFrame prtad devad v) s = done (mdioWrite t devad.toNat v.toNat s) :=
  mdio_served (g := fun t => mdioWrite t devad.toNat v.toNat s) ht

end

/-- The read ahead of `x` holds what a read of its word has yielded. -/
def prefetched (x : Prefetch) (y : Option Nat × State) : State :=
  { y.2 with mgmt := { y.2.mgmt with pre := some { x with word := y.1 } } }

/-- The read ahead of a register in the mirror ends with the word that the fabric answers. -/
theorem exec_mdioPrefetchComplete_mirror {x : Prefetch} (hx : s.mgmt.pre = some x) (hw : x.word = none) (ha : x.addr < 4096) :
    exec .mdioPrefetchComplete s = done (prefetched x (readAt Ext.plain .mdio (mdioAddr x.trunk x.dev x.addr) s)) := by
  have hn : ¬ x.word.isSome = true := by simp [hw]
  show execMdioPrefetchComplete s = _
  unfold execMdioPrefetchComplete
  rw [hx]
  exact congrArg done ((if_neg hn).trans (congrArg (prefetched x) (if_neg (Nat.not_le.2 ha))))

/-- Settles O8: each command of a port is the one effect that its lemma names, and leaves a calm state. -/
theorem managementPorts : Obligations.ManagementPorts := by
  refine ⟨fun s hc => ⟨fun hu hr => ⟨fun r => ?config, ?unsupported⟩, ?perst, fun speed width hf hb => ?linkUp,
      fun speed width => ?linkDown, ?frameError, fun hr h2 => ⟨?programmed, ?failed⟩⟩,
    fun prtad devad t s hc ht => ⟨fun x => ?address, fun x hx hw ha => ?prefetch,
      fun hw => ⟨fun x _ hr ha hp => ⟨?read, ?readNext⟩, fun v ha => ?writeLower⟩, fun v b lo ha hb hw => ?writeUpper⟩⟩
  case config =>
    rw [next_of_done (exec_pcieConfigRequest_awake r hu hr) (hc.effConfig r)]
    cases r <;> rfl
  case unsupported => exact next_of_done (exec_pcieUnsupportedRequest_awake hu hr) hc.send
  case perst => exact next_of_done rfl ((Calm.wrAll (by decide) hc).keep rfl (fun _ _ => rfl) rfl rfl fun _ _ => rfl)
  case linkUp => exact next_of_done (exec_pcieLinkUp_trains hf hb) (((hc.wr (by decide)).wr (by decide)).wr (by decide))
  case linkDown => exact next_of_done rfl (hc.wr (by decide))
  case frameError => exact next_of_done rfl (hc.sat (by decide))
  case programmed =>
    exact next_of_done (congrArg done (effRecovDone_programmed hr h2)) ((hc.wr (by decide)).with_mgmt.wr (by decide)).with_sec
  case failed => exact next_of_done (congrArg done (effRecovDone_programmed hr h2)) ((hc.wr (by decide)).with_mgmt.wr (by decide))
  case address => exact next_of_done (exec_mdioAddressFrame_trunk ht) hc.with_mgmt
  case prefetch => exact exec_mdioPrefetchComplete_mirror hx hw ha
  case read =>
    exact next_of_done ((exec_mdioReadFrame_trunk ht).trans (congrArg done (mdioRead_lower hw hr ha hp))) hc.with_mgmt.send
  case readNext =>
    have hx := exec_mdioPostReadIncrement_trunk ht
    rw [mdioReadNext, mdioRead_lower hw hr ha hp] at hx
    exact next_of_done hx hc.with_mgmt.send.with_mgmt
  case writeLower => exact next_of_done ((exec_mdioWriteFrame_trunk ht).trans (congrArg done (mdioWrite_lower hw ha))) hc.with_mgmt
  case writeUpper => exact (exec_mdioWriteFrame_trunk ht).trans (congrArg done (mdioWrite_upper ha hb hw))

end Sys2Proof.Machine
end

section
/-! PROOFS. An access in flight to a vale ends: with its answer, or with the timeout of the fabric (R80, R88, R233, R236). -/

namespace Sys2Proof.Machine

variable {s : State}

/-! ## Where nothing waits -/

/-- The window shows its requests where none waits for a place in it. -/
theorem hostPump_noneWaiting {v : Nat} (n : Nat) (h : NoneWaiting v s) : hostPump v n s = outShow v s := by
  cases n with
  | zero => rfl
  | succ n =>
    have hf : ((s.pas v).out.find? fun r => r.sends = 0) = none :=
      List.find?_eq_none.2 fun r hr => by simpa using Nat.pos_iff_ne_zero.1 (h r hr)
    simp only [hostPump, hf]

theorem NoneStalled.congr {t : State} (h : NoneStalled s) (e : t.fabric.stalled = s.fabric.stalled) : NoneStalled t := fun p => by
  have := h p
  unfold stalledAt at this ⊢
  rw [e, this]

theorem stallOne_noneStalled (p : Port) (h : NoneStalled s) : stallOne p s = s := by
  simp only [stallOne, h p]

theorem stallPump_noneStalled (n : Nat) (h : NoneStalled s) : stallPump n s = s := by
  induction n with
  | zero => rfl
  | succ n ih => simp only [stallPump, stallOne_noneStalled _ h, ih]

/-! ## The access leaves the flight (R80) -/

section
variable (v : Nat) (l : List ValeAcc)

theorem flightDrop_noneStalled {v : Nat} (x : ValeAcc) (h : NoneStalled s) :
    flightDrop v x s = flightSet v ((inFlight v s).erase x) s :=
  stallPump_noneStalled 32 (h.congr rfl)

@[simp] theorem inFlight_flightSet : inFlight v (flightSet v l s) = l := tget_tset_self _ _ _ _
@[simp] theorem inFlight_vectors : inFlight v (vectors s) = inFlight v s := by simp [inFlight]
@[simp] theorem flightSet_pas (k : Nat) : (flightSet v l s).pas k = s.pas k := rfl

theorem Calm.flightSet {v : Nat} {l : List ValeAcc} (h : Calm s) : Calm (flightSet v l s) := h.with_fabric

theorem offFlight_flightSet : (flightSet v l s).offFlight v = s.offFlight v := by
  simp [State.offFlight, flightSet, State.rest]

end

/-! ## The answer (R80, R236) -/

section
variable {v : Nat} {x : ValeAcc}

/-- A read is answered at its port. -/
def readTold (x : ValeAcc) (data : Nat) (s : State) : State :=
  if x.write.isSome then s else s.send (.answer x.port (x.addr / 4 * 4) data)

theorem readTold_keep (x : ValeAcc) (data : Nat) (s : State) : ∃ o, readTold x data s = { s with out := o } := by
  unfold readTold
  split
  · exact ⟨s.out, rfl⟩
  · exact ⟨_, rfl⟩

theorem readTold_read (h : x.write = none) (data : Nat) : .answer x.port (x.addr / 4 * 4) data ∈ (readTold x data s).out := by
  simp [readTold, h]

section
variable (x : ValeAcc) (data : Nat)
@[simp] theorem readTold_rd (f : Fld) : (readTold x data s).rd f = s.rd f := by
  obtain ⟨o, e⟩ := readTold_keep x data s
  rw [e]; rfl
@[simp] theorem readTold_pas (k : Nat) : (readTold x data s).pas k = s.pas k := by
  obtain ⟨o, e⟩ := readTold_keep x data s
  rw [e]; rfl
@[simp] theorem readTold_fabric : (readTold x data s).fabric = s.fabric := by
  obtain ⟨o, e⟩ := readTold_keep x data s
  rw [e]
theorem readTold_offWatch : (readTold x data s).offWatch = s.offWatch := by
  obtain ⟨o, e⟩ := readTold_keep x data s
  rw [e]; rfl
theorem readTold_offPas (v : Nat) : (readTold x data s).offPas v = s.offPas v := by
  obtain ⟨o, e⟩ := readTold_keep x data s
  rw [e]; rfl
@[simp] theorem readTold_inFlight (k : Nat) : inFlight k (readTold x data s) = inFlight k s := by simp [inFlight]
end

theorem Calm.readTold {data : Nat} (h : Calm s) : Calm (readTold x data s) := by
  obtain ⟨o, e⟩ := readTold_keep x data s
  rw [e]; exact h.with_out

/-- The request of a SEQ is closed: the answer is counted, and the window shows what is left in it. -/
def requestClosed (v seq : Nat) (s : State) : State :=
  outShow v ((hostGot v s).modPass v fun y => { y with out := y.out.filter fun r => r.seq ≠ seq })

theorem hostDrop_noneWaiting {seq : Nat} (h : NoneWaiting v s) : hostDrop v seq (hostGot v s) = requestClosed v seq s := by
  refine hostPump_noneWaiting 16 fun r hr => ?_
  simp only [modPass_pas_self] at hr
  exact h r (List.mem_filter.1 hr).1

section
variable (v : Nat) (seq : Nat)
@[simp] theorem requestClosed_fabric : (requestClosed v seq s).fabric = s.fabric := rfl
@[simp] theorem requestClosed_inFlight (k : Nat) : inFlight k (requestClosed v seq s) = inFlight k s := rfl
@[simp] theorem requestClosed_pas : (requestClosed v seq s).pas v = { s.pas v with out := answered v seq s } := by
  unfold requestClosed outShow
  rw [wr_pas, modPass_pas_self]
  rfl
theorem requestClosed_only : Only (answerFields v) (State.offPas v) s (requestClosed v seq s) :=
  ⟨(kept_modPass _ _ |>.2 (Kept.refl.wr (by simp [answerFields]))).wr (by simp [answerFields]),
    by simp [requestClosed, outShow, hostGot, tallyCnt, State.sat]⟩
theorem Calm.requestClosed {v seq : Nat} (h : Calm s) : Calm (requestClosed v seq s) :=
  ((h.sat (by simp [calmRegs])).modPass rfl).wr (by simp [calmRegs])
end

/-- The answer to the request in flight: the request is closed, a read is told its data, and the access leaves the flight. -/
theorem accReply_inFlight {seq d st : Nat} (hn : NoneWaiting v s) (hs : NoneStalled s) (hx : x ∈ inFlight v s) (hst : st ≠ 4) :
    accReply v seq d st x s = flightSet v ((inFlight v s).erase x) (readTold x d (requestClosed v seq s)) := by
  have hc : (inFlight v s).contains x = true := List.contains_iff_mem.2 hx
  have hd : flightDrop v x (readTold x d (requestClosed v seq s)) =
      flightSet v ((inFlight v s).erase x) (readTold x d (requestClosed v seq s)) := by
    rw [flightDrop_noneStalled x (hs.congr (by simp))]
    simp
  unfold accReply
  rw [hostDrop_noneWaiting hn]
  refine (if_neg (by rw [requestClosed_inFlight, hc]; decide)).trans ?_
  rw [if_neg hst, if_neg hst]
  exact hd

theorem accAnswered_reg {seq d st : Nat} {r : HostReq} (hr : hostFind v seq s = some r) (hb : r.body = .reg x)
    (hc : cacheGet v seq s = some (.reg d st)) : accAnswered v seq x.write.isSome s = accReply v seq d st x s := by
  simp [accAnswered, hr, hc, hb]

theorem exec_regRsp (v : Fin 4) (seq : BitVec 8) (wr : Bool) :
    exec (if wr then .regWrRsp v seq else .regRdRsp v seq) s = done (accAnswered v seq.toNat wr s) := by
  cases wr <;> rfl

theorem answer_only (seq d : Nat) (l : List ValeAcc) :
    Only (answerFields v) (fun y => (y.offPas v).offFlight v) s (flightSet v l (readTold x d (requestClosed v seq s))) where
  regs := fun g hg => (readTold_rd x d g).trans ((requestClosed_only v seq).regs g hg)
  rest := by
    have h1 (y : State) : ((flightSet v l y).offPas v).offFlight v = (y.offPas v).offFlight v :=
      offFlight_flightSet (s := y.offPas v) v l
    rw [h1, readTold_offPas, (requestClosed_only v seq).rest]

/-! ## The timeout (R88) -/

theorem accNote_only (k : Nat) (p : Port) (wr : Bool) (a : Nat) : RegsOnly accFields s (accNote k p wr a s) :=
  ⟨((((Kept.refl.wr (by simp [accFields])).wr (by simp [accFields])).wr (by simp [accFields])).wr (by simp [accFields])).wr
    (by simp [accFields]), rfl⟩

theorem accNote_offWatch (k : Nat) (p : Port) (wr : Bool) (a : Nat) : (accNote k p wr a s).offWatch = s.offWatch := by
  simp [accNote, State.sat, State.wrb]

theorem accNote_kind {k : Nat} (hk : k < 16) (p : Port) (wr : Bool) (a : Nat) :
    (accNote k p wr a s).rd R.GLB_ACC_STAT_KIND = k := by
  have : (s.wr R.GLB_ACC_STAT_KIND k).rd R.GLB_ACC_STAT_KIND = k := (rd_wr_self _ _ _).trans (Nat.mod_eq_of_lt hk)
  simpa [accNote, State.sat, State.wrb, rd_wr_ne] using this

/-- The timeout of an access: its error is on record, GLB_ACC_STAT shows it, and a read is told all ones. -/
def accessLapsed (x : ValeAcc) (s : State) : State :=
  readTold x allOnes (accNote 9 x.port x.write.isSome x.addr (s.record 0 1 0x06 x.addr))

theorem accessLapsed_only (x : ValeAcc) (h : Loggable 0 s) :
    Only (slotFields 0 1 ++ accFields) State.offWatch s (accessLapsed x s) := by
  have hr : Only (slotFields 0 1) State.offWatch s (s.record 0 1 0x06 x.addr) := record_only h (.inl rfl)
  have hn := accNote_only (s := s.record 0 1 0x06 x.addr) 9 x.port x.write.isSome x.addr
  refine ⟨fun g hg => (readTold_rd x _ g).trans ?_, ?_⟩
  · exact ((hr.regs.mono fun _ => List.mem_append_left _).trans (hn.regs.mono fun _ => List.mem_append_right _)) g hg
  · rw [accessLapsed, readTold_offWatch, accNote_offWatch, hr.rest]

theorem accessLapsed_fabric (x : ValeAcc) (h : Loggable 0 s) : (accessLapsed x s).fabric = s.fabric :=
  offWatch_part State.fabric (accessLapsed_only x h).rest

theorem accessLapsed_logged (x : ValeAcc) (h : Loggable 0 s) : Logged 0 1 0x06 s (accessLapsed x s) := by
  have hr : Logged 0 1 0x06 s (s.record 0 1 0x06 x.addr) := record_logged h (.inl rfl) (by decide)
  refine hr.keep (l := accFields) (fun g hg => (readTold_rd x _ g).trans ?_) (by decide)
  exact (accNote_only 9 x.port x.write.isSome x.addr).regs g hg

theorem accessLapsed_kind (x : ValeAcc) : (accessLapsed x s).rd R.GLB_ACC_STAT_KIND = 9 :=
  (readTold_rd x _ _).trans (accNote_kind (by decide) _ _ _)

theorem accTimeout_noneStalled (hs : NoneStalled s) (h : Loggable 0 s) :
    accTimeout v x s = flightSet v ((inFlight v s).erase x) (accessLapsed x s) := by
  have hf := accessLapsed_fabric x h
  have hi : inFlight v (accessLapsed x s) = inFlight v s := congrArg (fun y : Fabric => tget [] y.flight v) hf
  show flightDrop v x (accessLapsed x s) = _
  rw [flightDrop_noneStalled x (hs.congr (congrArg Fabric.stalled hf)), hi]

theorem exec_valeAccessTimeout_oldest {v : Fin 4} {l : List ValeAcc} (hl : inFlight v s = x :: l) :
    exec (.valeAccessTimeout v) s = done (accTimeout v x s) := by
  show execValeAccessTimeout v s = _
  rw [execValeAccessTimeout, hl]

theorem timeout_only (l : List ValeAcc) (h : Loggable 0 s) :
    Only (slotFields 0 1 ++ accFields) (fun y => (y.offWatch).offFlight v) s (flightSet v l (accessLapsed x s)) where
  regs := (accessLapsed_only x h).regs
  rest := by
    have h1 (y : State) : ((flightSet v l y).offWatch).offFlight v = (y.offWatch).offFlight v :=
      offFlight_flightSet (s := y.offWatch) v l
    rw [h1, (accessLapsed_only x h).rest]

end

/-- Settles O33: the answer closes the request and tells a read its data, the timeout is recorded and tells it all ones;
either way the access leaves the flight, and nothing waits for its place. -/
theorem valeAccessesEnd : Obligations.ValeAccessesEnd := by
  refine fun v x s hc hs => ⟨fun seq r d st hr hn hb hg hx hst => ?answered, fun l hl hw => ?timeout⟩
  case answered =>
    have he : exec (if x.write.isSome then .regWrRsp v seq else .regRdRsp v seq) s =
        done (flightSet v ((inFlight v s).erase x) (readTold x d (requestClosed v seq.toNat s))) := by
      rw [exec_regRsp, accAnswered_reg hr hb hg, accReply_inFlight hn hs hx hst]
    have ho := answer_only (s := s) (v := v) (x := x) seq.toNat d ((inFlight v s).erase x)
    exact ⟨_, next_of_done he hc.requestClosed.readTold.flightSet, by simp, by simp,
      fun hw => mem_vectors_out (readTold_read hw d), ho.vectors fun y => congrArg (State.offFlight v) (offPas_vectors y v)⟩
  case timeout =>
    have he := exec_valeAccessTimeout_oldest hl
    rw [accTimeout_noneStalled hs hw, hl, List.erase_cons_head] at he
    have ho := timeout_only (v := v) (x := x) l hw
    have hcalm : Calm (flightSet v l (accessLapsed x s)) :=
      ((accessLapsed_only x hw).calm hc offCalm_offWatch (by simp [slotFields, accFields, calmRegs])).flightSet
    refine ⟨_, next_of_done he hcalm, by simp, fun hr => mem_vectors_out (readTold_read hr allOnes), ?_, ?_,
      ho.vectors fun y => congrArg (State.offFlight v) (offWatch_vectors y)⟩
    · exact ((accessLapsed_logged x hw).keep (l := []) (u := flightSet v l (accessLapsed x s)) (fun _ _ => rfl) (by simp)).vectors
    · rw [vectors_rd]
      exact accessLapsed_kind x

end Sys2Proof.Machine
end

section
/-! PROOFS. A trunk's holds, timers and answers move it on; limits, losses and failures take it to FAIL_HOLD; triggers take
it to RETRAIN. -/

namespace Sys2Proof.Machine

variable {l : List Fld} {t : Nat} {s u w : State} {c : Instr}

/-! ## Entering a state from a state with other fields written -/

/-- The fields that neither the power ladder nor a trunk's twin rests on. -/
def Aside (l : List Fld) : Prop := ∀ f ∈ l, f.id ∉ calmRegs ++
  [(R.TWIN_CFG_FORMED 0).id, (R.TWIN_CFG_MEMBER_A 0).id, (R.TWIN_CFG_MEMBER_B 0).id]

theorem Aside.calmRegs (h : Aside l) : ∀ f ∈ l, f.id ∉ calmRegs := fun f hf hm => h f hf (List.mem_append_left _ hm)

/-- A command that leaves TWIN_CFG as it was leaves a trunk alone that stood alone. -/
theorem TrkOnly.alone (h : TrkOnly l t s u) (hl : Aside l) (ha : Alone t s) : Alone t u :=
  (twinOf_kept h.regs (fun f hf hm => hl f hf (List.mem_append_right _ hm)) t).trans ha

/-- The trunk enters `st` from `w`; beyond the fields of the entry, it shows what `w` shows. -/
theorem enters_from {st : Nat} (hx : exec c s = done (trkEnter t st w)) (hc : Calm s) (ha : Alone t s) (hst : st < 16)
    (hs : TrkOnly l t s w) (hl : Aside l) (hw : trkState t w ≠ 8) :
    ∃ u, Enters c t st l s u ∧ ∀ g, (∀ f ∈ enterFields t, ¬ f.same g) → u.rd g = w.rd g :=
  have hu : trkState t w = 8 → Unheld t w := fun h => absurd h hw
  ⟨_, enters_of hx hc hst hs hl ha hu .refl, fun g hg => (vectors_rd _ g).trans (enter_rd (hs.alone hl ha) hu hg)⟩

/-! ## Holds, timers and answers (R113, R115, R123) -/

/-- A command that is the plain entry of a state. -/
theorem enters_plain {st : Nat} (hx : exec c s = done (trkEnter t st s)) (hc : Calm s) (ha : Alone t s) (hst : st < 16)
    (hn : trkState t s ≠ 8) : ∃ u, Enters c t st [] s u :=
  (enters_from hx hc ha hst .refl (by simp [Aside]) hn).imp fun _ h => h.1

/-- A resume counts a retrain and ends the wake exchange. -/
theorem enters_resume (hx : exec c s = done (trkResume t s)) (hc : Calm s) (ha : Alone t s) (hn : trkState t s ≠ 8) :
    ∃ u, Enters c t 11 [R.TRK_RETRAIN_CNT_COUNT t] s u ∧ (u.trk t).wake = 0 := by
  have hs : trkState t (s.sat (R.TRK_RETRAIN_CNT_COUNT t) 1) = trkState t s := sat_rd_ne s _ _ 1 (by simp)
  refine ⟨_, enters_of (u := s.sat (R.TRK_RETRAIN_CNT_COUNT t) 1) hx hc (by omega) (TrkOnly.refl.wr (by simp))
    (by simp [calmRegs]) ha (fun h => absurd (hs.symm.trans h) hn) TrkOnly.refl.modTrk, ?_⟩
  rw [vectors_trk, trkResume, modTrk_trk_self]

/-- Settles O13: in its state each command is the entry of the next one, plain or as a resume. -/
theorem trunkTimersMoveOn : Obligations.TrunkTimersMoveOn := by
  refine fun t s hc ha => ⟨fun h => ?hold, fun h hw => ?noAnswer, fun h => ?linkUp, fun h2 h4 => ?timer,
    fun h hw => ?join, fun h hw => ?answerEnd⟩
  case hold => exact enters_plain (congrArg done (if_pos h)) hc ha (by omega) (by omega)
  case noAnswer => exact enters_plain (congrArg done (if_pos ⟨h, hw⟩)) hc ha (by omega) (by omega)
  case linkUp => exact enters_plain (congrArg done (if_pos h)) hc ha (by omega) (by omega)
  case timer => exact enters_plain (congrArg done (if_pos ⟨h2, h4⟩)) hc ha (by omega) (by omega)
  case join => exact enters_resume (congrArg done (if_pos ⟨h, hw⟩)) hc ha (by omega)
  case answerEnd => exact enters_resume (congrArg done (if_pos ⟨h, hw⟩)) hc ha (by omega)

/-! ## Failures (R114, R118) -/

/-- The state that a trunk left and the cause are noted. -/
def failNoted (t cause : Nat) (s : State) : State :=
  (s.wr (R.TRK_TRAIN_STAT_FAIL_STATE t) (trkState t s)).wr (R.TRK_TRAIN_STAT_FAIL_CAUSE t) cause

/-- From a training state a failure sets TRAIN_FAIL. -/
theorem trkFail_training {cause : Nat} (h : training (trkState t s) = true) :
    trkFail t cause s = trkEnter t 12 ((failNoted t cause s).evt (R.TRK_LINK_EVT_TRAIN_FAIL t)) :=
  congrArg (trkEnter t 12) (if_pos h)

/-- From any other state it does not. -/
theorem trkFail_other {cause : Nat} (h : training (trkState t s) = false) :
    trkFail t cause s = trkEnter t 12 (failNoted t cause s) :=
  congrArg (trkEnter t 12) (if_neg (by simp [h]))

/-- The fields of a failure: the state left, the cause, and the events. -/
def failFields (t : Nat) (more : List Fld) : List Fld :=
  [R.TRK_TRAIN_STAT_FAIL_STATE t, R.TRK_TRAIN_STAT_FAIL_CAUSE t] ++ more

/-- The outcome of a failure: FAIL_HOLD, with the state left, the cause and the events `more`. -/
def Fails (c : Instr) (t cause : Nat) (more : List Fld) (s : State) : Prop :=
  ∃ u, Enters c t 12 (failFields t more) s u ∧ u.rd (R.TRK_TRAIN_STAT_FAIL_STATE t) = trkState t s ∧
    u.rd (R.TRK_TRAIN_STAT_FAIL_CAUSE t) = cause ∧ ∀ f ∈ more, u.rd f = 1

/-- From a trunk outside DATA, a failure noted in `w` is shown in FAIL_HOLD. -/
theorem fails_from {cause : Nat} {more : List Fld} (hx : exec c s = done (trkEnter t 12 w)) (hc : Calm s) (ha : Alone t s)
    (hn : trkState t s ≠ 8) (hs : TrkOnly (failFields t more) t s w)
    (hm : ∀ f ∈ more, f = R.TRK_LINK_EVT_TRAIN_FAIL t ∨ f = R.TRK_LINK_EVT_RETRAIN_FAIL t)
    (hst : w.rd (R.TRK_TRAIN_STAT_FAIL_STATE t) = trkState t s) (hca : w.rd (R.TRK_TRAIN_STAT_FAIL_CAUSE t) = cause)
    (hev : ∀ f ∈ more, w.rd f = 1) : Fails c t cause more s := by
  have hf : ∀ f ∈ failFields t more, f ∈ [R.TRK_TRAIN_STAT_FAIL_STATE t, R.TRK_TRAIN_STAT_FAIL_CAUSE t,
      R.TRK_LINK_EVT_TRAIN_FAIL t, R.TRK_LINK_EVT_RETRAIN_FAIL t] := fun f hf => by
    rcases List.mem_append.1 hf with h | h
    · exact List.mem_append_left [_, _] h
    · have := hm f h
      simp [this]
  have hk : ∀ f ∈ failFields t more, f.id ≠ (R.TRK_STAT_STATE t).id ∧ (∀ g ∈ enterFields t, ¬ g.same f) ∧
      f.id ∉ calmRegs ++ [(R.TWIN_CFG_FORMED 0).id, (R.TWIN_CFG_MEMBER_A 0).id, (R.TWIN_CFG_MEMBER_B 0).id] := fun f h => by
    have := hf f h
    simp only [List.mem_cons, List.not_mem_nil, or_false] at this
    rcases this with rfl | rfl | rfl | rfl <;> simp [calmRegs, enterFields, upto, Fld.same]
  have hw : trkState t w ≠ 8 := by
    rw [trkState, hs.regs _ fun f h e => (hk f h).1 e.1]
    exact hn
  obtain ⟨u, hu, hr⟩ := enters_from hx hc ha (by omega) hs (fun f h => (hk f h).2.2) hw
  have hr' : ∀ f ∈ failFields t more, u.rd f = w.rd f := fun f h => hr f (hk f h).2.1
  exact ⟨u, hu, (hr' _ (by simp [failFields])).trans hst, (hr' _ (by simp [failFields])).trans hca,
    fun f h => (hr' f (List.mem_append_right _ h)).trans (hev f h)⟩

theorem failNoted_only (cause : Nat) (more : List Fld) : TrkOnly (failFields t more) t s (failNoted t cause s) :=
  (TrkOnly.refl.wr (by simp [failFields])).wr (by simp [failFields])

/-- FAIL_STATE holds every state of R113. -/
theorem failNoted_state (cause : Nat) : (failNoted t cause s).rd (R.TRK_TRAIN_STAT_FAIL_STATE t) = trkState t s := by
  have h : trkState t s < 2 ^ 4 := rd_lt s _
  rw [failNoted, rd_wr_ne _ _ _ _ (by simp), rd_wr_self, Nat.mod_eq_of_lt h]

theorem failNoted_cause {cause : Nat} (h : cause < 16) : (failNoted t cause s).rd (R.TRK_TRAIN_STAT_FAIL_CAUSE t) = cause :=
  (rd_wr_self _ _ cause).trans (Nat.mod_eq_of_lt h)

/-- A failure from a training state. -/
theorem fails_training {cause : Nat} (hx : exec c s = done (trkFail t cause s)) (hc : Calm s) (ha : Alone t s)
    (ht : training (trkState t s) = true) (hn : trkState t s ≠ 8) (hca : cause < 16) :
    Fails c t cause [R.TRK_LINK_EVT_TRAIN_FAIL t] s := by
  rw [trkFail_training ht] at hx
  refine fails_from hx hc ha hn ((failNoted_only cause _).wr (by simp [failFields])) (by simp) ?_ ?_ ?_
  · rw [State.evt, rd_wr_ne _ _ _ _ (by simp), failNoted_state]
  · rw [State.evt, rd_wr_ne _ _ _ _ (by simp), failNoted_cause hca]
  · simp [State.evt]

/-- A failure from AN, which is no training state (log 41). -/
theorem fails_an {cause : Nat} (hx : exec c s = done (trkFail t cause s)) (hc : Calm s) (ha : Alone t s)
    (h : trkState t s = 1) (hca : cause < 16) : Fails c t cause [] s := by
  rw [trkFail_other (by rw [h]; rfl)] at hx
  exact fails_from hx hc ha (by omega) (failNoted_only cause _) (by simp) (failNoted_state cause) (failNoted_cause hca)
    (by simp)

/-- A fast retrain that fails has set RETRAIN_FAIL before. -/
theorem fails_retrain {cause : Nat} (hx : exec c s = done (trkFail t cause (s.evt (R.TRK_LINK_EVT_RETRAIN_FAIL t))))
    (hc : Calm s) (ha : Alone t s) (h : trkState t s = 9) (hca : cause < 16) :
    Fails c t cause [R.TRK_LINK_EVT_RETRAIN_FAIL t] s := by
  have hs : trkState t (s.evt (R.TRK_LINK_EVT_RETRAIN_FAIL t)) = trkState t s := rd_wr_ne s _ _ 1 (by simp)
  rw [trkFail_other (by rw [hs, h]; rfl)] at hx
  refine fails_from hx hc ha (by omega) ((TrkOnly.refl.wr (by simp [failFields])).trans (failNoted_only cause _)) (by simp)
    ((failNoted_state cause).trans hs) (failNoted_cause hca) ?_
  simp [failNoted, State.evt, rd_wr_ne]

/-- Settles O14: each command is the failure with its cause, from a training state, from AN or from RETRAIN. -/
theorem trunkFailuresHold : Obligations.TrunkFailuresHold := by
  have tr : ∀ n, 2 ≤ n ∧ n ≤ 7 ∨ n = 13 → training n = true := fun n h => by
    simpa [training] using h
  refine fun t s hc ha => ⟨fun h5 h7 hw => ?limit, fun h hp => ?anLimit, fun h3 h7 => ?infoLoss, fun h hw => ?retrain,
    fun los h => ?linkFail⟩
  case limit =>
    have hx : exec (.trainingLimitExpiry t) s = done (trkFail t 1 s) := by
      refine congrArg done ?_
      rw [if_neg (by omega), if_neg (by omega), if_pos (.inr ⟨h5, h7, by simp [hw]⟩)]
    exact fails_training hx hc ha (tr _ (by omega)) (by omega) (by omega)
  case anLimit =>
    have hx : exec (.trainingLimitExpiry t) s = done (trkFail t 1 s) := by
      refine congrArg done ?_
      rw [if_neg (by omega), if_neg (by omega), if_pos (.inl ⟨h, hp⟩)]
    exact fails_an hx hc ha h (by omega)
  case infoLoss =>
    have hx : exec (.infofieldLoss t) s = done (trkFail t 4 s) := by
      refine congrArg done ?_
      rw [if_neg (by omega), if_pos (.inl ⟨h3, h7⟩)]
    exact fails_training hx hc ha (tr _ (by omega)) (by omega) (by omega)
  case retrain =>
    have hx : exec (.fastRetrainTimeout t) s = done (trkFail t 7 (s.evt (R.TRK_LINK_EVT_RETRAIN_FAIL t))) := by
      refine congrArg done ?_
      rw [if_neg (by simp [hw]), if_pos h]
    exact fails_retrain hx hc ha h (by omega)
  case linkFail =>
    have hx : exec (.stdLinkFail t los) s = done (trkFail t (if los then 2 else 9) s) := congrArg done (if_pos (.inr h))
    exact fails_training hx hc ha (tr _ (.inr h)) (by omega) (by split <;> omega)

/-! ## Triggers (R116, R117) -/

/-- A trigger is counted and shown. -/
def retrainNoted (t : Nat) (s : State) : State :=
  ((s.modTrk t fun x => { x with triggers := (x.triggers.filter fun a => s.age < a + second) ++ [s.age] }).evt
    (R.TRK_LINK_EVT_RETRAIN_START t)).sat (R.TRK_RETRAIN_CNT_COUNT t) 1

/-- In DATA of a Coupler-Reach mode, with FR_EN set, nothing suspended and fewer than four triggers in the last second, a
trigger ends what runs on the line and enters RETRAIN. -/
theorem trkTrigger_retrains {cause : Nat} (hd : trkState t s = 8) (hr : trkCR t s = true) (hs : trkSuspended t s = false)
    (he : s.bit (R.TRK_RETRAIN_CTL_FR_EN t) = true)
    (hl : ((s.trk t).triggers.filter fun a => s.age < a + second).length < 4) :
    trkTrigger t cause false false s = trkEnter t 9 (actAbort t (retrainNoted t s)) := by
  unfold trkTrigger
  rw [if_neg (by simp [hd, hr, hs]), if_neg (by simp [he])]
  exact if_neg (by omega)

/-- With no quiet window granted and no counters suspended, triggers count (R171). -/
theorem trkSuspended_unheld (hu : Unheld t s) (hs : (s.trk t).qw.suspended = false) : trkSuspended t s = false := by
  simp [trkSuspended, qwOpen, hu.1, hs]

theorem retrainNoted_only :
    TrkOnly [R.TRK_LINK_EVT_RETRAIN_START t, R.TRK_RETRAIN_CNT_COUNT t] t s (retrainNoted t s) :=
  (TrkOnly.refl.modTrk.wr (by simp)).wr (by simp)

theorem retrainNoted_start : (retrainNoted t s).rd (R.TRK_LINK_EVT_RETRAIN_START t) = 1 := by
  rw [retrainNoted, sat_rd_ne _ _ _ _ (by simp), State.evt, rd_wr_self]
  rfl

theorem retrainNoted_count : (retrainNoted t s).rd (R.TRK_RETRAIN_CNT_COUNT t) =
    min (s.rd (R.TRK_RETRAIN_CNT_COUNT t) + 1) 0xFFFFFFFF := by
  rw [retrainNoted, sat_rd, State.evt, rd_wr_ne _ _ _ _ (by simp), modTrk_rd]
  rfl

/-- A noted trigger leaves the line as it was. -/
theorem retrainNoted_idle (hi : Idle t s) : Idle t (retrainNoted t s) := by
  refine ⟨retrainNoted_only.line.trans hi.1, ?_⟩
  rw [itemState, retrainNoted_only.regs _ (by simp [Fld.same])]
  exact hi.2

theorem retrainNoted_unheld (hu : Unheld t s) : Unheld t (retrainNoted t s) := by
  simpa [Unheld, retrainNoted] using hu

/-- Settles O15: each of the four commands is a trigger of its own cause, which retrains (`trkTrigger_retrains`). -/
theorem triggersRetrain : Obligations.TriggersRetrain := by
  intro t s hc ha hu hi hd hr hq he hl c hmem hloss hlow hunc
  have hs := trkSuspended_unheld hu hq
  have hx : ∃ cause, exec c s = done (trkTrigger t cause false false s) := by
    simp only [List.mem_cons, List.not_mem_nil, or_false] at hmem
    rcases hmem with rfl | rfl | rfl | rfl
    · exact ⟨9, congrArg done (if_pos (hloss rfl))⟩
    · exact ⟨9, congrArg done (if_pos (hunc rfl))⟩
    · exact ⟨3, congrArg done (if_pos (hlow rfl))⟩
    · exact ⟨2, rfl⟩
  obtain ⟨cause, hx⟩ := hx
  rw [trkTrigger_retrains hd hr hs he hl] at hx
  obtain ⟨u, hent, hrd⟩ := enters_abort hx hc (by omega) retrainNoted_only (by simp [calmRegs]) ha
    (fun _ => retrainNoted_unheld hu) (retrainNoted_idle hi)
  refine ⟨u, hent, ?_, ?_⟩
  · rw [hrd _ (by simp [enterFields, upto, Fld.same]), retrainNoted_start]
  · rw [hrd _ (by simp [enterFields, upto, Fld.same]), retrainNoted_count]

end Sys2Proof.Machine
end

section
/-! PROOFS. The exchanges of a trunk with its peer: pages, alignment, SLEEP, low-power idle and wake tones. -/

namespace Sys2Proof.Machine

variable {l : List Fld} {t : Nat} {s u w : State} {c : Instr}

/-- A command of a trunk alone, from a calm state. -/
theorem trk_next (hx : exec c s = done w) (hc : Calm s) (h : TrkOnly l t s w) (hl : ∀ f ∈ l, f.id ∉ calmRegs) :
    exec c s = .next (vectors w) := next_of_done hx (h.calm hc hl)

/-! ## SLEEP (R103, R122) -/

/-- Outside a twin the trunk alone enters SLEEP. -/
theorem sleepArm_alone (ha : Alone t s) : sleepArm t s = s.modTrk t fun x => { x with sleepNext := true } := by
  have h : twinOf t s = none := ha
  simp [sleepArm, sleepers, h]

/-- Outside a twin nothing else has to rest. -/
theorem twinRested_alone (ha : Alone t s) : twinRested t s = true := by
  have h : twinOf t s = none := ha
  simp [twinRested, h]

/-- With no rung asked for, a refused sleep only ends the exchange and sets SLEEP_NAK. -/
theorem sleepRefused_unasked (h : (s.trk t).rungAsk = none) : sleepRefused t s =
    (s.modTrk t fun x => { x with sleepSeq := none, lch := none, rungAsk := none }).evt (R.TRK_LINK_EVT_SLEEP_NAK t) :=
  if_neg (by simp [h])

/-- The power client, the Miller and the quiet windows let a trunk sleep. -/
def maySleep (t : Nat) (s : State) : Bool :=
  decide (2 ≤ s.rd (R.PWR_LOWEST_LOWEST (2 + t))) && !millHolds t s && (s.trk t).qw.grant.isNone

theorem maySleep_iff : maySleep t s = true ↔
    2 ≤ s.rd (R.PWR_LOWEST_LOWEST (2 + t)) ∧ millHolds t s = false ∧ (s.trk t).qw.grant = none := by
  simp [maySleep, and_assoc]

/-- SLEEP_REQ answered: the reply is queued and remembered, and a granted sleep starts at the next AM. -/
def sleepAnswered (t seq : Nat) (ok : Bool) (s : State) : State :=
  s.modTrk t fun x => { x with
    sleepNext := ok || x.sleepNext,
    lchOut := x.lchOut ++ [(if ok then 3 else 4) * 2 ^ 56 + seq % 256 * 2 ^ 48],
    lchDone := some (2, seq, b2n ok) }

/-- The first SLEEP_REQ to a trunk outside a twin is answered by its client, the Miller and its quiet windows. -/
theorem effSleepReq_first {seq : Nat} (hd : trkState t s = 8) (hr : trkCR t s = true) (ha : Alone t s)
    (hl : (s.trk t).lchDone = none) : effSleepReq t seq s = sleepAnswered t seq (maySleep t s) s := by
  have hm : (decide (2 ≤ s.rd (R.PWR_LOWEST_LOWEST (2 + t))) && !millHolds t s && (s.trk t).qw.grant.isNone &&
      twinRested t s) = maySleep t s := by rw [twinRested_alone ha, Bool.and_true, maySleep]
  unfold effSleepReq
  rw [if_neg (by simp [hd, hr])]
  simp only [hl, hm]
  cases maySleep t s with
  | true => simp [sleepArm_alone ha, lchSend, modTrk_modTrk, sleepAnswered]
  | false => simp [lchSend, modTrk_modTrk, sleepAnswered]

theorem sleepAnswered_only (seq : Nat) (ok : Bool) : TrkOnly [] t s (sleepAnswered t seq ok s) := TrkOnly.refl.modTrk

/-- SLEEP_ACK of the exchange in progress. -/
theorem exec_sleepAck_own {t : Fin 8} {seq : BitVec 8} (ha : Alone t s) (hq : (s.trk t).sleepSeq = some seq.toNat) :
    exec (.sleepAck t seq) s =
      done (s.modTrk t fun x => { x with sleepSeq := none, lch := none, sleepNext := true }) := by
  have h1 : Alone t (s.modTrk t fun x => { x with sleepSeq := none, lch := none }) := ha
  refine (congrArg done (if_pos hq)).trans ?_
  rw [sleepArm_alone h1, modTrk_modTrk]

/-- SLEEP_NAK of the exchange in progress. -/
theorem exec_sleepNak_own {t : Fin 8} {seq : BitVec 8} (hq : (s.trk t).sleepSeq = some seq.toNat)
    (hr : (s.trk t).rungAsk = none) : exec (.sleepNak t seq) s =
      done ((s.modTrk t fun x => { x with sleepSeq := none, lch := none, rungAsk := none }).evt
        (R.TRK_LINK_EVT_SLEEP_NAK t)) :=
  (congrArg done (if_pos hq)).trans (congrArg done (sleepRefused_unasked hr))

/-- A SLEEP request that eight AMs have carried in vain is refused. -/
theorem exec_linkChannelTimeout_sleep {t : Fin 8} {r : LchReq} (hl : (s.trk t).lch = some r) (h0 : r.left = 0)
    (h2 : r.type = 2) (hr : (s.trk t).rungAsk = none) : exec (.linkChannelTimeout t) s =
      done (((s.evt (R.TRK_LINK_EVT_LCH_TIMEOUT t)).modTrk t
        fun x => { x with sleepSeq := none, lch := none, rungAsk := none }).evt (R.TRK_LINK_EVT_SLEEP_NAK t)) := by
  have hr' : ((s.evt (R.TRK_LINK_EVT_LCH_TIMEOUT t)).trk t).rungAsk = none := hr
  rw [← sleepRefused_unasked hr']
  show execLinkChannelTimeout t s = _
  simp only [execLinkChannelTimeout, hl, h0, h2, if_true]

theorem sleepAck_ends {t : Fin 8} {seq : BitVec 8} (hc : Calm s) (ha : Alone t s)
    (hq : (s.trk t).sleepSeq = some seq.toNat) : ∃ u, exec (.sleepAck t seq) s = .next u ∧ (u.trk t).sleepNext = true ∧
      (u.trk t).sleepSeq = none ∧ (u.trk t).lch = none ∧ TrkOnly [] t s u := by
  have h : TrkOnly [] t.val s (s.modTrk t fun x => { x with sleepSeq := none, lch := none, sleepNext := true }) :=
    TrkOnly.refl.modTrk
  exact ⟨_, trk_next (exec_sleepAck_own ha hq) hc h (by simp), by simp, by simp, by simp, h.vectors⟩

theorem sleepNak_ends {t : Fin 8} {seq : BitVec 8} (hc : Calm s) (hq : (s.trk t).sleepSeq = some seq.toNat)
    (hr : (s.trk t).rungAsk = none) : ∃ u, exec (.sleepNak t seq) s = .next u ∧
      u.rd (R.TRK_LINK_EVT_SLEEP_NAK t) = 1 ∧ (u.trk t).sleepSeq = none ∧ (u.trk t).lch = none ∧
      TrkOnly [R.TRK_LINK_EVT_SLEEP_NAK t] t s u := by
  have h : TrkOnly [R.TRK_LINK_EVT_SLEEP_NAK t] t.val s ((s.modTrk t fun x =>
      { x with sleepSeq := none, lch := none, rungAsk := none }).evt (R.TRK_LINK_EVT_SLEEP_NAK t)) :=
    TrkOnly.refl.modTrk.wr (by simp)
  exact ⟨_, trk_next (exec_sleepNak_own hq hr) hc h (by simp [calmRegs]), by simp [State.evt], by simp, by simp, h.vectors⟩

theorem sleepReq_answers {t : Fin 8} {seq : BitVec 8} (hc : Calm s) (hd : trkState t s = 8) (hr : trkCR t s = true)
    (ha : Alone t s) (hl : (s.trk t).lchDone = none) : ∃ u, exec (.sleepReq t seq) s = .next u ∧ TrkOnly [] t s u ∧
      (u.trk t).lchOut = (s.trk t).lchOut ++ [(if maySleep t s then 3 else 4) * 2 ^ 56 + seq.toNat * 2 ^ 48] ∧
      (u.trk t).sleepNext = (if maySleep t s then true else (s.trk t).sleepNext) := by
  have h := sleepAnswered_only (t := t) (s := s) seq.toNat (maySleep t s)
  have hs : seq.toNat % 256 = seq.toNat := Nat.mod_eq_of_lt seq.isLt
  have hx : exec (.sleepReq t seq) s = done (effSleepReq t seq.toNat s) := rfl
  refine ⟨_, trk_next (hx.trans (congrArg done (effSleepReq_first hd hr ha hl))) hc h (by simp), h.vectors, ?_, ?_⟩
  · simp [sleepAnswered, hs]
  · cases maySleep t s <;> simp [sleepAnswered]

theorem linkChannelTimeout_sleep {t : Fin 8} {r : LchReq} (hc : Calm s) (hl : (s.trk t).lch = some r) (h0 : r.left = 0)
    (h2 : r.type = 2) (hr : (s.trk t).rungAsk = none) : ∃ u, exec (.linkChannelTimeout t) s = .next u ∧
      u.rd (R.TRK_LINK_EVT_LCH_TIMEOUT t) = 1 ∧ u.rd (R.TRK_LINK_EVT_SLEEP_NAK t) = 1 ∧ (u.trk t).lch = none ∧
      TrkOnly [R.TRK_LINK_EVT_LCH_TIMEOUT t, R.TRK_LINK_EVT_SLEEP_NAK t] t s u := by
  have h : TrkOnly [R.TRK_LINK_EVT_LCH_TIMEOUT t, R.TRK_LINK_EVT_SLEEP_NAK t] t.val s
      (((s.evt (R.TRK_LINK_EVT_LCH_TIMEOUT t)).modTrk t
        fun x => { x with sleepSeq := none, lch := none, rungAsk := none }).evt (R.TRK_LINK_EVT_SLEEP_NAK t)) :=
    (TrkOnly.wr .refl (by simp)).modTrk.wr (by simp)
  exact ⟨_, trk_next (exec_linkChannelTimeout_sleep hl h0 h2 hr) hc h (by simp [calmRegs]),
    by simp [State.evt, rd_wr_ne], by simp [State.evt], by simp, h.vectors⟩

/-! ## Pages and alignment (R106, R155) -/

theorem anPageReceive_notes {t : Fin 8} (hc : Calm s) (h1 : trkState t s = 1) :
    ∃ u, exec (.anPageReceive t) s = .next u ∧ u.trk t = { s.trk t with anPeer := true } ∧ TrkOnly [] t s u := by
  have h : TrkOnly [] t.val s (s.modTrk t fun x => { x with anPeer := true }) := TrkOnly.refl.modTrk
  exact ⟨_, trk_next (congrArg done (if_pos h1)) hc h (by simp), by simp, h.vectors⟩

/-- Outside FULL_PAM4 a member that waits for the grid starts its last phase. -/
theorem twinCountdownAlign_counts {t : Fin 8} (hc : Calm s) (h6 : trkState t s ≠ 6) (hw : (s.trk t).alignWait = true) :
    ∃ u, exec (.twinCountdownAlign t) s = .next u ∧ (u.trk t).phase = 2 ∧ (u.trk t).cdTx = 255 ∧
      (u.trk t).alignWait = false ∧ TrkOnly [] t s u := by
  have hx : exec (.twinCountdownAlign t) s = done (s.modTrk t fun x =>
      { x with alignWait := false, phase := 2, cdTx := 255, cdSent := false, cdGot := false }) := by
    refine congrArg done ?_
    rw [if_neg (by simp [hw]), if_neg h6]
  have h : TrkOnly [] t.val s (s.modTrk t fun x =>
      { x with alignWait := false, phase := 2, cdTx := 255, cdSent := false, cdGot := false }) := TrkOnly.refl.modTrk
  exact ⟨_, trk_next hx hc h (by simp), by simp, by simp, by simp, h.vectors⟩

/-! ## Low-power idle (R120) -/

theorem lpiIdleExpiry_shows {t : Fin 8} (hc : Calm s) (hd : trkState t s = 8) (he : eeeInUse t s = true)
    (hb : (s.trk t).bank4 = []) : ∃ u, exec (.lpiIdleExpiry t) s = .next u ∧ u.rd (R.TRK_STAT_LPI_TX t) = 1 ∧
      RegsOnly [R.TRK_STAT_LPI_TX t] s u := by
  have h : RegsOnly [R.TRK_STAT_LPI_TX t] s (s.wr (R.TRK_STAT_LPI_TX t) 1) := ⟨Kept.refl.wr (by simp), rfl⟩
  exact ⟨_, only_next hc (congrArg done (if_pos (by simp [hd, he, hb]))) h offCalm_rest (by simp [calmRegs]), by simp,
    h.vectors vectors_rest⟩

/-- The end of a quiet interval of the trunk's own low-power idle. -/
theorem lpiQuietExpiry_refreshes {t : Fin 8} (hc : Calm s) (hd : trkState t s = 8) (hr : trkCR t s = true)
    (hl : s.bit (R.TRK_STAT_LPI_TX t) = true) : ∃ u, exec (.lpiQuietExpiry t) s = .next u ∧ .trkRefresh t ∈ u.out ∧
      u.trk t = { s.trk t with refreshLeft := 16 } ∧ TrkOnly [] t s u := by
  have hx : exec (.lpiQuietExpiry t) s = done ((s.send (.trkRefresh t)).modTrk t fun x => { x with refreshLeft := 16 }) := by
    refine congrArg done ?_
    rw [if_pos (by simp [hd, hr, hl])]
    simp only [hl, if_true]
  have h : TrkOnly [] t.val s ((s.send (.trkRefresh t)).modTrk t fun x => { x with refreshLeft := 16 }) :=
    TrkOnly.refl.send.modTrk
  exact ⟨_, trk_next hx hc h (by simp), mem_vectors_out (.head _), by simp, h.vectors⟩

/-! ## Wake tones (R123) -/

theorem wakeToneBurst_sends {t : Fin 8} (hc : Calm s) (hd : trkState t s = 10) (hw : (s.trk t).wake = 1) :
    ∃ u, exec (.wakeToneBurst t) s = .next u ∧ .trkTone t ∈ u.out ∧ RegsOnly [] s u := by
  have h : RegsOnly [] s (s.send (.trkTone t)) := ⟨.refl, rfl⟩
  exact ⟨_, only_next hc (congrArg done (if_pos ⟨hd, hw⟩)) h offCalm_rest (by simp), mem_vectors_out (.head _),
    h.vectors vectors_rest⟩

theorem wakeToneDetect_initiator {t : Fin 8} (hc : Calm s) (hd : trkState t s = 10) (hw : (s.trk t).wake = 1) :
    ∃ u, exec (.wakeToneDetect t) s = .next u ∧ u.trk t = { s.trk t with wake := 2 } ∧ TrkOnly [] t s u := by
  have h : TrkOnly [] t.val s (s.modTrk t fun x => { x with wake := 2 }) := TrkOnly.refl.modTrk
  exact ⟨_, trk_next (congrArg done (if_pos ⟨hd, hw⟩)) hc h (by simp), by simp, h.vectors⟩

/-- Settles O16: one lemma for each command; the answer to SLEEP_REQ is `maySleep`, read by `maySleep_iff`. -/
theorem trunkExchanges : Obligations.TrunkExchanges := by
  refine ⟨fun t s hc => ⟨anPageReceive_notes hc, twinCountdownAlign_counts hc, fun seq => sleepAck_ends hc,
      fun seq => sleepNak_ends hc, fun seq hd hr ha hl => ?request, fun r => linkChannelTimeout_sleep hc⟩,
    fun t s hc => ⟨lpiIdleExpiry_shows hc, lpiQuietExpiry_refreshes hc, wakeToneBurst_sends hc,
      wakeToneDetect_initiator hc⟩⟩
  simpa only [maySleep_iff] using sleepReq_answers (seq := seq) hc hd hr ha hl

end Sys2Proof.Machine
end

section
/-! PROOFS. Auto-negotiation resolves a mode and goes on, or fails (R106 to R108, R113). -/

namespace Sys2Proof.Machine

variable {l : List Fld} {t : Nat} {r : AnResult} {s u w : State} {c : Instr}

/-! ## What was exchanged is recorded -/

theorem anRecord_only : TrkOnly (anTold t) t s (anRecord t r s) := by
  unfold anRecord anTold
  exact ((((((TrkOnly.refl.wr (by simp)).wr (by simp)).wr (by simp)).wr (by simp)).wr (by simp)).wr (by simp)).wr (by simp)

theorem anTold_aside : Aside (anTold t) := by simp [Aside, anTold, calmRegs]

theorem anRecord_state : trkState t (anRecord t r s) = trkState t s :=
  anRecord_only.regs _ (by simp [anTold, Fld.same])

theorem anRecord_done : (anRecord t r s).rd (R.TRK_AN_STAT_DONE t) = 1 := by
  simp [anRecord, State.wrb, rd_wr_ne]

/-- The modes of a peer are six bits. -/
theorem peerModes_lt : peerModes r < 2 ^ 6 := by
  have h : ∀ b, b2n b ≤ 1 := fun b => by cases b <;> simp [b2n]
  have h4 := h (tbit (peerCrWord r) 26)
  have h5 := h (tbit (peerCrWord r) 27)
  unfold peerModes
  omega

theorem anRecord_peerModes : (anRecord t r s).rd (R.TRK_AN_STAT_LP_MODES t) = peerModes r := by
  have h : (anRecord t r s).rd (R.TRK_AN_STAT_LP_MODES t) = peerModes r % 2 ^ 6 := by
    simp [anRecord, State.wrb, rd_wr_ne]
  rw [h, Nat.mod_eq_of_lt peerModes_lt]

/-! ## What was resolved is recorded -/

/-- The fields that show what AN resolved. -/
def anShown (t : Nat) : List Fld :=
  [R.TRK_STAT_RESOLVED t, R.TRK_STAT_VALID t, R.TRK_STAT_MASTER t, R.TRK_SNR_REF_QDB t]

theorem anResolve_only (m : Nat) : TrkOnly (anShown t) t s (anResolve t r m s) := by
  unfold anResolve anShown
  exact (((TrkOnly.refl.wr (by simp)).wr (by simp)).wr (by simp)).wr (by simp)

/-- AN records what it exchanged and what it resolved, and nothing else. -/
theorem anSettled_only (m : Nat) : TrkOnly (anTold t ++ anShown t) t s (anResolve t r m (anRecord t r s)) :=
  (anRecord_only.mono fun _ hf => List.mem_append_left _ hf).trans
    ((anResolve_only m).mono fun _ hf => List.mem_append_right _ hf)

theorem anSettled_aside : Aside (anTold t ++ anShown t) := by simp [Aside, anTold, anShown, calmRegs]

/-- The modes of R95 are 0 to 5. -/
theorem bestMode_le {n m : Nat} (h : bestMode n = some m) : m ≤ 5 := by
  have hm : m ∈ [5, 3, 4, 2, 1, 0] := List.mem_of_find?_eq_some h
  simp only [List.mem_cons, List.not_mem_nil, or_false] at hm
  omega

theorem anResolve_resolved {m : Nat} (h : m ≤ 5) : (anResolve t r m s).rd (R.TRK_STAT_RESOLVED t) = m := by
  have h8 : m % 2 ^ 3 = m := Nat.mod_eq_of_lt (by omega)
  simpa [anResolve, State.wrb, rd_wr_ne] using h8

theorem anResolve_valid (m : Nat) : (anResolve t r m s).rd (R.TRK_STAT_VALID t) = 1 := by
  simp [anResolve, State.wrb, rd_wr_ne]

/-- The role rests on MS_CFG and on what was exchanged. -/
theorem anMaster_congr (h : u.rd (R.TRK_CTL_MS_CFG t) = s.rd (R.TRK_CTL_MS_CFG t)) : anMaster t r u = anMaster t r s := by
  simp only [anMaster, h]

theorem anResolve_master (m : Nat) : (anResolve t r m s).rd (R.TRK_STAT_MASTER t) = b2n (anMaster t r s) := by
  have hb : ∀ b, b2n b % 2 ^ 1 = b2n b := fun b => by cases b <;> rfl
  unfold anResolve
  rw [rd_wr_ne _ _ _ _ (by simp), State.wrb, rd_wr_self, hb, anMaster_congr (s := s) (by simp [rd_wr_ne])]

/-! ## The ends of AN -/

/-- AN with a common mode and no conflict of roles goes on to the training of that mode. -/
theorem effAnComplete_resolved {m : Nat} (h1 : trkState t s = 1) (ha : Alone t s) (hf : r.msFault = false)
    (hm : bestMode (bothModes t r s) = some m) :
    effAnComplete t r s = trkEnter t (if 4 ≤ m then 2 else 13) (anResolve t r m (anRecord t r s)) := by
  have ht : twinOf t (anRecord t r s) = none := anRecord_only.alone anTold_aside ha
  unfold effAnComplete
  rw [if_neg (by simp [h1])]
  simp [hf, hm, ht]

/-- AN with a conflict of roles or no common mode fails. -/
theorem effAnComplete_failed (h1 : trkState t s = 1) (ha : Alone t s)
    (hf : r.msFault = true ∨ bestMode (bothModes t r s) = none) :
    effAnComplete t r s = trkFail t 5 (anRecord t r s) := by
  have ht : twinOf t (anRecord t r s) = none := anRecord_only.alone anTold_aside ha
  have hb : (if r.msFault then none else bestMode (bothModes t r s)) = none := by
    rcases hf with h | h <;> simp [h]
  unfold effAnComplete
  rw [if_neg (by simp [h1])]
  simp [hb, anTwinCause, ht]

/-- From AN to SURVEY_QUIET or STD_TRAIN a trunk outside a twin shows only the state anew. -/
theorem trkEnter_training_rd {st : Nat} {g : Fld} (h1 : trkState t s = 1) (ha : Alone t s) (hst : st = 2 ∨ st = 13)
    (hs : g.id ≠ (R.TRK_STAT_STATE t).id) (hl : g.id ≠ (R.TRK_STAT_LINK_UP t).id) :
    (trkEnter t st s).rd g = s.rd g := by
  have hlv : trkLeave t st 1 s = s := by rcases hst with rfl | rfl <;> simp [trkLeave, upState]
  have ha' : Alone t ((s.wr (R.TRK_STAT_STATE t) st).wrb (R.TRK_STAT_LINK_UP t) (st = 8)) := by
    unfold Alone State.wrb
    rw [twinOf_wr (by simp), twinOf_wr (by simp)]
    exact ha
  have har : ∀ w, (trkArrive t st 1 w).rd g = w.rd g := fun w => by
    rcases hst with rfl | rfl <;> simp [trkArrive]
  unfold trkEnter
  simp only [h1, hlv, memFollow_alone ha', har]
  rw [State.wrb, rd_wr_ne _ _ _ _ fun e => absurd e.symm hl, rd_wr_ne _ _ _ _ fun e => absurd e.symm hs]

/-- A resolved AN shows what was exchanged and what was resolved, and enters the training of the mode. -/
theorem anComplete_resolves {t : Fin 8} {m : Nat} (hc : Calm s) (ha : Alone t s) (h1 : trkState t s = 1)
    (hf : r.msFault = false) (hm : bestMode (bothModes t r s) = some m) :
    ∃ u, Enters (.anComplete t r) t (if 4 ≤ m then 2 else 13) (anTold t ++ anShown t) s u ∧
      u.rd (R.TRK_STAT_RESOLVED t) = m ∧ u.rd (R.TRK_STAT_VALID t) = 1 ∧
      u.rd (R.TRK_STAT_MASTER t) = b2n (anMaster t r s) ∧ u.rd (R.TRK_AN_STAT_LP_MODES t) = peerModes r ∧
      u.rd (R.TRK_AN_STAT_DONE t) = 1 := by
  have hx : exec (.anComplete t r) s = done (effAnComplete t r s) := rfl
  rw [effAnComplete_resolved h1 ha hf hm] at hx
  have hst : (if 4 ≤ m then 2 else 13) = 2 ∨ (if 4 ≤ m then 2 else 13) = 13 := by split <;> simp
  generalize (if 4 ≤ m then 2 else 13) = st at hx hst ⊢
  have hres := anResolve_only (t := t) (r := r) (s := anRecord t r s) m
  have hall := anSettled_only (t := t) (r := r) (s := s) m
  have hw1 : trkState t (anResolve t r m (anRecord t r s)) = 1 :=
    (hres.regs _ (by simp [anShown, Fld.same])).trans (anRecord_state.trans h1)
  have hrd : ∀ g : Fld, g.id ≠ (R.TRK_STAT_STATE t).id → g.id ≠ (R.TRK_STAT_LINK_UP t).id →
      (vectors (trkEnter t st (anResolve t r m (anRecord t r s)))).rd g = (anResolve t r m (anRecord t r s)).rd g :=
    fun g hs hl => (vectors_rd _ g).trans (trkEnter_training_rd hw1 (hall.alone anSettled_aside ha) hst hs hl)
  refine ⟨_, enters_of hx hc (by omega) hall anSettled_aside ha (fun h => by omega) .refl, ?_, ?_, ?_, ?_, ?_⟩
  · rw [hrd _ (by simp) (by simp), anResolve_resolved (bestMode_le hm)]
  · rw [hrd _ (by simp) (by simp), anResolve_valid]
  · rw [hrd _ (by simp) (by simp), anResolve_master,
      anMaster_congr (anRecord_only.regs _ (by simp [anTold, Fld.same]))]
  · rw [hrd _ (by simp) (by simp), hres.regs _ (by simp [anShown, Fld.same]), anRecord_peerModes]
  · rw [hrd _ (by simp) (by simp), hres.regs _ (by simp [anShown, Fld.same]), anRecord_done]

/-- An AN that fails records what was exchanged and holds with cause 5. -/
theorem anComplete_fails {t : Fin 8} (hc : Calm s) (ha : Alone t s) (h1 : trkState t s = 1)
    (hf : r.msFault = true ∨ bestMode (bothModes t r s) = none) :
    ∃ u, Enters (.anComplete t r) t 12 (anTold t ++ [R.TRK_TRAIN_STAT_FAIL_STATE t, R.TRK_TRAIN_STAT_FAIL_CAUSE t]) s u ∧
      u.rd (R.TRK_TRAIN_STAT_FAIL_CAUSE t) = 5 := by
  have hx : exec (.anComplete t r) s = done (effAnComplete t r s) := rfl
  have hr1 : trkState t (anRecord t r s) = 1 := anRecord_state.trans h1
  rw [effAnComplete_failed h1 ha hf, trkFail_other (by rw [hr1]; rfl)] at hx
  have hn : Aside [R.TRK_TRAIN_STAT_FAIL_STATE t, R.TRK_TRAIN_STAT_FAIL_CAUSE t] := by simp [Aside, calmRegs]
  have hos : TrkOnly (anTold t ++ [R.TRK_TRAIN_STAT_FAIL_STATE t, R.TRK_TRAIN_STAT_FAIL_CAUSE t]) t s
      (failNoted t 5 (anRecord t r s)) :=
    (anRecord_only.mono fun f hf => List.mem_append_left _ hf).trans
      ((failNoted_only 5 []).mono fun f hf => List.mem_append_right _ (by simpa [failFields] using hf))
  have hw1 : trkState t (failNoted t 5 (anRecord t r s)) = 1 :=
    ((failNoted_only 5 []).regs _ (by simp [failFields, Fld.same])).trans hr1
  obtain ⟨u, hu, hr⟩ := enters_from hx hc ha (by omega) hos
    (fun f hf => (List.mem_append.1 hf).elim (anTold_aside f) (hn f)) (by omega)
  exact ⟨u, hu, (hr _ (by simp [enterFields, upto, Fld.same])).trans (failNoted_cause (by omega))⟩

/-- Settles O17: the two ends of AN. -/
theorem anResolves : Obligations.AnResolves :=
  fun _ _ _ hc ha h1 => ⟨fun _ hf hm => anComplete_resolves hc ha h1 hf hm, anComplete_fails hc ha h1⟩

end Sys2Proof.Machine
end

section
/-! PROOFS. What a trunk receives in DATA: codewords with their frames, and the frames of a standard mode. -/

namespace Sys2Proof.Machine

variable {l : List Fld} {t : Nat} {s u w : State} {c : CwStatus}

/-! ## Frames join a receive bank -/

/-- The state with other receive banks. -/
def State.withBanks (b : Tbl (List RxFrame)) (s : State) : State := { s with rxBank := b }

/-- The frames `l` join receive bank `i`, and nothing else happens. -/
structure Banked (i : Nat) (l : List RxFrame) (s u : State) : Prop where
  bank : tget [] u.rxBank i = tget [] s.rxBank i ++ l
  others : ∀ k, k ≠ i → tget [] u.rxBank k = tget [] s.rxBank k
  rest : ∀ b, u.withBanks b = s.withBanks b

theorem Banked.refl {i : Nat} : Banked i [] s s := ⟨(List.append_nil _).symm, fun _ _ => rfl, fun _ => rfl⟩

theorem Banked.trans {i : Nat} {a b : List RxFrame} (h : Banked i a s u) (k : Banked i b u w) : Banked i (a ++ b) s w :=
  ⟨by rw [k.bank, h.bank, List.append_assoc], fun n hn => (k.others n hn).trans (h.others n hn),
    fun x => (k.rest x).trans (h.rest x)⟩

theorem bankPut_banked (i : Nat) (f : RxFrame) : Banked i [f] s (s.bankPut i f) :=
  ⟨bankPut_bank s i f, fun _ hk => tget_tset_ne _ _ _ (Ne.symm hk), fun _ => rfl⟩

/-- What is read without the receive banks stands as it was. -/
theorem Banked.part {i : Nat} {a : List RxFrame} (h : Banked i a s u) {α : Type} (g : State → α)
    (hg : ∀ x, g (x.withBanks []) = g x) : g u = g s := by
  rw [← hg u, h.rest, hg]

/-- With three lanes in use toward the host die no bank is full. -/
theorem rxPush_banked {v bank : Nat} {f : RxFrame} (h : laneCount (s.pas v).upUse = 3) :
    Banked (8 * v + bank) [f] s (s.rxPush v bank f) := by
  have e : s.rxPush v bank f = s.bankPut (8 * v + bank) f := if_neg (by omega)
  rw [e]
  exact bankPut_banked _ f

/-- Outside a twin the frames of a trunk join its bank in order. -/
theorem framesIn_banked {frames : List LineFrame} (ha : Alone t s) (hu : laneCount (s.pas (t / 2)).upUse = 3) :
    Banked (8 * (t / 2) + t % 2) (frames.map (trkRx t)) s (framesIn t frames s) := by
  have ht : twinOf t s = none := ha
  unfold framesIn
  rw [if_neg (by simp [ht])]
  clear ha ht
  induction frames generalizing s with
  | nil => exact .refl
  | cons f frames ih =>
    have h1 : Banked (8 * (t / 2) + t % 2) [trkRx t f] s (s.rxPush (t / 2) (t % 2) (trkRx t f)) := rxPush_banked hu
    have hp : (s.rxPush (t / 2) (t % 2) (trkRx t f)).pas (t / 2) = s.pas (t / 2) :=
      h1.part (·.pas (t / 2)) fun _ => rfl
    exact h1.trans (ih (by rw [hp]; exact hu))

/-- An uncorrectable codeword hands no frame to the bank. -/
theorem codewordFrames_banked {frames : List LineFrame} (ha : Alone t s) (hu : laneCount (s.pas (t / 2)).upUse = 3) :
    Banked (8 * (t / 2) + t % 2) (codewordRx t frames c) s (codewordFrames t c frames s) := by
  cases c with
  | corrected n => exact framesIn_banked ha hu
  | uncorrectable => exact .refl

/-! ## A trunk's command and its receive bank -/

theorem TrkOnly.withBanks (h : TrkOnly l t s u) (b : Tbl (List RxFrame)) : TrkOnly l t (s.withBanks b) (u.withBanks b) :=
  ⟨h.regs, h.others, h.line, congrArg (State.withBanks b) h.rest⟩

/-- What is read without the trunks' own part stands as it was. -/
theorem TrkOnly.part (h : TrkOnly l t s u) {α : Type} (g : State → α) (hg : ∀ x, g x.offTrunk = g x) : g u = g s := by
  rw [← hg u, h.rest, hg]

theorem TrkOnly.rxBank (h : TrkOnly l t s u) : u.rxBank = s.rxBank := h.part (·.rxBank) fun _ => rfl

/-- Beside what frames do to a bank, a command of trunk `t` from a calm state. -/
theorem bank_next {c : Instr} (hx : exec c s = done w) (hc : Calm s) (h : TrkOnly l t s (w.withBanks s.rxBank))
    (hl : ∀ f ∈ l, f.id ∉ calmRegs) : exec c s = .next (vectors w) :=
  next_of_done hx ((h.calm hc hl).with_rxBank (x := w.rxBank))

theorem vectors_withBanks (b : Tbl (List RxFrame)) (h : TrkOnly l t s (w.withBanks b)) :
    TrkOnly l t s ((vectors w).withBanks b) := by
  have hv : TrkOnly [] t w (vectors w) := TrkOnly.refl.vectors
  exact h.trans ((hv.withBanks b).mono (by simp))

/-! ## The counters and the margin (R146, R147, R149) -/

/-- A codeword counts among its trunk's FEC counters. -/
theorem fecCount_only (hc : c.wf 15 = true) : TrkOnly (codewordFields t) t s (fecCount t c s) := by
  unfold fecCount
  split
  · exact .refl
  · have h1 : TrkOnly (codewordFields t) t s (s.add (R.TRK_FEC_CW_CNT_COUNT t) 1) := TrkOnly.refl.wr (by simp [codewordFields])
    cases c with
    | uncorrectable => exact (h1.wr (by simp [codewordFields])).modTrk
    | corrected n =>
      have hn : n < 16 := Nat.lt_succ_of_le (of_decide_eq_true hc)
      refine TrkOnly.modTrk ?_
      split
      · exact h1
      · have hh : R.TRK_FEC_HIST_COUNT t n ∈ codewordFields t :=
          List.mem_append_right _ (List.mem_map.2 ⟨n, mem_upto.2 hn, rfl⟩)
        exact ((h1.wr (by simp [codewordFields])).wr (by simp [codewordFields])).wr hh

/-- Where no window suspends them, every codeword counts. -/
theorem fecCount_count (hq : (s.trk t).qw.suspended = false) :
    (fecCount t c s).rd (R.TRK_FEC_CW_CNT_COUNT t) = (s.rd (R.TRK_FEC_CW_CNT_COUNT t) + 1) % 2 ^ 48 := by
  have h1 := add_rd s (R.TRK_FEC_CW_CNT_COUNT t) 1
  unfold fecCount
  rw [if_neg (by simp [hq])]
  cases c with
  | uncorrectable =>
    rw [modTrk_rd, add_rd_ne _ _ _ _ (by simp)]
    exact h1
  | corrected n =>
    rw [modTrk_rd]
    split
    · exact h1
    · rw [sat_rd_ne _ _ _ _ (by simp), add_rd_ne _ _ _ _ (by simp), add_rd_ne _ _ _ _ (by simp)]
      exact h1

theorem marginTake_only (margin : Int) :
    TrkOnly [R.TRK_SNR_MARGIN_QDB t, R.TRK_SNR_MIN_MARGIN t] t s (marginTake t margin s) := by
  unfold marginTake
  exact ((TrkOnly.refl.wr (by simp)).wr (by simp)).modTrk

theorem marginTake_margin (margin : Int) :
    (marginTake t margin s).rd (R.TRK_SNR_MARGIN_QDB t) = intOctet (max (-128) (min 127 margin)) := by
  have h : ∀ i, intOctet i % 2 ^ 8 = intOctet i := fun i => Nat.mod_eq_of_lt (by unfold intOctet; omega)
  unfold marginTake
  rw [modTrk_rd, rd_wr_ne _ _ _ _ (by simp), rd_wr_self]
  exact h _

theorem codewordCount_only {margin : Int} {lpi : Bool} (hc : c.wf 15 = true) :
    TrkOnly (codewordFields t) t s (codewordCount t c margin lpi s) := by
  have hm := (fecCount_only (t := t) (s := s) hc).trans
    ((marginTake_only margin).mono (m := codewordFields t) (by simp [codewordFields]))
  exact (hm.wr (by simp [codewordFields])).modTrk

/-- The fields of a codeword: its count, its margin, and the peer's low-power idle. -/
theorem codewordCount_shows {margin : Int} {lpi : Bool} (hq : (s.trk t).qw.suspended = false) :
    (codewordCount t c margin lpi s).rd (R.TRK_FEC_CW_CNT_COUNT t) = (s.rd (R.TRK_FEC_CW_CNT_COUNT t) + 1) % 2 ^ 48 ∧
      (codewordCount t c margin lpi s).rd (R.TRK_SNR_MARGIN_QDB t) = intOctet (max (-128) (min 127 margin)) ∧
      (codewordCount t c margin lpi s).rd (R.TRK_STAT_LPI_RX t) = b2n lpi := by
  unfold codewordCount State.wrb
  simp only [modTrk_rd]
  refine ⟨?_, ?_, ?_⟩
  · rw [rd_wr_ne _ _ _ _ (by simp), (marginTake_only margin).regs _ (by simp [Fld.same]), fecCount_count hq]
  · rw [rd_wr_ne _ _ _ _ (by simp), marginTake_margin]
  · rw [rd_wr_self]
    cases lpi <;> rfl

/-! ## The whole codeword (R99, R101) -/

theorem adaptApply_only (adapt : List CoefUpd) : TrkOnly [] t s (adaptApply t adapt s) := by
  unfold adaptApply State.modEq
  split
  · exact .refl
  · exact TrkOnly.refl.modTrk

theorem codewordNext_only (pos : Nat) (part : Bool) (adapt : List CoefUpd) :
    TrkOnly [] t s (codewordNext t pos part adapt s) := (adaptApply_only adapt).modTrk

section
variable {margin : Int} {lpi part : Bool} {frames : List LineFrame} {adapt : List CoefUpd}

/-- Counted and measured, a codeword hands its frames to the trunk's bank. -/
theorem codewordTake_banked (hc : c.wf 15 = true) (ha : Alone t s) (hu : laneCount (s.pas (t / 2)).upUse = 3) :
    Banked (8 * (t / 2) + t % 2) (codewordRx t frames c) (codewordCount t c margin lpi s)
      (codewordFrames t c frames (codewordCount t c margin lpi s)) := by
  have h := codewordCount_only (t := t) (s := s) (margin := margin) (lpi := lpi) hc
  refine codewordFrames_banked (h.alone (by simp [Aside, codewordFields, upto, calmRegs]) ha) ?_
  have hp : (codewordCount t c margin lpi s).pas (t / 2) = s.pas (t / 2) := h.part (·.pas (t / 2)) fun _ => rfl
  rw [hp]
  exact hu

/-- Outside its bank, a codeword changes its trunk and the codeword's fields alone. -/
theorem codewordTake_only (hc : c.wf 15 = true) (ha : Alone t s) (hu : laneCount (s.pas (t / 2)).upUse = 3) :
    TrkOnly (codewordFields t) t s ((codewordTake t c margin lpi part frames adapt s).withBanks s.rxBank) := by
  have h := codewordCount_only (t := t) (s := s) (margin := margin) (lpi := lpi) hc
  have hn := (codewordNext_only (t := t) (s := codewordFrames t c frames (codewordCount t c margin lpi s)) (s.trk t).cwPos
    part adapt).withBanks s.rxBank
  rw [(codewordTake_banked hc ha hu).rest] at hn
  have hb : (codewordCount t c margin lpi s).withBanks s.rxBank = codewordCount t c margin lpi s := by
    rw [← h.rxBank]; rfl
  rw [hb] at hn
  exact h.trans (hn.mono (by simp))

/-- Adaptation and the next place in the period leave the fields as the codeword showed them. -/
theorem codewordTake_rd (hc : c.wf 15 = true) (ha : Alone t s) (hu : laneCount (s.pas (t / 2)).upUse = 3) (g : Fld) :
    (codewordTake t c margin lpi part frames adapt s).rd g = (codewordCount t c margin lpi s).rd g :=
  ((codewordNext_only _ part adapt).regs g (by simp)).trans ((codewordTake_banked hc ha hu).part (·.rd g) fun _ => rfl)

/-- They leave the bank as the frames filled it. -/
theorem codewordTake_rxBank : (codewordTake t c margin lpi part frames adapt s).rxBank =
    (codewordFrames t c frames (codewordCount t c margin lpi s)).rxBank := (codewordNext_only _ part adapt).rxBank

theorem codewordTake_place : ((codewordTake t c margin lpi part frames adapt s).trk t).cwPos = ((s.trk t).cwPos + 1) % 4096 ∧
    ((codewordTake t c margin lpi part frames adapt s).trk t).rxPart = part := by
  simp [codewordTake, codewordNext]

/-- In DATA of a Coupler-Reach mode, outside a quiet window, a codeword that carries no AM. -/
theorem effCodeword_data {blk : BitVec 257} (hd : trkState t s = 8) (hr : trkCR t s = true) (hq : qwOpen t s = false)
    (hp : (s.trk t).cwPos ≠ 0) : effCodeword t c blk margin lpi part frames adapt s =
      codewordTake t c margin lpi part frames adapt s := by
  unfold effCodeword
  rw [if_neg (by simp [hd, hr]), if_neg (by simp [hq]), if_neg hp]

/-- The frames of a codeword join the bank as it stood, and every other bank stays. -/
theorem codewordTake_joins (hc : c.wf 15 = true) (ha : Alone t s) (hu : laneCount (s.pas (t / 2)).upUse = 3) :
    trkBank t (codewordTake t c margin lpi part frames adapt s) = trkBank t s ++ codewordRx t frames c ∧
      ∀ k, k ≠ 8 * (t / 2) + t % 2 →
        tget [] (codewordTake t c margin lpi part frames adapt s).rxBank k = tget [] s.rxBank k := by
  have hb := codewordTake_banked (margin := margin) (lpi := lpi) (frames := frames) hc ha hu
  have hs := (codewordCount_only (t := t) (s := s) (margin := margin) (lpi := lpi) hc).rxBank
  unfold trkBank
  rw [codewordTake_rxBank]
  exact ⟨by rw [hb.bank, hs], fun k hk => by rw [hb.others k hk, hs]⟩

end

/-- A frame of a standard mode in DATA. -/
theorem exec_stdFrameReceive_data {t : Fin 8} {f : LineFrame} (hd : trkState t s = 8) (hr : trkCR t s = false) :
    exec (.stdFrameReceive t f) s = done (framesIn t [f] s) := congrArg done (if_pos ⟨hd, by simp [hr]⟩)

/-- Settles O18: a codeword is `codewordTake`, whose count, margin, place and bank the lemmas above read; a standard frame
only joins its bank. -/
theorem linesReceive : Obligations.LinesReceive := by
  refine fun t s hc ha hd hu => ⟨fun c blk margin lpi part frames adapt hr hq hp hs hw => ?codeword, fun f hr => ?frame⟩
  case codeword =>
    have hx : exec (.crCodewordReceive t c blk margin lpi part frames adapt) s =
        done (codewordTake t c margin lpi part frames adapt s) := congrArg done (effCodeword_data hd hr hq hp)
    have ho := codewordTake_only (margin := margin) (lpi := lpi) (part := part) (frames := frames) (adapt := adapt) hw ha hu
    have hrd := codewordTake_rd (margin := margin) (lpi := lpi) (part := part) (frames := frames) (adapt := adapt) hw ha hu
    obtain ⟨hcount, hmargin, hlpi⟩ := codewordCount_shows (c := c) (margin := margin) (lpi := lpi) hs
    obtain ⟨hpos, hpart⟩ := codewordTake_place (t := t) (s := s) (c := c) (margin := margin) (lpi := lpi) (part := part)
      (frames := frames) (adapt := adapt)
    obtain ⟨hjoin, hother⟩ := codewordTake_joins (margin := margin) (lpi := lpi) (part := part) (frames := frames)
      (adapt := adapt) hw ha hu
    refine ⟨_, bank_next hx hc ho (by simp [codewordFields, upto, calmRegs]), ?_, ?_, ?_, ?_, ?_, ?_, fun k hk => ?_,
      vectors_withBanks s.rxBank ho⟩
    · rw [vectors_rd, hrd, hcount]
    · rw [vectors_rd, hrd, hmargin]
    · rw [vectors_rd, hrd, hlpi]
    · rw [vectors_trk, hpos]
    · rw [vectors_trk, hpart]
    · rw [trkBank, vectors_rxBank]
      exact hjoin
    · rw [vectors_rxBank, hother k hk]
  case frame =>
    have hb := framesIn_banked (frames := [f]) ha hu
    have ho : TrkOnly [] t.val s ((framesIn t [f] s).withBanks s.rxBank) := by
      rw [hb.rest]
      exact .refl
    refine ⟨_, bank_next (exec_stdFrameReceive_data hd hr) hc ho (by simp), ?_, fun k hk => ?_,
      vectors_withBanks s.rxBank ho⟩
    · rw [trkBank, vectors_rxBank]
      exact hb.bank
    · rw [vectors_rxBank, hb.others k hk]

end Sys2Proof.Machine
end

section
/-! PROOFS. Answers arrive: the times of an exchange, the vale's answer about its rung, and a training frame. -/

namespace Sys2Proof.Machine

variable {s : State}

/-! ## TIME_DRSP (R243, R315) -/

/-- An offset of at most 1 ns is no reason to doubt the lock: the vale moves its phase and frequency, and locks after
sixteen good offsets. -/
theorem valeDiscipline_small {v : Nat} {ps : Int} (h : ps.natAbs ≤ 1000) : valeDiscipline v ps s =
    (let good := if ps.natAbs < 100 then (s.vtime v).good + 1 else 0
    let t := s.modVtime v fun x => { x with phase := x.phase - ps / 4, freq := x.freq - ps, good := good, bad := 0 }
    let t := t.wr (R.TIME_VALE_FREQ_PPB v) ((t.vtime v).freq / 64 % 65536).toNat
    if 16 ≤ good then valeLockSet v true t else t) := by
  have h1 : ¬ 1000 < ps.natAbs := by omega
  have h2 : ¬ 1000000 < ps.natAbs := by omega
  simp only [valeDiscipline, h1, h2, if_false, Nat.reduceLeDiff, false_and]

/-- The four times of an exchange show its delays and its offset, and discipline the vale. -/
theorem exchangeDone_times {v : Nat} {a b c d : Int} (h1 : (s.pas v).t1 = some a) (h2 : (s.pas v).t2 = some b)
    (h3 : (s.pas v).t3 = some c) (h4 : (s.pas v).t4 = some d) : exchangeDone v s =
    (let n := s.rd (R.PASS_ASYM_ASYM_PS v)
    let e := exchange a b c d (if n < 32768 then (n : Int) else (n : Int) - 65536)
    let t := ((s.wr (R.PASS_LAT_TALLY_DN v) (tenPs e.1)).wr (R.PASS_LAT_TALLY_UP v) (tenPs e.2.1)).wr (R.PASS_OFFSET_OFFSET_PS v)
      (e.2.2 % 2 ^ 32).toNat
    valeDiscipline v e.2.2 (t.modPass v fun x => { x with t1 := none, t2 := none, t3 := none, t4 := none })) := by
  simp only [exchangeDone, h1, h2, h3, h4]

/-! ## RUNG_RSP (R407, R408) -/

/-- An answer to an outstanding request closes it and goes to the power manager. -/
theorem exec_rungRsp_asked {v : Fin 4} {seq : BitVec 8} {r : HostReq} {rung code l reason : Nat}
    (hr : hostFind v seq.toNat s = some r) (hg : cacheGet v seq.toNat s = some (.rung rung code l reason)) :
    exec (.rungRsp v seq) s = done (valeAnswered v rung code l reason (hostDrop v seq.toNat (hostGot v s))) := by
  show execRungRsp v seq s = _
  rw [execRungRsp, hr, hg]

section
variable {v rung l reason : Nat} {m : List Nat} (h : domOf (1 + v) s = .asked rung m)
include h

/-- The vale consents to the rung asked. -/
theorem valeAnswered_consent : valeAnswered v rung 0 l reason s = domPut (1 + v) (.committed rung) s := by
  simp [valeAnswered, h]

/-- The vale refuses: the client and its reason are shown, and the domain is let go. -/
theorem valeAnswered_refusal : valeAnswered v rung 1 l reason s =
    domPut (1 + v) .idle (refusal (1 + v) rung (if l = 31 then 0x7F else 2 + portOf v l) reason s) := by
  simp [valeAnswered, h, domRefuse, refusal]

/-- The vale delays: the client that it waits for is kept. -/
theorem valeAnswered_delay : valeAnswered v rung 2 l reason s =
    domPut (1 + v) (.asked rung [if l = 31 then 0x7F else 2 + portOf v l]) s := by
  simp [valeAnswered, h]

end

/-! ## Training frames (R110 to R112, R123) -/

section
variable {t : Nat} {info : BitVec 64} {m : FrameMeas}

/-- In DATA a valid InfoField is taken. -/
theorem effTrainingFrame_data {f : Info} (h : trkState t s = 8) (hr : trkCR t s = true) (hf : infoDecode info = some f) :
    effTrainingFrame t info m s = infoData t f s := by
  simp [effTrainingFrame, h, hr, hf]

/-- In a joined wake a frame resumes the trunk. -/
theorem effTrainingFrame_wake (h : trkState t s = 10) (hw : (s.trk t).wake = 2) :
    effTrainingFrame t info m s = trkResume t s := by
  simp [effTrainingFrame, h, hw]

/-- In training, RETRAIN and RESUME a frame answers a frame, is measured, and its InfoField moves the trunk on. -/
theorem effTrainingFrame_training (h : (3 ≤ trkState t s ∧ trkState t s ≤ 7) ∨ trkState t s = 9 ∨ trkState t s = 11) :
    effTrainingFrame t info m s =
      (let w := sendFrame t (adaptApply t m.adapt (frameMeasure t m s))
      let w := match infoDecode info with
        | some f => infoTraining t f w
        | none => w.modTrk t fun x => { x with peerRun := 0 }
      if trkState t w = trkState t s ∧ 5 ≤ trkState t s then trainAdvance t w else w) := by
  unfold effTrainingFrame
  exact (if_neg (by omega)).trans ((if_neg (by omega)).trans (if_pos h))

end

/-- Settles O35: each command is the case of its effect that its hypotheses name, and leaves the calm state stated. -/
theorem answersArrive : Obligations.AnswersArrive := by
  refine ⟨fun v a b c d s h1 h2 h3 h4 => ?times, fun v seq r rung code l reason m s hr hg => ?rung, fun t info m s => ?frame⟩
  case times =>
    intro n e t1 t2 good t3 t4 t5 hsmall hcalm
    refine next_of_done (congrArg done ?_) hcalm
    rw [exchangeDone_times h1 h2 h3 h4]
    exact valeDiscipline_small hsmall
  case rung =>
    intro t client hd
    have hx : exec (.rungRsp v seq) s = done (valeAnswered v rung code l reason t) := exec_rungRsp_asked hr hg
    refine ⟨?_, ?_, ?_⟩
    · rintro rfl hc
      exact next_of_done (hx.trans (congrArg done (valeAnswered_consent hd))) hc
    · rintro rfl hc
      exact next_of_done (hx.trans (congrArg done (valeAnswered_refusal hd))) hc
    · rintro rfl hc
      exact next_of_done (hx.trans (congrArg done (valeAnswered_delay hd))) hc
  case frame =>
    have hx : exec (.trainingFrameReceive t info m) s = done (effTrainingFrame t info m s) := rfl
    refine ⟨fun hd hr f hf hc => ?_, fun hd hw hc => ?_, fun h hc => ?_⟩
    · exact next_of_done (hx.trans (congrArg done (effTrainingFrame_data hd hr hf))) hc
    · exact next_of_done (hx.trans (congrArg done (effTrainingFrame_wake hd hw))) hc
    · exact next_of_done (hx.trans (congrArg done (effTrainingFrame_training h))) hc

end Sys2Proof.Machine
end

section
/-! PROOFS. A trunk's equaliser: its report of reflections, the impulse guard, the gain loop, and what it shows. -/

namespace Sys2Proof.Machine

variable {l : List Fld} {t : Nat} {s u w : State} {c : Instr}

/-! ## Frames over one trunk and its equaliser -/

@[simp] theorem modEq_rd (n : Nat) (g : Eq → Eq) (f : Fld) : (s.modEq n g).rd f = s.rd f := rfl

@[simp] theorem modEq_trk_self (n : Nat) (g : Eq → Eq) :
    (s.modEq n g).trk n = { s.trk n with eq := g (s.trk n).eq } := modTrk_trk_self s n _

theorem Only.trkWr {f : Fld} {v : Nat} (h : Only l (State.offTrk t) s u) (m : f ∈ l) :
    Only l (State.offTrk t) s (u.wr f v) := ⟨h.regs.wr m, h.rest⟩

theorem Only.modTrk {g : Trunk → Trunk} (h : Only l (State.offTrk t) s u) : Only l (State.offTrk t) s (u.modTrk t g) :=
  ⟨h.regs, (offTrk_modTrk u t g).trans h.rest⟩

theorem Only.modEq {g : Eq → Eq} (h : Only l (State.offTrk t) s u) : Only l (State.offTrk t) s (u.modEq t g) := h.modTrk

/-- A one-bit field holds the truth value written. -/
theorem wrb_bit_self {f : Fld} (hf : f.width = 1) (b : Bool) : (s.wrb f b).bit f = b := by
  rw [State.bit, State.wrb, rd_wr_self, hf]
  cases b <;> rfl

theorem wrb_bit_ne {f g : Fld} (b : Bool) (h : f.id = g.id → f.ix ≠ g.ix) : (s.wrb f b).bit g = s.bit g := by
  rw [State.bit, State.wrb, rd_wr_ne _ _ _ _ h, State.bit]

/-- A command of registers alone answers its effect, and keeps every other register. -/
theorem regs_next (hc : Calm s) (hx : exec c s = done w) (h : RegsOnly l s w) (hl : ∀ f ∈ l, f.id ∉ calmRegs) :
    exec c s = .next (vectors w) ∧ RegsOnly l s (vectors w) :=
  ⟨only_next hc hx h offCalm_rest hl, h.vectors vectors_rest⟩

/-- A command that writes one field with a value of its width. -/
theorem field_written {f : Fld} {n : Nat} (hc : Calm s) (hx : exec c s = done (s.wr f n)) (hn : n < 2 ^ f.width)
    (hf : f.id ∉ calmRegs) : ∃ u, exec c s = .next u ∧ u.rd f = n ∧ RegsOnly [f] s u := by
  obtain ⟨hnext, ho⟩ := regs_next hc hx (RegsOnly.wr .refl (List.mem_singleton_self f)) (by simpa using hf)
  exact ⟨_, hnext, by rw [vectors_rd, rd_wr_self, Nat.mod_eq_of_lt hn], ho⟩

/-- A command of one trunk answers its effect, and keeps everything outside the trunk. -/
theorem trkPart_next (hc : Calm s) (hx : exec c s = done w) (h : Only l (State.offTrk t) s w)
    (hl : ∀ f ∈ l, f.id ∉ calmRegs) : exec c s = .next (vectors w) ∧ Only l (State.offTrk t) s (vectors w) :=
  ⟨only_next hc hx h (offCalm_offTrk t) hl, h.vectors fun x => offTrk_vectors x t⟩

/-! ## The impulse guard (R142) -/

/-- The guard watches in the states that adapt (R139), save ECHO_M and ECHO_S. -/
def guarded (st : Nat) : Prop := (5 ≤ st ∧ st ≤ 9) ∨ st = 11

/-- A burst was found: the guard is up and the burst counted. -/
def impulseFound (t : Nat) (s : State) : State :=
  (s.wr (R.TRK_EQ_STAT_IMPULSE t) 1).sat (R.TRK_EQ_STAT_IMPULSE_CNT t) 1

theorem exec_impulseDetect_guarded {t : Fin 8} (h : guarded (trkState t s)) :
    exec (.impulseDetect t) s = done (impulseFound t s) := congrArg done (if_pos h)

theorem exec_impulseDetect_unguarded {t : Fin 8} (h : ¬ guarded (trkState t s)) :
    exec (.impulseDetect t) s = done s := congrArg done (if_neg h)

theorem impulseFound_only :
    RegsOnly [R.TRK_EQ_STAT_IMPULSE t, R.TRK_EQ_STAT_IMPULSE_CNT t] s (impulseFound t s) :=
  RegsOnly.wr (RegsOnly.wr .refl (by simp)) (by simp)

theorem impulseFound_guard : (impulseFound t s).bit (R.TRK_EQ_STAT_IMPULSE t) = true := by
  rw [State.bit, impulseFound, sat_rd_ne _ _ _ _ (by simp), rd_wr_self]
  rfl

theorem impulseFound_count : Counted (R.TRK_EQ_STAT_IMPULSE_CNT t) 1 s (impulseFound t s) := by
  rw [Counted, impulseFound, sat_rd, rd_wr_ne _ _ _ _ (by simp)]

/-- While the guard is up, adaptation is stopped. -/
theorem adaptStopped_of_impulse (h : s.bit (R.TRK_EQ_STAT_IMPULSE t) = true) : adaptStopped t s = true := by
  simp [adaptStopped, h]

theorem impulseDetect_next {t : Fin 8} (hc : Calm s) (h : guarded (trkState t s)) :
    exec (.impulseDetect t) s = .next (vectors (impulseFound t s)) ∧
      RegsOnly [R.TRK_EQ_STAT_IMPULSE t, R.TRK_EQ_STAT_IMPULSE_CNT t] s (vectors (impulseFound t s)) :=
  regs_next hc (exec_impulseDetect_guarded h) impulseFound_only (by simp [calmRegs])

/-- Stopped adaptation stops the gain loop with it. -/
theorem exec_gainLoopCheck_stopped {t : Fin 8} {err : Int} (h : adaptStopped t s = true) :
    exec (.gainLoopCheck t err) s = done s := congrArg done (if_pos (by simp [h]))

/-- Settles O19: a burst puts up the guard, which is one of the reasons that stop adaptation. -/
theorem impulseGuard : Obligations.ImpulseGuard := by
  refine fun t s hc => ⟨fun h => ?burst, fun h => ?echo, next_of_done rfl (hc.wr (by simp [calmRegs])),
    fun err h => ?stopped⟩
  case burst =>
    exact ⟨(impulseDetect_next hc h).1, adaptStopped_of_impulse ((vectors_bit _ _).trans impulseFound_guard)⟩
  case echo => exact next_of_done (exec_impulseDetect_unguarded (by unfold guarded; omega)) hc
  case stopped => exact next_of_done (exec_gainLoopCheck_stopped h) hc

/-! ## The reflection list (R129) -/

theorem surveyResultList_stores {t : Fin 8} {r : List PsReflection} (hc : Calm s) (hq : qwOpen t s = false) :
    ∃ u, exec (.surveyResultList t r) s = .next u ∧
      u.eqIs s t (fun e => { e with refl := surveyList (s.rd (R.TRK_STAT_RESOLVED t)) r }) ∧
      Only [] (State.offTrk t) s u := by
  have hx : exec (.surveyResultList t r) s =
      done (s.modEq t fun e => { e with refl := surveyList (s.rd (R.TRK_STAT_RESOLVED t)) r }) :=
    congrArg done (if_neg (by simp [hq]))
  obtain ⟨hn, ho⟩ := trkPart_next hc hx (l := []) Only.refl.modEq (by simp)
  exact ⟨_, hn, (vectors_trk _ _).trans (modEq_trk_self _ _), ho⟩

/-! ## The gain loop (R137, R140) -/

/-- Where the loop runs, a check leaves the gain one step nearer the target and nothing else. -/
theorem gainLoopCheck_steps {t : Fin 8} (err : Int) (hc : Calm s) (ha : adaptStopped t s = false)
    (hl : (loopsAdapt t s).2 = true) (hg : s.rd (R.TRK_EQ_RX_GAIN_QDB t) ≤ 120) :
    ∃ u, exec (.gainLoopCheck t err) s = .next u ∧
      (u.rd (R.TRK_EQ_RX_GAIN_QDB t) : Int) = (if 2 < err then max 0 ((s.rd (R.TRK_EQ_RX_GAIN_QDB t) : Int) - 1)
        else if err < -2 then min 120 ((s.rd (R.TRK_EQ_RX_GAIN_QDB t) : Int) + 1) else s.rd (R.TRK_EQ_RX_GAIN_QDB t)) ∧
      RegsOnly [R.TRK_EQ_RX_GAIN_QDB t] s u := by
  have hx : exec (.gainLoopCheck t err) s =
      done (if 2 < err then s.wr (R.TRK_EQ_RX_GAIN_QDB t) (s.rd (R.TRK_EQ_RX_GAIN_QDB t) - 1)
        else if err < -2 then s.wr (R.TRK_EQ_RX_GAIN_QDB t) (min 120 (s.rd (R.TRK_EQ_RX_GAIN_QDB t) + 1)) else s) :=
    congrArg done (if_neg (by simp [ha, hl]))
  generalize hgain : s.rd (R.TRK_EQ_RX_GAIN_QDB t) = g at hg hx ⊢
  have hw : ∀ n ≤ 120, exec (.gainLoopCheck t err) s = done (s.wr (R.TRK_EQ_RX_GAIN_QDB t) n) → _ := fun n hn he =>
    field_written hc he (show n < 256 by omega) (by simp [calmRegs])
  by_cases hdown : 2 < err
  · rw [if_pos hdown] at hx ⊢
    obtain ⟨u, hn, hr, ho⟩ := hw _ (by omega) hx
    exact ⟨u, hn, by omega, ho⟩
  · rw [if_neg hdown] at hx ⊢
    by_cases hup : err < -2
    · rw [if_pos hup] at hx ⊢
      obtain ⟨u, hn, hr, ho⟩ := hw _ (by omega) hx
      exact ⟨u, hn, by omega, ho⟩
    · rw [if_neg hup] at hx ⊢
      exact ⟨_, next_of_done hx hc, by rw [vectors_rd, hgain], Only.refl.vectors vectors_rest⟩

/-! ## Flags, margins and seconds (R141, R148, R149) -/

theorem convergenceEval_shows {t : Fin 8} (ec ffe dfe timing : Bool) (hc : Calm s) (hd : trkState t s = 8) :
    ∃ u, exec (.convergenceEval t ec ffe dfe timing) s = .next u ∧
      u.bit (R.TRK_EQ_STAT_EC_CONV t) = ec ∧ u.bit (R.TRK_EQ_STAT_FFE_CONV t) = ffe ∧
      u.bit (R.TRK_EQ_STAT_DFE_CONV t) = dfe ∧ u.bit (R.TRK_EQ_STAT_TIMING_LOCK t) = timing ∧
      RegsOnly [R.TRK_EQ_STAT_EC_CONV t, R.TRK_EQ_STAT_FFE_CONV t, R.TRK_EQ_STAT_DFE_CONV t, R.TRK_EQ_STAT_TIMING_LOCK t] s u := by
  have hx : exec (.convergenceEval t ec ffe dfe timing) s = done ((((s.wrb (R.TRK_EQ_STAT_EC_CONV t) ec).wrb
      (R.TRK_EQ_STAT_FFE_CONV t) ffe).wrb (R.TRK_EQ_STAT_DFE_CONV t) dfe).wrb (R.TRK_EQ_STAT_TIMING_LOCK t) timing) :=
    congrArg done (if_pos hd)
  obtain ⟨hn, ho⟩ := regs_next hc hx (l := [R.TRK_EQ_STAT_EC_CONV t, R.TRK_EQ_STAT_FFE_CONV t, R.TRK_EQ_STAT_DFE_CONV t,
    R.TRK_EQ_STAT_TIMING_LOCK t]) (RegsOnly.wr (RegsOnly.wr (RegsOnly.wr (RegsOnly.wr .refl (by simp)) (by simp)) (by simp))
      (by simp)) (by simp [calmRegs])
  exact ⟨_, hn, by simp [wrb_bit_self, wrb_bit_ne], by simp [wrb_bit_self, wrb_bit_ne], by simp [wrb_bit_self, wrb_bit_ne],
    by simp [wrb_bit_self], ho⟩

theorem slicerMarginUpdate_shows {t : Fin 8} (a b c : BitVec 8) (hc : Calm s) (hd : trkState t s = 8) :
    ∃ u, exec (.slicerMarginUpdate t a b c) s = .next u ∧ u.rd (R.TRK_SLICER_UPPER t) = a.toNat ∧
      u.rd (R.TRK_SLICER_MIDDLE t) = b.toNat ∧ u.rd (R.TRK_SLICER_LOWER t) = c.toNat ∧
      RegsOnly [R.TRK_SLICER_UPPER t, R.TRK_SLICER_MIDDLE t, R.TRK_SLICER_LOWER t] s u := by
  have hx : exec (.slicerMarginUpdate t a b c) s = done (((s.wr (R.TRK_SLICER_UPPER t) a.toNat).wr
      (R.TRK_SLICER_MIDDLE t) b.toNat).wr (R.TRK_SLICER_LOWER t) c.toNat) := congrArg done (if_pos hd)
  obtain ⟨hn, ho⟩ := regs_next hc hx (l := [R.TRK_SLICER_UPPER t, R.TRK_SLICER_MIDDLE t, R.TRK_SLICER_LOWER t])
    (RegsOnly.wr (RegsOnly.wr (RegsOnly.wr .refl (by simp)) (by simp)) (by simp)) (by simp [calmRegs])
  have hlt : ∀ x : BitVec 8, x.toNat % 2 ^ 8 = x.toNat := fun x => Nat.mod_eq_of_lt x.isLt
  refine ⟨_, hn, ?_, ?_, ?_, ho⟩
  · rw [vectors_rd, rd_wr_ne _ _ _ _ (by simp), rd_wr_ne _ _ _ _ (by simp), rd_wr_self, hlt]
  · rw [vectors_rd, rd_wr_ne _ _ _ _ (by simp), rd_wr_self, hlt]
  · rw [vectors_rd, rd_wr_self, hlt]

theorem fecSecondTick_shows {t : Fin 8} (hc : Calm s) :
    ∃ u, exec (.fecSecondTick t) s = .next u ∧ u.rd (R.TRK_FEC_SEC_UNC_1S t) = min 0xFFFF (s.trk t).secUnc ∧
      u.rd (R.TRK_FEC_SEC_MAX_1S t) = (s.trk t).secMax % 2 ^ (R.TRK_FEC_SEC_MAX_1S t).width ∧
      u.trk t = { s.trk t with secUnc := 0, secMax := 0 } ∧
      Only [R.TRK_FEC_SEC_UNC_1S t, R.TRK_FEC_SEC_MAX_1S t] (State.offTrk t) s u := by
  have hx : exec (.fecSecondTick t) s = done (((s.wr (R.TRK_FEC_SEC_UNC_1S t) (min 0xFFFF (s.trk t).secUnc)).wr
      (R.TRK_FEC_SEC_MAX_1S t) (s.trk t).secMax).modTrk t fun x => { x with secUnc := 0, secMax := 0 }) := rfl
  obtain ⟨hn, ho⟩ := trkPart_next hc hx (l := [R.TRK_FEC_SEC_UNC_1S t, R.TRK_FEC_SEC_MAX_1S t])
    ((Only.refl.trkWr (by simp)).trkWr (by simp)).modTrk (by simp [calmRegs])
  refine ⟨_, hn, ?_, ?_, ?_, ho⟩
  · rw [vectors_rd, modTrk_rd, rd_wr_ne _ _ _ _ (by simp), rd_wr_self]
    exact Nat.mod_eq_of_lt (by show _ < 65536; omega)
  · rw [vectors_rd, modTrk_rd, rd_wr_self]
  · rw [vectors_trk, modTrk_trk_self, wr_trk, wr_trk]

/-- Settles O20: each command is the write that its own lemma above reads. -/
theorem equaliserLoops : Obligations.EqualiserLoops := by
  refine fun t s hc => ⟨fun r hq => surveyResultList_stores hc hq, fun h => ?burst, ?guardEnd,
    fun err ha hl hg => gainLoopCheck_steps err hc ha hl hg,
    fun ec ffe dfe timing hd => convergenceEval_shows ec ffe dfe timing hc hd,
    fun a b c hd => slicerMarginUpdate_shows a b c hc hd, fecSecondTick_shows hc⟩
  case burst =>
    obtain ⟨hn, ho⟩ := impulseDetect_next hc h
    exact ⟨_, hn, (vectors_bit _ _).trans impulseFound_guard, counted_vectors.2 impulseFound_count, ho⟩
  case guardEnd =>
    obtain ⟨u, hn, hr, ho⟩ := field_written hc (c := .impulseGuardEnd t) rfl (by simp) (by simp [calmRegs])
    exact ⟨u, hn, by simp [State.bit, hr], ho⟩

end Sys2Proof.Machine
end

section
/-! PROOFS. The echo windows: they slide, fade, end, recentre and are placed, and the residual search visits its blocks. -/

namespace Sys2Proof.Machine

variable {l : List Fld} {t n : Nat} {s u : State} {c : Instr}

/-! ## A window's state -/

theorem winSet_only {w st : Nat} : RegsOnly [R.TRK_EC_WIN_STATE t w, R.TRK_EC_STAT_ACTIVE t] s (winSet t w st s) :=
  RegsOnly.wr (RegsOnly.wr .refl (by simp)) (by simp)

@[simp] theorem winSet_trk (w st k : Nat) : (winSet t w st s).trk k = s.trk k := rfl

theorem winState_winSet {w st : Nat} (h : st < 4) : winState t w (winSet t w st s) = st := by
  rw [winState, winSet, rd_wr_ne _ _ _ _ (by simp), rd_wr_self]
  exact Nat.mod_eq_of_lt h

theorem winPark_only {w : Nat} :
    Only [R.TRK_EC_WIN_STATE t w, R.TRK_EC_STAT_ACTIVE t] (State.offTrk t) s (winPark t w s) :=
  ((Only.refl.trkWr (by simp)).trkWr (by simp)).modEq

theorem winState_winPark (w : Nat) : winState t w (winPark t w s) = 0 := winState_winSet (by omega)

/-- A parked window holds no coefficient, and neither slides nor fades (R128). -/
theorem winPark_eqIs (w : Nat) : (winPark t w s).eqIs s t fun e => { e with
    sparse := winPut e.sparse w [], slides := tset none e.slides w none, fade := tset 0 e.fade w 0,
    strongSeen := tset false e.strongSeen w false } := by
  rw [State.eqIs, winPark, modEq_trk_self, winSet_trk]

/-! ## The end of a step of a re-placement (R132, R134) -/

theorem openTargets_none (h : (s.trk t).eq.targets = []) : openTargets t s = s := by
  rw [openTargets, h]
  rfl

/-- Where no re-placement runs and no target waits, nothing follows. -/
theorem replaceStep_placed (h : Placed t s) : replaceStep t s = s := by
  obtain ⟨ht, hr⟩ := h
  rw [replaceStep, openTargets_none ht]
  exact if_pos (by simp [hr])

/-- Whether a re-placement runs rests on REPLACING and on the targets alone. -/
theorem Placed.of_only (h : Placed t s) (hk : Kept l s u) (hl : ∀ f ∈ l, f.id ≠ (R.TRK_EC_STAT_REPLACING t).id)
    (ht : (u.trk t).eq.targets = (s.trk t).eq.targets) : Placed t u := by
  refine ⟨ht.trans h.1, ?_⟩
  rw [State.bit, hk _ fun f hf e => hl f hf e.1]
  exact h.2

/-! ## Slide (R132) -/

/-- One step of a slide toward a higher start that is not its last. -/
def slidUp (t w goal : Nat) (s : State) : State :=
  (s.wr (R.TRK_EC_WIN_START t w) (s.rd (R.TRK_EC_WIN_START t w) + 1)).modEq t fun e => { e with
    sparse := winPut e.sparse w ((winGet e.sparse w).drop 1 ++ [0]), slides := tset none e.slides w (some goal) }

theorem effSlide_up {w goal : Nat} (ha : adaptStopped t s = false) (hg : tget none (s.trk t).eq.slides w = some goal)
    (hp : s.rd (R.TRK_EC_WIN_START t w) + 1 < goal) (hd : ((winGet (s.trk t).eq.sparse w).getD 0 0).natAbs < 64) :
    effSlide t w s = slidUp t w goal s := by
  have hup : s.rd (R.TRK_EC_WIN_START t w) < goal := by omega
  have hne : s.rd (R.TRK_EC_WIN_START t w) + 1 ≠ goal := by omega
  unfold effSlide slidUp State.modEq
  rw [if_neg (by simp [ha]), hg]
  simp only [hup, decide_true, if_true, if_neg hup.ne, if_neg (Nat.not_le.2 hd), if_neg hne]
  exact modTrk_congr (by rw [wr_trk])

theorem windowSlideStep_slides {t w : Fin 8} {goal : Nat} (hc : Calm s) (ha : adaptStopped t s = false)
    (hg : tget none (s.trk t).eq.slides w = some goal) (hgoal : goal < 2 ^ 13)
    (hp : s.rd (R.TRK_EC_WIN_START t w) + 1 < goal) (hd : ((winGet (s.trk t).eq.sparse w).getD 0 0).natAbs < 64) :
    ∃ u, exec (.windowSlideStep t w) s = .next u ∧ u.rd (R.TRK_EC_WIN_START t w) = s.rd (R.TRK_EC_WIN_START t w) + 1 ∧
      u.eqIs s t (fun e => { e with
        sparse := winPut e.sparse w ((winGet e.sparse w).drop 1 ++ [0]), slides := tset none e.slides w (some goal) }) ∧
      Only [R.TRK_EC_WIN_START t w] (State.offTrk t) s u := by
  have hx : exec (.windowSlideStep t w) s = done (slidUp t w goal s) := congrArg done (effSlide_up ha hg hp hd)
  obtain ⟨hn, ho⟩ := trkPart_next hc hx (l := [R.TRK_EC_WIN_START t w]) (Only.refl.trkWr (by simp)).modEq (by simp [calmRegs])
  refine ⟨_, hn, ?_, (vectors_trk _ _).trans (modEq_trk_self _ _), ho⟩
  rw [vectors_rd, slidUp, modEq_rd, rd_wr_self]
  exact Nat.mod_eq_of_lt (hp.trans hgoal)

/-! ## Fade (R132) -/

theorem windowFadeStep_fades {t w : Fin 8} {level : BitVec 8} (hc : Calm s) (hw : winState t w s = 3)
    (ha : adaptStopped t s = false) (hl : level.toNat ≤ 120) :
    ∃ u, exec (.windowFadeStep t w level) s = .next u ∧ u.rd (R.TRK_EC_WIN_LEVEL_HDB t w) = level.toNat ∧
      u.eqIs s t (fun e => { e with fade := tset 0 e.fade w (tget 0 e.fade w + 1) }) ∧
      Only [R.TRK_EC_WIN_LEVEL_HDB t w] (State.offTrk t) s u := by
  have hx : exec (.windowFadeStep t w level) s = done ((s.wr (R.TRK_EC_WIN_LEVEL_HDB t w) level.toNat).modEq t
      fun e => { e with fade := tset 0 e.fade w (tget 0 e.fade w + 1) }) :=
    congrArg done ((if_neg (by simp [hw, ha])).trans (if_neg (by omega)))
  obtain ⟨hn, ho⟩ := trkPart_next hc hx (l := [R.TRK_EC_WIN_LEVEL_HDB t w]) (Only.refl.trkWr (by simp)).modEq
    (by simp [calmRegs])
  refine ⟨_, hn, ?_, (vectors_trk _ _).trans (modEq_trk_self _ _), ho⟩
  rw [vectors_rd, modEq_rd, rd_wr_self]
  exact Nat.mod_eq_of_lt level.isLt

/-- A window parked for good is counted. -/
def released (t w : Nat) (s : State) : State := (winPark t w s).sat (R.TRK_EC_MOVE_CNT_RELEASED t) 1

theorem released_trk (w : Nat) : (released t w s).trk t = (winPark t w s).trk t := sat_trk _ _ _ _

theorem released_only {w : Nat} : Only [R.TRK_EC_WIN_STATE t w, R.TRK_EC_STAT_ACTIVE t, R.TRK_EC_MOVE_CNT_RELEASED t]
    (State.offTrk t) s (released t w s) := (winPark_only.mono (by simp)).trkWr (by simp)

/-- With no re-placement under way, an outgoing window is released and nothing opens in its place. -/
theorem effWindowOut_placed {w : Nat} (hw : winState t w s = 3) (hp : Placed t s) :
    effWindowOut t w s = released t w s := by
  have h : Placed t (released t w s) := hp.of_only released_only.regs (by simp) (by rw [released_trk, winPark_eqIs w])
  exact (if_pos hw).trans (replaceStep_placed h)

theorem windowFadeLimit_releases {t w : Fin 8} (hc : Calm s) (hw : winState t w s = 3) (hp : Placed t s) :
    ∃ u, exec (.windowFadeLimit t w) s = .next u ∧ winState t w u = 0 ∧ Counted (R.TRK_EC_MOVE_CNT_RELEASED t) 1 s u ∧
      u.eqIs s t (fun e => { e with
        sparse := winPut e.sparse w [], slides := tset none e.slides w none, fade := tset 0 e.fade w 0,
        strongSeen := tset false e.strongSeen w false }) ∧
      Only [R.TRK_EC_WIN_STATE t w, R.TRK_EC_STAT_ACTIVE t, R.TRK_EC_MOVE_CNT_RELEASED t] (State.offTrk t) s u := by
  have hx : exec (.windowFadeLimit t w) s = done (released t w s) := congrArg done (effWindowOut_placed hw hp)
  obtain ⟨hn, ho⟩ := trkPart_next hc hx released_only (by simp [calmRegs])
  refine ⟨_, hn, ?_, ?_, (vectors_trk _ _).trans ((released_trk _).trans (winPark_eqIs _)), ho⟩
  · rw [winState, vectors_rd, released, sat_rd_ne _ _ _ _ (by simp)]
    exact winState_winPark w
  · rw [Counted, vectors_rd, released, sat_rd, winPark_only.regs _ (by simp [Fld.same])]

/-! ## The end of the incoming time (R132) -/

/-- An incoming window is active, with its level. -/
def broughtIn (t w level : Nat) (s : State) : State := (winSet t w 1 s).wr (R.TRK_EC_WIN_LEVEL_HDB t w) level

theorem broughtIn_only {w level : Nat} :
    RegsOnly [R.TRK_EC_WIN_STATE t w, R.TRK_EC_STAT_ACTIVE t, R.TRK_EC_WIN_LEVEL_HDB t w] s (broughtIn t w level s) :=
  RegsOnly.wr (winSet_only.mono (by simp)) (by simp)

theorem windowIncomingEnd_activates {t w : Fin 8} {level : BitVec 8} (hc : Calm s) (hw : winState t w s = 2)
    (ha : adaptStopped t s = false) (hp : Placed t s) :
    ∃ u, exec (.windowIncomingEnd t w level) s = .next u ∧ winState t w u = 1 ∧
      u.rd (R.TRK_EC_WIN_LEVEL_HDB t w) = level.toNat ∧
      RegsOnly [R.TRK_EC_WIN_STATE t w, R.TRK_EC_STAT_ACTIVE t, R.TRK_EC_WIN_LEVEL_HDB t w] s u := by
  have h : Placed t (broughtIn t w level.toNat s) := hp.of_only broughtIn_only.regs (by simp) rfl
  have hx : exec (.windowIncomingEnd t w level) s = done (broughtIn t w level.toNat s) :=
    congrArg done ((if_neg (by simp [hw, ha])).trans (replaceStep_placed h))
  obtain ⟨hn, ho⟩ := regs_next hc hx broughtIn_only (by simp [calmRegs])
  refine ⟨_, hn, ?_, ?_, ho⟩
  · rw [winState, vectors_rd, broughtIn, rd_wr_ne _ _ _ _ (by simp)]
    exact winState_winSet (by omega)
  · rw [vectors_rd, broughtIn, rd_wr_self]
    exact Nat.mod_eq_of_lt level.isLt

/-! ## Recentring (R133) -/

theorem windowRecentre_slides {t w : Fin 8} {k : Nat} (hc : Calm s) (hw : winState t w s = 1)
    (hp : s.bit (R.TRK_EC_WIN_PIN t w) = false) (hs : tget none (s.trk t).eq.slides w = none)
    (hk : strongestTap (winGet (s.trk t).eq.sparse w) = k) (hout : k < 12 ∨ 20 < k) (ha : adaptStopped t s = false) :
    ∃ u, exec (.windowRecentre t w) s = .next u ∧
      u.eqIs s t (fun e => { e with
        slides := tset none e.slides w (some (min 5936 (max 256 (s.rd (R.TRK_EC_WIN_START t w) + k - 16)))) }) ∧
      Only [] (State.offTrk t) s u := by
  subst hk
  have hx : exec (.windowRecentre t w) s = done (s.modEq t fun e => { e with
      slides := tset none e.slides w (some (min 5936 (max 256
        (s.rd (R.TRK_EC_WIN_START t w) + strongestTap (winGet (s.trk t).eq.sparse w) - 16)))) }) :=
    congrArg done (if_pos (by simp [hw, hp, hs, hout, ha]))
  obtain ⟨hn, ho⟩ := trkPart_next hc hx (l := []) Only.refl.modEq (by simp)
  exact ⟨_, hn, (vectors_trk _ _).trans (modEq_trk_self _ _), ho⟩

/-! ## Placement while a re-placement runs (R131, R134) -/

theorem placementCompute_holds {t : Fin 8} (hc : Calm s) (hauto : s.bit (R.TRK_EC_CTL_AUTO_PLACE t) = true)
    (hsp : s.bit (R.TRK_EC_CTL_SPARSE_EN t) = true) (hq : qwOpen t s = false) (hd : trkState t s = 8)
    (hr : s.bit (R.TRK_EC_STAT_REPLACING t) = true) :
    ∃ u, exec (.placementCompute t) s = .next u ∧ u.bit (R.TRK_EC_STAT_PENDING t) = true ∧
      u.eqIs s t (fun e => { e with pend := some (targetSet t s) }) ∧
      Only [R.TRK_EC_STAT_PENDING t] (State.offTrk t) s u := by
  have hx : exec (.placementCompute t) s = done ((s.wr (R.TRK_EC_STAT_PENDING t) 1).modEq t
      fun e => { e with pend := some (targetSet t s) }) :=
    congrArg done ((if_neg (by simp [hauto, hsp, hq])).trans ((if_neg (by omega)).trans ((if_pos hd).trans (if_pos hr))))
  obtain ⟨hn, ho⟩ := trkPart_next hc hx (l := [R.TRK_EC_STAT_PENDING t]) (Only.refl.trkWr (by simp)).modEq
    (by simp [calmRegs])
  refine ⟨_, hn, ?_, (vectors_trk _ _).trans (modEq_trk_self _ _), ho⟩
  rw [vectors_bit, State.bit, modEq_rd, rd_wr_self]
  rfl

/-! ## The residual search (R130) -/

/-- With every window parked, no level is updated. -/
theorem searchLevels_parked {levels : List (BitVec 8)} {L : List Nat} (h : ∀ k ∈ L, winState t k s = 0) :
    L.foldl (fun a w => if winState t w a = 0 then a else a.wr (R.TRK_EC_WIN_LEVEL_HDB t w) (levels.getD w 0).toNat) s =
      s := by
  induction L with
  | nil => rfl
  | cons k L ih =>
    obtain ⟨hk, hL⟩ := List.forall_mem_cons.1 h
    rw [List.foldl_cons, if_pos hk, ih hL]

/-- With every window parked, no delay lies in a window. -/
theorem inWindow_parked {d : Nat} (h : ∀ k < 8, winState t k s = 0) : inWindow t d s = false :=
  List.any_eq_false.2 fun k hk => by simp [h k (mem_upto.1 hk)]

/-- A finding at delay `d` with level `n` is shown and listed. -/
def findingShown (t d n : Nat) (s : State) : State :=
  (((s.wr (R.TRK_EC_SEARCH_NEW t) 1).wr (R.TRK_EC_SEARCH_DELAY t) d).wr (R.TRK_EC_SEARCH_LEVEL_HDB t) n).modEq t
    fun e => { e with refl := listFinding d n e.refl }

/-- The windows whose level is as strong as the search asks are noted. -/
def strongNoted (t db : Nat) (s : State) : State := s.modEq t fun e => { e with
  strongSeen := (upto 8).foldl (fun a w =>
    if s.rd (R.TRK_EC_WIN_LEVEL_HDB t w) ≤ 2 * (db + 6) then tset false a w true else a) e.strongSeen }

/-- A block, other than the last, ends with a finding in no window. -/
def blockFound (t d n : Nat) (s : State) : State :=
  (strongNoted t (s.rd (R.TRK_EC_CTL_PLACE_DB t)) (findingShown t d n s)).modEq t
    fun e => { e with block := (s.trk t).eq.block + 1 }

/-- The fields that show a finding. -/
def searchFields (t : Nat) : List Fld := [R.TRK_EC_SEARCH_NEW t, R.TRK_EC_SEARCH_DELAY t, R.TRK_EC_SEARCH_LEVEL_HDB t]

theorem blockFound_only {d : Nat} : Only (searchFields t) (State.offTrk t) s (blockFound t d n s) :=
  (((Only.refl.trkWr (by simp [searchFields])).trkWr (by simp [searchFields])).trkWr (by simp [searchFields])).modEq.modEq.modEq

theorem blockFound_rd (d : Nat) (f : Fld) : (blockFound t d n s).rd f = (findingShown t d n s).rd f := rfl

/-- A finding of the block, in no window, is shown and listed, and the search goes on to the next block. -/
theorem effSearchBlock_found {d : Nat} {levels : List (BitVec 8)} (hr : searchRuns t s = true) (hb : (s.trk t).eq.block < 89)
    (hp : ∀ k < 8, winState t k s = 0) (hlo : 256 + 64 * (s.trk t).eq.block ≤ d) (hhi : d < 320 + 64 * (s.trk t).eq.block)
    (hd : d ≤ 5999) (hn : n ≤ 2 * s.rd (R.TRK_EC_CTL_PLACE_DB t)) :
    effSearchBlock t d n levels s = blockFound t d n s := by
  have hfound : (decide (256 + 64 * (s.trk t).eq.block ≤ d ∧ d < 320 + 64 * (s.trk t).eq.block ∧ d ≤ 5999 ∧
      n ≤ 2 * s.rd (R.TRK_EC_CTL_PLACE_DB t)) && !inWindow t d s) = true := by
    simp [hlo, hhi, hd, hn, inWindow_parked hp]
  unfold effSearchBlock
  rw [if_neg (by simp [hr]), searchLevels_parked fun k hk => hp k (mem_upto.1 hk)]
  simp only [if_pos hfound, if_pos hb]
  rfl

theorem residualSearchBlock_finds {t : Fin 8} {d : Nat} {l : BitVec 8} {levels : List (BitVec 8)} (hc : Calm s)
    (hr : searchRuns t s = true) (hb : (s.trk t).eq.block < 89) (hp : ∀ k < 8, winState t k s = 0)
    (hlo : 256 + 64 * (s.trk t).eq.block ≤ d) (hhi : d < 320 + 64 * (s.trk t).eq.block) (hd : d ≤ 5999)
    (hl : l.toNat ≤ 2 * s.rd (R.TRK_EC_CTL_PLACE_DB t)) :
    ∃ u, exec (.residualSearchBlock t d l levels) s = .next u ∧ u.bit (R.TRK_EC_SEARCH_NEW t) = true ∧
      u.rd (R.TRK_EC_SEARCH_DELAY t) = d ∧ u.rd (R.TRK_EC_SEARCH_LEVEL_HDB t) = l.toNat ∧
      (u.trk t).eq.refl = listFinding d l.toNat (s.trk t).eq.refl ∧ (u.trk t).eq.block = (s.trk t).eq.block + 1 ∧
      Only (searchFields t) (State.offTrk t) s u := by
  have hx : exec (.residualSearchBlock t d l levels) s = done (blockFound t d l.toNat s) :=
    congrArg done (effSearchBlock_found hr hb hp hlo hhi hd hl)
  obtain ⟨hn, ho⟩ := trkPart_next hc hx blockFound_only (by simp [searchFields, calmRegs])
  refine ⟨_, hn, ?_, ?_, ?_, ?_, ?_, ho⟩
  · rw [vectors_bit, State.bit, blockFound_rd, findingShown, modEq_rd, rd_wr_ne _ _ _ _ (by simp),
      rd_wr_ne _ _ _ _ (by simp), rd_wr_self]
    rfl
  · rw [vectors_rd, blockFound_rd, findingShown, modEq_rd, rd_wr_ne _ _ _ _ (by simp), rd_wr_self]
    exact Nat.mod_eq_of_lt (by show d < 8192; omega)
  · rw [vectors_rd, blockFound_rd, findingShown, modEq_rd, rd_wr_self]
    exact Nat.mod_eq_of_lt l.isLt
  · simp [blockFound, strongNoted, findingShown]
  · simp [blockFound]

/-- Settles O21: in its case each command is the one change of a window, of the target set or of the reflection list that
its own lemma above reads. -/
theorem sparseWindows : Obligations.SparseWindows := fun _ _ _ hc =>
  ⟨fun _ ha hg hgoal hp hd => windowSlideStep_slides hc ha hg hgoal hp hd,
    fun _ hw ha hl => windowFadeStep_fades hc hw ha hl,
    fun hw hp => windowFadeLimit_releases hc hw hp,
    fun _ hw ha hp => windowIncomingEnd_activates hc hw ha hp,
    fun hw hpin hs _ hk hout ha => windowRecentre_slides hc hw hpin hs hk hout ha,
    fun hauto hsp hq hd hr => placementCompute_holds hc hauto hsp hq hd hr,
    fun _ _ _ hr hb hp hlo hhi hd hl => residualSearchBlock_finds hc hr hb hp hlo hhi hd hl⟩

end Sys2Proof.Machine
end

section
/-! PROOFS. A twin's members: their positions go on the line, they hear HELLO, switch to VERIFY, and fail it in time. -/

namespace Sys2Proof.Machine

variable {l : List Fld} {i t : Nat} {b : Bool} {s u w : State} {c : Instr} {f g : Member → Member}

/-! ## Frames over one twin and its members -/

theorem Only.twinWr {x : Fld} {v : Nat} (h : Only l (State.offTwin i) s u) (m : x ∈ l) :
    Only l (State.offTwin i) s (u.wr x v) := ⟨h.regs.wr m, h.rest⟩

theorem Only.twinSend {x : Out} (h : Only l (State.offTwin i) s u) : Only l (State.offTwin i) s (u.send x) :=
  ⟨h.regs, h.rest⟩

theorem Only.modTwin {g : Twin → Twin} (h : Only l (State.offTwin i) s u) : Only l (State.offTwin i) s (u.modTwin i g) :=
  ⟨h.regs, (offTwin_modTwin u i g).trans h.rest⟩

theorem Only.modMem (h : Only l (State.offTwin i) s u) : Only l (State.offTwin i) s (modMem i b g u) := h.modTwin

/-- A command of one twin answers its effect, and keeps everything outside the twin. -/
theorem twinPart_next (hc : Calm s) (hx : exec c s = done w) (h : Only l (State.offTwin i) s w)
    (hl : ∀ f ∈ l, f.id ∉ calmRegs) : exec c s = .next (vectors w) ∧ Only l (State.offTwin i) s (vectors w) :=
  ⟨only_next hc hx h (offCalm_offTwin i) hl, h.vectors fun x => offTwin_vectors x i⟩

@[simp] theorem modMem_rd (x : Fld) : (modMem i b g s).rd x = s.rd x := rfl

theorem modMem_memOnly : MemOnly i b g s (modMem i b g s) := by
  cases b <;> exact modTwin_twin_self s i _

/-- What a member becomes rests on that member alone. -/
theorem MemOnly.congr (h : MemOnly i b f s u) (e : f (getMem i b s) = g (getMem i b s)) : MemOnly i b g s u := by
  cases b with
  | false => exact h.trans (congrArg (fun m => { s.twin i with a := m }) e)
  | true => exact h.trans (congrArg (fun m => { s.twin i with b := m }) e)

/-- A member's change looks at its twin alone. -/
theorem MemOnly.of_twin (h : MemOnly i b g s u) (e : w.twin i = u.twin i) : MemOnly i b g s w := e.trans h

theorem MemOnly.vectors (h : MemOnly i b g s u) : MemOnly i b g s (vectors u) := h.of_twin (vectors_twin u i)

/-- A count that rises by a truth value. -/
theorem counted_if (x : Fld) (late : Bool) : Counted x (b2n late) s (if late then s.sat x 1 else s) := by
  cases late with
  | false => exact (Nat.min_eq_left (Nat.le_sub_one_of_lt (rd_lt s x))).symm
  | true => exact sat_rd s x 1

/-! ## Positions cross to the vale and go on the line (R156, R229, R230) -/

theorem twinMessageEgress_moves {i : Fin 4} (hc : Calm s) : ∃ u, exec (.twinMessageEgress i b) s = .next u ∧
    MemOnly i b (fun m => { m with
      flight := m.flight.drop 1, await := m.await ++ (m.flight.take 1).map fun q => (q, false) }) s u ∧
    Only [] (State.offTwin i) s u := by
  obtain ⟨hn, ho⟩ := twinPart_next hc (c := .twinMessageEgress i b) rfl (l := []) Only.refl.modMem (by simp)
  exact ⟨_, hn, modMem_memOnly.vectors, ho⟩

/-- A position that is late is counted. -/
def lateCounted (t : Nat) (late : Bool) (s : State) : State :=
  if late then s.sat (R.PASS_DISC_CNT_LATE (t / 2)) 1 else s

/-- A member without the position that it launches. -/
def Member.launch (m : Member) : Member := { m with await := m.await.drop 1 }

/-- The first position that awaits its launch goes on the line of member `b`. -/
def launched (i : Nat) (b : Bool) (p : Nat) (late : Bool) (s : State) : State :=
  (lateCounted (memTrunk i b s) late (modMem i b Member.launch s)).send
    (.twinWord (memTrunk i b s) p late)

theorem exec_twinPositionLaunch_awaiting {i : Fin 4} {p : Nat} {late : Bool} {q : List (Nat × Bool)}
    (h : (getMem i b s).await = (p, late) :: q) : exec (.twinPositionLaunch i b) s = done (launched i b p late s) := by
  have h' : (if b then (s.twin i).b else (s.twin i).a).await = (p, late) :: q := h
  show execTwinPositionLaunch i b s = _
  simp only [execTwinPositionLaunch, h']
  rfl

theorem lateCounted_twin (late : Bool) : (lateCounted t late s).twin i = s.twin i := by
  cases late <;> rfl

theorem lateCounted_only {late : Bool} (h : Only l (State.offTwin i) s u) (m : R.PASS_DISC_CNT_LATE (t / 2) ∈ l) :
    Only l (State.offTwin i) s (lateCounted t late u) := by
  cases late with
  | false => exact h
  | true => exact h.twinWr m

theorem twinPositionLaunch_sends {i : Fin 4} {p : Nat} {late : Bool} {q : List (Nat × Bool)} (hc : Calm s)
    (h : (getMem i b s).await = (p, late) :: q) : ∃ u, exec (.twinPositionLaunch i b) s = .next u ∧
      MemOnly i b (fun m => { m with await := q }) s u ∧ .twinWord (memTrunk i b s) p late ∈ u.out ∧
      Counted (R.PASS_DISC_CNT_LATE (memTrunk i b s / 2)) (b2n late) s u ∧
      Only [R.PASS_DISC_CNT_LATE (memTrunk i b s / 2)] (State.offTwin i) s u := by
  have ho : Only [R.PASS_DISC_CNT_LATE (memTrunk i b s / 2)] (State.offTwin i) s (launched i b p late s) :=
    (lateCounted_only Only.refl.modMem (List.mem_singleton_self _)).twinSend
  have hm : MemOnly i b (fun m => { m with await := q }) s (launched i b p late s) :=
    MemOnly.congr (f := Member.launch) (modMem_memOnly.of_twin (lateCounted_twin late)) (by simp [Member.launch, h])
  obtain ⟨hn, hv⟩ := twinPart_next hc (exec_twinPositionLaunch_awaiting h) ho (by simp [calmRegs])
  exact ⟨_, hn, hm.vectors, mem_vectors_out (.head _), counted_vectors.2 (counted_if _ late), hv⟩

/-! ## HELLO in SOLO (R157, R159) -/

theorem soloMember_eq (ht : twinOf t s = some (i, b)) (h : memState i b s = 1) : soloMember t s = some (i, b) := by
  simp [soloMember, ht, h]

/-- While the other member has heard no HELLO, none is wrong. -/
theorem helloWrong_unknown (m : HelloMsg) (h : s.rd (peerRoleFld i (!b)) = 0) : helloWrong i b m s = false := by
  simp [helloWrong, h]

/-- What a HELLO with no fault makes of a member. -/
def helloHeard (m : HelloMsg) (x : Member) : Member :=
  { x with peerTwin := m.twin, peerTag := m.tag, helloGot := true, helloGotSeen := x.helloGotSeen || m.seen,
           nonHelloRun := 0, wrong := false }

theorem effHello_solo {m : HelloMsg} (ht : twinOf t s = some (i, b)) (h1 : memState i b s = 1) (hm : m.role = 1 ∨ m.role = 2)
    (hp : s.rd (peerRoleFld i (!b)) = 0) :
    effHello t m s = modMem i b (helloHeard m) (s.wr (peerRoleFld i b) m.role) := by
  have hr : ¬ (m.role ≠ 1 ∧ m.role ≠ 2) := by omega
  simp only [effHello, soloMember_eq ht h1, if_neg hr, helloWrong_unknown m hp]
  rfl

theorem hello_heard {t : Fin 8} {m : HelloMsg} (hc : Calm s) (ht : twinOf t s = some (i, b)) (h1 : memState i b s = 1)
    (hm : m.role = 1 ∨ m.role = 2) (hp : s.rd (peerRoleFld i (!b)) = 0) :
    ∃ u, exec (.hello t m) s = .next u ∧ u.rd (peerRoleFld i b) = m.role ∧ MemOnly i b (helloHeard m) s u ∧
      Only [peerRoleFld i b] (State.offTwin i) s u := by
  have hx : exec (.hello t m) s = done (modMem i b (helloHeard m) (s.wr (peerRoleFld i b) m.role)) :=
    congrArg done (effHello_solo ht h1 hm hp)
  have hw : (peerRoleFld i b).width = 2 ∧ (peerRoleFld i b).id ∉ calmRegs := by cases b <;> simp [peerRoleFld, calmRegs]
  obtain ⟨hn, ho⟩ := twinPart_next hc hx (l := [peerRoleFld i b])
    (Only.refl.twinWr (List.mem_singleton_self _)).modMem (by simpa using hw.2)
  refine ⟨_, hn, ?_, MemOnly.vectors (u := modMem i b _ _) modMem_memOnly, ho⟩
  rw [vectors_rd, modMem_rd, rd_wr_self, hw.1]
  exact Nat.mod_eq_of_lt (by omega)

/-! ## From SOLO to VERIFY (R157, R163) -/

/-- A member enters VERIFY with its counts at zero. -/
def verifyBegun (i : Nat) (b : Bool) (s : State) : State :=
  modMem i b (fun m => { m with verifyAms := 0, matchRun := 0, amRun := 0 }) (s.wr (memFld i b) 2)

theorem memState_verifyBegun : memState i b (verifyBegun i b s) = 2 := by
  cases b <;> exact rd_wr_self s _ 2

theorem memState_verifyBegun_other : memState i (!b) (verifyBegun i b s) = memState i (!b) s := by
  cases b <;> exact rd_wr_ne s _ _ 2 (by simp [memFld])

/-- TWIN_STATE already counts the members that are JOINED. -/
theorem twinRefresh_same (h : s.rd (R.TWIN_STAT_TWIN_STATE i) = b2n (joined i b s) + b2n (joined i (!b) s)) :
    twinRefresh i s = s := by
  refine if_pos (h.trans ?_)
  cases b with
  | false => rfl
  | true => exact Nat.add_comm _ _

/-- From SOLO the entry to VERIFY leaves TWIN_STATE, and with it every window of the other member, as they were. -/
theorem setMem_verify (h1 : memState i b s = 1) (hs : s.rd (R.TWIN_STAT_TWIN_STATE i) = b2n (joined i (!b) s)) :
    setMem i b 2 s = verifyBegun i b s := by
  have hj : joined i b s = false := by simp [joined, h1]
  have hstate : (verifyBegun i b s).rd (R.TWIN_STAT_TWIN_STATE i) = s.rd (R.TWIN_STAT_TWIN_STATE i) := by
    cases b <;> exact rd_wr_ne s _ _ 2 (by simp [memFld])
  have hr : twinRefresh i (verifyBegun i b s) = verifyBegun i b s := by
    refine twinRefresh_same (b := b) ?_
    rw [hstate, hs, joined, joined, joined, memState_verifyBegun, memState_verifyBegun_other]
    simp [b2n]
  have hm : setMemOnly i b 2 s = verifyBegun i b s := (if_neg (by omega)).trans hr
  simp [setMem, hj, hm]

theorem twinSoloSwitch_verifies {t : Fin 8} (hc : Calm s) (ht : twinOf t s = some (i, b)) (h1 : memState i b s = 1)
    (hr : soloReady (getMem i b s) = true) (hs : s.rd (R.TWIN_STAT_TWIN_STATE i) = b2n (joined i (!b) s)) :
    ∃ u, exec (.twinSoloSwitch t) s = .next u ∧ memState i b u = 2 ∧
      MemOnly i b (fun m => { m with verifyAms := 0, matchRun := 0, amRun := 0 }) s u ∧
      Only [memFld i b] (State.offTwin i) s u := by
  have hx : exec (.twinSoloSwitch t) s = done (verifyBegun i b s) := by
    show execTwinSoloSwitch t s = _
    simp only [execTwinSoloSwitch, soloMember_eq ht h1, hr, setMem_verify h1 hs, if_true]
  have hf : (memFld i b).id ∉ calmRegs := by cases b <;> simp [memFld, calmRegs]
  obtain ⟨hn, ho⟩ := twinPart_next hc hx (l := [memFld i b]) (Only.refl.twinWr (List.mem_singleton_self _)).modMem
    (by simpa using hf)
  exact ⟨_, hn, (vectors_rd _ _).trans memState_verifyBegun, MemOnly.vectors (u := modMem i b _ _) modMem_memOnly, ho⟩

/-! ## A verify that runs out (R158) -/

theorem twinVerifyTimeout_fails {t : Fin 8} (hc : Calm s) (ht : twinOf t s = some (i, b)) (h2 : memState i b s = 2) :
    ∃ u, exec (.twinVerifyTimeout t) s = .next u ∧ u.bit (R.TWIN_EVT_JOIN_FAIL i) = true ∧
      u.rd (causeFld i b) = (if offsetOk i s then 4 else 3) ∧ RegsOnly [R.TWIN_EVT_JOIN_FAIL i, causeFld i b] s u := by
  have hx : exec (.twinVerifyTimeout t) s =
      done ((s.evt (R.TWIN_EVT_JOIN_FAIL i)).wr (causeFld i b) (if offsetOk i s then 4 else 3)) := by
    show execTwinVerifyTimeout t s = _
    simp only [execTwinVerifyTimeout, ht, if_pos h2]
  have hf : (causeFld i b).width = 4 ∧ (causeFld i b).id ∉ calmRegs ∧ (causeFld i b).id ≠ (R.TWIN_EVT_JOIN_FAIL i).id := by
    cases b <;> simp [causeFld, calmRegs]
  obtain ⟨hwidth, hcalm, hne⟩ := hf
  obtain ⟨hn, ho⟩ := regs_next hc hx (l := [R.TWIN_EVT_JOIN_FAIL i, causeFld i b])
    (RegsOnly.wr (RegsOnly.wr .refl (by simp)) (by simp)) (by simpa [calmRegs] using hcalm)
  refine ⟨_, hn, ?_, ?_, ho⟩
  · rw [vectors_bit, State.bit, rd_wr_ne _ _ _ _ fun e => absurd e hne, State.evt, rd_wr_self]
    rfl
  · rw [vectors_rd, rd_wr_self, hwidth]
    exact Nat.mod_eq_of_lt (by split <;> omega)

/-- Settles O24: one lemma for each command, in the order of a member's life. -/
theorem twinMembers : Obligations.TwinMembers := fun _ _ _ hc =>
  ⟨twinMessageEgress_moves hc, fun _ _ _ h => twinPositionLaunch_sends hc h, fun _ ht =>
    ⟨fun _ h1 hm hp => hello_heard hc ht h1 hm hp, fun h1 hr hs => twinSoloSwitch_verifies hc ht h1 hr hs,
      fun h2 => twinVerifyTimeout_fails hc ht h2⟩⟩

end Sys2Proof.Machine
end

section
/-! PROOFS. A twin's stream: its grid advances, a held copy is sent, and the better of two copies is taken. -/

namespace Sys2Proof.Machine

variable {l : List Fld} {i p : Nat} {b m : Bool} {s u : State} {c f : TwinCopy}

/-! ## The grid (R154, R156) -/

/-- A member that is not JOINED takes part in the stream in VERIFY alone. -/
theorem gridMem_unjoined {am idx st : Nat} (h : st ≠ 3) (y : Member) : gridMem am idx st y =
    { y with flight := if st = 2 then y.flight ++ [am * 4096 + idx] else y.flight,
             verifyAms := if idx = 0 ∧ st = 2 then y.verifyAms + 1 else y.verifyAms } := by
  simp [gridMem, h]

theorem memState_unjoined (h : joined i b s = false) : memState i b s ≠ 3 := by
  simpa [joined] using h

/-- The position after the last one reached: its AM counter and its index. -/
def gridNext (y : Twin) : Nat × Nat :=
  let idx := (y.gridIndex + 1) % 4096
  (if idx = 0 then (y.gridAm + 1) % 256 else y.gridAm, idx)

/-- The grid stands at its next position, which goes to the members on the stream. -/
def gridStep (i : Nat) (s : State) : State :=
  s.modTwin i fun y => { y with
    gridIndex := (gridNext (s.twin i)).2, gridAm := (gridNext (s.twin i)).1,
    a := gridMem (gridNext (s.twin i)).1 (gridNext (s.twin i)).2 (memState i false s) y.a,
    b := gridMem (gridNext (s.twin i)).1 (gridNext (s.twin i)).2 (memState i true s) y.b }

/-- With no member JOINED the position is MISSING (R161). -/
theorem effTwinGrid_missing (hf : s.bit (R.TWIN_CFG_FORMED i) = true) (ha : joined i false s = false)
    (hb : joined i true s = false) : effTwinGrid i s = (gridStep i s).add (R.TWIN_CNT_COUNT i 4) 1 := by
  simp only [effTwinGrid, hf, ha, hb]
  rfl

theorem twinGridPosition_advances {i : Fin 4} (hc : Calm s) (hf : s.bit (R.TWIN_CFG_FORMED i) = true)
    (ha : joined i false s = false) (hb : joined i true s = false) :
    ∃ u, exec (.twinGridPosition i) s = .next u ∧ Wrapped (R.TWIN_CNT_COUNT i 4) 1 s u ∧ u.twin i = (gridStep i s).twin i ∧
      Only [R.TWIN_CNT_COUNT i 4] (State.offTwin i) s u := by
  have hx : exec (.twinGridPosition i) s = done ((gridStep i s).add (R.TWIN_CNT_COUNT i 4) 1) :=
    congrArg done (effTwinGrid_missing hf ha hb)
  obtain ⟨hn, ho⟩ := twinPart_next hc hx (l := [R.TWIN_CNT_COUNT i 4]) (Only.refl.modTwin.twinWr (by simp))
    (by simp [calmRegs])
  exact ⟨_, hn, wrapped_vectors.2 (add_rd (gridStep i s) _ 1), vectors_twin _ _, ho⟩

/-! ## A copy is delivered (R161) -/

/-- Position `p` is taken from member `m`: counted, the member preferred from now on, and nothing held. -/
def delivered (i : Nat) (m : Bool) (p : Nat) (s : State) : State :=
  ((s.modTwin i fun y => { y with lastSel := some p, copyHeld := none }).add (R.TWIN_CNT_COUNT i (b2n m)) 1).wr
    (R.TWIN_STAT_PREF i) (b2n m + 1)

/-- The fields that a delivery writes. -/
def deliverFields (i : Nat) (m : Bool) : List Fld := [R.TWIN_CNT_COUNT i (b2n m), R.TWIN_STAT_PREF i]

theorem delivered_only (h : Only l (State.offTwin i) s u) (hl : ∀ f ∈ deliverFields i m, f ∈ l) :
    Only l (State.offTwin i) s (delivered i m p u) :=
  (h.modTwin.twinWr (hl _ (.head _))).twinWr (hl _ (.tail _ (.head _)))

theorem delivered_pref : (delivered i m p s).rd (R.TWIN_STAT_PREF i) = b2n m + 1 := by
  rw [delivered, rd_wr_self]
  cases m <;> rfl

theorem delivered_count : Wrapped (R.TWIN_CNT_COUNT i (b2n m)) 1 s (delivered i m p s) := by
  rw [Wrapped, delivered, rd_wr_ne _ _ _ _ (by simp), add_rd, modTwin_rd]

theorem delivered_twin : (delivered i m p s).twin i = { s.twin i with lastSel := some p, copyHeld := none } := by
  rw [delivered, wr_twin, add_twin, modTwin_twin_self]

/-- The copies of A and B, where copy `c` came on member `b` and `o` is what came on the other. -/
def copiesOf (b : Bool) (c : TwinCopy) (o : Option TwinCopy) : Option TwinCopy × Option TwinCopy :=
  if b then (o, some c) else (some c, o)

/-- The only copy of a position is taken where it decoded. -/
theorem twinChoice_alone {n : Nat} (hs : c.status = .corrected n) (pref : Bool) :
    twinChoice (copiesOf b c none).1 (copiesOf b c none).2 pref = (some (b, false), false) := by
  cases b <;> simp [copiesOf, twinChoice, hs, CwStatusCount]

/-- Of two copies that agree, the one with fewer corrected symbols is taken. -/
theorem twinChoice_fewer {n k : Nat} (hf : f.status = .corrected n) (hs : c.status = .corrected k)
    (hm : f.message = c.message) (hlt : k < n) (pref : Bool) :
    twinChoice (copiesOf b c (some f)).1 (copiesOf b c (some f)).2 pref = (some (b, false), false) := by
  have hle : ¬ n < k := by omega
  cases b <;> simp [copiesOf, twinChoice, hf, hs, CwStatusCount, hm, hlt, hle]

/-- A good copy in which no frame ends is delivered. -/
theorem twinSelect_delivers {o : Option TwinCopy} (hx : c.frames = [])
    (h : ∀ pref, twinChoice (copiesOf b c o).1 (copiesOf b c o).2 pref = (some (b, false), false)) :
    twinSelect i p (copiesOf b c o).1 (copiesOf b c o).2 s = delivered i b p s := by
  have hown : (if b then (copiesOf b c o).2 else (copiesOf b c o).1) = some c := by cases b <;> rfl
  simp only [twinSelect, h, hown, twinFrames, hx]
  rfl

/-! ## The hold runs out (R160) -/

theorem heldCopies_of (h : (s.twin i).copyHeld = some (b2n b, c)) : heldCopies i s = copiesOf b c none := by
  cases b <;> simp [heldCopies, h, b2n, copiesOf]

/-- A copy of a JOINED member takes part in selection. -/
theorem joinedOnly_joined (h : joined i b s = true) : joinedOnly i s (copiesOf b c none) = copiesOf b c none := by
  cases b <;> simp [joinedOnly, copiesOf, h]

theorem twinFlush_delivers {n : Nat} (hj : joined i b s = true) (hh : (s.twin i).copyHeld = some (b2n b, c))
    (hs : c.status = .corrected n) (hx : c.frames = []) : twinFlush i s = delivered i b (posNum c) s := by
  have hsome : ((copiesOf b c none).1.isNone && (copiesOf b c none).2.isNone) = false := by cases b <;> rfl
  simp only [twinFlush, hh, heldCopies_of hh, joinedOnly_joined hj, hsome]
  exact twinSelect_delivers hx fun pref => twinChoice_alone hs pref

theorem twinHoldExpiry_delivers {i : Fin 4} {n : Nat} (hc : Calm s) (hj : joined i b s = true)
    (hh : (s.twin i).copyHeld = some (b2n b, c)) (hs : c.status = .corrected n) (hx : c.frames = []) :
    ∃ u, exec (.twinHoldExpiry i) s = .next u ∧ Wrapped (R.TWIN_CNT_COUNT i (b2n b)) 1 s u ∧
      u.rd (R.TWIN_STAT_PREF i) = b2n b + 1 ∧
      u.twin i = { s.twin i with lastSel := some (posNum c), copyHeld := none } ∧
      Only (deliverFields i b) (State.offTwin i) s u := by
  obtain ⟨hn, ho⟩ := twinPart_next hc (c := .twinHoldExpiry i) (w := delivered i b (posNum c) s)
    (congrArg done (twinFlush_delivers hj hh hs hx)) (delivered_only .refl fun _ h => h) (by simp [deliverFields, calmRegs])
  exact ⟨_, hn, wrapped_vectors.2 delivered_count, (vectors_rd _ _).trans delivered_pref,
    (vectors_twin _ _).trans delivered_twin, ho⟩

/-! ## A copy arrives while both members are JOINED (R158, R160, R161) -/

/-- Both members are JOINED, and their copies arrive within reach of each other. -/
structure Paired (i : Nat) (s : State) : Prop where
  both : ∀ b, joined i b s = true
  offset : offsetOk i s = true

/-- Members rest on their states and on the arrival offset alone. -/
theorem Paired.of_kept (h : Paired i s) (hk : Kept l s u) (hl : ∀ f ∈ l, f.id ∉
    [(memFld i false).id, (memFld i true).id, (R.TWIN_ARRIVAL_OFFSET_NS i).id]) : Paired i u := by
  have hr : ∀ g : Fld, g.id ∈ [(memFld i false).id, (memFld i true).id, (R.TWIN_ARRIVAL_OFFSET_NS i).id] →
      u.rd g = s.rd g := fun g hg => hk g fun f hf e => hl f hf (e.1 ▸ hg)
  refine ⟨fun b => ?_, ?_⟩
  · rw [joined, memState, hr _ (by cases b <;> simp)]
    exact h.both b
  · rw [offsetOk, hr _ (by simp)]
    exact h.offset

/-- Such members stay as they are after a copy. -/
theorem Paired.copyJoin (h : Paired i s) : copyJoin i b s = s := by
  have hcheck : twinOffsetCheck i b s = s := by simp [twinOffsetCheck, h.offset]
  have hjoin : ∀ b, twinJoin i b s = s := fun b => if_pos (by
    have := h.both b
    simp only [joined, decide_eq_true_eq] at this
    omega)
  rw [Machine.copyJoin, hcheck, hjoin, hjoin]

/-- The first copy of a position is held. -/
theorem copyFirst_held (h : Paired i s) (hh : (s.twin i).copyHeld = none) :
    copyFirst i b c s = s.modTwin i fun y => { y with copyHeld := some (b2n b, c) } := by
  simp [copyFirst, twinFlush, hh, h.both]

/-- Between AMs, the two copies of a position change the runs of the members alone. -/
theorem twinPair_only (hx : c.index ≠ 0) (ns : Int) : Only [] (State.offTwin i) s (twinPair i b f c ns s) := by
  simp only [twinPair, if_neg hx]
  exact Only.refl.modMem.modMem

theorem copyBoth_delivers {n k : Nat} (h : Paired i s) (hx : c.index ≠ 0) (hf : f.status = .corrected n)
    (hs : c.status = .corrected k) (hm : f.message = c.message) (hlt : k < n) (hfr : c.frames = []) (ns : Int) :
    copyBoth i b false f c ns s = delivered i b (posNum c) (twinPair i b f c ns s) := by
  have hp : Paired i (twinPair i b f c ns s) := h.of_kept (twinPair_only hx ns).regs (by simp)
  have hsome : ((copiesOf b c (some f)).1.isNone && (copiesOf b c (some f)).2.isNone) = false := by cases b <;> rfl
  have hj : joinedOnly i (twinPair i b f c ns s) (copiesOf b c (some f)) = copiesOf b c (some f) := by
    simp [joinedOnly, hp.both]
  have hcopies : (if b then (some f, some c) else (some c, some f)) = copiesOf b c (some f) := by cases b <;> rfl
  simp only [copyBoth, hcopies, hj, hsome]
  exact twinSelect_delivers hfr fun pref => twinChoice_fewer hf hs hm hlt pref

/-- Between AMs, and before a first selection, a copy without its partner is the first of its position. -/
theorem effTwinCopy_first (hf : s.bit (R.TWIN_CFG_FORMED i) = true) (hl : (s.twin i).lastSel = none) (hx : c.index ≠ 0)
    (hp : copyPartner i b c s = none) (ns : Int) : effTwinCopy i b c ns s = copyJoin i b (copyFirst i b c s) := by
  simp [effTwinCopy, hf, copyLate, hl, copyAm, hx, hp]

/-- With its partner there, it is the second. -/
theorem effTwinCopy_second (hf : s.bit (R.TWIN_CFG_FORMED i) = true) (hl : (s.twin i).lastSel = none) (hx : c.index ≠ 0)
    (hp : copyPartner i b c s = some f) (ns : Int) :
    effTwinCopy i b c ns s = copyJoin i b (copyBoth i b false f c ns s) := by
  simp [effTwinCopy, hf, copyLate, hl, copyAm, hx, hp]

theorem copyPartner_none (h : (s.twin i).copyHeld = none) : copyPartner i b c s = none := by
  simp [copyPartner, h]

theorem copyPartner_some (h : (s.twin i).copyHeld = some (b2n (!b), f)) (hp : posNum f = posNum c) :
    copyPartner i b c s = some f := by
  cases b <;> simp [copyPartner, h, hp, b2n]

theorem twinCopyArrival_holds {i : Fin 4} (ns : Int) (hc : Calm s) (hf : s.bit (R.TWIN_CFG_FORMED i) = true) (h : Paired i s)
    (hl : (s.twin i).lastSel = none) (hx : c.index ≠ 0) (hh : (s.twin i).copyHeld = none) :
    ∃ u, exec (.twinCopyArrival i b c ns) s = .next u ∧ u.twin i = { s.twin i with copyHeld := some (b2n b, c) } ∧
      Only [] (State.offTwin i) s u := by
  have ho : Only [] (State.offTwin i) s (s.modTwin i fun y => { y with copyHeld := some (b2n b, c) }) := Only.refl.modTwin
  have he : exec (.twinCopyArrival i b c ns) s = done (s.modTwin i fun y => { y with copyHeld := some (b2n b, c) }) :=
    congrArg done (by
      rw [effTwinCopy_first hf hl hx (copyPartner_none hh), copyFirst_held h hh, (h.of_kept ho.regs (by simp)).copyJoin])
  obtain ⟨hn, hv⟩ := twinPart_next hc he ho (by simp)
  exact ⟨_, hn, (vectors_twin _ _).trans (modTwin_twin_self _ _ _), hv⟩

theorem twinCopyArrival_selects {i : Fin 4} {n k : Nat} (ns : Int) (hc : Calm s)
    (hf : s.bit (R.TWIN_CFG_FORMED i) = true) (h : Paired i s) (hl : (s.twin i).lastSel = none) (hx : c.index ≠ 0)
    (hh : (s.twin i).copyHeld = some (b2n (!b), f)) (hp : posNum f = posNum c) (hsf : f.status = .corrected n)
    (hsc : c.status = .corrected k) (hm : f.message = c.message) (hlt : k < n) (hfr : c.frames = []) :
    ∃ u, exec (.twinCopyArrival i b c ns) s = .next u ∧ Wrapped (R.TWIN_CNT_COUNT i (b2n b)) 1 s u ∧
      u.rd (R.TWIN_STAT_PREF i) = b2n b + 1 ∧ (u.twin i).lastSel = some (posNum c) ∧ (u.twin i).copyHeld = none ∧
      Only (deliverFields i b) (State.offTwin i) s u := by
  have hpair := twinPair_only (i := i) (b := b) (f := f) (s := s) hx ns
  have ho : Only (deliverFields i b) (State.offTwin i) s (delivered i b (posNum c) (twinPair i b f c ns s)) :=
    delivered_only (hpair.mono (by simp)) fun _ h => h
  have he : exec (.twinCopyArrival i b c ns) s = done (delivered i b (posNum c) (twinPair i b f c ns s)) :=
    congrArg done (by
      rw [effTwinCopy_second hf hl hx (copyPartner_some hh hp), copyBoth_delivers h hx hsf hsc hm hlt hfr,
        (h.of_kept ho.regs (by simp [deliverFields, memFld])).copyJoin])
  obtain ⟨hn, hv⟩ := twinPart_next hc he ho (by simp [deliverFields, calmRegs])
  refine ⟨_, hn, ?_, (vectors_rd _ _).trans delivered_pref, ?_, ?_, hv⟩
  · rw [wrapped_vectors, Wrapped, ← hpair.regs _ (by simp)]
    exact delivered_count
  · rw [vectors_twin, delivered_twin]
  · rw [vectors_twin, delivered_twin]

/-- Settles O23: the grid, the hold and the arrival of a copy, each by its lemma above. -/
theorem twinStream : Obligations.TwinStream := by
  refine fun i s hc => ⟨fun hf ha hb => ?grid, fun b c n hj hh hs hx => twinHoldExpiry_delivers hc hj hh hs hx,
    fun b c ns hf ha hb hoff hl hx => ?arrival⟩
  case grid =>
    obtain ⟨u, hn, hw, ht, ho⟩ := twinGridPosition_advances hc hf ha hb
    refine ⟨u, hn, hw, ?_, ho⟩
    rw [ht, gridStep, modTwin_twin_self, gridMem_unjoined (memState_unjoined ha), gridMem_unjoined (memState_unjoined hb)]
    rfl
  case arrival =>
    have h : Paired i s := ⟨fun b => by cases b <;> assumption, hoff⟩
    exact ⟨fun hh => twinCopyArrival_holds ns hc hf h hl hx hh, fun f n k hh hp hsf hsc hm hlt hfr =>
      twinCopyArrival_selects ns hc hf h hl hx hh hp hsf hsc hm hlt hfr⟩

end Sys2Proof.Machine
end

section
/-! PROOFS. Quiet windows of a trunk outside a twin: a window is asked for, and the peer's answers and requests are taken. -/

namespace Sys2Proof.Machine

variable {l : List Fld} {t : Nat} {s u w : State} {c : Instr} {p : QwPurpose} {g : QwGrant}

/-! ## A trunk's quiet-window business -/

@[simp] theorem modQw_rd (n : Nat) (f : Qw → Qw) (x : Fld) : (s.modQw n f).rd x = s.rd x := rfl

@[simp] theorem modQw_trk_self (n : Nat) (f : Qw → Qw) : (s.modQw n f).trk n = { s.trk n with qw := f (s.trk n).qw } :=
  modTrk_trk_self s n _

/-- An edit of that business looks at it alone. -/
theorem modQw_congr {n : Nat} {f g : Qw → Qw} (h : f (s.trk n).qw = g (s.trk n).qw) : s.modQw n f = s.modQw n g :=
  modTrk_congr (by rw [h])

theorem TrkOnly.modQw {f : Qw → Qw} (h : TrkOnly l t s u) : TrkOnly l t s (u.modQw t f) := h.modTrk

/-- Outside a twin the messages of a port travel on its one trunk (R103). -/
theorem portTrunk_alone (ha : Alone t s) (q : Nat → Bool) : ((portTrunks t s).find? q).getD t = t := by
  have ht : twinOf t s = none := ha
  cases hq : q t <;> simp [portTrunks, ht, List.find?, hq]

/-- With no request waiting, none is sent. -/
theorem qwServe_idle (h : (s.trk t).qw.waiting = []) : qwServe t s = s := by
  have hf : qwFirst (s.trk t).qw.waiting = none := by rw [h]; rfl
  simp [qwServe, hf]

/-- In a window for a calibration or for the host, no loop closure is asked for (15_surveyor R333). -/
theorem loopAsk_other (hg : (s.trk t).qw.grant = some g) (hp : g.purpose ∈ [0, 3]) : loopAsk t s = s := by
  have h1 : g.purpose ≠ 1 ∧ g.purpose ≠ 2 := by
    simp only [List.mem_cons, List.not_mem_nil, or_false] at hp
    omega
  simp [loopAsk, hg, h1.1, h1.2]

/-! ## A window is asked for (R167, R437) -/

/-- A calibration is due, and the trunk may ask for a window with nothing in its way. -/
structure MayAsk (t : Nat) (s : State) : Prop where
  alone : Alone t s
  wants : calWants t s = true
  data : trkState t s = 8
  reach : trkCR t s = true
  enabled : s.bit (R.TRK_QW_LIM_QW_EN t) = true
  free : (s.trk t).lch = none
  closed : (s.trk t).qw.grant = none
  first : (s.trk t).qw.waiting = []

/-- The AM that a request made now names. -/
def askStart (t : Nat) (s : State) : Nat := ((s.trk t).amTx + 1 + s.rd (R.TRK_QW_CTL_LEAD_AM t)) % 256

/-- The request for a calibration window: 400 µs of the whole trunk. -/
def calRequest (t : Nat) (s : State) : LchReq :=
  { type := 0x10, seq := (s.trk t).lchSeq, payload := qwPayload 0 0 0 (askStart t s) 400 0, left := 8,
    purpose := some .calibration }

/-- That request is open, and shown. -/
def calAsked (t : Nat) (s : State) : State :=
  (((((s.modTrk t fun x => { x with
    lchSeq := (x.lchSeq + 1) % 256, lch := some (calRequest t s), qw := { x.qw with waiting := [] } }).wr
    (R.TRK_QW_STAT_STATE t) 1).wr (R.TRK_QW_STAT_LOCAL t) 1).wr (R.TRK_QW_STAT_SCOPE t) 0).wr
    (R.TRK_QW_STAT_PURPOSE t) 0).wr (R.TRK_QW_STAT_START t) (askStart t s)

theorem calAsked_only : TrkOnly (qwAskFields t) t s (calAsked t s) :=
  (((((TrkOnly.refl.modTrk).wr (by simp [qwAskFields])).wr (by simp [qwAskFields])).wr (by simp [qwAskFields])).wr
    (by simp [qwAskFields])).wr (by simp [qwAskFields])

theorem calRequest_duration : tbits (calRequest t s).payload 31 16 = 400 := by
  simp only [calRequest, qwPayload, tbits]
  omega

/-- A request with nothing before it is sent at once. -/
theorem effQwRequest_sends (hm : qwMayRequest t p s = true) (hl : (s.trk t).lch = none) (hg : (s.trk t).qw.grant = none)
    (hw : (s.trk t).qw.waiting = []) :
    effQwRequest t p s = qwSend t p (s.modTrk t fun x => { x with qw := { x.qw with waiting := [] } }) := by
  have hp : qwFirst [p] = some p := by cases p <;> rfl
  have hq : effQwRequest t p s =
      qwServe t (s.modTrk t fun x => { x with qw := { x.qw with waiting := [p] } }) := by
    refine (if_pos hm).trans (congrArg (qwServe t) (modTrk_congr ?_))
    simp [hw]
  rw [hq]
  simp only [qwServe, modTrk_trk_self, hl, hg, hp, State.modQw, modTrk_modTrk]
  simp

/-- For a calibration of a trunk outside a twin, it names the whole trunk. -/
theorem qwSend_calibration (ha : Alone t s) :
    qwSend t .calibration (s.modTrk t fun x => { x with qw := { x.qw with waiting := [] } }) = calAsked t s := by
  have ht : ∀ g, twinOf t (s.modTrk t g) = none := fun _ => ha
  simp only [qwSend, lchRequest, qwScope, ht, modTrk_modTrk, modTrk_trk_self, modTrk_rd, qwDuration, purposeCode]
  rfl

theorem MayAsk.asks (h : MayAsk t s) : effQwDevice t .calibration s = calAsked t s := by
  have ht : twinOf t s = none := h.alone
  have hmay : qwMayRequest t .calibration s = true := by simp [qwMayRequest, ht, h.data, h.reach, h.enabled]
  exact (if_pos h.wants).trans ((effQwRequest_sends hmay h.free h.closed h.first).trans (qwSend_calibration h.alone))

/-- No request of trunk `t` waits for its time any longer. -/
def retryTaken (t : Nat) (s : State) : State := s.modQw t fun q => { q with retry := [] }

@[simp] theorem retryTaken_trk : (retryTaken t s).trk t = { s.trk t with qw := { (s.trk t).qw with retry := [] } } :=
  modQw_trk_self t _

/-- Requests that wait for their time have no part in what a trunk may ask. -/
theorem MayAsk.retryTaken (h : MayAsk t s) : MayAsk t (retryTaken t s) where
  alone := h.alone
  wants := h.wants
  data := h.data
  reach := h.reach
  enabled := h.enabled
  free := by simp [h.free]
  closed := by simp [h.closed]
  first := by simp [h.first]

theorem calAsked_trk : (calAsked t s).trk t = { s.trk t with
    lchSeq := ((s.trk t).lchSeq + 1) % 256, lch := some (calRequest t s), qw := { (s.trk t).qw with waiting := [] } } := by
  simp [calAsked]

/-- What QW_STAT shows of the request. -/
theorem calAsked_shows : (calAsked t s).rd (R.TRK_QW_STAT_STATE t) = 1 ∧ (calAsked t s).rd (R.TRK_QW_STAT_LOCAL t) = 1 ∧
    (calAsked t s).rd (R.TRK_QW_STAT_PURPOSE t) = 0 ∧ (calAsked t s).rd (R.TRK_QW_STAT_START t) = askStart t s := by
  simp [calAsked, rd_wr_ne, askStart]

theorem qwDeviceRequest_asks {t : Fin 8} (hc : Calm s) (h : MayAsk t s) :
    ∃ u, exec (.qwDeviceRequest t .calibration) s = .next u ∧ u.rd (R.TRK_QW_STAT_STATE t) = 1 ∧
      u.rd (R.TRK_QW_STAT_LOCAL t) = 1 ∧ u.rd (R.TRK_QW_STAT_PURPOSE t) = 0 ∧
      u.rd (R.TRK_QW_STAT_START t) = askStart t s ∧
      (∃ r, (u.trk t).lch = some r ∧ r.type = 0x10 ∧ r.seq = (s.trk t).lchSeq ∧ r.left = 8 ∧
        tbits r.payload 31 16 = 400) ∧ TrkOnly (qwAskFields t) t s u := by
  have hx : exec (.qwDeviceRequest t .calibration) s = done (calAsked t s) := congrArg done h.asks
  have hn := trk_next hx hc calAsked_only (by simp [qwAskFields, calmRegs])
  obtain ⟨hst, hloc, hpur, hstart⟩ := calAsked_shows (t := t) (s := s)
  exact ⟨_, hn, (vectors_rd _ _).trans hst, (vectors_rd _ _).trans hloc, (vectors_rd _ _).trans hpur,
    (vectors_rd _ _).trans hstart, ⟨calRequest t s, by rw [vectors_trk, calAsked_trk], rfl, rfl, rfl, calRequest_duration⟩,
    calAsked_only.vectors⟩

/-- A retry whose time has come asks as the calibration itself does. -/
theorem exec_qwRetry_calibration {t : Fin 8} {a : Nat} (h : MayAsk t s) (hr : (s.trk t).qw.retry = [(.calibration, a)])
    (ha : a ≤ s.age) : exec (.qwRetry t) s = done (calAsked t (retryTaken t s)) := by
  have he : s.modQw t (fun q => { q with retry := q.retry.filter (· ≠ (.calibration, a)) }) = retryTaken t s :=
    modQw_congr (by simp [hr])
  rw [← h.retryTaken.asks, ← he]
  show execQwRetry t s = _
  simp [execQwRetry, hr, ha]

theorem qwRetry_asks {t : Fin 8} {a : Nat} (hc : Calm s) (h : MayAsk t s)
    (hr : (s.trk t).qw.retry = [(.calibration, a)]) (ha : a ≤ s.age) :
    ∃ u, exec (.qwRetry t) s = .next u ∧ u.rd (R.TRK_QW_STAT_STATE t) = 1 ∧ u.rd (R.TRK_QW_STAT_PURPOSE t) = 0 ∧
      (u.trk t).qw.retry = [] ∧ (∃ r, (u.trk t).lch = some r ∧ r.type = 0x10 ∧ r.seq = (s.trk t).lchSeq) ∧
      TrkOnly (qwAskFields t) t s u := by
  have ho : TrkOnly (qwAskFields t) t s (calAsked t (retryTaken t s)) :=
    TrkOnly.refl.modQw.trans calAsked_only
  have hn := trk_next (exec_qwRetry_calibration h hr ha) hc ho (by simp [qwAskFields, calmRegs])
  obtain ⟨hst, _, hpur, _⟩ := calAsked_shows (t := t) (s := retryTaken t s)
  refine ⟨_, hn, (vectors_rd _ _).trans hst, (vectors_rd _ _).trans hpur, ?_,
    ⟨calRequest t (retryTaken t s), ?_, rfl, ?_⟩, ho.vectors⟩
  · rw [vectors_trk, calAsked_trk, retryTaken_trk]
  · rw [vectors_trk, calAsked_trk]
  · rw [calRequest, retryTaken_trk]

/-! ## A peer's request is granted (R166, R168) -/

/-- A free trunk finds no reason of R166 against a request for the whole trunk. -/
theorem qwReason_free {start dur : Nat} (h : QwFree t start dur s) : qwReason t 0 start dur s = 0 := by
  obtain ⟨hen, hdur, hstart, hgrant, hlch, hgap, ⟨hseq, hnext⟩, hrung, hrefuse⟩ := h
  have htime : ¬ ((start + 256 - (s.trk t).amRx.getD 0) % 256 < 2 ∨ 127 < (start + 256 - (s.trk t).amRx.getD 0) % 256) := by
    omega
  have hlim : ¬ s.rd (R.TRK_QW_LIM_MAX_US t) < dur := by omega
  simp only [qwReason, if_neg htime]
  simp [hen, hlim, hgrant, hlch, hgap, hseq, hnext, hrung, hrefuse]

/-- The grant that a request of the peer asks for. -/
def peerGrant (seq p : Nat) : QwGrant :=
  { isLocal := false, scope := 0, purpose := tbits p 45 44, start := tbits p 39 32, durUs := tbits p 31 16, seq := seq,
    opened := false, openAge := 0 }

/-- QW_ACK to it, as it stands in the link channel. -/
def ackMessage (seq p : Nat) : Nat :=
  0x11 * 2 ^ 56 + seq % 256 * 2 ^ 48 +
    qwPayload 0 (tbits p 45 44) 0 (tbits p 39 32) (tbits p 31 16) 0 % 2 ^ 48

/-- TYPE and SEQ stand above the PAYLOAD. -/
theorem ackMessage_head {seq : Nat} (p : Nat) (h : seq < 256) : ackMessage seq p / 2 ^ 48 = 0x11 * 2 ^ 8 + seq := by
  unfold ackMessage
  omega

/-- The request is answered, remembered, shown and granted. -/
def peerGranted (t seq p : Nat) (s : State) : State :=
  ((((((s.modTrk t fun x => { x with
    lchOut := x.lchOut ++ [ackMessage seq p], lchDone := some (0x10, seq, 0) }).wr
    (R.TRK_QW_STAT_STATE t) 2).wr (R.TRK_QW_STAT_LOCAL t) 0).wr (R.TRK_QW_STAT_SCOPE t) 0).wr
    (R.TRK_QW_STAT_PURPOSE t) (tbits p 45 44)).wr (R.TRK_QW_STAT_START t) (tbits p 39 32)).modQw t
    fun q => { q with grant := some (peerGrant seq p) }

theorem peerGranted_only {seq p : Nat} : TrkOnly (qwAskFields t) t s (peerGranted t seq p s) :=
  ((((((TrkOnly.refl.modTrk).wr (by simp [qwAskFields])).wr (by simp [qwAskFields])).wr (by simp [qwAskFields])).wr
    (by simp [qwAskFields])).wr (by simp [qwAskFields])).modQw

theorem peerGranted_trk {seq p : Nat} : (peerGranted t seq p s).trk t = { s.trk t with
    lchOut := (s.trk t).lchOut ++ [ackMessage seq p], lchDone := some (0x10, seq, 0),
    qw := { (s.trk t).qw with grant := some (peerGrant seq p) } } := by
  simp [peerGranted]

theorem effQwReq_grants {seq p : Nat} (ha : Alone t s) (hd : trkState t s = 8) (hr : trkCR t s = true)
    (hs : tbits p 47 46 = 0) (hp : tbits p 45 44 ∈ [0, 3]) (hl : (s.trk t).lchDone = none)
    (hf : QwFree t (tbits p 39 32) (tbits p 31 16) s) : effQwReq t seq p s = peerGranted t seq p s := by
  have ht : qwTarget t 0 s = t := by
    have ha' : twinOf t s = none := ha
    simp [qwTarget, ha']
  have hloop : loopAsk t (peerGranted t seq p s) = peerGranted t seq p s :=
    loopAsk_other (g := peerGrant seq p) (by rw [peerGranted_trk]) hp
  rw [← hloop]
  unfold effQwReq
  rw [if_neg (by simp [hd, hr])]
  simp only [hs, ht, hl, qwReason_free hf, if_true, lchSend, modTrk_modTrk]
  rfl

theorem qwReq_grants {t : Fin 8} {seq : BitVec 8} {p : BitVec 48} (hc : Calm s) (ha : Alone t s) (hd : trkState t s = 8)
    (hr : trkCR t s = true) (hs : tbits p.toNat 47 46 = 0) (hp : tbits p.toNat 45 44 ∈ [0, 3])
    (hl : (s.trk t).lchDone = none) (hf : QwFree t (tbits p.toNat 39 32) (tbits p.toNat 31 16) s) :
    ∃ u, exec (.qwReq t seq p) s = .next u ∧ u.rd (R.TRK_QW_STAT_STATE t) = 2 ∧ u.rd (R.TRK_QW_STAT_LOCAL t) = 0 ∧
      u.rd (R.TRK_QW_STAT_START t) = tbits p.toNat 39 32 ∧
      (∃ m, (u.trk t).lchOut = (s.trk t).lchOut ++ [m] ∧ m / 2 ^ 48 = 0x11 * 2 ^ 8 + seq.toNat) ∧
      (u.trk t).qw.grant = some (peerGrant seq.toNat p.toNat) ∧ TrkOnly (qwAskFields t) t s u := by
  have hx : exec (.qwReq t seq p) s = done (peerGranted t seq.toNat p.toNat s) :=
    congrArg done (effQwReq_grants ha hd hr hs hp hl hf)
  have hn := trk_next hx hc peerGranted_only (by simp [qwAskFields, calmRegs])
  refine ⟨_, hn, ?_, ?_, ?_, ⟨ackMessage seq.toNat p.toNat, ?_, ackMessage_head _ seq.isLt⟩, ?_, peerGranted_only.vectors⟩
  · rw [vectors_rd]; simp [peerGranted, rd_wr_ne]
  · rw [vectors_rd]; simp [peerGranted, rd_wr_ne]
  · rw [vectors_rd, peerGranted, modQw_rd, rd_wr_self]
    exact Nat.mod_eq_of_lt (Nat.mod_lt _ (by omega))
  · rw [vectors_trk, peerGranted_trk]
  · rw [vectors_trk, peerGranted_trk]

/-! ## The peer answers (R168, R169, R437) -/

/-- The open request of a trunk is known by its SEQ. -/
theorem qwOpenReq_eq {r : LchReq} (hl : (s.trk t).lch = some r) (hty : r.type = 0x10) {seq : Nat} (hs : r.seq = seq) :
    qwOpenReq t seq s = some r := by
  simp [qwOpenReq, hl, hty, hs]

/-- The window that an own request asked for. -/
def ownGrant (r : LchReq) : QwGrant :=
  { isLocal := true, scope := tbits r.payload 47 46, purpose := tbits r.payload 45 44, start := tbits r.payload 39 32,
    durUs := tbits r.payload 31 16, seq := r.seq, opened := false, openAge := 0 }

/-- The own request is over, and granted. -/
def ownGranted (t : Nat) (r : LchReq) (s : State) : State :=
  ((s.wr (R.TRK_QW_STAT_STATE t) 2).modTrk t fun x => { x with lch := none }).modQw t
    fun q => { q with grant := some (ownGrant r) }

theorem ownGranted_trk (r : LchReq) : (ownGranted t r s).trk t =
    { s.trk t with lch := none, qw := { (s.trk t).qw with grant := some (ownGrant r) } } := by
  simp [ownGranted]

theorem qwAck_grants {t : Fin 8} {seq : BitVec 8} {p : BitVec 48} {r : LchReq} (hc : Calm s) (ha : Alone t s)
    (hl : (s.trk t).lch = some r) (hty : r.type = 0x10) (hs : r.seq = seq.toNat) (hp : tbits r.payload 45 44 ∈ [0, 3]) :
    ∃ u, exec (.qwAck t seq p) s = .next u ∧ u.rd (R.TRK_QW_STAT_STATE t) = 2 ∧ (u.trk t).lch = none ∧
      (u.trk t).qw.grant = some (ownGrant r) ∧ TrkOnly [R.TRK_QW_STAT_STATE t] t s u := by
  have ho : TrkOnly [R.TRK_QW_STAT_STATE t] t.val s (ownGranted t r s) := (TrkOnly.refl.wr (by simp)).modTrk.modQw
  have hloop : loopAsk t (ownGranted t r s) = ownGranted t r s :=
    loopAsk_other (g := ownGrant r) (by rw [ownGranted_trk]) hp
  have hx : exec (.qwAck t seq p) s = done (ownGranted t r s) := by
    rw [← hloop]
    show execQwAck t seq p s = _
    simp only [execQwAck, qwReqTrunk, portTrunk_alone ha, qwOpenReq_eq hl hty hs]
    rfl
  refine ⟨_, trk_next hx hc ho (by simp [calmRegs]), ?_, ?_, ?_, ho.vectors⟩
  · rw [vectors_rd]; simp [ownGranted]
  · rw [vectors_trk, ownGranted_trk]
  · rw [vectors_trk, ownGranted_trk]

/-- The own request is over with a reason of the peer, and counted as failed. -/
def askRefused (t reason : Nat) (s : State) : State :=
  (((s.wr (R.TRK_QW_STAT_NAK_RX t) reason).modTrk t fun x => { x with lch := none }).sat (R.TRK_QW_CNT_FAILED t) 1).wr
    (R.TRK_QW_STAT_STATE t) 0

theorem askRefused_trk (reason : Nat) : (askRefused t reason s).trk t = { s.trk t with lch := none } := by
  simp [askRefused]

/-- The host's request is not made again (R437). -/
theorem exec_qwNak_host {t : Fin 8} {seq : BitVec 8} {p : BitVec 48} {r : LchReq} (ha : Alone t s)
    (hl : (s.trk t).lch = some r) (hty : r.type = 0x10) (hs : r.seq = seq.toNat) (hp : r.purpose = some .host)
    (hw : (s.trk t).qw.waiting = []) : exec (.qwNak t seq p) s = done (askRefused t (tbits p.toNat 43 40) s) := by
  have hserve : qwServe t (askRefused t (tbits p.toNat 43 40) s) = askRefused t (tbits p.toNat 43 40) s :=
    qwServe_idle (by rw [askRefused_trk]; exact hw)
  rw [← hserve]
  show execQwNak t seq p s = _
  simp only [execQwNak, qwReqTrunk, portTrunk_alone ha, qwOpenReq_eq hl hty hs, qwDropRequest, wr_trk, hl, hp, qwRetryLater]
  rfl

theorem qwNak_fails {t : Fin 8} {seq : BitVec 8} {p : BitVec 48} {r : LchReq} (hc : Calm s) (ha : Alone t s)
    (hl : (s.trk t).lch = some r) (hty : r.type = 0x10) (hs : r.seq = seq.toNat) (hp : r.purpose = some .host)
    (hw : (s.trk t).qw.waiting = []) : ∃ u, exec (.qwNak t seq p) s = .next u ∧ u.rd (R.TRK_QW_STAT_STATE t) = 0 ∧
      u.rd (R.TRK_QW_STAT_NAK_RX t) = tbits p.toNat 43 40 ∧ Counted (R.TRK_QW_CNT_FAILED t) 1 s u ∧ (u.trk t).lch = none ∧
      (u.trk t).qw = (s.trk t).qw ∧
      TrkOnly [R.TRK_QW_STAT_NAK_RX t, R.TRK_QW_CNT_FAILED t, R.TRK_QW_STAT_STATE t] t s u := by
  have ho : TrkOnly [R.TRK_QW_STAT_NAK_RX t, R.TRK_QW_CNT_FAILED t, R.TRK_QW_STAT_STATE t] t.val s
      (askRefused t (tbits p.toNat 43 40) s) := ((TrkOnly.refl.wr (by simp)).modTrk.wr (by simp)).wr (by simp)
  have hlt : tbits p.toNat 43 40 < 2 ^ 4 := Nat.mod_lt _ (by omega)
  refine ⟨_, trk_next (exec_qwNak_host ha hl hty hs hp hw) hc ho (by simp [calmRegs]), ?_, ?_, ?_, ?_, ?_, ho.vectors⟩
  · rw [vectors_rd, askRefused, rd_wr_self, Nat.zero_mod]
  · rw [vectors_rd, askRefused, rd_wr_ne _ _ _ _ (by simp), sat_rd_ne _ _ _ _ (by simp), modTrk_rd, rd_wr_self]
    exact Nat.mod_eq_of_lt hlt
  · rw [counted_vectors, Counted, askRefused, rd_wr_ne _ _ _ _ (by simp), sat_rd, modTrk_rd, rd_wr_ne _ _ _ _ (by simp)]
  · rw [vectors_trk, askRefused_trk]
  · rw [vectors_trk, askRefused_trk]

end Sys2Proof.Machine
end

section
/-! PROOFS. A granted window of a trunk outside a twin is cancelled, opens, closes, and lets the triggers apply again. -/

namespace Sys2Proof.Machine

variable {l : List Fld} {t : Nat} {s u w : State} {c : Instr} {g : QwGrant}

/-! ## A command that owes what a window starts or ends -/

theorem TrkOnly.owe {x : Todo} (h : TrkOnly l t s u) : TrkOnly l t (s.owe x) (u.owe x) :=
  ⟨h.regs, h.others, h.line, congrArg (fun y => y.owe x) h.rest⟩

theorem TrkOnly.modEq {f : Eq → Eq} (h : TrkOnly l t s u) : TrkOnly l t s (u.modEq t f) := h.modTrk

/-- Outside survey windows the Surveyor starts nothing when a window opens (15_surveyor R333). -/
theorem survWindow_other {purpose : Nat} {own : Bool} (h : purpose ≠ 2) : survWindow t purpose own s = s :=
  if_pos (.inl h)

/-- A command that opens a window for another purpose than a survey answers what it does itself. -/
theorem window_next {purpose : Nat} {own : Bool} (hx : exec c s = done w) (hc : Calm s)
    (h : TrkOnly l t (s.owe (.window t purpose own)) w) (hl : ∀ f ∈ l, f.id ∉ calmRegs) (hp : purpose ≠ 2) :
    exec c s = .next (vectors w.paid) ∧ TrkOnly l t s (vectors w.paid) := by
  have hpaid : TrkOnly l t s w.paid := h.paid hc.owed
  have howed : w.todo = [.window t purpose own] := by
    have := h.part State.todo fun _ => rfl
    simpa [hc.owed] using this
  have hdo : todoDo (.window t purpose own) w.paid = w.paid := survWindow_other hp
  refine ⟨?_, hpaid.vectors⟩
  rw [hx, done_owed howed (by rw [hdo]; exact hpaid.calm hc hl), hdo]

/-- What runs on the line rests on the trunk's activities and on its calibration alone. -/
theorem TrkOnly.idle (h : TrkOnly l t s u) (hl : ∀ f ∈ l, f.id ≠ (R.ASSAY_ITEM_STAT_STATE t).id) (hi : Idle t s) :
    Idle t u := by
  refine ⟨h.line.trans hi.1, ?_⟩
  rw [itemState, h.regs _ fun f hf e => hl f hf e.1]
  exact hi.2

/-! ## The peer cancels its window (R169) -/

/-- The peer's grant is dropped, and counted as failed. -/
def grantDropped (t : Nat) (s : State) : State :=
  ((actAbort t (s.wr (R.TRK_QW_STAT_STATE t) 0)).sat (R.TRK_QW_CNT_FAILED t) 1).modQw t fun q => { q with grant := none }

theorem grantDropped_only : TrkOnly [R.TRK_QW_STAT_STATE t, R.TRK_QW_CNT_FAILED t] t (actAbort t s) (grantDropped t s) :=
  ((TrkOnly.refl.wr (by simp)).owe.wr (by simp)).modQw

theorem grantDropped_trk : (grantDropped t s).trk t = { s.trk t with qw := { (s.trk t).qw with grant := none } } := by
  simp [grantDropped, actAbort]

theorem exec_qwCancel_named {t : Fin 8} {p : BitVec 48} (ha : Alone t s) (hg : (s.trk t).qw.grant = some g)
    (hown : g.isLocal = false) (hop : g.opened = false) (hs : g.seq = tbits p.toNat 15 8) :
    exec (.qwCancel t p) s = done (grantDropped t s) := by
  have hnamed : qwCancels (tbits p.toNat 15 8) g = true := by simp [qwCancels, hown, hop, hs]
  show execQwCancel t p s = _
  simp only [execQwCancel, qwCancelTrunk, portTrunk_alone ha, effQwCancel, hg, hnamed]
  rfl

theorem qwCancel_drops {t : Fin 8} {p : BitVec 48} (hc : Calm s) (ha : Alone t s) (hg : (s.trk t).qw.grant = some g)
    (hown : g.isLocal = false) (hop : g.opened = false) (hs : g.seq = tbits p.toNat 15 8) (hi : Idle t s) :
    ∃ u, exec (.qwCancel t p) s = .next u ∧ (u.trk t).qw.grant = none ∧ u.rd (R.TRK_QW_STAT_STATE t) = 0 ∧
      Counted (R.TRK_QW_CNT_FAILED t) 1 s u ∧
      TrkOnly [R.SURV_TRK_STAT_BUSY t, R.TRK_QW_STAT_STATE t, R.TRK_QW_CNT_FAILED t] t s u := by
  obtain ⟨u, x, hn, ho, hr, ht⟩ := abort_next (exec_qwCancel_named ha hg hown hop hs) hc grantDropped_only
    (by simp [calmRegs]) (grantDropped_only.idle (by simp) hi)
  refine ⟨u, hn, ?_, ?_, ?_, ho⟩
  · rw [ht, grantDropped_trk]
  · rw [hr _ (by simp [Fld.same]), grantDropped, modQw_rd, sat_rd_ne _ _ _ _ (by simp), actAbort, owe_rd, rd_wr_self,
      Nat.zero_mod]
  · rw [Counted, hr _ (by simp [Fld.same]), grantDropped, modQw_rd, sat_rd, actAbort, owe_rd, rd_wr_ne _ _ _ _ (by simp)]

/-! ## A window opens (R170) -/

/-- The granted window is in force, shown and counted. -/
def windowOpened (t : Nat) (g : QwGrant) (s : State) : State :=
  ((s.modQw t fun q => { q with grant := some { g with opened := true, openAge := s.age } }).wr
    (R.TRK_QW_STAT_STATE t) 3).sat (R.TRK_QW_CNT_GRANTED t) 1

theorem windowOpened_only : TrkOnly [R.TRK_QW_STAT_STATE t, R.TRK_QW_CNT_GRANTED t] t s (windowOpened t g s) :=
  (TrkOnly.refl.modQw.wr (by simp)).wr (by simp)

theorem qwAtStart_eq (h : if g.isLocal then (s.trk t).amTx = g.start else (s.trk t).amRx = some g.start) :
    qwAtStart t g s = true := by
  unfold qwAtStart
  split at h
  · rw [if_pos ‹_›]
    exact decide_eq_true h
  · rw [if_neg ‹_›]
    exact decide_eq_true h

theorem exec_qwWindowOpen_start {t : Fin 8} (ha : Alone t s) (hg : (s.trk t).qw.grant = some g) (hop : g.opened = false)
    (hd : trkState t s = 8) (hs : qwAtStart t g s = true) :
    exec (.qwWindowOpen t) s = done (actWindow t g.purpose g.isLocal (windowOpened t g s)) := by
  have ha' : twinOf t (windowOpened t g s) = none := windowOpened_only.alone (by simp [Aside, calmRegs]) ha
  have hgo : ¬ ((g.opened || !qwAtStart t g s || decide (trkState t s ≠ 8)) = true) := by simp [hop, hs, hd]
  show execQwWindowOpen t s = _
  rw [windowOpened] at ha' ⊢
  simp only [execQwWindowOpen, hg, if_neg hgo, ha']

theorem qwWindowOpen_opens {t : Fin 8} (hc : Calm s) (ha : Alone t s) (hg : (s.trk t).qw.grant = some g)
    (hop : g.opened = false) (hp : g.purpose ≠ 2) (hd : trkState t s = 8)
    (hs : if g.isLocal then (s.trk t).amTx = g.start else (s.trk t).amRx = some g.start) :
    ∃ u, exec (.qwWindowOpen t) s = .next u ∧ u.rd (R.TRK_QW_STAT_STATE t) = 3 ∧
      Counted (R.TRK_QW_CNT_GRANTED t) 1 s u ∧ (u.trk t).qw.grant = some { g with opened := true, openAge := s.age } ∧
      TrkOnly [R.TRK_QW_STAT_STATE t, R.TRK_QW_CNT_GRANTED t] t s u := by
  obtain ⟨hn, ho⟩ := window_next (exec_qwWindowOpen_start ha hg hop hd (qwAtStart_eq hs)) hc windowOpened_only.owe
    (by simp [calmRegs]) hp
  refine ⟨_, hn, ?_, ?_, ?_, ho⟩
  · rw [vectors_rd, paid_rd, actWindow, owe_rd, windowOpened, sat_rd_ne _ _ _ _ (by simp), rd_wr_self]
    rfl
  · rw [counted_vectors, Counted, paid_rd, actWindow, owe_rd, windowOpened, sat_rd, rd_wr_ne _ _ _ _ (by simp), modQw_rd]
  · rw [vectors_trk, paid_trk, actWindow, owe_trk, windowOpened, sat_trk, wr_trk, modQw_trk_self]

@[simp] theorem sat_age (f : Fld) (n : Nat) : (s.sat f n).age = s.age := rfl

/-! ## A window closes (R136, R170, R171) -/

/-- The window is over, its time added, and a reflection list that waited for its end is in force. -/
def windowClosed (t : Nat) (g : QwGrant) (s : State) : State := (qwEnd t g (actAbort t s)).modEq t eqUnhold

theorem qwRest_alone (ha : Alone t s) : qwRest t s = s := by
  have ht : twinOf t s = none := ha
  simp [qwRest, ht]

theorem qwEnd_only : TrkOnly [R.TRK_QW_TIME_TOTAL_US t, R.TRK_QW_STAT_STATE t] t s (qwEnd t g s) := by
  unfold qwEnd
  exact ((TrkOnly.refl.wr (by simp)).wr (by simp)).modQw

theorem windowClosed_only :
    TrkOnly [R.TRK_QW_TIME_TOTAL_US t, R.TRK_QW_STAT_STATE t] t (actAbort t s) (windowClosed t g s) := qwEnd_only.modEq

theorem windowClosed_trk : (windowClosed t g s).trk t = { s.trk t with
    qw := { (s.trk t).qw with grant := none, lastEnd := some s.age, suspended := true }, eq := eqUnhold (s.trk t).eq } := by
  simp [windowClosed, qwEnd, actAbort]

/-- A list that waited is taken. -/
theorem eqUnhold_held {e : Eq} {r : List Reflection} (h : e.held = some r) : (eqUnhold e).refl = r := by
  simp [eqUnhold, h]

theorem exec_qwWindowClose_opened {t : Fin 8} (ha : Alone t s) (hg : (s.trk t).qw.grant = some g) (hop : g.opened = true)
    (hw : (s.trk t).qw.waiting = []) : exec (.qwWindowClose t) s = done (windowClosed t g s) := by
  have ha' : Alone t (qwEnd t g (actAbort t s)) := qwEnd_only.alone (by simp [Aside, calmRegs]) ha
  have hserve : qwServe t (windowClosed t g s) = windowClosed t g s := qwServe_idle (by rw [windowClosed_trk]; exact hw)
  rw [← hserve]
  show execQwWindowClose t s = _
  simp only [execQwWindowClose, hg, hop, qwRest_alone ha']
  rfl

theorem qwWindowClose_ends {t : Fin 8} (hc : Calm s) (ha : Alone t s) (hg : (s.trk t).qw.grant = some g)
    (hop : g.opened = true) (hw : (s.trk t).qw.waiting = []) (hi : Idle t s) :
    ∃ u, exec (.qwWindowClose t) s = .next u ∧ u.rd (R.TRK_QW_STAT_STATE t) = 0 ∧
      Counted (R.TRK_QW_TIME_TOTAL_US t) ((s.age - g.openAge) / usec) s u ∧ (u.trk t).qw.grant = none ∧
      (u.trk t).qw.lastEnd = some s.age ∧ (u.trk t).qw.suspended = true ∧
      (∀ r, (s.trk t).eq.held = some r → (u.trk t).eq.refl = r) ∧
      TrkOnly [R.SURV_TRK_STAT_BUSY t, R.TRK_QW_TIME_TOTAL_US t, R.TRK_QW_STAT_STATE t] t s u := by
  obtain ⟨u, x, hn, ho, hr, ht⟩ := abort_next (exec_qwWindowClose_opened ha hg hop hw) hc windowClosed_only
    (by simp [calmRegs]) (windowClosed_only.idle (by simp) hi)
  rw [windowClosed_trk] at ht
  refine ⟨u, hn, ?_, ?_, by rw [ht], by rw [ht], by rw [ht], fun r h => by rw [ht]; exact eqUnhold_held h, ho⟩
  · rw [hr _ (by simp [Fld.same]), windowClosed, modEq_rd, qwEnd, modQw_rd, rd_wr_self, Nat.zero_mod]
  · rw [Counted, hr _ (by simp [Fld.same]), windowClosed, modEq_rd, qwEnd, modQw_rd, rd_wr_ne _ _ _ _ (by simp), sat_rd,
      actAbort, owe_rd]
    rfl

/-! ## The triggers apply again (R171) -/

theorem qwAmResumeTimeout_resumes {t : Fin 8} (hc : Calm s) : ∃ u, exec (.qwAmResumeTimeout t) s = .next u ∧
    u.trk t = { s.trk t with qw := { (s.trk t).qw with suspended := false } } ∧ TrkOnly [] t s u := by
  have ho : TrkOnly [] t.val s (s.modQw t fun q => { q with suspended := false }) := TrkOnly.refl.modQw
  exact ⟨_, trk_next rfl hc ho (by simp), (vectors_trk _ _).trans (modQw_trk_self _ _), ho.vectors⟩

/-- Settles O22: one lemma for each message and each end of a window. -/
theorem quietWindows : Obligations.QuietWindows := by
  refine fun t s hc ha => ⟨fun hwants hd hr hen hl hg hw => ?asks, fun seq p hd hr hs hp hl hf =>
      qwReq_grants hc ha hd hr hs hp hl hf,
    fun seq p r hl hty hs => ⟨fun hp => qwAck_grants hc ha hl hty hs hp, fun hp hw => qwNak_fails hc ha hl hty hs hp hw⟩,
    fun p g hg hown hop hs hi => qwCancel_drops hc ha hg hown hop hs hi,
    fun g hg => ⟨fun hop hp hd hs => qwWindowOpen_opens hc ha hg hop hp hd hs,
      fun hop hw hi => qwWindowClose_ends hc ha hg hop hw hi⟩,
    qwAmResumeTimeout_resumes hc⟩
  case asks =>
    have h : MayAsk t s := ⟨ha, hwants, hd, hr, hen, hl, hg, hw⟩
    exact ⟨qwDeviceRequest_asks hc h, fun a hr ha => qwRetry_asks hc h hr ha⟩

end Sys2Proof.Machine
end

section
/-! PROOFS. The operations of a drop: its frame, its states, its opportunities, its bars, and the start of a cycle (R176,
R179, R182, R187). -/

namespace Sys2Proof.Machine

variable {l : List Fld} {d slot st : Nat} {s u w : State} {c : Instr}

/-! ## Frames over one drop -/

theorem Only.drpWr {x : Fld} {v : Nat} (h : Only l (State.offDrp d) s u) (m : x ∈ l) :
    Only l (State.offDrp d) s (u.wr x v) := ⟨h.regs.wr m, h.rest⟩

theorem Only.drpSend {x : Out} (h : Only l (State.offDrp d) s u) : Only l (State.offDrp d) s (u.send x) := ⟨h.regs, h.rest⟩

theorem Only.modDrp {g : Drop → Drop} (h : Only l (State.offDrp d) s u) : Only l (State.offDrp d) s (u.modDrp d g) :=
  ⟨h.regs, (offDrp_modDrp u d g).trans h.rest⟩

/-- A command of registers alone keeps everything outside a drop. -/
theorem RegsOnly.drpFrame (h : RegsOnly l s u) : Only l (State.offDrp d) s u := by
  have e := congrArg (State.offDrp d) h.rest
  exact ⟨h.regs, e⟩

/-- A command of one drop answers its effect, and keeps everything outside the drop. -/
theorem drpPart_next (hc : Calm s) (hx : exec c s = done w) (h : Only l (State.offDrp d) s w)
    (hl : ∀ f ∈ l, f.id ∉ calmRegs) : exec c s = .next (vectors w) ∧ Only l (State.offDrp d) s (vectors w) :=
  ⟨only_next hc hx h (offCalm_offDrp d) hl, h.vectors fun x => offDrp_vectors x d⟩

/-- What a drop's command leaves alone includes every part other than the drops. -/
theorem Only.drpPart (h : Only l (State.offDrp d) s u) {α : Type} (g : State → α) (hg : ∀ x, g (x.offDrp d) = g x) :
    g u = g s := by
  rw [← hg u, h.rest, hg]

/-! ## The drop takes a state (R176, R190) -/

/-- The fields that show whether a drop cycles. -/
def drpStateFields (d : Nat) : List Fld := [R.DRP_STAT_STATE d, R.DRP_STAT_BEACON_ON d]

/-- Every state but DISABLED is two writes. -/
theorem drpSet_enabled (h : st ≠ 0) :
    drpSet d st s = (s.wr (R.DRP_STAT_STATE d) st).wrb (R.DRP_STAT_BEACON_ON d) (st = 2 ∨ st = 3) := if_neg h

/-- DISABLED resets the cycle counter too. -/
theorem drpSet_disabled : drpSet d 0 s =
    ((s.wr (R.DRP_STAT_STATE d) 0).wr (R.DRP_STAT_BEACON_ON d) 0).wr (R.DRP_CYCLE_CNT_COUNT d) 0 := rfl

theorem drpSet_only (h : st ≠ 0) : RegsOnly (drpStateFields d) s (drpSet d st s) := by
  rw [drpSet_enabled h]
  exact RegsOnly.wr (RegsOnly.wr .refl (by simp [drpStateFields])) (by simp [drpStateFields])

@[simp] theorem drpSet_drp (k : Nat) : (drpSet d st s).drp k = s.drp k := by
  unfold drpSet; split <;> rfl

theorem drpSet_state (h : st < 8) : drpState d (drpSet d st s) = st := by
  by_cases h0 : st = 0
  · subst h0; simp [drpSet_disabled, drpState, rd_wr_ne]
  · simp [drpSet_enabled h0, drpState, State.wrb, rd_wr_ne, h]

theorem drpSet_beaconOn : (drpSet d st s).bit (R.DRP_STAT_BEACON_ON d) = decide (st = 2 ∨ st = 3) := by
  by_cases h0 : st = 0
  · subst h0; simp [drpSet_disabled, State.bit, rd_wr_ne]
  · rw [drpSet_enabled h0, wrb_bit_self rfl]

/-- A drop's state over a frame that lists what the state may write. -/
theorem Only.drpSet (h : Only l (State.offDrp d) s u) (hl : ∀ f ∈ drpStateFields d, f ∈ l)
    (h0 : st = 0 → R.DRP_CYCLE_CNT_COUNT d ∈ l) : Only l (State.offDrp d) s (drpSet d st u) := by
  have hs := hl (R.DRP_STAT_STATE d) (by simp [drpStateFields])
  have hb := hl (R.DRP_STAT_BEACON_ON d) (by simp [drpStateFields])
  by_cases e : st = 0
  · subst e; exact ((h.drpWr hs).drpWr hb).drpWr (h0 rfl)
  · rw [drpSet_enabled e]; exact (h.drpWr hs).drpWr hb

/-! ## The drop leaves the cycle (R176, R188, R189) -/

/-- The drop's part once its line has stopped: what was on the line waits first again, and nothing runs. -/
def Drop.cut (x : Drop) : Drop :=
  { x with lists := x.line ++ x.lists, line := [], opp := none, rxOpp := none, stage := .idle, defer := none }

theorem drpHalt_drp : (drpHalt d st s).drp d = (s.drp d).cut :=
  (drpSet_drp d).trans (modDrp_drp_self s d Drop.cut)

theorem Only.drpHalt (h : Only l (State.offDrp d) s u) (hl : ∀ f ∈ dropHaltFields d, f ∈ l)
    (h0 : st = 0 → R.DRP_CYCLE_CNT_COUNT d ∈ l) : Only l (State.offDrp d) s (drpHalt d st u) := by
  have hcut : Only l (State.offDrp d) s (drpCut d u) := h.modDrp
  have hoff : Only l (State.offDrp d) s (drpRxOff d (drpCut d u)) :=
    ((hcut.drpWr (hl _ (by simp [dropHaltFields]))).drpWr (hl _ (by simp [dropHaltFields]))).drpWr
      (hl _ (by simp [dropHaltFields]))
  exact hoff.drpSet (fun f hf => hl f (by simp [drpStateFields] at hf; rcases hf with rfl | rfl <;> simp [dropHaltFields])) h0

/-! ## Opportunities (R179, R182) -/

/-- The opportunity that follows, up to the last of `n` nodes. -/
def oppAfter (n : Nat) (o : Option Nat) : Option Nat :=
  match o with
  | some k => if k < n then some (k + 1) else none
  | none => none

theorem oppNext_eq : oppNext d s = s.modDrp d fun x => { x with opp := oppAfter (s.rd (R.DRP_CYC_CTL_NODES d)) x.opp } := rfl

theorem Only.oppNext (h : Only l (State.offDrp d) s u) : Only l (State.offDrp d) s (oppNext d u) := by
  rw [oppNext_eq]; exact h.modDrp

@[simp] theorem oppNext_rd (f : Fld) : (oppNext d s).rd f = s.rd f := by rw [oppNext_eq, modDrp_rd]

@[simp] theorem oppNext_rxBank : (oppNext d s).rxBank = s.rxBank := by rw [oppNext_eq, modDrp_rxBank]

theorem oppNext_drp : (oppNext d s).drp d = { s.drp d with opp := oppAfter (s.rd (R.DRP_CYC_CTL_NODES d)) (s.drp d).opp } :=
  modDrp_drp_self s d _

/-- A drop that has taken a frame for its line. -/
def Drop.take (f : TxFrame) (x : Drop) : Drop :=
  { x with line := x.line ++ [f], lists := x.lists.erase f, sent := x.sent + 1,
           slotSent := tset 0 x.slotSent f.slot (tget 0 x.slotSent f.slot + 1),
           lastFirst := if x.sent = 0 then f.slot else x.lastFirst }

theorem drpTake_eq (f : TxFrame) : drpTake d f s = s.modDrp d (Drop.take f) := rfl

/-- With nothing sent in it yet, opportunity 0 stays open: either it has no frame, or its first goes on the line. -/
theorem oppZeroNext_fresh (h : (s.drp d).sent = 0) : oppZeroNext d s = s ∨
    ∃ (g : Drop → Drop) (o : List Byte), (∀ x, (g x).opp = x.opp) ∧
      oppZeroNext d s = (s.modDrp d g).send (.drpFrame d o) := by
  unfold oppZeroNext
  simp only [h, if_true]
  split
  next _ _ f _ =>
    exact .inr ⟨fun x => { x.take f with resend := none }, f.octets, fun _ => rfl, by rw [drpTake_eq, modDrp_modDrp]⟩
  next _ _ f _ _ => exact .inr ⟨Drop.take f, f.octets, fun _ => rfl, by rw [drpTake_eq]⟩
  next => exact .inl rfl

/-! ## Bars (R187) -/

theorem setBar_eq (b : Bool) : setBar d slot b s =
    if slot < 31 then (s.modDrp d fun x => { x with bars := tset false x.bars slot b }).wrb (R.DRP_STN_HI_BARRED d slot) b
    else s.modDrp d fun x => { x with bars := tset false x.bars slot b } := rfl

theorem setBar_barred (b : Bool) : drpBarred d slot (setBar d slot b s) = b := by
  rw [setBar_eq]
  split <;> simp [drpBarred]

/-- A slot with a place in the station table shows its bar there. -/
theorem setBar_shown {b : Bool} (h : slot < 31) : (setBar d slot b s).bit (R.DRP_STN_HI_BARRED d slot) = b := by
  rw [setBar_eq, if_pos h, wrb_bit_self rfl]

theorem Only.setBar {b : Bool} (h : Only l (State.offDrp d) s u) (m : R.DRP_STN_HI_BARRED d slot ∈ l) :
    Only l (State.offDrp d) s (setBar d slot b u) := by
  rw [setBar_eq]
  split
  · exact h.modDrp.drpWr m
  · exact h.modDrp

/-! ## A cycle starts (R179, R181, R190) -/

/-- The fields that the start of a cycle shows. -/
def cycleFields (d : Nat) : List Fld := [R.DRP_CYCLE_CNT_COUNT d, R.DRP_STAT_NODE_COUNT d, R.DRP_LD_STAT_TO_ACT d]

/-- From `s` to `u` a cycle starts on drop `d`: counted, shown, with its BEACON sent and opportunity 0 open. -/
structure CycleStarts (d : Nat) (s u : State) : Prop where
  count : Wrapped (R.DRP_CYCLE_CNT_COUNT d) 1 s u
  nodes : u.rd (R.DRP_STAT_NODE_COUNT d) = (s.rd (R.DRP_CYC_CTL_NODES d) + 1) % 2 ^ 6
  opp : (u.drp d).opp = some 0
  beacon : .drpBeacon d 0 0 ∈ u.out
  only : Only (cycleFields d) (State.offDrp d) s u

/-- No station table of a live re-warp waits for the drop's next cycle. -/
def NoTable (d : Nat) (s : State) : Prop := ∀ e ∈ s.warp.pendStn, e.1 ≠ d

theorem liveCycle_noTable (h : NoTable d s) : liveCycle d s = s := by
  have hf : s.warp.pendStn.find? (fun e => decide (e.1 = d)) = none :=
    List.find?_eq_none.2 fun e he => by simpa using h e he
  simp only [liveCycle, hf]

/-- A drop that opens opportunity 0. -/
def Drop.opened (x : Drop) : Drop :=
  { x with opp := some 0, sent := 0, slotSent := [], start := (x.lastFirst + 1) % 32, deferred := false }

/-- A cycle is counted and shown, and opportunity 0 open with nothing sent in it. -/
def cycleOpened (d : Nat) (s : State) : State :=
  (drpShow d (s.add (R.DRP_CYCLE_CNT_COUNT d) 1)).modDrp d Drop.opened

theorem cycleOpened_long : drpLong d (cycleOpened d s) = drpLong d s := by
  simp [drpLong, cycleOpened, drpShow, State.bit, rd_wr_ne, add_rd_ne]

theorem dropCycle_short (hl : drpLong d s = false) (hp : NoTable d s) :
    dropCycle d s = oppZeroNext d ((cycleOpened d s).send (.drpBeacon d 0 0)) := by
  have hlong : ¬ drpLong d (cycleOpened d s) = true := by rw [cycleOpened_long, hl]; exact Bool.false_ne_true
  simp only [dropCycle, liveCycle_noTable hp]
  exact if_neg hlong

theorem cycleOpened_starts : CycleStarts d s ((cycleOpened d s).send (.drpBeacon d 0 0)) where
  count := by simp [Wrapped, cycleOpened, drpShow, rd_wr_ne, add_rd]
  nodes := by simp [cycleOpened, drpShow, rd_wr_ne, add_rd_ne]
  opp := by simp [cycleOpened, Drop.opened]
  beacon := .head _
  only := (((Only.refl.drpWr (by simp [cycleFields])).drpWr (by simp [cycleFields])).drpWr
    (by simp [cycleFields])).modDrp.drpSend

/-- A frame that goes on the line in opportunity 0 leaves the cycle started. -/
theorem CycleStarts.frame (h : CycleStarts d s u) {g : Drop → Drop} {o : List Byte} (hg : ∀ x, (g x).opp = x.opp) :
    CycleStarts d s ((u.modDrp d g).send (.drpFrame d o)) where
  count := h.count
  nodes := h.nodes
  opp := by rw [send_drp, modDrp_drp_self, hg, h.opp]
  beacon := .tail _ h.beacon
  only := h.only.modDrp.drpSend

theorem dropCycle_starts (hl : drpLong d s = false) (hp : NoTable d s) : CycleStarts d s (dropCycle d s) := by
  rw [dropCycle_short hl hp]
  have hsent : (((cycleOpened d s).send (.drpBeacon d 0 0)).drp d).sent = 0 := by simp [cycleOpened, Drop.opened]
  rcases oppZeroNext_fresh hsent with e | ⟨g, o, hg, e⟩
  · rw [e]; exact cycleOpened_starts
  · rw [e]; exact cycleOpened_starts.frame hg

theorem CycleStarts.vectors (h : CycleStarts d s u) : CycleStarts d s (vectors u) where
  count := wrapped_vectors.2 h.count
  nodes := by rw [vectors_rd, h.nodes]
  opp := by rw [vectors_drp, h.opp]
  beacon := mem_vectors_out h.beacon
  only := h.only.vectors fun x => offDrp_vectors x d

end Sys2Proof.Machine
end

section
/-! PROOFS. A drop's cycle: it starts, passes through its opportunities, defers and resumes (R179, R180, R183, R187, R188,
R190, R192). -/

namespace Sys2Proof.Machine

variable {s t : State} {d : Fin 64} {c : Instr}

theorem dropSettleElapsed_cycles (hc : Calm s) (h1 : drpState d s = 1) : ∃ u, exec (.dropSettleElapsed d) s = .next u ∧
    drpState d u = 2 ∧ u.bit (R.DRP_STAT_BEACON_ON d) = true ∧
    RegsOnly [R.DRP_STAT_STATE d, R.DRP_STAT_BEACON_ON d] s u := by
  have hx : exec (.dropSettleElapsed d) s = done (drpSet d 2 s) := congrArg done (if_pos h1)
  obtain ⟨hn, ho⟩ := regs_next hc hx (drpSet_only (by decide)) (by simp [drpStateFields, calmRegs])
  exact ⟨_, hn, (vectors_rd _ _).trans (drpSet_state (by decide)), (vectors_bit _ _).trans drpSet_beaconOn, ho⟩

theorem dropBeacon_starts (hc : Calm s) (h2 : drpState d s = 2) (ho : (s.drp d).opp = none) (hl : drpLong d s = false)
    (hp : NoTable d s) : ∃ u, exec (.dropBeacon d) s = .next u ∧ CycleStarts d s u := by
  have hx : exec (.dropBeacon d) s = done (dropCycle d s) := congrArg done (if_pos ⟨h2, ho⟩)
  have hs := dropCycle_starts hl hp
  exact ⟨_, (drpPart_next hc hx hs.only (by simp [cycleFields, calmRegs])).1, hs.vectors⟩

theorem opportunityTimeout_passes (hc : Calm s) (h2 : drpState d s = 2) (hline : (s.drp d).line = []) :
    ∃ u, exec (.opportunityTimeout d) s = .next u ∧
      u.drp d = { s.drp d with opp := oppAfter (s.rd (R.DRP_CYC_CTL_NODES d)) (s.drp d).opp } ∧
      Only [] (State.offDrp d) s u := by
  have hx : exec (.opportunityTimeout d) s = done (oppNext d s) := congrArg done (if_pos ⟨h2, hline⟩)
  obtain ⟨hn, ho⟩ := drpPart_next hc hx (l := []) Only.refl.oppNext (by simp)
  exact ⟨_, hn, (vectors_drp _ _).trans oppNext_drp, ho⟩

theorem deferralStart_defers (hc : Calm s) (h2 : drpState d s = 2) (hopp : (s.drp d).opp = none)
    (hd : (s.drp d).deferred = false) (hdue : drpCalDue d s ∨ drpSurvDue d s) :
    ∃ u, exec (.deferralStart d) s = .next u ∧ drpState d u = 3 ∧ u.bit (R.DRP_STAT_BEACON_ON d) = true ∧
      u.drp d = { s.drp d with deferred := true, defer := some (drpCalDue d s) } ∧
      Only [R.DRP_STAT_STATE d, R.DRP_STAT_BEACON_ON d] (State.offDrp d) s u := by
  have hx : exec (.deferralStart d) s =
      done ((drpSet d 3 s).modDrp d fun x => { x with deferred := true, defer := some (drpCalDue d s) }) :=
    congrArg done (if_pos ⟨h2, hopp, by simp [hd], hdue⟩)
  obtain ⟨hn, ho⟩ := drpPart_next hc hx (l := drpStateFields d) 
    (drpSet_only (by decide)).drpFrame.modDrp (by simp [drpStateFields, calmRegs])
  exact ⟨_, hn, (vectors_rd _ _).trans (drpSet_state (by decide)), (vectors_bit _ _).trans drpSet_beaconOn,
    by rw [vectors_drp, modDrp_drp_self, drpSet_drp], ho⟩

/-- A drop that has taken state CYCLE, and nothing else outside its own part, starts a cycle. -/
theorem cycle_resumes (hc : Calm s) (hx : exec c s = done (dropCycle d t)) (ht : Only (drpStateFields d) (State.offDrp d) s t)
    (h2 : drpState d t = 2) (hb : t.bit (R.DRP_STAT_BEACON_ON d) = true) (hl : drpLong d s = false) (hp : NoTable d s) :
    ∃ u, exec c s = .next u ∧ drpState d u = 2 ∧ u.bit (R.DRP_STAT_BEACON_ON d) = true ∧
      Wrapped (R.DRP_CYCLE_CNT_COUNT d) 1 s u ∧ (u.drp d).opp = some 0 ∧ .drpBeacon d 0 0 ∈ u.out ∧
      Only (drpStateFields d ++ cycleFields d) (State.offDrp d) s u := by
  have hk : ∀ f : Fld, f.id ∉ (drpStateFields d).map Fld.id → t.rd f = s.rd f := fun f hf =>
    ht.regs f fun x hx e => hf (e.1 ▸ List.mem_map_of_mem hx)
  have hs : CycleStarts d t (dropCycle d t) := dropCycle_starts
    (by rw [← hl, drpLong, State.bit, hk _ (by simp [drpStateFields])]; rfl)
    (by rw [NoTable, ht.drpPart State.warp fun _ => rfl]; exact hp)
  have ho := (ht.mono fun _ => List.mem_append_left (cycleFields d)).trans (hs.only.mono fun _ => List.mem_append_right _)
  have hn := (drpPart_next hc hx ho (by simp [drpStateFields, cycleFields, calmRegs])).1
  have hv := hs.vectors
  have hkept : ∀ f : Fld, f.id ∉ (cycleFields d).map Fld.id → (vectors (dropCycle d t)).rd f = t.rd f := fun f hf =>
    hv.only.regs f fun x hx e => hf (e.1 ▸ List.mem_map_of_mem hx)
  refine ⟨_, hn, ?_, ?_, (wrapped_congr (hk _ (by simp [drpStateFields]))).1 hv.count, hv.opp, hv.beacon,
    ho.vectors fun x => offDrp_vectors x d⟩
  · rw [drpState, hkept _ (by simp [cycleFields])]; exact h2
  · rw [State.bit, hkept _ (by simp [cycleFields])]; exact hb

theorem survPart_other (h : (s.drp d).defer ≠ some false) : survPart d s = s := if_neg h

theorem exec_deferralEnd_defer (h3 : drpState d s = 3) (hd : (s.drp d).defer ≠ some false) :
    exec (.deferralEnd d) s = done (dropCycle d ((drpSet d 2 s).modDrp d fun x => { x with defer := none })) := by
  refine congrArg done ((if_pos h3).trans ?_)
  rw [survPart_other hd]

theorem exec_dropJamEnd_jam (h4 : drpState d s = 4) : exec (.dropJamEnd d) s = done (dropCycle d (drpSet d 2 s)) :=
  congrArg done (if_pos h4)

theorem slotReadmit_clears {slot : Fin 32} (hc : Calm s) (h : drpBarred d slot s = true) :
    ∃ u, exec (.slotReadmit d slot false) s = .next u ∧ drpBarred d slot u = false ∧
      (slot.val < 31 → u.bit (R.DRP_STN_HI_BARRED d slot) = false) ∧
      Only [R.DRP_STN_HI_BARRED d slot] (State.offDrp d) s u := by
  have hx : exec (.slotReadmit d slot false) s = done (setBar d slot false s) := congrArg done (if_pos h)
  obtain ⟨hn, ho⟩ := drpPart_next hc hx (l := [R.DRP_STN_HI_BARRED d slot]) (Only.refl.setBar (List.mem_singleton_self _))
    (by simp [calmRegs])
  refine ⟨_, hn, ?_, fun hs => (vectors_bit _ _).trans (setBar_shown hs), ho⟩
  rw [drpBarred, vectors_drp]; exact setBar_barred false

/-- Settles O25: one lemma for each command; DEFERRAL_END and DROP_JAM_END are both `cycle_resumes`. -/
theorem dropCycleRuns : Obligations.DropCycleRuns := by
  refine fun d s hc => ⟨dropSettleElapsed_cycles hc, fun h2 hopp hl hp => ?beacon, opportunityTimeout_passes hc,
    deferralStart_defers hc, fun st hst he hl hp hd => ?resume, ?rearm, fun _ => slotReadmit_clears hc⟩
  case beacon =>
    obtain ⟨u, hn, h⟩ := dropBeacon_starts hc h2 hopp hl hp
    exact ⟨u, hn, h.count, h.nodes, h.opp, h.beacon, h.only⟩
  case resume =>
    have ho : Only (drpStateFields d) (State.offDrp d) s (drpSet d 2 s) := (drpSet_only (by decide)).drpFrame
    have h2 : drpState d (drpSet d 2 s) = 2 := drpSet_state (by decide)
    obtain rfl | rfl : st = 3 ∨ st = 4 := by simpa using hst
    · exact cycle_resumes hc (exec_deferralEnd_defer he hd) ho.modDrp h2 drpSet_beaconOn hl hp
    · exact cycle_resumes hc (exec_dropJamEnd_jam he) ho h2 drpSet_beaconOn hl hp
  case rearm =>
    obtain ⟨hn, ho⟩ := drpPart_next hc (c := .detectorRearm d) rfl (l := []) Only.refl.modDrp (by simp)
    exact ⟨_, hn, (vectors_drp _ _).trans (modDrp_drp_self _ _ _), ho⟩

end Sys2Proof.Machine
end

section
/-! PROOFS. What happens on a drop's line: frames, collisions, jams, jabber, a stuck transmitter and energy
(R184 to R189, R192). -/

namespace Sys2Proof.Machine

variable {l : List Fld} {s u w : State} {d : Fin 64}

/-! ## A sound frame of the slot whose opportunity runs (R185) -/

/-- A frame as the receive bank takes it. -/
def rxFrame (d k : Nat) (f : LineFrame) : RxFrame :=
  { port := dropPort d, cls := dropClass k f.octets, octets := f.octets, stamp := f.stamp, slot := k, bad := false }

/-- A frame of `n` octets is counted for its slot and for the drop. -/
def rxCounted (d k n : Nat) (s : State) : State :=
  ((s.sat (R.DRP_SLOT_RX_COUNT d k) 1).add (R.DRP_RX_FRAMES_COUNT d) 1).add (R.DRP_RX_OCTETS_COUNT d) n

/-- The counters of a frame received in slot `k`. -/
def rxCountFields (d k : Nat) : List Fld := [R.DRP_SLOT_RX_COUNT d k, R.DRP_RX_FRAMES_COUNT d, R.DRP_RX_OCTETS_COUNT d]

theorem kept_rxCounted (d k n : Nat) : Kept (rxCountFields d k) s (rxCounted d k n s) :=
  ((Kept.refl.wr (by simp [rxCountFields])).wr (by simp [rxCountFields])).wr (by simp [rxCountFields])

theorem offDrp_rxCounted (d k n : Nat) : (rxCounted d k n s).offDrp d = s.offDrp d := by
  simp [rxCounted, State.sat, State.add]

theorem offDrp_bankPut (d i : Nat) (f : RxFrame) : (s.bankPut i f).offDrp d = (s.offDrp d).bankPut i f := rfl

/-- A frame for which a receive bank has room joins it. -/
theorem rxPush_room {v bank : Nat} {f : RxFrame} (h : bankOctets s v bank + f.octets.length ≤ 524288) :
    s.rxPush v bank f = s.bankPut (8 * v + bank) f := if_neg fun e => absurd e.2 (by omega)

/-- A frame of slot `k` is counted, joins the drop's receive bank, and is the last that the drop has seen. -/
def frameJoined (d k : Nat) (f : LineFrame) (s : State) : State :=
  ((rxCounted d k f.octets.length s).bankPut (8 * (d / 16) + drpBank d) (rxFrame d k f)).modDrp d fun x =>
    { x with lastFrame := some s.age }

theorem frameJoined_rd {d k : Nat} {f : LineFrame} (g : Fld) :
    (frameJoined d k f s).rd g = (rxCounted d k f.octets.length s).rd g := by
  rw [frameJoined, modDrp_rd, bankPut_rd]

theorem frameJoined_rxBank {d k : Nat} {f : LineFrame} : tget [] (frameJoined d k f s).rxBank (8 * (d / 16) + drpBank d) =
    tget [] s.rxBank (8 * (d / 16) + drpBank d) ++ [rxFrame d k f] := by
  rw [frameJoined, modDrp_rxBank, bankPut_bank]
  simp [rxCounted]

theorem drpClassify_own {d k : Nat} {f : LineFrame} (hf : stnFind d f.octets s = some k) (hb : drpBarred d k s = false)
    (hr : bankOctets s (d / 16) (drpBank d) + f.octets.length ≤ 524288) : drpClassify d (some (k + 1)) f s =
      (rxCounted d k f.octets.length s).bankPut (8 * (d / 16) + drpBank d) (rxFrame d k f) := by
  simp only [drpClassify, hf, hb, Bool.false_eq_true, if_false, if_true]
  exact rxPush_room hr

theorem effDropFrame_own {d k : Nat} {f : LineFrame} (h2 : drpState d s = 2) (hl : drpLong d s = false)
    (ho : (s.drp d).opp = some (k + 1)) (h64 : 64 ≤ f.octets.length) (hfcs : fcsOk f.octets = true)
    (hf : stnFind d f.octets s = some k) (hb : drpBarred d k s = false)
    (hr : bankOctets s (d / 16) (drpBank d) + f.octets.length ≤ 524288) :
    effDropFrame d (.frame f true) false s = oppNext d (frameJoined d k f s) := by
  have hgood : (true && decide (64 ≤ f.octets.length) && fcsOk f.octets) = true := by simp [h64, hfcs]
  simp only [effDropFrame, h2, hl, ho, hgood, drpClassify_own hf hb hr]
  rfl

theorem frameJoined_only {d k : Nat} {f : LineFrame} : Only (rxCountFields d k)
    (fun x => (x.offDrp d).offBank (8 * (d / 16) + drpBank d)) s (oppNext d (frameJoined d k f s)) := by
  refine ⟨fun g hg => by rw [oppNext_rd, frameJoined_rd, kept_rxCounted d k _ g hg], ?_⟩
  rw [oppNext_eq, offDrp_modDrp, frameJoined, offDrp_modDrp, offDrp_bankPut, offDrp_rxCounted, offBank_bankPut]

theorem dropFrameReceive_joins {f : LineFrame} {k : Nat} (hc : Calm s) (h2 : drpState d s = 2) (hl : drpLong d s = false)
    (ho : (s.drp d).opp = some (k + 1)) (h64 : 64 ≤ f.octets.length) (hfcs : fcsOk f.octets = true)
    (hf : stnFind d f.octets s = some k) (hb : drpBarred d k s = false)
    (hr : bankOctets s (d / 16) (drpBank d) + f.octets.length ≤ 524288) :
    ∃ u, exec (.dropFrameReceive d (.frame f true) false) s = .next u ∧
      Counted (R.DRP_SLOT_RX_COUNT d k) 1 s u ∧ Wrapped (R.DRP_RX_FRAMES_COUNT d) 1 s u ∧
      Wrapped (R.DRP_RX_OCTETS_COUNT d) f.octets.length s u ∧
      tget [] u.rxBank (8 * (d / 16) + drpBank d) = tget [] s.rxBank (8 * (d / 16) + drpBank d) ++ [rxFrame d k f] ∧
      u.drp d = { s.drp d with
        opp := oppAfter (s.rd (R.DRP_CYC_CTL_NODES d)) (some (k + 1)), lastFrame := some s.age } ∧
      Only (rxCountFields d k) (fun x => (x.offDrp d).offBank (8 * (d / 16) + drpBank d)) s u := by
  have hx : exec (.dropFrameReceive d (.frame f true) false) s = done (oppNext d (frameJoined d k f s)) :=
    congrArg done (effDropFrame_own h2 hl ho h64 hfcs hf hb hr)
  have hcalm : OffCalm fun x => (x.offDrp d).offBank (8 * (d / 16) + drpBank d) :=
    ⟨fun _ => rfl, fun _ _ _ => rfl, fun _ => rfl, fun _ => rfl⟩
  have hn := only_next hc hx frameJoined_only hcalm (by simp [rxCountFields, calmRegs])
  have hrd : ∀ g, (vectors (oppNext d (frameJoined d k f s))).rd g = (rxCounted d k f.octets.length s).rd g :=
    fun g => by rw [vectors_rd, oppNext_rd, frameJoined_rd]
  refine ⟨_, hn, ?_, ?_, ?_, ?_, ?_, frameJoined_only.vectors fun x => by rw [offDrp_vectors]⟩
  · rw [Counted, hrd, rxCounted, add_rd_ne _ _ _ _ (by simp), add_rd_ne _ _ _ _ (by simp), sat_rd]
  · rw [Wrapped, hrd, rxCounted, add_rd_ne _ _ _ _ (by simp), add_rd, sat_rd_ne _ _ _ _ (by simp)]
  · rw [Wrapped, hrd, rxCounted, add_rd, add_rd_ne _ _ _ _ (by simp), sat_rd_ne _ _ _ _ (by simp)]
  · rw [vectors_rxBank, oppNext_rxBank, frameJoined_rxBank]
  · have hnodes := kept_rxCounted (s := s) d k f.octets.length (R.DRP_CYC_CTL_NODES d) (by simp [rxCountFields, Fld.same])
    rw [vectors_drp, oppNext_drp, frameJoined_rd, hnodes, frameJoined, modDrp_drp_self]
    simp [rxCounted, ho]

/-! ## A collision between cycles (R184) -/

/-- Outside every opportunity a collision is charged to slot 31 alone. -/
theorem exec_dropCollision_between (h2 : drpState d s = 2) (hl : drpLong d s = false) (hline : (s.drp d).line = [])
    (ho : (s.drp d).opp = none) : exec (.dropCollision d) s =
      done (oppNext d ((drpErr d 1 s).sat (R.DRP_SLOT_ERR_COLL d 31) 1)) := by
  show execDropCollision d s = _
  simp only [execDropCollision, h2, hl, hline, ho]
  rfl

theorem dropCollision_counts (hc : Calm s) (h2 : drpState d s = 2) (hl : drpLong d s = false) (hline : (s.drp d).line = [])
    (ho : (s.drp d).opp = none) : ∃ u, exec (.dropCollision d) s = .next u ∧ Counted (R.DRP_ERR_CNT_COUNT d 1) 1 s u ∧
      Counted (R.DRP_SLOT_ERR_COLL d 31) 1 s u ∧ (u.drp d).opp = none ∧
      Only [R.DRP_ERR_CNT_COUNT d 1, R.DRP_SLOT_ERR_COLL d 31] (State.offDrp d) s u := by
  obtain ⟨hn, hu⟩ := drpPart_next hc (exec_dropCollision_between h2 hl hline ho)
    (l := [R.DRP_ERR_CNT_COUNT d 1, R.DRP_SLOT_ERR_COLL d 31])
    ((Only.refl.drpWr (by simp)).drpWr (by simp)).oppNext (by simp [calmRegs])
  have hrd : ∀ g, (vectors (oppNext d ((drpErr d 1 s).sat (R.DRP_SLOT_ERR_COLL d 31) 1))).rd g =
      ((drpErr d 1 s).sat (R.DRP_SLOT_ERR_COLL d 31) 1).rd g := fun g => by rw [vectors_rd, oppNext_rd]
  refine ⟨_, hn, ?_, ?_, ?_, hu⟩
  · rw [Counted, hrd, sat_rd_ne _ _ _ _ (by simp), drpErr, sat_rd]
  · rw [Counted, hrd, sat_rd, drpErr, sat_rd_ne _ _ _ _ (by simp)]
  · rw [vectors_drp, oppNext_drp, sat_drp, drpErr, sat_drp, ho]; rfl

/-! ## Errors of a drop on record (R187 to R189, 18_watch_faults R392) -/

theorem offLog_offDrp (d : Nat) : OffLog (State.offDrp d) := ⟨fun _ => rfl, fun _ => rfl, fun _ => rfl⟩

/-- What a record leaves alone includes the drops. -/
theorem Only.watch_drp (h : Only l State.offWatch w u) (k : Nat) : (Machine.vectors u).drp k = w.drp k := by
  have e := congrArg (fun x : State => x.drp k) h.rest
  exact (vectors_drp u k).trans e

/-- A field that a record does not write reads as before it. -/
theorem Only.watch_rd (h : Only l State.offWatch w u) (g : Fld) (hg : g.id ∉ l.map Fld.id) :
    (Machine.vectors u).rd g = w.rd g :=
  (vectors_rd u g).trans (h.regs g fun _ hf e => hg (e.1 ▸ List.mem_map_of_mem hf))

theorem Only.watch_vectors {d : Nat} (h : Only l (fun x => (x.offDrp d).offWatch) s u) :
    Only l (fun x => (x.offDrp d).offWatch) s (Machine.vectors u) := h.vectors fun x => by rw [offDrp_vectors]

/-- A loggable error without a known detail is recorded, and nothing else. -/
theorem recordFree_only {src cls kind : Nat} (h : Loggable src s) (hcl : cls = 1 ∨ cls = 2) :
    Only (slotFields src cls) State.offWatch s (s.recordFree src cls kind none) := by
  have hfree : Loggable src (s.free 32).2 := h.congr rfl rfl rfl fun _ _ => rfl
  have ho := record_only (kind := kind) (detail := (s.free 32).1) hfree hcl
  exact ⟨ho.regs, ho.rest⟩

/-- A jam stops the line and is flagged. -/
def jammed (d : Nat) (s : State) : State := (drpHalt d 4 s).evt (R.DRP_EVT_JAM d)

theorem jammed_only {d : Nat} : Only (R.DRP_EVT_JAM d :: dropHaltFields d) (State.offDrp d) s (jammed d s) :=
  Only.drpWr (Only.refl.drpHalt (fun _ => .tail _) nofun) (.head _)

theorem dropJamEntry_records (hc : Calm s) (h2 : drpState d s = 2) (hg : Loggable (128 + d) s) :
    ∃ u, exec (.dropJamEntry d) s = .next u ∧ drpState d u = 4 ∧
      u.bit (R.DRP_STAT_BEACON_ON d) = false ∧ u.bit (R.DRP_EVT_JAM d) = true ∧ Logged (128 + d) 2 0x31 s u ∧
      u.drp d = (s.drp d).cut ∧
      Only (R.DRP_EVT_JAM d :: dropHaltFields d ++ slotFields (128 + d) 2) (fun x => (x.offDrp d).offWatch) s u := by
  have hx : exec (.dropJamEntry d) s = done ((jammed d s).recordFree (128 + d) 2 0x31 none) := congrArg done (if_pos h2)
  obtain ⟨u, hn, ho, hlog, hw⟩ := record_next hc hg hx jammed_only (offCalm_offDrp d) (offLog_offDrp d) (fun _ => rfl)
    (by simp [dropHaltFields, calmRegs, logRegs]) (.inr rfl) (by decide)
  refine ⟨_, hn, ?_, ?_, ?_, hlog.vectors, ?_, ho.watch_vectors⟩
  · rw [drpState, hw.watch_rd (R.DRP_STAT_STATE d) (by simp [slotFields]), jammed, State.evt, rd_wr_ne _ _ _ _ (by simp)]
    exact drpSet_state (by decide)
  · rw [State.bit, hw.watch_rd (R.DRP_STAT_BEACON_ON d) (by simp [slotFields]), jammed, State.evt,
      rd_wr_ne _ _ _ _ (by simp)]
    exact drpSet_beaconOn
  · rw [State.bit, hw.watch_rd (R.DRP_EVT_JAM d) (by simp [slotFields]), jammed, State.evt, rd_wr_self]; rfl
  · rw [hw.watch_drp, jammed, evt_drp, drpHalt_drp]

/-- A slot is cut off: barred, flagged, and counted for the slot and the drop. -/
def jabbered (d slot : Nat) (s : State) : State :=
  drpErr d 3 (((setBar d slot true s).evt (R.DRP_EVT_JABBER d)).sat (R.DRP_SLOT_ERR_JABBER d slot) 1)

/-- The fields that a cut-off writes. -/
def jabberFields (d slot : Nat) : List Fld :=
  [R.DRP_STN_HI_BARRED d slot, R.DRP_EVT_JABBER d, R.DRP_ERR_CNT_COUNT d 3, R.DRP_SLOT_ERR_JABBER d slot]

theorem jabbered_only {d slot : Nat} : Only (jabberFields d slot) (State.offDrp d) s (jabbered d slot s) :=
  (((Only.refl.setBar (by simp [jabberFields])).drpWr (by simp [jabberFields])).drpWr (by simp [jabberFields])).drpWr
    (by simp [jabberFields])

theorem jabbered_barred {d slot : Nat} : drpBarred d slot (jabbered d slot s) = true := by
  rw [drpBarred, jabbered, drpErr, sat_drp, sat_drp, evt_drp]; exact setBar_barred true

/-- A bar shows in its own field alone. -/
theorem setBar_rd_ne {d slot : Nat} {b : Bool} {g : Fld} (h : g.id ≠ (R.DRP_STN_HI_BARRED d slot).id) :
    (setBar d slot b s).rd g = s.rd g :=
  (Only.refl.setBar (List.mem_singleton_self _)).regs g (by simpa [Fld.same] using fun e => absurd e.symm h)

theorem drpJabber_long {d slot : Nat} (hl : drpLong d s = false) (hg : Loggable (128 + d) s) :
    drpLong d (drpJabber d slot s) = false := by
  have hj : Loggable (128 + d) (jabbered d slot s) :=
    hg.only jabbered_only (offLog_offDrp d) (by simp [jabberFields, logRegs])
  have hrec : (drpJabber d slot s).rd (R.DRP_CTL_MODE d) = (jabbered d slot s).rd (R.DRP_CTL_MODE d) :=
    (recordFree_only (kind := 0x30) hj (.inr rfl)).regs _ (by simp [slotFields, Fld.same])
  rw [drpLong, State.bit, hrec, jabbered_only.regs _ (by simp [jabberFields, Fld.same])]
  exact hl

/-- In 10BASE-T1S mode jabber cuts off the slot of the opportunity that runs. -/
theorem exec_dropJabber_short (h2 : drpState d s = 2) (hl : drpLong d s = false) (hg : Loggable (128 + d) s) :
    exec (.dropJabber d) s = done ((jabbered d (oppSlot d (s.drp d).opp s) s).recordFree (128 + d) 2 0x30 none) := by
  show execDropJabber d s = done (drpJabber d (oppSlot d (s.drp d).opp s) s)
  simp only [execDropJabber, h2, hl, drpJabber_long hl hg, true_or, if_true, Bool.false_eq_true, if_false]

theorem dropJabber_bars {slot : Nat} (hc : Calm s) (h2 : drpState d s = 2) (hl : drpLong d s = false)
    (hg : Loggable (128 + d) s) (hs : oppSlot d (s.drp d).opp s = slot) : ∃ u, exec (.dropJabber d) s = .next u ∧
      drpBarred d slot u = true ∧ u.bit (R.DRP_EVT_JABBER d) = true ∧ Counted (R.DRP_ERR_CNT_COUNT d 3) 1 s u ∧
      Counted (R.DRP_SLOT_ERR_JABBER d slot) 1 s u ∧ Logged (128 + d) 2 0x30 s u ∧
      Only (jabberFields d slot ++ slotFields (128 + d) 2) (fun x => (x.offDrp d).offWatch) s u := by
  obtain ⟨u, hn, ho, hlog, hw⟩ := record_next hc hg (hs ▸ exec_dropJabber_short h2 hl hg) jabbered_only (offCalm_offDrp d)
    (offLog_offDrp d) (fun _ => rfl) (by simp [jabberFields, calmRegs, logRegs]) (.inr rfl) (by decide)
  refine ⟨_, hn, ?_, ?_, ?_, ?_, hlog.vectors, ho.watch_vectors⟩
  · rw [drpBarred, hw.watch_drp]; exact jabbered_barred
  · rw [State.bit, hw.watch_rd (R.DRP_EVT_JABBER d) (by simp [slotFields]), jabbered, drpErr, sat_rd_ne _ _ _ _ (by simp),
      sat_rd_ne _ _ _ _ (by simp), State.evt, rd_wr_self]
    rfl
  · rw [Counted, hw.watch_rd (R.DRP_ERR_CNT_COUNT d 3) (by simp [slotFields]), jabbered, drpErr, sat_rd,
      sat_rd_ne _ _ _ _ (by simp), State.evt, rd_wr_ne _ _ _ _ (by simp), setBar_rd_ne (by simp)]
  · rw [Counted, hw.watch_rd (R.DRP_SLOT_ERR_JABBER d slot) (by simp [slotFields]), jabbered, drpErr,
      sat_rd_ne _ _ _ _ (by simp), sat_rd, State.evt, rd_wr_ne _ _ _ _ (by simp), setBar_rd_ne (by simp)]

/-- A stuck transmitter silences the drop and disables it. -/
def txStuck (d : Nat) (s : State) : State := (drpHalt d 0 s).wr (R.DRP_CTL_ENABLE d) 0

theorem txStuck_only {d : Nat} :
    Only (R.DRP_CTL_ENABLE d :: R.DRP_CYCLE_CNT_COUNT d :: dropHaltFields d) (State.offDrp d) s (txStuck d s) :=
  Only.drpWr (Only.refl.drpHalt (fun _ h => .tail _ (.tail _ h)) fun _ => by simp) (.head _)

theorem dropTxStuck_disables (hc : Calm s) (h0 : drpState d s ≠ 0) (hg : Loggable (128 + d) s) :
    ∃ u, exec (.dropTxStuck d) s = .next u ∧ drpState d u = 0 ∧
      u.bit (R.DRP_CTL_ENABLE d) = false ∧ (u.drp d).line = [] ∧ Logged (128 + d) 3 0x33 s u ∧
      u.rd (R.WATCH_SLOT_HDR_APPLIED (128 + d)) = 1 ∧
      Only (R.DRP_CTL_ENABLE d :: R.DRP_CYCLE_CNT_COUNT d :: dropHaltFields d ++ slotFields (128 + d) 3)
        (fun x => (x.offDrp d).offWatch) s u := by
  have hx : exec (.dropTxStuck d) s = done ((txStuck d s).recordFree (128 + d) 3 0x33 (some 1)) := congrArg done (if_pos h0)
  obtain ⟨u, hn, ho, hlog, happ, hw⟩ := record_int_next hc hg hx txStuck_only (offCalm_offDrp d) (offLog_offDrp d)
    (fun _ => rfl) (by simp [dropHaltFields, calmRegs, logRegs]) (by decide) (by decide)
  refine ⟨_, hn, ?_, ?_, ?_, hlog.vectors, (vectors_rd _ _).trans happ, ho.watch_vectors⟩
  · rw [drpState, hw.watch_rd (R.DRP_STAT_STATE d) (by simp [slotFields]), txStuck, rd_wr_ne _ _ _ _ (by simp)]
    exact drpSet_state (by decide)
  · rw [State.bit, hw.watch_rd (R.DRP_CTL_ENABLE d) (by simp [slotFields]), txStuck, rd_wr_self]; rfl
  · rw [hw.watch_drp, txStuck, wr_drp, drpHalt_drp]; rfl

/-! ## Energy wakes a sleeping drop (R192) -/

/-- With nothing else owed, an action taken off again leaves the state as it was. -/
theorem paid_owe {x : Todo} (h : s.todo = []) : (s.owe x).paid = s := by
  show { s with todo := [] } = s
  rw [← h]

/-- The detector has fired: flagged, counted, and no longer armed. -/
def energySeen (d : Nat) (s : State) : State :=
  (drpErr d 7 (s.evt (R.DRP_EVT_WAKE d))).modDrp d fun x => { x with detector := false }

/-- The vale notes the wake source and tells the host die. -/
def wakeRaised (v code : Nat) (s : State) : State :=
  (s.modPass v fun x => { x with wakes := x.wakes ++ [code] }).send (.tally v 0x70 0)

theorem energySeen_only {d : Nat} : Only [R.DRP_EVT_WAKE d, R.DRP_ERR_CNT_COUNT d 7] (State.offDrp d) s (energySeen d s) :=
  ((Only.refl.drpWr (by simp)).drpWr (by simp)).modDrp

theorem wakeRaised_only {v code : Nat} : Only [] (State.offPas v) s (wakeRaised v code s) :=
  ⟨.refl, (offPas_send _ v _).trans (offPas_modPass s v _)⟩

theorem energyWoken_only {d v code : Nat} : Only [R.DRP_EVT_WAKE d, R.DRP_ERR_CNT_COUNT d 7]
    (fun x => (x.offDrp d).offPas v) s (wakeRaised v code (energySeen d s)) :=
  energySeen_only.then wakeRaised_only fun _ => rfl

theorem exec_dropEnergyWake_asleep (h5 : drpState d s = 5) (he : s.bit (R.DRP_PWR_WAKE_EN d) = true)
    (hm : tbit (s.rd R.PWR_WAKE_MASK) 1 = true) (hd : (s.drp d).detector = true) :
    exec (.dropEnergyWake d) s = done ((energySeen d s).owe (.valeWake (d / 16) 1)) :=
  congrArg done (if_pos (by simp [h5, he, hm, hd]))

theorem dropEnergyWake_wakes (hc : Calm s) (h5 : drpState d s = 5) (he : s.bit (R.DRP_PWR_WAKE_EN d) = true)
    (hm : tbit (s.rd R.PWR_WAKE_MASK) 1 = true) (hd : (s.drp d).detector = true) :
    ∃ u, exec (.dropEnergyWake d) s = .next u ∧ u.bit (R.DRP_EVT_WAKE d) = true ∧
      Counted (R.DRP_ERR_CNT_COUNT d 7) 1 s u ∧ u.drp d = { s.drp d with detector := false } ∧
      (u.pas (d / 16)).wakes = (s.pas (d / 16)).wakes ++ [1] ∧ .tally (d / 16) 0x70 0 ∈ u.out ∧
      Only [R.DRP_EVT_WAKE d, R.DRP_ERR_CNT_COUNT d 7] (fun x => (x.offDrp d).offPas (d / 16)) s u := by
  have hcs : Calm (energySeen d s) := energySeen_only.calm hc (offCalm_offDrp d) (by simp [calmRegs])
  have hcw : Calm (wakeRaised (d / 16) 1 (energySeen d s)) := (hcs.modPass rfl).send
  have hpaid := paid_owe (x := .valeWake (d / 16) 1) hcs.owed
  have hdo : todoDo (.valeWake (d / 16) 1) ((energySeen d s).owe (.valeWake (d / 16) 1)).paid =
      wakeRaised (d / 16) 1 (energySeen d s) := by rw [hpaid]; rfl
  have howed : ((energySeen d s).owe (.valeWake (d / 16) 1)).todo = [.valeWake (d / 16) 1] := by
    rw [owe_todo, hcs.owed, List.nil_append]
  have hn : exec (.dropEnergyWake d) s = .next (vectors (wakeRaised (d / 16) 1 (energySeen d s))) := by
    rw [exec_dropEnergyWake_asleep h5 he hm hd, done_owed howed (by rw [hdo]; exact hcw), hdo]
  have hrd : ∀ g, (vectors (wakeRaised (d / 16) 1 (energySeen d s))).rd g = (drpErr d 7 (s.evt (R.DRP_EVT_WAKE d))).rd g :=
    fun g => by rw [vectors_rd, wakeRaised, send_rd, modPass_rd, energySeen, modDrp_rd]
  refine ⟨_, hn, ?_, ?_, ?_, ?_, mem_vectors_out (.head _), energyWoken_only.vectors fun x => by rw [offDrp_vectors]⟩
  · rw [State.bit, hrd, drpErr, sat_rd_ne _ _ _ _ (by simp), State.evt, rd_wr_self]; rfl
  · rw [Counted, hrd, drpErr, sat_rd, State.evt, rd_wr_ne _ _ _ _ (by simp)]
  · rw [vectors_drp, wakeRaised, send_drp, modPass_drp, energySeen, modDrp_drp_self, drpErr, sat_drp, evt_drp]
  · rw [vectors_pas, wakeRaised, send_pas, modPass_pas_self, energySeen, modDrp_pas, drpErr, sat_pas, evt_pas]

/-- Settles O26: one lemma for each event on the line. -/
theorem dropLineEvents : Obligations.DropLineEvents := by
  refine fun d s hc => ⟨fun f k => dropFrameReceive_joins hc, dropCollision_counts hc, fun h2 hg => ?jam,
    fun h2 hl hg => dropJabber_bars hc h2 hl hg rfl, dropTxStuck_disables hc, dropEnergyWake_wakes hc⟩
  case jam =>
    obtain ⟨u, hn, hst, hb, he, hlog, hd, ho⟩ := dropJamEntry_records hc h2 hg
    exact ⟨u, hn, hst, hb, he, hlog, by rw [hd]; rfl, by rw [hd]; rfl, by rw [hd]; rfl, ho⟩

end Sys2Proof.Machine
end

section
/-! PROOFS. The Long-Drop receiver: carrier, sync and header, the end of a burst, loss of carrier, and capture (R204, R208,
R212 to R216). -/

namespace Sys2Proof.Machine

variable {l : List Fld} {s u : State} {d : Fin 64} {b : LdBurst}

/-- A field whose family a frame does not list reads as before. -/
theorem Only.rd_of_id {off : State → State} (h : Only l off s u) {f : Fld} (hf : f.id ∉ l.map Fld.id) :
    u.rd f = s.rd f :=
  h.regs f fun _ hx e => hf (e.1 ▸ List.mem_map_of_mem hx)

/-- A command of registers alone keeps every drop. -/
theorem RegsOnly.drp_eq (h : RegsOnly l s u) (k : Nat) : u.drp k = s.drp k := by
  have e := congrArg (fun x : State => x.drp k) h.rest
  exact e

theorem RegsOnly.age_eq (h : RegsOnly l s u) : u.age = s.age := by
  have e := congrArg State.age h.rest
  exact e

/-! ## Stages of the receiver -/

theorem ldStage_drp (d : Nat) (g : LdStage) : (ldStage d g s).drp d = { s.drp d with stage := g } :=
  modDrp_drp_self (s.wrb (R.DRP_LD_STAT_RX_BUSY d) _) d _

theorem ldStage_burst_busy (d q h : Nat) : (ldStage d (.burst q h) s).bit (R.DRP_LD_STAT_RX_BUSY d) = true :=
  wrb_bit_self rfl true

theorem ldStage_idle_busy (d : Nat) : (ldStage d .idle s).bit (R.DRP_LD_STAT_RX_BUSY d) = false :=
  wrb_bit_self rfl false

theorem Only.ldStage {d : Nat} {g : LdStage} (h : Only l (State.offDrp d) s u) (m : R.DRP_LD_STAT_RX_BUSY d ∈ l) :
    Only l (State.offDrp d) s (Machine.ldStage d g u) := by
  unfold Machine.ldStage
  exact Only.modDrp (h.drpWr m)

/-- A stage shows in RX_BUSY alone. -/
theorem ldStage_rd_ne (d : Nat) (g : LdStage) {f : Fld} (h : f.id ≠ (R.DRP_LD_STAT_RX_BUSY d).id) :
    (ldStage d g s).rd f = s.rd f :=
  rd_wr_ne _ _ _ _ fun e => absurd e.symm h

theorem ldStage_bit_ne (d : Nat) (g : LdStage) {f : Fld} (h : f.id ≠ (R.DRP_LD_STAT_RX_BUSY d).id) :
    (ldStage d g s).bit f = s.bit f := by rw [State.bit, ldStage_rd_ne d g h, State.bit]

/-! ## Carrier, and no sync word (R213) -/

/-- Carrier is found: shown, and the burst belongs to the opportunity that runs. -/
def carrierFound (d : Nat) (s : State) : State :=
  (s.wr (R.DRP_LD_STAT_CARRIER d) 1).modDrp d fun x => { x with rxOpp := x.opp }

theorem ldCarrierDetect_searches (hc : Calm s) (hl : drpLong d s = true) (hst : drpState d s = 2 ∨ drpState d s = 3)
    (hline : (s.drp d).line = []) (hi : (s.drp d).stage = .idle) :
    ∃ u, exec (.ldCarrierDetect d) s = .next u ∧ u.bit (R.DRP_LD_STAT_CARRIER d) = true ∧
      u.drp d = { s.drp d with rxOpp := (s.drp d).opp, stage := .search } ∧
      Only [R.DRP_LD_STAT_CARRIER d, R.DRP_LD_STAT_RX_BUSY d] (State.offDrp d) s u := by
  have hlisten : ldListens d s = true := by simp [ldListens, hl, hst, hline]
  have hx : exec (.ldCarrierDetect d) s = done (ldStage d .search (carrierFound d s)) :=
    congrArg done (if_pos ⟨hlisten, hi⟩)
  obtain ⟨hn, hu⟩ := drpPart_next hc hx (l := [R.DRP_LD_STAT_CARRIER d, R.DRP_LD_STAT_RX_BUSY d])
    ((Only.modDrp (Only.refl.drpWr (by simp))).ldStage (by simp)) (by simp [calmRegs])
  refine ⟨_, hn, ?_, ?_, hu⟩
  · rw [vectors_bit, ldStage_bit_ne _ _ (by simp), State.bit, carrierFound, modDrp_rd, rd_wr_self]; rfl
  · rw [vectors_drp, ldStage_drp, carrierFound, modDrp_drp_self, wr_drp]

theorem ldSyncTimeout_waits (hc : Calm s) (hs : (s.drp d).stage = .search) :
    ∃ u, exec (.ldSyncTimeout d) s = .next u ∧ Counted (R.DRP_LD_ACQ_CNT_COUNT d 1) 1 s u ∧
      u.drp d = { s.drp d with stage := .waitLoss } ∧
      Only [R.DRP_LD_ACQ_CNT_COUNT d 1, R.DRP_LD_STAT_RX_BUSY d] (State.offDrp d) s u := by
  have hx : exec (.ldSyncTimeout d) s = done (ldStage d .waitLoss (ldCount d 1 s)) := congrArg done (if_pos hs)
  obtain ⟨hn, hu⟩ := drpPart_next hc hx (l := [R.DRP_LD_ACQ_CNT_COUNT d 1, R.DRP_LD_STAT_RX_BUSY d])
    ((Only.refl.drpWr (by simp)).ldStage (by simp)) (by simp [calmRegs])
  refine ⟨_, hn, ?_, ?_, hu⟩
  · rw [Counted, vectors_rd, ldStage_rd_ne _ _ (by simp), ldCount, sat_rd]
  · rw [vectors_drp, ldStage_drp, ldCount, sat_drp]

/-! ## The header of a DATA burst (R214) -/

/-- The counts of a header whose station is not the one whose opportunity runs. -/
def idMismatch (opp : Option Nat) (node : Nat) : Nat := if opp = none ∨ opp = some node then 0 else 1

/-- The header's station is shown, and counted where its opportunity does not run. -/
def stationSeen (d node : Nat) (s : State) : State :=
  if (s.drp d).rxOpp = none ∨ (s.drp d).rxOpp = some node then s.wr (R.DRP_LD_STAT_LAST_ID d) node
  else ldCount d 6 (s.wr (R.DRP_LD_STAT_LAST_ID d) node)

theorem ldHeaderGood_data {d : Nat} {h : LdHdr} (ht : h.type = 2) :
    ldHeaderGood d h s = ldStage d (.burst h.cwQ h.cw16) (stationSeen d h.node s) := by
  have h1 : ¬ h.type = 1 := by omega
  simp only [ldHeaderGood, if_neg h1, stationSeen, wr_drp]
  cases (s.drp d).rxOpp with
  | none => rfl
  | some k => by_cases e : k = h.node <;> simp [e]

theorem stationSeen_only {d node : Nat} (h : Only l (State.offDrp d) s u) (m : R.DRP_LD_STAT_LAST_ID d ∈ l)
    (m6 : R.DRP_LD_ACQ_CNT_COUNT d 6 ∈ l) : Only l (State.offDrp d) s (stationSeen d node u) := by
  unfold stationSeen
  split
  · exact h.drpWr m
  · exact (h.drpWr m).drpWr m6

theorem stationSeen_drp (d node : Nat) : (stationSeen d node s).drp d = s.drp d := by
  unfold stationSeen
  split <;> rfl

theorem stationSeen_lastId {d node : Nat} (h : node ≤ 32) :
    (stationSeen d node s).rd (R.DRP_LD_STAT_LAST_ID d) = node := by
  have hw : (s.wr (R.DRP_LD_STAT_LAST_ID d) node).rd (R.DRP_LD_STAT_LAST_ID d) = node := by
    rw [rd_wr_self]; exact Nat.mod_eq_of_lt (h.trans_lt (show 32 < 2 ^ 6 by decide))
  unfold stationSeen
  split
  · exact hw
  · rw [ldCount, sat_rd_ne _ _ _ _ (by simp), hw]

theorem stationSeen_mismatch {d node : Nat} :
    Counted (R.DRP_LD_ACQ_CNT_COUNT d 6) (idMismatch (s.drp d).rxOpp node) s (stationSeen d node s) := by
  unfold stationSeen idMismatch
  split
  · rw [Counted, rd_wr_ne _ _ _ _ (by simp)]
    exact (Nat.min_eq_left (Nat.le_sub_one_of_lt (rd_lt s _))).symm
  · rw [Counted, ldCount, sat_rd, rd_wr_ne _ _ _ _ (by simp)]

/-- A header that passes its checks names a node that LAST_ID can hold. -/
theorem ldHdrDecode_node {hdr : BitVec 64} {h : LdHdr} (e : ldHdrDecode hdr = some h) : h.node ≤ 32 := by
  simp only [ldHdrDecode] at e
  split at e
  next hok =>
    obtain ⟨-, -, hnode, -⟩ := hok
    cases e
    exact hnode
  next => cases e

/-- A sync word is found: counted, and its sense kept. -/
def syncFound (d : Nat) (rot : Bool) (s : State) : State := (ldCount d 0 s).modDrp d fun x => { x with rotated := rot }

theorem effLdHeader_data {sync : BitVec 48} {hdr : BitVec 64} {second : Option (BitVec 48)} {rot : Bool} {h : LdHdr}
    (hs : (s.drp d).stage = .search) (hm : ldSyncMatch (s.rd (R.DRP_LD_CTL_SYNC_TOL d)) sync = some rot)
    (hd : ldHdrDecode hdr = some h) (ht : h.type = 2) : effLdHeader d sync hdr second s =
      ldStage d (.burst h.cwQ h.cw16) (stationSeen d h.node (syncFound d rot s)) := by
  rw [← ldHeaderGood_data ht]
  simp only [effLdHeader, hs, hm, hd, if_true]
  rfl

/-- The fields that the header of a DATA burst writes. -/
def headerFields (d : Nat) : List Fld :=
  [R.DRP_LD_ACQ_CNT_COUNT d 0, R.DRP_LD_STAT_LAST_ID d, R.DRP_LD_ACQ_CNT_COUNT d 6, R.DRP_LD_STAT_RX_BUSY d]

theorem ldHeaderCheck_receives {sync : BitVec 48} {hdr : BitVec 64} {second : Option (BitVec 48)} {rot : Bool} {h : LdHdr}
    (hc : Calm s) (hs : (s.drp d).stage = .search)
    (hm : ldSyncMatch (s.rd (R.DRP_LD_CTL_SYNC_TOL d)) sync = some rot) (hd : ldHdrDecode hdr = some h) (ht : h.type = 2) :
    ∃ u, exec (.ldHeaderCheck d sync hdr second) s = .next u ∧ Counted (R.DRP_LD_ACQ_CNT_COUNT d 0) 1 s u ∧
      u.rd (R.DRP_LD_STAT_LAST_ID d) = h.node ∧ u.bit (R.DRP_LD_STAT_RX_BUSY d) = true ∧
      Counted (R.DRP_LD_ACQ_CNT_COUNT d 6) (idMismatch (s.drp d).rxOpp h.node) s u ∧
      u.drp d = { s.drp d with rotated := rot, stage := .burst h.cwQ h.cw16 } ∧
      Only (headerFields d) (State.offDrp d) s u := by
  have hx : exec (.ldHeaderCheck d sync hdr second) s =
      done (ldStage d (.burst h.cwQ h.cw16) (stationSeen d h.node (syncFound d rot s))) :=
    congrArg done (effLdHeader_data hs hm hd ht)
  have hseen : Only [R.DRP_LD_STAT_LAST_ID d, R.DRP_LD_ACQ_CNT_COUNT d 6] (State.offDrp d) (syncFound d rot s)
      (stationSeen d h.node (syncFound d rot s)) := stationSeen_only .refl (by simp) (by simp)
  have hsync : Only [R.DRP_LD_ACQ_CNT_COUNT d 0] (State.offDrp d) s (syncFound d rot s) :=
    Only.modDrp (Only.refl.drpWr (by simp))
  have ho : Only (headerFields d) (State.offDrp d) s (stationSeen d h.node (syncFound d rot s)) :=
    (hsync.mono (by simp [headerFields])).trans (hseen.mono (by simp [headerFields]))
  obtain ⟨hn, hu⟩ := drpPart_next hc hx (ho.ldStage (by simp [headerFields])) (by simp [headerFields, calmRegs])
  have hmis := stationSeen_mismatch (s := syncFound d rot s) (d := d) (node := h.node)
  refine ⟨_, hn, ?_, ?_, ?_, ?_, ?_, hu⟩
  · rw [Counted, vectors_rd, ldStage_rd_ne _ _ (by simp), hseen.regs _ (by simp [Fld.same]), syncFound, modDrp_rd, ldCount,
      sat_rd]
  · rw [vectors_rd, ldStage_rd_ne _ _ (by simp), stationSeen_lastId (ldHdrDecode_node hd)]
  · rw [vectors_bit, ldStage_burst_busy]
  · rw [Counted, hsync.regs _ (by simp [Fld.same]), syncFound, modDrp_drp_self, ldCount, sat_drp] at hmis
    rw [Counted, vectors_rd, ldStage_rd_ne _ _ (by simp)]
    exact hmis
  · rw [vectors_drp, ldStage_drp, stationSeen_drp, syncFound, modDrp_drp_self, ldCount, sat_drp]

/-! ## The codewords and frames of a burst (R204) -/

/-- The codewords of a burst are counted, with their corrected symbols and those beyond correction. -/
def cwCounted (d : Nat) (b : LdBurst) (s : State) : State :=
  ((s.add (R.DRP_LD_CW_CNT_COUNT d) (b.qpsk.length + b.qam.length)).add (R.DRP_LD_CORR_SYM_CNT_COUNT d)
    ((b.qpsk ++ b.qam).map cwSyms).sum).add (R.DRP_LD_UNC_CNT_COUNT d) (cwBad (b.qpsk ++ b.qam))

/-- The counters of a burst's codewords. -/
def cwFields (d : Nat) : List Fld := [R.DRP_LD_CW_CNT_COUNT d, R.DRP_LD_CORR_SYM_CNT_COUNT d, R.DRP_LD_UNC_CNT_COUNT d]

theorem cwCounted_only {d : Nat} : RegsOnly (cwFields d) s (cwCounted d b s) :=
  RegsOnly.wr (RegsOnly.wr (RegsOnly.wr .refl (by simp [cwFields])) (by simp [cwFields])) (by simp [cwFields])

theorem cwCounted_codewords {d : Nat} :
    Wrapped (R.DRP_LD_CW_CNT_COUNT d) (b.qpsk.length + b.qam.length) s (cwCounted d b s) := by
  rw [Wrapped, cwCounted, add_rd_ne _ _ _ _ (by simp), add_rd_ne _ _ _ _ (by simp), add_rd]

theorem cwCounted_symbols {d : Nat} :
    Wrapped (R.DRP_LD_CORR_SYM_CNT_COUNT d) ((b.qpsk ++ b.qam).map cwSyms).sum s (cwCounted d b s) := by
  rw [Wrapped, cwCounted, add_rd_ne _ _ _ _ (by simp), add_rd, add_rd_ne _ _ _ _ (by simp)]

theorem cwCounted_uncorrectable {d : Nat} :
    Wrapped (R.DRP_LD_UNC_CNT_COUNT d) (cwBad (b.qpsk ++ b.qam)) s (cwCounted d b s) := by
  rw [Wrapped, cwCounted, add_rd, add_rd_ne _ _ _ _ (by simp), add_rd_ne _ _ _ _ (by simp)]

/-- `n` bad frames are counted, one by one. -/
def badCounted (d : Nat) : Nat → State → State
  | 0, s => s
  | n + 1, s => badCounted d n (drpErr d 0 s)

theorem badCounted_only {d n : Nat} : RegsOnly [R.DRP_ERR_CNT_COUNT d 0] s (badCounted d n s) := by
  induction n generalizing s with
  | zero => exact .refl
  | succ n ih => exact (RegsOnly.wr .refl (List.mem_singleton_self _)).trans ih

/-- Counting one by one stops at the largest value as counting at once does. -/
theorem badCounted_counted {d n : Nat} : Counted (R.DRP_ERR_CNT_COUNT d 0) n s (badCounted d n s) := by
  induction n generalizing s with
  | zero => exact (Nat.min_eq_left (Nat.le_sub_one_of_lt (rd_lt s _))).symm
  | succ n ih =>
    have hn : Counted (R.DRP_ERR_CNT_COUNT d 0) n (drpErr d 0 s) (badCounted d (n + 1) s) := ih
    rw [Counted, drpErr, sat_rd] at hn
    rw [Counted, hn]
    omega

theorem foldl_bad {d n : Nat} {opp : Option Nat} {st : Stamp} :
    (List.replicate n LdRec.bad).foldl (fun a r => ldRecTake d opp st r a) s = badCounted d n s := by
  induction n generalizing s with
  | zero => rfl
  | succ n ih => exact ih

/-- A burst without a good frame delivers nothing. -/
theorem ldDeliver_bad {d n : Nat} (h : ldSegment b.qpsk ++ ldSegment b.qam = List.replicate n .bad) :
    ldDeliver d b s = badCounted d n (cwCounted d b s) := by
  rw [ldDeliver, h]; exact foldl_bad

/-- What a burst without a good frame writes. -/
def badBurstFields (d : Nat) : List Fld := cwFields d ++ [R.DRP_ERR_CNT_COUNT d 0]

/-- From `s` to `w` a burst without a good frame is counted: its codewords, and its `n` bad frames. -/
structure BurstCounted (d n : Nat) (b : LdBurst) (s w : State) : Prop where
  codewords : Wrapped (R.DRP_LD_CW_CNT_COUNT d) (b.qpsk.length + b.qam.length) s w
  symbols : Wrapped (R.DRP_LD_CORR_SYM_CNT_COUNT d) ((b.qpsk ++ b.qam).map cwSyms).sum s w
  uncorrectable : Wrapped (R.DRP_LD_UNC_CNT_COUNT d) (cwBad (b.qpsk ++ b.qam)) s w
  bad : Counted (R.DRP_ERR_CNT_COUNT d 0) n s w
  only : RegsOnly (badBurstFields d) s w

theorem ldDeliver_counts {d n : Nat} (h : ldSegment b.qpsk ++ ldSegment b.qam = List.replicate n .bad) :
    BurstCounted d n b s (ldDeliver d b s) := by
  have hb := badCounted_only (d := d) (n := n) (s := cwCounted d b s)
  have hn := badCounted_counted (d := d) (n := n) (s := cwCounted d b s)
  rw [Counted, cwCounted_only.rd_of_id (by simp [cwFields])] at hn
  rw [ldDeliver_bad h]
  refine ⟨?_, ?_, ?_, hn,
    (cwCounted_only.mono fun _ => List.mem_append_left _).trans (hb.mono fun _ => List.mem_append_right _)⟩
  · rw [Wrapped, hb.rd_of_id (by simp)]; exact cwCounted_codewords
  · rw [Wrapped, hb.rd_of_id (by simp)]; exact cwCounted_symbols
  · rw [Wrapped, hb.rd_of_id (by simp)]; exact cwCounted_uncorrectable

/-! ## A burst ends (R205, R208, R212) -/

/-- The run of bursts at or above UP_QDB, with the burst that ends. -/
def burstRun (d slot : Nat) (b : LdBurst) (s : State) : Nat :=
  if s.rd (R.DRP_LD_RATE_UP_QDB d) ≤ b.snr then min 127 (s.rd (R.DRP_LD_SLOT_RUN d slot) + 1) else 0

theorem burstRun_lt {d slot : Nat} : burstRun d slot b s < 128 := by
  unfold burstRun; split <;> omega

/-- The registers show the burst that ends for its slot, and no capture stands armed. -/
def burstShown (d slot : Nat) (b : LdBurst) (s : State) : State :=
  ((((s.wr (R.DRP_LD_SLOT_RUN d slot) (burstRun d slot b s)).wr (R.DRP_LD_STAT_LAST_SNR_QDB d) b.snr).wr
    (R.DRP_LD_SLOT_SNR_QDB d slot) b.snr).wr (R.DRP_LD_SLOT_CFO_HZ d slot) (b.cfo % 65536).toNat).wr
    (R.DRP_LD_STAT_CAP_ARMED d) 0

/-- The fields that show the burst that ends. -/
def burstFields (d slot : Nat) : List Fld :=
  [R.DRP_LD_SLOT_RUN d slot, R.DRP_LD_STAT_LAST_SNR_QDB d, R.DRP_LD_SLOT_SNR_QDB d slot, R.DRP_LD_SLOT_CFO_HZ d slot,
    R.DRP_LD_STAT_CAP_ARMED d, R.DRP_LD_STAT_RX_BUSY d]

theorem burstShown_only {d slot : Nat} : Only (burstFields d slot) (State.offDrp d) s (burstShown d slot b s) :=
  ((((Only.refl.drpWr (by simp [burstFields])).drpWr (by simp [burstFields])).drpWr (by simp [burstFields])).drpWr
    (by simp [burstFields])).drpWr (by simp [burstFields])

theorem burstShown_run {d slot : Nat} :
    (burstShown d slot b s).rd (R.DRP_LD_SLOT_RUN d slot) = burstRun d slot b s := by
  simpa [burstShown, rd_wr_ne] using burstRun_lt

theorem burstShown_lastSnr {d slot : Nat} (h : b.snr < 256) :
    (burstShown d slot b s).rd (R.DRP_LD_STAT_LAST_SNR_QDB d) = b.snr := by
  simpa [burstShown, rd_wr_ne] using h

theorem burstShown_slotSnr {d slot : Nat} (h : b.snr < 256) :
    (burstShown d slot b s).rd (R.DRP_LD_SLOT_SNR_QDB d slot) = b.snr := by
  simpa [burstShown, rd_wr_ne] using h

/-- A drop that keeps the loops of the burst that ended in a slot. -/
def Drop.loopsKept (slot age : Nat) (b : LdBurst) (x : Drop) : Drop :=
  { x with loops := tset {} x.loops slot { ffe := b.ffe, dfe := b.dfe }, last := { ffe := b.ffe, dfe := b.dfe },
           lastSlot := slot, lastFrame := some age }

/-- A drop whose burst has ended: the loops kept, no carrier, and the next of `nodes` opportunities. -/
def Drop.burstEnded (nodes slot age : Nat) (b : LdBurst) (x : Drop) : Drop :=
  { x.loopsKept slot age b with stage := .idle, opp := oppAfter nodes x.opp }

/-- The receiver has done with a burst: shown, its loops kept, and the next opportunity follows. -/
def burstDone (d slot : Nat) (b : LdBurst) (s : State) : State :=
  oppNext d (ldStage d .idle ((burstShown d slot b s).modDrp d (Drop.loopsKept slot s.age b)))

theorem burstDone_only {d slot : Nat} : Only (burstFields d slot) (State.offDrp d) s (burstDone d slot b s) :=
  (burstShown_only.modDrp.ldStage (by simp [burstFields])).oppNext

theorem burstDone_rd {d slot : Nat} {f : Fld} (h : f.id ≠ (R.DRP_LD_STAT_RX_BUSY d).id) :
    (burstDone d slot b s).rd f = (burstShown d slot b s).rd f := by
  rw [burstDone, oppNext_rd, ldStage_rd_ne _ _ h, modDrp_rd]

theorem burstDone_busy {d slot : Nat} : (burstDone d slot b s).bit (R.DRP_LD_STAT_RX_BUSY d) = false := by
  rw [burstDone, State.bit, oppNext_rd]; exact ldStage_idle_busy d

theorem burstDone_drp {d slot : Nat} : (burstDone d slot b s).drp d =
    (s.drp d).burstEnded (s.rd (R.DRP_CYC_CTL_NODES d)) slot s.age b := by
  rw [burstDone, oppNext_drp, ldStage_drp, ldStage_rd_ne _ _ (by simp), modDrp_drp_self, modDrp_rd,
    burstShown_only.rd_of_id (by simp [burstFields])]
  rfl

/-- Where LD_MOD fixes the rate, a burst changes its slot's run alone. -/
theorem ldRateUpdate_fixed {d slot : Nat} (hm : s.rd (R.DRP_LD_CTL_LD_MOD d) ≠ 2) :
    ldRateUpdate d slot b s = s.wr (R.DRP_LD_SLOT_RUN d slot) (burstRun d slot b s) := by
  have hm' : (s.wr (R.DRP_LD_SLOT_RUN d slot) (burstRun d slot b s)).rd (R.DRP_LD_CTL_LD_MOD d) ≠ 2 := by
    rwa [rd_wr_ne _ _ _ _ (by simp)]
  simp only [ldRateUpdate, decide_eq_true_eq]
  exact if_pos (.inl hm')

theorem effLdBurstEnd_fixed {q h : Nat} (hs : (s.drp d).stage = .burst q h)
    (hm : (ldDeliver d b s).rd (R.DRP_LD_CTL_LD_MOD d) ≠ 2) :
    effLdBurstEnd d b s = burstDone d (ldSlotOf (s.drp d).rxOpp) b (ldDeliver d b s) := by
  simp only [effLdBurstEnd, hs, ldRateUpdate_fixed hm]
  rfl

theorem ldBurstEnd_counts {q h n slot : Nat} (hc : Calm s) (hs : (s.drp d).stage = .burst q h)
    (hm : s.rd (R.DRP_LD_CTL_LD_MOD d) ≠ 2) (hbad : ldSegment b.qpsk ++ ldSegment b.qam = List.replicate n .bad)
    (hsnr : b.snr < 256) (hslot : ldSlotOf (s.drp d).rxOpp = slot) :
    ∃ u, exec (.ldBurstEnd d b) s = .next u ∧
      Wrapped (R.DRP_LD_CW_CNT_COUNT d) (b.qpsk.length + b.qam.length) s u ∧
      Wrapped (R.DRP_LD_CORR_SYM_CNT_COUNT d) ((b.qpsk ++ b.qam).map cwSyms).sum s u ∧
      Wrapped (R.DRP_LD_UNC_CNT_COUNT d) (cwBad (b.qpsk ++ b.qam)) s u ∧ Counted (R.DRP_ERR_CNT_COUNT d 0) n s u ∧
      u.rd (R.DRP_LD_STAT_LAST_SNR_QDB d) = b.snr ∧ u.rd (R.DRP_LD_SLOT_SNR_QDB d slot) = b.snr ∧
      u.rd (R.DRP_LD_SLOT_RUN d slot) = burstRun d slot b s ∧ u.bit (R.DRP_LD_STAT_RX_BUSY d) = false ∧
      u.drp d = (s.drp d).burstEnded (s.rd (R.DRP_CYC_CTL_NODES d)) slot s.age b ∧
      Only (badBurstFields d ++ burstFields d slot) (State.offDrp d) s u := by
  have hw : BurstCounted d n b s (ldDeliver d b s) := ldDeliver_counts hbad
  generalize hwe : ldDeliver d b s = w at hw
  have hkeep : ∀ f : Fld, f.id ∉ (badBurstFields d).map Fld.id → w.rd f = s.rd f := fun _ => hw.only.rd_of_id
  have hx : exec (.ldBurstEnd d b) s = done (burstDone d slot b w) := by
    have hmw : (ldDeliver d b s).rd (R.DRP_LD_CTL_LD_MOD d) ≠ 2 := by
      rw [hwe, hkeep _ (by simp [badBurstFields, cwFields])]; exact hm
    rw [← hwe, ← hslot]
    exact congrArg done (effLdBurstEnd_fixed hs hmw)
  have hend := burstDone_only (d := d) (slot := slot) (b := b) (s := w)
  have ho := (hw.only.drpFrame.mono fun _ => List.mem_append_left (burstFields d slot)).trans
    (hend.mono fun _ => List.mem_append_right _)
  obtain ⟨hn, hu⟩ := drpPart_next hc hx ho (by simp [badBurstFields, cwFields, burstFields, calmRegs])
  refine ⟨_, hn, ?_, ?_, ?_, ?_, ?_, ?_, ?_, ?_, ?_, hu⟩
  · rw [wrapped_vectors, Wrapped, hend.rd_of_id (by simp [burstFields])]; exact hw.codewords
  · rw [wrapped_vectors, Wrapped, hend.rd_of_id (by simp [burstFields])]; exact hw.symbols
  · rw [wrapped_vectors, Wrapped, hend.rd_of_id (by simp [burstFields])]; exact hw.uncorrectable
  · rw [counted_vectors, Counted, hend.rd_of_id (by simp [burstFields])]; exact hw.bad
  · rw [vectors_rd, burstDone_rd (by simp), burstShown_lastSnr hsnr]
  · rw [vectors_rd, burstDone_rd (by simp), burstShown_slotSnr hsnr]
  · rw [vectors_rd, burstDone_rd (by simp), burstShown_run, burstRun, hkeep _ (by simp [badBurstFields, cwFields]),
      hkeep _ (by simp [badBurstFields, cwFields]), burstRun]
  · rw [vectors_bit, burstDone_busy]
  · rw [vectors_drp, burstDone_drp, hkeep _ (by simp [badBurstFields, cwFields]),
      RegsOnly.drp_eq hw.only, RegsOnly.age_eq hw.only]

/-! ## Loss of carrier (R205) -/

theorem ldLossOfCarrier_idles (hc : Calm s) (hs : (s.drp d).stage = .waitLoss) :
    ∃ u, exec (.ldLossOfCarrier d) s = .next u ∧ u.bit (R.DRP_LD_STAT_CARRIER d) = false ∧
      u.drp d = { s.drp d with stage := .idle, opp := oppAfter (s.rd (R.DRP_CYC_CTL_NODES d)) (s.drp d).opp } ∧
      Only [R.DRP_LD_STAT_CARRIER d, R.DRP_LD_STAT_RX_BUSY d] (State.offDrp d) s u := by
  have hx : exec (.ldLossOfCarrier d) s = done (oppNext d (ldStage d .idle (s.wr (R.DRP_LD_STAT_CARRIER d) 0))) := by
    show execLdLossOfCarrier d s = _
    simp only [execLdLossOfCarrier, wr_drp, hs]
  obtain ⟨hn, hu⟩ := drpPart_next hc hx (l := [R.DRP_LD_STAT_CARRIER d, R.DRP_LD_STAT_RX_BUSY d])
    ((Only.refl.drpWr (by simp)).ldStage (by simp)).oppNext (by simp [calmRegs])
  refine ⟨_, hn, ?_, ?_, hu⟩
  · rw [vectors_bit, State.bit, oppNext_rd, ldStage_rd_ne _ _ (by simp), rd_wr_self]; rfl
  · rw [vectors_drp, oppNext_drp, ldStage_drp, ldStage_rd_ne _ _ (by simp), rd_wr_ne _ _ _ _ (by simp), wr_drp]

/-! ## Capture (R215, R216) -/

theorem ldCaptureArm_arms {q h : Nat} (hc : Calm s) (hs : (s.drp d).stage = .burst q h)
    (he : s.bit (R.DRP_LD_CTL_CAP_EN d) = true) : ∃ u, exec (.ldCaptureArm d) s = .next u ∧
      u.bit (R.DRP_LD_STAT_CAP_ARMED d) = true ∧ RegsOnly [R.DRP_LD_STAT_CAP_ARMED d] s u := by
  have hx : exec (.ldCaptureArm d) s = done (s.wr (R.DRP_LD_STAT_CAP_ARMED d) 1) := by
    show execLdCaptureArm d s = _
    simp only [execLdCaptureArm, hs, he, if_true]
  obtain ⟨u, hn, hrd, ho⟩ := field_written hc hx (by simp) (by simp [calmRegs])
  exact ⟨u, hn, by rw [State.bit, hrd]; rfl, ho⟩

/-- Outside every opportunity a collision is charged to slot 31 alone. -/
theorem drpCollide_between (d : Nat) : drpCollide d none s = s.sat (R.DRP_SLOT_ERR_COLL d 31) 1 := rfl

/-- The stronger burst takes the receiver: the capture is counted and charged to slot 31, and its search is over. -/
def captureTaken (d : Nat) (s : State) : State :=
  ((ldCount d 4 s).sat (R.DRP_SLOT_ERR_COLL d 31) 1).wr (R.DRP_LD_STAT_CAP_ARMED d) 0

/-- The fields of a capture that is taken. -/
def captureFields (d : Nat) : List Fld :=
  [R.DRP_LD_ACQ_CNT_COUNT d 4, R.DRP_SLOT_ERR_COLL d 31, R.DRP_LD_STAT_CAP_ARMED d, R.DRP_LD_STAT_RX_BUSY d]

theorem captureTaken_only {d : Nat} : Only (captureFields d) (State.offDrp d) s (ldStage d .header (captureTaken d s)) := by
  have ht : Only (captureFields d) (State.offDrp d) s (captureTaken d s) :=
    ((Only.refl.drpWr (by simp [captureFields])).drpWr (by simp [captureFields])).drpWr (by simp [captureFields])
  exact ht.ldStage (by simp [captureFields])

theorem ldDeliver_empty (h : ldSegment b.qpsk ++ ldSegment b.qam = []) : ldDeliver d b s = cwCounted d b s :=
  ldDeliver_bad (n := 0) h

theorem exec_ldCaptureSync_locked {sync : BitVec 48} (ha : s.bit (R.DRP_LD_STAT_CAP_ARMED d) = true)
    (hm : (ldSyncMatch (s.rd (R.DRP_LD_CTL_SYNC_TOL d)) sync).isSome = true)
    (hb : ldSegment b.qpsk ++ ldSegment b.qam = []) (ho : (s.drp d).rxOpp = none) :
    exec (.ldCaptureSync d sync b) s = done (ldStage d .header (captureTaken d (cwCounted d b s))) := by
  show execLdCaptureSync d sync b s = _
  simp only [execLdCaptureSync, ha, hm, Bool.and_self, if_true, ho, ldDeliver_empty hb, drpCollide_between]
  rfl

theorem ldCaptureSync_takes {sync : BitVec 48} (hc : Calm s) (ha : s.bit (R.DRP_LD_STAT_CAP_ARMED d) = true)
    (hm : (ldSyncMatch (s.rd (R.DRP_LD_CTL_SYNC_TOL d)) sync).isSome = true)
    (hb : ldSegment b.qpsk ++ ldSegment b.qam = []) (hopp : (s.drp d).rxOpp = none) :
    ∃ u, exec (.ldCaptureSync d sync b) s = .next u ∧ u.bit (R.DRP_LD_STAT_CAP_ARMED d) = false ∧
      Counted (R.DRP_LD_ACQ_CNT_COUNT d 4) 1 s u ∧ Counted (R.DRP_SLOT_ERR_COLL d 31) 1 s u ∧
      u.drp d = { s.drp d with stage := .header } ∧
      Only (cwFields d ++ captureFields d) (State.offDrp d) s u := by
  have hcw : RegsOnly (cwFields d) s (cwCounted d b s) := cwCounted_only
  obtain ⟨hn, hu⟩ := drpPart_next hc (exec_ldCaptureSync_locked ha hm hb hopp)
    ((hcw.drpFrame.mono fun _ => List.mem_append_left _).trans (captureTaken_only.mono fun _ => List.mem_append_right _))
    (by simp [cwFields, captureFields, calmRegs])
  refine ⟨_, hn, ?_, ?_, ?_, ?_, hu⟩
  · rw [vectors_bit, ldStage_bit_ne _ _ (by simp), State.bit, captureTaken, rd_wr_self]; rfl
  · rw [Counted, vectors_rd, ldStage_rd_ne _ _ (by simp), captureTaken, rd_wr_ne _ _ _ _ (by simp),
      sat_rd_ne _ _ _ _ (by simp), ldCount, sat_rd, hcw.rd_of_id (by simp [cwFields])]
  · rw [Counted, vectors_rd, ldStage_rd_ne _ _ (by simp), captureTaken, rd_wr_ne _ _ _ _ (by simp), sat_rd, ldCount,
      sat_rd_ne _ _ _ _ (by simp), hcw.rd_of_id (by simp [cwFields])]
  · rw [vectors_drp, ldStage_drp, captureTaken, wr_drp, sat_drp, ldCount, sat_drp, RegsOnly.drp_eq hcw]

/-- A search for the stronger burst found no sync: counted, as a collision too, and charged to slot 31. -/
def captureMissed (d : Nat) (s : State) : State :=
  (drpErr d 1 (ldCount d 5 (s.wr (R.DRP_LD_STAT_CAP_ARMED d) 0))).sat (R.DRP_SLOT_ERR_COLL d 31) 1

theorem ldCaptureSearchEnd_givesUp (hc : Calm s) (ha : s.bit (R.DRP_LD_STAT_CAP_ARMED d) = true)
    (hopp : (s.drp d).rxOpp = none) : ∃ u, exec (.ldCaptureSearchEnd d) s = .next u ∧
      u.bit (R.DRP_LD_STAT_CAP_ARMED d) = false ∧ Counted (R.DRP_LD_ACQ_CNT_COUNT d 5) 1 s u ∧
      Counted (R.DRP_ERR_CNT_COUNT d 1) 1 s u ∧ Counted (R.DRP_SLOT_ERR_COLL d 31) 1 s u ∧
      RegsOnly [R.DRP_LD_STAT_CAP_ARMED d, R.DRP_LD_ACQ_CNT_COUNT d 5, R.DRP_ERR_CNT_COUNT d 1, R.DRP_SLOT_ERR_COLL d 31]
        s u := by
  have hx : exec (.ldCaptureSearchEnd d) s = done (captureMissed d s) := by
    show execLdCaptureSearchEnd d s = _
    simp only [execLdCaptureSearchEnd, ha, if_true, hopp, drpCollide_between]
    rfl
  have ho : RegsOnly [R.DRP_LD_STAT_CAP_ARMED d, R.DRP_LD_ACQ_CNT_COUNT d 5, R.DRP_ERR_CNT_COUNT d 1,
      R.DRP_SLOT_ERR_COLL d 31] s (captureMissed d s) :=
    RegsOnly.wr (RegsOnly.wr (RegsOnly.wr (RegsOnly.wr .refl (by simp)) (by simp)) (by simp)) (by simp)
  obtain ⟨hn, hu⟩ := regs_next hc hx ho (by simp [calmRegs])
  refine ⟨_, hn, ?_, ?_, ?_, ?_, hu⟩
  · simp [State.bit, captureMissed, drpErr, ldCount, sat_rd_ne]
  · simp [Counted, captureMissed, drpErr, ldCount, sat_rd, sat_rd_ne, rd_wr_ne]
  · simp [Counted, captureMissed, drpErr, ldCount, sat_rd, sat_rd_ne, rd_wr_ne]
  · simp [Counted, captureMissed, drpErr, ldCount, sat_rd, sat_rd_ne, rd_wr_ne]

/-- Settles O27: one lemma for each command of the receiver. -/
theorem longDropReceives : Obligations.LongDropReceives := by
  refine fun d s hc => ⟨ldCarrierDetect_searches hc, ldSyncTimeout_waits hc, fun sync hdr second rot h hs hm hd ht =>
      ldHeaderCheck_receives hc hs hm hd ht, fun b q h n hs hm hbad hsnr => ldBurstEnd_counts hc hs hm hbad hsnr rfl,
    ldLossOfCarrier_idles hc, fun q h => ldCaptureArm_arms hc, fun sync b => ldCaptureSync_takes hc,
    ldCaptureSearchEnd_givesUp hc⟩

end Sys2Proof.Machine
end

section
/-! PROOFS. The frame of a command of one pass, and a tally that is taken in its order: once, with its answer kept and
sent; a duplicate is answered again (R233 to R237). -/

namespace Sys2Proof.Machine

variable {l : List Fld} {s u w : State} {v : Nat}

/-! ## Frames over one pass -/

theorem Only.pasWr {f : Fld} {n : Nat} (h : Only l (State.offPas v) s u) (m : f ∈ l) :
    Only l (State.offPas v) s (u.wr f n) := ⟨h.regs.wr m, h.rest⟩

theorem Only.pasSend {x : Out} (h : Only l (State.offPas v) s u) : Only l (State.offPas v) s (u.send x) := ⟨h.regs, h.rest⟩

theorem Only.modPass {g : Pass → Pass} (h : Only l (State.offPas v) s u) : Only l (State.offPas v) s (u.modPass v g) :=
  ⟨h.regs, (offPas_modPass u v g).trans h.rest⟩

/-- A command of registers alone keeps everything outside a pass. -/
theorem RegsOnly.pasFrame (h : RegsOnly l s u) : Only l (State.offPas v) s u := by
  have e := congrArg (State.offPas v) h.rest
  exact ⟨h.regs, e⟩

/-- A command of one pass answers its effect, and keeps everything outside the pass; an answer that the vale delays stays
delayed. -/
theorem pasPart_next {o : Host.Outcome State Fault Refusal} {x : Pass} (hc : Calm s) (hx : o = done w)
    (h : Only l (State.offPas v) s w) (hp : w.pas v = x) (hd : x.rungDelay = (s.pas v).rungDelay)
    (hl : ∀ f ∈ l, f.id ∉ calmRegs) :
    o = .next (vectors w) ∧ (vectors w).pas v = x ∧ Only l (State.offPas v) s (vectors w) :=
  ⟨pas_next offElse_id hc hx h (by rw [hp, hd]) hl, (vectors_pas w v).trans hp, h.vectors fun y => offPas_vectors y v⟩

/-! ## Counters of the tallies -/

section
variable (v k ty seq : Nat)
@[simp] theorem tallyCnt_pas (n : Nat) : (tallyCnt v k s).pas n = s.pas n := rfl
@[simp] theorem hostGot_pas (n : Nat) : (hostGot v s).pas n = s.pas n := rfl
@[simp] theorem hostSend_pas (n : Nat) : (hostSend v ty seq s).pas n = s.pas n := rfl
theorem tallyCnt_modPass (g : Pass → Pass) : tallyCnt v k (s.modPass v g) = (tallyCnt v k s).modPass v g := rfl
theorem hostSend_rd (f : Fld) : (hostSend v ty seq s).rd f = (tallyCnt v 0 s).rd f := rfl
theorem tallyCnt_rd_self : (tallyCnt v k s).rd (R.PASS_TALLY_CNT_COUNT v k) =
    min (s.rd (R.PASS_TALLY_CNT_COUNT v k) + 1) (2 ^ 32 - 1) := sat_rd s _ 1
theorem tallyCnt_rd_ne {f : Fld} (h : (R.PASS_TALLY_CNT_COUNT v k).id = f.id → (R.PASS_TALLY_CNT_COUNT v k).ix ≠ f.ix) :
    (tallyCnt v k s).rd f = s.rd f := sat_rd_ne s _ f 1 h
end

theorem RegsOnly.tallyCnt {k : Nat} (h : RegsOnly l s u) (m : R.PASS_TALLY_CNT_COUNT v k ∈ l) :
    RegsOnly l s (tallyCnt v k u) := h.wr m

theorem RegsOnly.hostSend {ty seq : Nat} (h : RegsOnly l s u) (m : R.PASS_TALLY_CNT_COUNT v 0 ∈ l) :
    RegsOnly l s (hostSend v ty seq u) := ⟨(h.tallyCnt m).regs, (h.tallyCnt m).rest⟩

theorem Only.tallyCnt {k : Nat} (h : Only l (State.offPas v) s u) (m : R.PASS_TALLY_CNT_COUNT v k ∈ l) :
    Only l (State.offPas v) s (tallyCnt v k u) := h.pasWr m

theorem Only.hostSend {ty seq : Nat} (h : Only l (State.offPas v) s u) (m : R.PASS_TALLY_CNT_COUNT v 0 ∈ l) :
    Only l (State.offPas v) s (hostSend v ty seq u) := (h.tallyCnt m).pasSend

/-- A tally that is sent stays sent while the vectors are looked at. -/
theorem hostSend_mem_out (v ty seq : Nat) : .tally v ty seq ∈ (vectors (hostSend v ty seq s)).out :=
  mem_vectors_out (.head _)

theorem dist_self (n : Nat) : dist 8 n n = 0 := by
  unfold dist
  omega

theorem dist_of_behind {a b : Nat} (h : 128 ≤ dist 8 a b) : dist 8 a b ≠ 0 ∧ ¬ dist 8 a b < 128 := by omega

/-! ## A request of the host die at its vale (R236) -/

/-- Nothing follows a request where none is held behind it. -/
theorem valeDrain_noneHeld (n : Nat) (h : (s.pas v).held = []) : valeDrain v n s = s := by
  cases n with
  | zero => rfl
  | succ n => simp only [valeDrain, h, List.find?_nil]

theorem valeExec_pas (seq : Nat) (b : HostBody) : (valeExec v seq b s).pas v =
    { (bodyExec v b s).2.pas v with
      rx := (seq + 1) % 256, cache := ((seq, (bodyExec v b s).1) :: ((bodyExec v b s).2.pas v).cache).take 16 } := by
  simp [valeExec, cachePut]

theorem valeExec_only (seq : Nat) (b : HostBody) : Only [] (State.offPas v) (bodyExec v b s).2 (valeExec v seq b s) :=
  Only.refl.modPass.modPass.pasSend

section
variable {seq : Nat} {kind : HostBody → Bool} {r : HostReq} (hf : hostFind v seq s = some r) (hk : kind r.body = true)
  (hp : (s.pas v).powered = true)
include hf hk hp

theorem valeArrive_expected (hr : (s.pas v).rx = seq) : valeArrive v seq kind s = valeDrain v 16 (valeExec v seq r.body s) := by
  simp [valeArrive, hf, hk, hp, hr, dist_self]

theorem valeArrive_duplicate (hd : 128 ≤ dist 8 seq (s.pas v).rx) (hg : cacheGet v seq s ≠ none) :
    valeArrive v seq kind s = s.send (.tally v (replyType r.body) seq) := by
  obtain ⟨hne, hlt⟩ := dist_of_behind hd
  simp [valeArrive, hf, hk, hp, hne, hlt, Option.isSome_iff_ne_none.2 hg]

end

/-- Each command that brings a request to a vale is the arrival of that request. -/
theorem exec_of_hostTally {c : Instr} {seq : Nat} {kind : HostBody → Bool} (h : hostTally c = some (v, seq, kind)) :
    exec c s = done (valeArrive v seq kind s) := by
  unfold hostTally at h
  split at h <;> cases h <;> rfl

section
variable {c : Instr} {seq : Nat} {kind : HostBody → Bool} {r : HostReq} (h : hostTally c = some (v, seq, kind))
  (hf : hostFind v seq s = some r) (hk : kind r.body = true) (hp : (s.pas v).powered = true)
include h hf hk hp

/-- In order, the body runs, the expected SEQ moves on, and the reply is kept and sent. -/
theorem hostTally_runs (hr : (s.pas v).rx = seq) (hc : Calm (bodyExec v r.body s).2)
    (hh : ((bodyExec v r.body s).2.pas v).held = []) :
    ∃ u, exec c s = .next u ∧ (u.pas v).rx = (seq + 1) % 256 ∧ cacheGet v seq u = some (bodyExec v r.body s).1 ∧
      .tally v (replyType r.body) seq ∈ u.out ∧ Only [] (State.offPas v) (bodyExec v r.body s).2 u := by
  have hpas := valeExec_pas (v := v) (s := s) seq r.body
  have hx : exec c s = done (valeExec v seq r.body s) := by
    rw [exec_of_hostTally h, valeArrive_expected hf hk hp hr, valeDrain_noneHeld 16 (by rw [hpas]; exact hh)]
  obtain ⟨hn, hu, ho⟩ := pasPart_next hc hx (valeExec_only seq r.body) hpas rfl (by simp)
  exact ⟨_, hn, by rw [hu], by simp [cacheGet, hu], mem_vectors_out (.head _), ho⟩

/-- Behind the expected SEQ, the reply that is kept is sent again, and nothing runs. -/
theorem hostTally_repeats (hc : Calm s) (hd : 128 ≤ dist 8 seq (s.pas v).rx) (hg : cacheGet v seq s ≠ none) :
    ∃ u, exec c s = .next u ∧ .tally v (replyType r.body) seq ∈ u.out ∧ RegsOnly [] s u := by
  have hx : exec c s = done (s.send (.tally v (replyType r.body) seq)) := by
    rw [exec_of_hostTally h, valeArrive_duplicate hf hk hp hd hg]
  obtain ⟨hn, ho⟩ := regs_next (l := []) hc hx ⟨.refl, rfl⟩ (by simp)
  exact ⟨_, hn, mem_vectors_out (.head _), ho⟩

end

/-! ## A request of a vale at the host die (R236, R237) -/

/-- Nothing follows a request where none is held behind it. -/
theorem upDrain_noneHeld (n : Nat) (h : (s.pas v).upHeld = []) : upDrain v n s = s := by
  cases n with
  | zero => rfl
  | succ n => simp only [upDrain, h, List.find?_nil]

theorem upTake_pas (seq : Nat) (b : UpBody) : (upTake v seq b s).pas v =
    { (upExec v b s).pas v with
      upRx := (seq + 1) % 256, upCache := (seq :: ((upExec v b s).pas v).upCache).take 16 } := by
  simp [upTake]

theorem upTake_only (seq : Nat) (b : UpBody) :
    Only [R.PASS_TALLY_CNT_COUNT v 0] (State.offPas v) (upExec v b s) (upTake v seq b s) :=
  Only.refl.modPass.hostSend (by simp)

/-- A request that is taken shows in the registers by its own effect and by one tally sent. -/
theorem upTake_rd (seq : Nat) (b : UpBody) (f : Fld) : (upTake v seq b s).rd f = (tallyCnt v 0 (upExec v b s)).rd f := by
  rw [upTake, hostSend_rd, tallyCnt_modPass, modPass_rd]

/-- The reply to a request that is taken counts as a tally sent. -/
theorem upTake_counted (seq : Nat) (b : UpBody) :
    Counted (R.PASS_TALLY_CNT_COUNT v 0) 1 (upExec v b s) (upTake v seq b s) :=
  (upTake_rd seq b _).trans (tallyCnt_rd_self v 0)

section
variable {seq : Nat} (b : UpBody) (hp : (s.pas v).powered = true)
include hp

theorem upArrive_expected (hr : (s.pas v).upRx = seq) :
    upArrive v seq b s = upDrain v 16 (upTake v seq b (hostGot v s)) := by
  simp [upArrive, hp, hr, dist_self]

theorem upArrive_duplicate (hd : 128 ≤ dist 8 seq (s.pas v).upRx) (hg : (s.pas v).upCache.contains seq = true) :
    upArrive v seq b s = hostSend v (upReply b) seq (tallyCnt v 5 (hostGot v s)) := by
  obtain ⟨hne, hlt⟩ := dist_of_behind hd
  simp only [upArrive, hp, hostGot_pas, tallyCnt_pas, hg, hne, hlt, Bool.not_true, Bool.false_eq_true, if_false, if_true]

end

/-- Each command that brings a request to the host die is the arrival of that request. -/
theorem exec_of_valeTally {c : Instr} {seq : Nat} {b : UpBody} (h : valeTally c = some (v, seq, b)) :
    exec c s = done (upArrive v seq b s) := by
  unfold valeTally at h
  split at h <;> cases h <;> rfl

section
variable {c : Instr} {seq : Nat} {b : UpBody} (h : valeTally c = some (v, seq, b)) (hp : (s.pas v).powered = true)
include h hp

/-- In order, the host die takes the request, the expected SEQ moves on, and the reply is kept, sent and counted. -/
theorem valeTally_runs (hr : (s.pas v).upRx = seq) (hc : Calm (upExec v b (hostGot v s)))
    (hh : ((upExec v b (hostGot v s)).pas v).upHeld = []) :
    ∃ u, exec c s = .next u ∧ (u.pas v).upRx = (seq + 1) % 256 ∧
      (u.pas v).upCache = (seq :: ((upExec v b (hostGot v s)).pas v).upCache).take 16 ∧
      .tally v (upReply b) seq ∈ u.out ∧ Counted (R.PASS_TALLY_CNT_COUNT v 0) 1 (upExec v b (hostGot v s)) u ∧
      Only [R.PASS_TALLY_CNT_COUNT v 0] (State.offPas v) (upExec v b (hostGot v s)) u := by
  have hpas := upTake_pas (v := v) (s := hostGot v s) seq b
  have hx : exec c s = done (upTake v seq b (hostGot v s)) := by
    rw [exec_of_valeTally h, upArrive_expected b hp hr, upDrain_noneHeld 16 (by rw [hpas]; exact hh)]
  obtain ⟨hn, hu, ho⟩ := pasPart_next hc hx (upTake_only seq b) hpas rfl (by simp [calmRegs])
  exact ⟨_, hn, by rw [hu], by rw [hu], hostSend_mem_out v _ seq, counted_vectors.2 (upTake_counted seq b), ho⟩

/-- Behind the expected SEQ, the duplicate is counted and answered again, and nothing runs. -/
theorem valeTally_repeats (hc : Calm s) (hd : 128 ≤ dist 8 seq (s.pas v).upRx) (hg : (s.pas v).upCache.contains seq = true) :
    ∃ u, exec c s = .next u ∧ .tally v (upReply b) seq ∈ u.out ∧ Counted (R.PASS_TALLY_CNT_COUNT v 5) 1 s u ∧
      RegsOnly [R.PASS_TALLY_CNT_COUNT v 0, R.PASS_TALLY_CNT_COUNT v 1, R.PASS_TALLY_CNT_COUNT v 5] s u := by
  have hx : exec c s = done (hostSend v (upReply b) seq (tallyCnt v 5 (hostGot v s))) := by
    rw [exec_of_valeTally h, upArrive_duplicate b hp hd hg]
  have ho : RegsOnly [R.PASS_TALLY_CNT_COUNT v 0, R.PASS_TALLY_CNT_COUNT v 1, R.PASS_TALLY_CNT_COUNT v 5] s
      (hostSend v (upReply b) seq (tallyCnt v 5 (hostGot v s))) :=
    ((RegsOnly.tallyCnt .refl (k := 1) (by simp)).tallyCnt (by simp)).hostSend (by simp)
  obtain ⟨hn, hu⟩ := regs_next hc hx ho (by simp [calmRegs])
  refine ⟨_, hn, hostSend_mem_out v _ seq, counted_vectors.2 ?_, hu⟩
  rw [Counted, hostSend_rd, tallyCnt_rd_ne _ _ (by simp), tallyCnt_rd_self, hostGot, tallyCnt_rd_ne _ _ (by simp)]

end

/-- Settles O31: either way across the pass, the tally with the expected SEQ runs its body and one behind it is only
answered. -/
theorem talliesRunOnce : Obligations.TalliesRunOnce :=
  ⟨fun _ _ _ _ _ _ h hf hk hp => ⟨hostTally_runs h hf hk hp, hostTally_repeats h hf hk hp⟩,
    fun _ _ _ _ _ h hp => ⟨valeTally_runs h hp, valeTally_repeats h hp⟩⟩

end Sys2Proof.Machine
end

section
/-! PROOFS. The lanes of a pass: blocks, locks, the striping set, reports, and a direction without a lane (R219, R223,
R225, R226, R231). -/

namespace Sys2Proof.Machine

variable {s : State} {v : Fin 4} {down : Bool} {lane : Fin 3}

/-! ## Blocks (R219, R231) -/

/-- A sound block on a locked lane, other than a marker, only counts what its code corrected. -/
theorem exec_passBlockReceive_sound {b : PassBlock} {n : Nat} (hl : tbit (dataLocks v down s) lane = true)
    (hv : hdrValid b.hdr lane = true) (hs : b.stuffBad = false) (hn : b.status = .corrected n) (hk : hdrKind b.hdr ≠ 2) :
    exec (.passBlockReceive v down lane b) s = done (s.add (R.PASS_RS_CORR_SYM_COUNT v) n) := by
  have hlock : tbit (if down then (s.pas v).dnLock else upLock v s) lane = true := hl
  show done (effPassBlock v down lane b s) = _
  simp only [effPassBlock, hlock, hv, hs, hn, hk, Bool.not_true, Bool.false_eq_true, or_self, if_false]

theorem passBlockReceive_counts {b : PassBlock} {n : Nat} (hc : Calm s) (hl : tbit (dataLocks v down s) lane = true)
    (hv : hdrValid b.hdr lane = true) (hs : b.stuffBad = false) (hn : b.status = .corrected n) (hk : hdrKind b.hdr ≠ 2) :
    ∃ u, exec (.passBlockReceive v down lane b) s = .next u ∧ Wrapped (R.PASS_RS_CORR_SYM_COUNT v) n s u ∧
      RegsOnly [R.PASS_RS_CORR_SYM_COUNT v] s u := by
  obtain ⟨hnext, ho⟩ := regs_next hc (exec_passBlockReceive_sound hl hv hs hn hk)
    (RegsOnly.wr .refl (List.mem_singleton_self _)) (by simp [calmRegs])
  exact ⟨_, hnext, wrapped_vectors.2 (add_rd s _ n), ho⟩

/-! ## Locks (R223) -/

/-- The lock of one lane is set or cleared at its receiver. -/
def lockSet (v : Nat) (down : Bool) (lane : Nat) (b : Bool) (s : State) : State :=
  if down then s.modPass v fun x => { x with dnLock := setBit x.dnLock lane b }
  else s.wr (R.PASS_STAT_UP_LOCK v) (setBit (upLock v s) lane b)

theorem exec_passLaneLock : exec (.passLaneLock v down lane) s = done (lockSet v down lane true s) := rfl

theorem exec_passLaneLockLoss_locked (hl : tbit (dataLocks v down s) lane = true) :
    exec (.passLaneLockLoss v down lane) s = done (lockSet v down lane false (s.evt (R.PASS_EVT_LANE_LOSS v))) :=
  congrArg done (if_pos hl)

/-- A receiver's locks are what they were, but for the lane set. -/
theorem dataLocks_lockSet (b : Bool) : dataLocks v down (lockSet v down lane b s) = setBit (dataLocks v down s) lane b := by
  cases down with
  | true => simp [dataLocks, lockSet]
  | false =>
    have hfit : setBit (upLock v s) lane b < 2 ^ 3 := setBit_lt (rd_lt s (R.PASS_STAT_UP_LOCK v)) lane.isLt b
    exact (rd_wr_self s _ _).trans (Nat.mod_eq_of_lt hfit)

theorem lockSet_only (b : Bool) : Only [R.PASS_STAT_UP_LOCK v] (State.offPas v) s (lockSet v down lane b s) := by
  unfold lockSet
  split
  · exact Only.refl.modPass
  · exact Only.refl.pasWr (by simp)

theorem lockSet_rungDelay (b : Bool) : ((lockSet v down lane b s).pas v).rungDelay = (s.pas v).rungDelay := by
  cases down <;> simp [lockSet]

theorem dataLocks_evt {f : Fld} (hf : f.id ≠ (R.PASS_STAT_UP_LOCK v).id) : dataLocks v down (s.evt f) = dataLocks v down s := by
  cases down with
  | true => rfl
  | false => exact rd_wr_ne s f _ 1 fun e => absurd e hf

theorem dataLocks_vectors : dataLocks v down (vectors s) = dataLocks v down s := by simp [dataLocks]

theorem passLaneLock_locks (hc : Calm s) : ∃ u, exec (.passLaneLock v down lane) s = .next u ∧
    dataLocks v down u = setBit (dataLocks v down s) lane true ∧ Only [R.PASS_STAT_UP_LOCK v] (State.offPas v) s u := by
  obtain ⟨hn, -, ho⟩ := pasPart_next hc exec_passLaneLock (lockSet_only true) rfl (lockSet_rungDelay true) (by simp [calmRegs])
  exact ⟨_, hn, by rw [dataLocks_vectors, dataLocks_lockSet], ho⟩

theorem passLaneLockLoss_unlocks (hc : Calm s) (hl : tbit (dataLocks v down s) lane = true) :
    ∃ u, exec (.passLaneLockLoss v down lane) s = .next u ∧ dataLocks v down u = setBit (dataLocks v down s) lane false ∧
      u.bit (R.PASS_EVT_LANE_LOSS v) = true ∧
      Only [R.PASS_STAT_UP_LOCK v, R.PASS_EVT_LANE_LOSS v] (State.offPas v) s u := by
  have hset := lockSet_only (s := s.evt (R.PASS_EVT_LANE_LOSS v)) (v := v) (down := down) (lane := lane) false
  have ho : Only [R.PASS_STAT_UP_LOCK v, R.PASS_EVT_LANE_LOSS v] (State.offPas v) s
      (lockSet v down lane false (s.evt (R.PASS_EVT_LANE_LOSS v))) :=
    (Only.refl.pasWr (by simp)).trans (hset.mono (by simp))
  obtain ⟨hn, -, hu⟩ := pasPart_next hc (exec_passLaneLockLoss_locked hl) ho rfl (lockSet_rungDelay false) (by simp [calmRegs])
  refine ⟨_, hn, by rw [dataLocks_vectors, dataLocks_lockSet, dataLocks_evt (by simp)], ?_, hu⟩
  rw [vectors_bit, State.bit, hset.rd_of_id (by simp), State.evt, rd_wr_self]
  rfl

/-! ## The striping set (R225, R226) -/

/-- The sender of a direction takes a set of lanes. -/
def stripeSet (v : Nat) (down : Bool) (n : Nat) (s : State) : State :=
  s.modPass v fun x => if down then { x with dnUse := n } else { x with upUse := n }

theorem exec_stripingSetChange : exec (.stripingSetChange v down) s =
    done (if laneCount (lanesReported v down s) < 3 then
      (stripeSet v down (lanesReported v down s) s).evt (R.PASS_EVT_CAPACITY v)
      else stripeSet v down (lanesReported v down s) s) := rfl

theorem lanesUsed_congr {t : State} (h : t.pas v = s.pas v) : lanesUsed v down t = lanesUsed v down s := by
  simp [lanesUsed, h]

theorem lanesUsed_stripeSet (n : Nat) : lanesUsed v down (stripeSet v down n s) = n := by
  cases down <;> simp [lanesUsed, stripeSet]

theorem lanesUsed_stripeSet_other (n : Nat) : lanesUsed v (!down) (stripeSet v down n s) = lanesUsed v (!down) s := by
  cases down <;> simp [lanesUsed, stripeSet]

theorem stripeSet_rungDelay (n : Nat) : ((stripeSet v down n s).pas v).rungDelay = (s.pas v).rungDelay := by
  cases down <;> simp [stripeSet]

theorem stripingSetChange_takes (hc : Calm s) : ∃ u, exec (.stripingSetChange v down) s = .next u ∧
    lanesUsed v down u = lanesReported v down s ∧ lanesUsed v (!down) u = lanesUsed v (!down) s ∧
    (laneCount (lanesReported v down s) < 3 → u.bit (R.PASS_EVT_CAPACITY v) = true) ∧
    Only [R.PASS_EVT_CAPACITY v] (State.offPas v) s u := by
  generalize hL : lanesReported v down s = n
  have hx := exec_stripingSetChange (s := s) (v := v) (down := down)
  have hset : Only [R.PASS_EVT_CAPACITY v] (State.offPas v) s (stripeSet v down n s) := Only.refl.modPass
  rw [hL] at hx
  have hused : ∀ d, lanesUsed v d (vectors (if laneCount n < 3 then (stripeSet v down n s).evt (R.PASS_EVT_CAPACITY v)
      else stripeSet v down n s)) = lanesUsed v d (stripeSet v down n s) := fun d =>
    lanesUsed_congr (by rw [vectors_pas]; split <;> rfl)
  obtain ⟨hn, -, ho⟩ := pasPart_next (l := [R.PASS_EVT_CAPACITY v]) hc hx (by split; exacts [hset.pasWr (by simp), hset]) rfl
    (by split <;> exact stripeSet_rungDelay n) (by simp [calmRegs])
  refine ⟨_, hn, by rw [hused, lanesUsed_stripeSet], by rw [hused, lanesUsed_stripeSet_other], fun h => ?_, ho⟩
  rw [vectors_bit, if_pos h, State.bit, State.evt, rd_wr_self]
  rfl

/-! ## Reports (R225, R233, R234) -/

/-- The vale learns which up lanes the host die has locked. -/
theorem lane_toVale (hc : Calm s) : ∃ u, exec (.lane v true) s = .next u ∧
    (u.pas v).upRep = s.rd (R.PASS_STAT_UP_LOCK v) ∧ Only [] (State.offPas v) s u := by
  have hx : exec (.lane v true) s = done (s.modPass v fun x => { x with upRep := upLock v s }) := rfl
  obtain ⟨hn, hp, ho⟩ := pasPart_next (l := []) hc hx Only.refl.modPass (modPass_pas_self s v _) rfl (by simp)
  exact ⟨_, hn, by rw [hp]; rfl, ho⟩

/-- The host die learns which down lanes the vale has locked, and counts the tally. -/
theorem lane_toHost (hc : Calm s) : ∃ u, exec (.lane v false) s = .next u ∧
    u.rd (R.PASS_STAT_DN_LOCK v) = (s.pas v).dnLock % 8 ∧ Counted (R.PASS_TALLY_CNT_COUNT v 1) 1 s u ∧
    RegsOnly [R.PASS_STAT_DN_LOCK v, R.PASS_TALLY_CNT_COUNT v 1] s u := by
  have hx : exec (.lane v false) s = done ((hostGot v s).wr (R.PASS_STAT_DN_LOCK v) (s.pas v).dnLock) := rfl
  obtain ⟨hn, ho⟩ := regs_next (l := [R.PASS_STAT_DN_LOCK v, R.PASS_TALLY_CNT_COUNT v 1]) hc hx
    ((RegsOnly.tallyCnt .refl (k := 1) (by simp)).wr (by simp)) (by simp [calmRegs])
  refine ⟨_, hn, (vectors_rd _ _).trans (rd_wr_self _ _ _), counted_vectors.2 ?_, ho⟩
  rw [Counted, rd_wr_ne _ _ _ _ (by simp), hostGot, tallyCnt_rd_self]

theorem lane_exchanges (hc : Calm s) : ∃ u, exec (.lane v down) s = .next u ∧
    (down = true → (u.pas v).upRep = s.rd (R.PASS_STAT_UP_LOCK v)) ∧
    (down = false → u.rd (R.PASS_STAT_DN_LOCK v) = (s.pas v).dnLock % 8 ∧ Counted (R.PASS_TALLY_CNT_COUNT v 1) 1 s u) ∧
    Only [R.PASS_STAT_DN_LOCK v, R.PASS_TALLY_CNT_COUNT v 1] (State.offPas v) s u := by
  cases down with
  | true =>
    obtain ⟨u, hn, hp, ho⟩ := lane_toVale (v := v) hc
    exact ⟨u, hn, fun _ => hp, nofun, ho.mono (by simp)⟩
  | false =>
    obtain ⟨u, hn, hl, hcnt, ho⟩ := lane_toHost (v := v) hc
    exact ⟨u, hn, nofun, fun _ => ⟨hl, hcnt⟩, ho.pasFrame⟩

/-- Each end sends LANE; the host die counts its own. -/
theorem laneReport_sends (hc : Calm s) : ∃ u, exec (.laneReport v down) s = .next u ∧ .tally v 0x80 0 ∈ u.out ∧
    (down = true → Counted (R.PASS_TALLY_CNT_COUNT v 0) 1 s u) ∧ RegsOnly [R.PASS_TALLY_CNT_COUNT v 0] s u := by
  cases down with
  | true =>
    have hx : exec (.laneReport v true) s = done (hostSend v 0x80 0 s) := rfl
    obtain ⟨hn, ho⟩ := regs_next hc hx (RegsOnly.hostSend (l := [R.PASS_TALLY_CNT_COUNT v 0]) .refl (by simp))
      (by simp [calmRegs])
    exact ⟨_, hn, hostSend_mem_out v _ 0, fun _ => counted_vectors.2 (counted_hostSend v _ 0), ho⟩
  | false =>
    have hx : exec (.laneReport v false) s = done (s.send (.tally v 0x80 0)) := rfl
    obtain ⟨hn, ho⟩ := regs_next (l := [R.PASS_TALLY_CNT_COUNT v 0]) hc hx ⟨.refl, rfl⟩ (by simp [calmRegs])
    exact ⟨_, hn, mem_vectors_out (.head _), nofun, ho⟩

/-! ## A direction without a lane (R226) -/

theorem exec_passNoLaneTick_none (hl : lanesUsed v down s = 0) :
    exec (.passNoLaneTick v) s = done (s.recordFree (32 + v) 2 0x34 none) := by
  refine congrArg done (if_pos ?_)
  cases down with
  | true => exact .inl hl
  | false => exact .inr hl

theorem passNoLaneTick_records (hc : Calm s) (hl : lanesUsed v down s = 0) (hg : Loggable (32 + v) s) :
    ∃ u, exec (.passNoLaneTick v) s = .next u ∧ Logged (32 + v) 2 0x34 s u ∧
      Only (slotFields (32 + v) 2) State.offWatch s u := by
  obtain ⟨u, hn, hlog, ho⟩ := records_free (exec_passNoLaneTick_none hl) hg (.inr rfl) (by decide) hc rfl rfl rfl fun _ _ => rfl
  exact ⟨_, hn, hlog.vectors, ho.vectors offWatch_vectors⟩

/-- Settles O28: one lemma for each command of the lanes. -/
theorem passLanes : Obligations.PassLanes := by
  intro v down lane s hc
  exact ⟨fun b n => passBlockReceive_counts hc, passLaneLock_locks hc, passLaneLockLoss_unlocks hc,
    stripingSetChange_takes hc, lane_exchanges hc, laneReport_sends hc, passNoLaneTick_records hc⟩

end Sys2Proof.Machine
end

section
/-! PROOFS. The four messages of a time exchange, and a measurement that is given up (R237, R243). -/

namespace Sys2Proof.Machine

variable {s : State} {v : Fin 4}

/-! ## T1, T2 and T3 (R243) -/

/-- TIME_SYNC goes out with T1 while the vale is at work. -/
theorem exec_timeExchangeTick_open {t1 : Int} (hr : s.valeRung v ≤ 2) (hf : s.isFenced (.vale v) = false) :
    exec (.timeExchangeTick v t1) s = done ((hostSend v 0x30 0 s).modPass v fun x =>
      { x with t1 := some t1, t2 := none, t3 := none, t4 := none }) :=
  congrArg done (if_pos ⟨hr, by simp [hf]⟩)

theorem timeExchangeTick_starts {t1 : Int} (hc : Calm s) (hr : s.valeRung v ≤ 2) (hf : s.isFenced (.vale v) = false) :
    ∃ u, exec (.timeExchangeTick v t1) s = .next u ∧
      u.pas v = { s.pas v with t1 := some t1, t2 := none, t3 := none, t4 := none } ∧ .tally v 0x30 0 ∈ u.out ∧
      Counted (R.PASS_TALLY_CNT_COUNT v 0) 1 s u ∧ Only [R.PASS_TALLY_CNT_COUNT v 0] (State.offPas v) s u := by
  obtain ⟨hn, hp, ho⟩ := pasPart_next (l := [R.PASS_TALLY_CNT_COUNT v 0]) hc (exec_timeExchangeTick_open hr hf)
    (Only.refl.hostSend (by simp)).modPass (modPass_pas_self _ v _) rfl (by simp [calmRegs])
  exact ⟨_, hn, hp, mem_vectors_out (.head _), counted_vectors.2 (counted_hostSend v 0x30 0), ho⟩

/-- The vale takes T2 and T3 and sends TIME_DREQ. -/
theorem exec_timeSync_begun {t1 t2 t3 : Int} (h1 : (s.pas v).t1 = some t1) :
    exec (.timeSync v t2 t3) s =
      done ((s.modPass v fun x => { x with t2 := some t2, t3 := some t3, t4 := none }).send (.tally v 0x31 0)) :=
  congrArg done (if_pos (by rw [h1]; rfl))

theorem timeSync_answers {t1 t2 t3 : Int} (hc : Calm s) (h1 : (s.pas v).t1 = some t1) :
    ∃ u, exec (.timeSync v t2 t3) s = .next u ∧ u.pas v = { s.pas v with t2 := some t2, t3 := some t3, t4 := none } ∧
      .tally v 0x31 0 ∈ u.out ∧ Only [] (State.offPas v) s u := by
  obtain ⟨hn, hp, ho⟩ := pasPart_next (l := []) hc (exec_timeSync_begun h1) Only.refl.modPass.pasSend
    ((send_pas _ _ v).trans (modPass_pas_self s v _)) rfl (by simp)
  exact ⟨_, hn, hp, mem_vectors_out (.head _), ho⟩

/-! ## T4 (R243) -/

/-- The first TIME_DREQ of an exchange brings T4, and is a request of the vale like every other. -/
theorem exec_timeDreq_first {seq : BitVec 8} {t3 t4 : Int} (h3 : (s.pas v).t3 = some t3) (h4 : (s.pas v).t4 = none) :
    exec (.timeDreq v seq t4) s = done (upArrive v seq.toNat .dreq (s.modPass v fun x => { x with t4 := some t4 })) :=
  congrArg done (if_pos (by rw [h3, h4]; rfl))

/-- The host die has T4, and TIME_DRSP goes out. -/
def dreqTaken (v seq : Nat) (t4 : Int) (s : State) : State :=
  upTake v seq .dreq (hostGot v (s.modPass v fun x => { x with t4 := some t4 }))

theorem dreqTaken_pas {v seq : Nat} {t4 : Int} : (dreqTaken v seq t4 s).pas v =
    { s.pas v with t4 := some t4, upRx := (seq + 1) % 256, upCache := (seq :: (s.pas v).upCache).take 16 } := by
  simp [dreqTaken, upTake_pas, upExec]

theorem exec_timeDreq_expected {seq : BitVec 8} {t3 t4 : Int} (hp : (s.pas v).powered = true)
    (hq : seq.toNat = (s.pas v).upRx) (hh : (s.pas v).upHeld = []) (h3 : (s.pas v).t3 = some t3)
    (h4 : (s.pas v).t4 = none) : exec (.timeDreq v seq t4) s = done (dreqTaken v seq.toNat t4 s) := by
  have harrive := upArrive_expected (v := v) (s := s.modPass v fun x => { x with t4 := some t4 }) (seq := seq.toNat) .dreq
    (by simpa using hp) (by simpa using hq.symm)
  rw [exec_timeDreq_first h3 h4, harrive]
  exact congrArg done (upDrain_noneHeld 16 (by rw [← dreqTaken, dreqTaken_pas]; exact hh))

theorem dreqTaken_only {v seq : Nat} {t4 : Int} :
    Only [R.PASS_TALLY_CNT_COUNT v 1, R.PASS_TALLY_CNT_COUNT v 0] (State.offPas v) s (dreqTaken v seq t4 s) :=
  ((Only.refl.modPass).tallyCnt (k := 1) (by simp)).trans ((upTake_only seq .dreq).mono (by simp))

theorem timeDreq_answers {seq : BitVec 8} {t3 t4 : Int} (hc : Calm s) (hp : (s.pas v).powered = true)
    (hq : seq.toNat = (s.pas v).upRx) (hh : (s.pas v).upHeld = []) (h3 : (s.pas v).t3 = some t3)
    (h4 : (s.pas v).t4 = none) : ∃ u, exec (.timeDreq v seq t4) s = .next u ∧
      u.pas v = { s.pas v with
        t4 := some t4, upRx := (seq.toNat + 1) % 256, upCache := (seq.toNat :: (s.pas v).upCache).take 16 } ∧
      .tally v 0x32 seq.toNat ∈ u.out ∧ Counted (R.PASS_TALLY_CNT_COUNT v 1) 1 s u ∧
      Counted (R.PASS_TALLY_CNT_COUNT v 0) 1 s u ∧
      Only [R.PASS_TALLY_CNT_COUNT v 1, R.PASS_TALLY_CNT_COUNT v 0] (State.offPas v) s u := by
  obtain ⟨hn, hu, ho⟩ := pasPart_next hc (exec_timeDreq_expected hp hq hh h3 h4) dreqTaken_only dreqTaken_pas rfl
    (by simp [calmRegs])
  refine ⟨_, hn, hu, hostSend_mem_out v 0x32 seq.toNat, counted_vectors.2 ?received, counted_vectors.2 ?sent, ho⟩
  case received => rw [Counted, dreqTaken, upTake_rd, tallyCnt_rd_ne _ _ (by simp)]; exact tallyCnt_rd_self (v : Nat) 1
  case sent =>
    rw [Counted, dreqTaken, upTake_rd, tallyCnt_rd_self, upExec, hostGot, tallyCnt_rd_ne _ _ (by simp), modPass_rd]

/-! ## No TIME_DRSP comes (R237) -/

theorem exec_timeDreqAbandon_waiting {t3 : Int} (h3 : (s.pas v).t3 = some t3) : exec (.timeDreqAbandon v) s =
    done (s.modPass v fun x => { x with t2 := none, t3 := none, t4 := none }) :=
  congrArg done (if_pos (by rw [h3]; rfl))

theorem timeDreqAbandon_forgets {t3 : Int} (hc : Calm s) (h3 : (s.pas v).t3 = some t3) :
    ∃ u, exec (.timeDreqAbandon v) s = .next u ∧ u.pas v = { s.pas v with t2 := none, t3 := none, t4 := none } ∧
      Only [] (State.offPas v) s u := by
  obtain ⟨hn, hp, ho⟩ := pasPart_next (l := []) hc (exec_timeDreqAbandon_waiting h3) Only.refl.modPass
    (modPass_pas_self s v _) rfl (by simp)
  exact ⟨_, hn, hp, ho⟩

/-- Settles O30: one lemma for each message, and one for the measurement that is given up. -/
theorem passTimes : Obligations.PassTimes := by
  intro v s hc
  exact ⟨fun t1 => timeExchangeTick_starts hc, fun t1 t2 t3 => timeSync_answers hc,
    fun seq t3 t4 => timeDreq_answers hc, fun t3 => timeDreqAbandon_forgets hc⟩

end Sys2Proof.Machine
end

section
/-! PROOFS. Answers close their request, a request is sent again or given up, and missing SEQs are skipped (R233, R235,
R236, R237). -/

namespace Sys2Proof.Machine

variable {s : State}

/-! ## A request leaves the window (R236) -/

/-- A request has left the window, in which no other waits, and OUTSTANDING shows what is left. -/
def requestLeft (v seq : Nat) (s : State) : State :=
  outShow v (s.modPass v fun x => { x with out := x.out.filter fun r => r.seq ≠ seq })

theorem hostDrop_requestLeft {v seq : Nat} (h : NoneWaiting v s) : hostDrop v seq s = requestLeft v seq s :=
  hostPump_noneWaiting 16 fun r hr => by
    rw [modPass_pas_self] at hr
    exact h r (List.mem_filter.1 hr).1

section
variable {v seq : Nat}

/-- Where the pass stood as in `s`, its requests are those of `s` after the answer. -/
theorem requestLeft_pas {t : State} (h : t.pas v = s.pas v) :
    (requestLeft v seq t).pas v = { s.pas v with out := answered v seq s } := by
  rw [requestLeft, outShow, wr_pas, modPass_pas_self, h]
  rfl

theorem requestLeft_only : Only [R.PASS_STAT_OUTSTANDING v] (State.offPas v) s (requestLeft v seq s) :=
  Only.refl.modPass.pasWr (by simp)

/-- Every request left in the window is outstanding. -/
theorem outstanding_answered (h : NoneWaiting v s) :
    outstanding v (s.modPass v fun x => { x with out := x.out.filter fun r => r.seq ≠ seq }) = answered v seq s := by
  unfold outstanding
  rw [modPass_pas_self]
  exact List.filter_eq_self.2 fun r hr => decide_eq_true (h r (List.mem_filter.1 hr).1)

theorem requestLeft_outstanding (h : NoneWaiting v s) : (requestLeft v seq s).rd (R.PASS_STAT_OUTSTANDING v) =
    (answered v seq s).length % 2 ^ (R.PASS_STAT_OUTSTANDING v).width := by
  rw [requestLeft, outShow, outstanding_answered h, rd_wr_self]

theorem requestClosed_eq : requestClosed v seq s = requestLeft v seq (hostGot v s) := rfl

/-- The answer that closes a request is counted. -/
theorem requestClosed_counted : Counted (R.PASS_TALLY_CNT_COUNT v 1) 1 s (requestClosed v seq s) := by
  rw [Counted, requestClosed_eq, requestLeft_only.rd_of_id (by simp)]
  exact tallyCnt_rd_self v 1

/-- A command whose effect is an answer to a request: what it answers, counts and shows. -/
theorem answer_next {c : Instr} (hc : Calm s) (hw : NoneWaiting v s)
    (hx : exec c s = done (hostDrop v seq (hostGot v s))) : ∃ u, exec c s = .next u ∧
      u.pas v = { s.pas v with out := answered v seq s } ∧ Counted (R.PASS_TALLY_CNT_COUNT v 1) 1 s u ∧
      u.rd (R.PASS_STAT_OUTSTANDING v) = (answered v seq s).length % 2 ^ (R.PASS_STAT_OUTSTANDING v).width ∧
      Only (answerFields v) (State.offPas v) s u := by
  have hgot : NoneWaiting v (hostGot v s) := hw
  rw [hostDrop_noneWaiting hw] at hx
  exact ⟨_, next_of_done hx hc.requestClosed, by rw [vectors_pas, requestClosed_pas], counted_vectors.2 requestClosed_counted,
    (vectors_rd _ _).trans (requestLeft_outstanding hgot), (requestClosed_only v seq).vectors fun y => offPas_vectors y v⟩

end

section
variable {v : Fin 4} {seq : BitVec 8} {r : HostReq} (hr : hostFind v seq.toNat s = some r)
include hr

/-- CMD_RSP that accepts the command only closes the request. -/
theorem exec_cmdRsp_accepted {c : ValeCmd} (hb : r.body = .cmd c) (hg : cacheGet v seq.toNat s = some (.cmd 0)) :
    exec (.cmdRsp v seq) s = done (hostDrop v seq.toNat (hostGot v s)) := by
  show execCmdRsp v seq s = _
  simp only [execCmdRsp, hr, hg, hb, if_true]

theorem exec_ack_wake (hg : cacheGet v seq.toNat s = some .ack) :
    exec (.ack v false 0x70 seq) s = done (hostDrop v seq.toNat (hostGot v s)) := by
  show execAck v false 0x70 seq s = _
  simp only [execAck, hr, hg, Bool.false_eq_true, if_false]

/-! ## Giving up (R236) -/

/-- A WAKE that is given up leaves nothing behind beside its count and its event. -/
theorem exec_tallyGiveUp_wake (hb : r.body = .wake) : exec (.tallyGiveUp v seq) s =
    done (hostDrop v seq.toNat ((tallyCnt v 4 s).evt (R.PASS_EVT_GIVEN_UP v))) := by
  show execTallyGiveUp v seq s = _
  simp only [execTallyGiveUp, hr, hb, givenUp]

theorem tallyGiveUp_wake_closes (hc : Calm s) (hw : NoneWaiting v s) (hb : r.body = .wake) :
    ∃ u, exec (.tallyGiveUp v seq) s = .next u ∧ u.pas v = { s.pas v with out := answered v seq.toNat s } ∧
      u.bit (R.PASS_EVT_GIVEN_UP v) = true ∧ Counted (R.PASS_TALLY_CNT_COUNT v 4) 1 s u ∧
      Only (R.PASS_EVT_GIVEN_UP v :: R.PASS_TALLY_CNT_COUNT v 4 :: answerFields v) (State.offPas v) s u := by
  have hgave : NoneWaiting v ((tallyCnt v 4 s).evt (R.PASS_EVT_GIVEN_UP v)) := hw
  have hleft := requestLeft_only (s := (tallyCnt v 4 s).evt (R.PASS_EVT_GIVEN_UP v)) (v := v) (seq := seq.toNat)
  have hx := exec_tallyGiveUp_wake hr hb
  have ho : Only (R.PASS_EVT_GIVEN_UP v :: R.PASS_TALLY_CNT_COUNT v 4 :: answerFields v) (State.offPas v) s
      (requestLeft v seq.toNat ((tallyCnt v 4 s).evt (R.PASS_EVT_GIVEN_UP v))) :=
    ((Only.refl.tallyCnt (k := 4) (by simp)).pasWr (by simp)).trans (hleft.mono (by simp [answerFields]))
  rw [hostDrop_requestLeft hgave] at hx
  obtain ⟨hn, hp, hu⟩ := pasPart_next hc hx ho (requestLeft_pas (s := s) rfl) rfl (by simp [answerFields, calmRegs])
  refine ⟨_, hn, hp, ?given, counted_vectors.2 ?count, hu⟩
  case given => rw [vectors_bit, State.bit, hleft.rd_of_id (by simp), State.evt, rd_wr_self]; rfl
  case count => rw [Counted, hleft.rd_of_id (by simp), State.evt, rd_wr_ne _ _ _ _ (by simp), tallyCnt_rd_self]

end

/-! ## Resends (R236, R237) -/

/-- The request counts one more time sent. -/
def requestResent (v : Nat) (r : HostReq) (s : State) : State :=
  s.modPass v fun x => { x with out := x.out.map fun q => if q = r then { q with sends := q.sends + 1 } else q }

theorem requestResent_pas {v : Nat} {r : HostReq} : (requestResent v r s).pas v = { s.pas v with
    out := (s.pas v).out.map fun q => if q = r then { q with sends := q.sends + 1 } else q } := modPass_pas_self s v _

section
variable {v : Fin 4} {seq : BitVec 8} {r : HostReq} (hr : hostFind v seq.toNat s = some r)
include hr

/-- Sent fewer than four times, a request is sent again. -/
theorem exec_tallyResend_again (hs : r.sends < 4) : exec (.tallyResend v seq) s =
    done (hostSend v (bodyType r.body) r.seq (tallyCnt v 3 (requestResent v r s))) := by
  show execTallyResend v seq s = _
  simp only [execTallyResend, hr, hs, if_true]
  rfl

theorem tallyResend_sends (hc : Calm s) (hs : r.sends < 4) : ∃ u, exec (.tallyResend v seq) s = .next u ∧
    u.pas v = { s.pas v with out := (s.pas v).out.map fun q => if q = r then { q with sends := q.sends + 1 } else q } ∧
    .tally v (bodyType r.body) r.seq ∈ u.out ∧ Counted (R.PASS_TALLY_CNT_COUNT v 0) 1 s u ∧
    Counted (R.PASS_TALLY_CNT_COUNT v 3) 1 s u ∧
    Only [R.PASS_TALLY_CNT_COUNT v 0, R.PASS_TALLY_CNT_COUNT v 3] (State.offPas v) s u := by
  have ho : Only [R.PASS_TALLY_CNT_COUNT v 0, R.PASS_TALLY_CNT_COUNT v 3] (State.offPas v) s
      (hostSend v (bodyType r.body) r.seq (tallyCnt v 3 (requestResent v r s))) :=
    (Only.refl.modPass.tallyCnt (by simp)).hostSend (by simp)
  have hrd (f : Fld) : (requestResent v r s).rd f = s.rd f := rfl
  obtain ⟨hn, hp, hu⟩ := pasPart_next hc (exec_tallyResend_again hr hs) ho
    ((hostSend_pas _ _ _ _).trans ((tallyCnt_pas _ _ _).trans requestResent_pas)) rfl (by simp [calmRegs])
  refine ⟨_, hn, hp, hostSend_mem_out v _ _, counted_vectors.2 ?sent, counted_vectors.2 ?resent, hu⟩
  case sent => rw [Counted, hostSend_rd, tallyCnt_rd_self, tallyCnt_rd_ne _ _ (by simp), hrd]
  case resent => rw [Counted, hostSend_rd, tallyCnt_rd_ne _ _ (by simp), tallyCnt_rd_self, hrd]

end

/-- The types of what the vale has reported and still holds: commands that have ended, a rung answer, wakes. -/
def heldReports (x : Pass) : List Nat :=
  (if x.dones.isEmpty then [] else [0x52]) ++ (if x.rungAns.isSome then [0x62] else []) ++
    (if x.wakes.isEmpty then [] else [0x70])

/-- A vale sends one tally of each type of a list. -/
def talliesSent (v : Nat) (l : List Nat) (s : State) : State := l.foldl (fun a ty => a.send (.tally v ty 0)) s

theorem talliesSent_keep (v : Nat) (l : List Nat) (s : State) :
    ∃ o, talliesSent v l s = { s with out := o } ∧ s.out ⊆ o ∧ ∀ ty ∈ l, .tally v ty 0 ∈ o := by
  induction l generalizing s with
  | nil => exact ⟨s.out, rfl, List.Subset.refl _, nofun⟩
  | cons ty l ih =>
    obtain ⟨o, he, hsub, hsent⟩ := ih (s.send (.tally v ty 0))
    refine ⟨o, he, fun x hx => hsub (.tail _ hx), fun n hn => ?_⟩
    rcases List.mem_cons.1 hn with rfl | hn
    · exact hsub (.head _)
    · exact hsent n hn

theorem talliesSent_only (v : Nat) (l : List Nat) : RegsOnly [] s (talliesSent v l s) := by
  obtain ⟨o, he, -⟩ := talliesSent_keep v l s
  rw [he]
  exact ⟨fun _ _ => rfl, rfl⟩

theorem talliesSent_out {v ty : Nat} {l : List Nat} (h : ty ∈ l) : .tally v ty 0 ∈ (vectors (talliesSent v l s)).out := by
  obtain ⟨o, he, -, hsent⟩ := talliesSent_keep v l s
  rw [he]
  exact mem_vectors_out (hsent ty h)

theorem exec_valeTallyResend (v : Fin 4) : exec (.valeTallyResend v) s = done (talliesSent v (heldReports (s.pas v)) s) := rfl

theorem valeTallyResend_repeats (v : Fin 4) (hc : Calm s) : ∃ u, exec (.valeTallyResend v) s = .next u ∧
    ((s.pas v).dones ≠ [] → .tally v 0x52 0 ∈ u.out) ∧ ((s.pas v).rungAns ≠ none → .tally v 0x62 0 ∈ u.out) ∧
    ((s.pas v).wakes ≠ [] → .tally v 0x70 0 ∈ u.out) ∧ RegsOnly [] s u := by
  obtain ⟨hn, ho⟩ := regs_next hc (exec_valeTallyResend v) (talliesSent_only v _) (by simp)
  refine ⟨_, hn, fun h => talliesSent_out ?_, fun h => talliesSent_out ?_, fun h => talliesSent_out ?_, ho⟩
  · simp [heldReports, h]
  · simp [heldReports, Option.isSome_iff_ne_none, h]
  · simp [heldReports, h]

/-- An ACK of the host die for RUNG_DONE lets the vale forget its rung answer. -/
theorem ack_releases_rungAnswer {v : Fin 4} {seq : BitVec 8} (hc : Calm s) (h : (s.pas v).upCache.contains seq.toNat = true) :
    ∃ u, exec (.ack v true 0x62 seq) s = .next u ∧ u.pas v = { s.pas v with rungAns := none } ∧
      Only [] (State.offPas v) s u := by
  have hx : exec (.ack v true 0x62 seq) s = done (s.modPass v fun x => { x with rungAns := none }) := congrArg done (if_pos h)
  obtain ⟨hn, hp, ho⟩ := pasPart_next (l := []) hc hx Only.refl.modPass (modPass_pas_self s v _) rfl (by simp)
  exact ⟨_, hn, hp, ho⟩

/-! ## Gaps (R236) -/

section
variable {v n : Nat}

/-- The only request held is taken when its turn has come. -/
theorem upDrain_next {b : UpBody} (k : Nat) (hh : (s.pas v).upHeld = [(n, b)]) (hr : (s.pas v).upRx = n) :
    upDrain v (k + 1) s = upDrain v k (upTake v n b (s.modPass v fun x => { x with upHeld := [] })) := by
  have hnone : (s.modPass v fun x => { x with upHeld := x.upHeld.filter fun h => h.1 ≠ n }) =
      s.modPass v fun x => { x with upHeld := [] } := modPass_congr (by simp [hh])
  simp only [upDrain, hh, hr, List.find?_cons, decide_true, hnone]

/-- The SEQs that are missing before a held one are passed over: flagged, counted, and no longer expected. -/
def gapSkipped (v n : Nat) (s : State) : State :=
  ((s.evt (R.PASS_EVT_SKIPPED v)).sat (R.PASS_TALLY_CNT_COUNT v 6) (dist 8 n (s.pas v).upRx)).modPass v
    fun x => { x with upRx := n }

/-- After the gap the held TIME_DREQ is served. -/
def gapServed (v n : Nat) (s : State) : State :=
  upTake v n .dreq ((gapSkipped v n s).modPass v fun x => { x with upHeld := [] })

theorem gapSkipped_pas : (gapSkipped v n s).pas v = { s.pas v with upRx := n } := modPass_pas_self _ v _

theorem gapServed_pas : (gapServed v n s).pas v =
    { s.pas v with upHeld := [], upRx := (n + 1) % 256, upCache := (n :: (s.pas v).upCache).take 16 } := by
  simp [gapServed, upTake_pas, upExec, gapSkipped_pas]

/-- Serving the TIME_DREQ shows in the registers by one tally sent. -/
theorem gapServed_rd (f : Fld) : (gapServed v n s).rd f = (tallyCnt v 0 (gapSkipped v n s)).rd f := by
  rw [gapServed, upTake_rd, upExec, tallyCnt_modPass, modPass_rd]

theorem gapServed_only : Only [R.PASS_EVT_SKIPPED v, R.PASS_TALLY_CNT_COUNT v 6, R.PASS_TALLY_CNT_COUNT v 0]
    (State.offPas v) s (gapServed v n s) := by
  have hskip : Only [R.PASS_EVT_SKIPPED v, R.PASS_TALLY_CNT_COUNT v 6, R.PASS_TALLY_CNT_COUNT v 0] (State.offPas v) s
      (gapSkipped v n s) := Only.modPass (Only.pasWr (Only.pasWr .refl (by simp)) (by simp))
  have hheld : Only [R.PASS_EVT_SKIPPED v, R.PASS_TALLY_CNT_COUNT v 6, R.PASS_TALLY_CNT_COUNT v 0] (State.offPas v) s
      ((gapSkipped v n s).modPass v fun x => { x with upHeld := [] }) := hskip.modPass
  exact hheld.trans ((upTake_only n .dreq).mono (by simp))

theorem gapSkipped_skipped : (gapSkipped v n s).rd (R.PASS_EVT_SKIPPED v) = 1 := by
  rw [gapSkipped, modPass_rd, sat_rd_ne _ _ _ _ (by simp), State.evt, rd_wr_self]
  rfl

theorem gapSkipped_counted : Counted (R.PASS_TALLY_CNT_COUNT v 6) (dist 8 n (s.pas v).upRx) s (gapSkipped v n s) := by
  rw [Counted, gapSkipped, modPass_rd, sat_rd, State.evt, rd_wr_ne _ _ _ _ (by simp)]

theorem gapSkipped_sent : (gapSkipped v n s).rd (R.PASS_TALLY_CNT_COUNT v 0) = s.rd (R.PASS_TALLY_CNT_COUNT v 0) := by
  rw [gapSkipped, modPass_rd, sat_rd_ne _ _ _ _ (by simp), State.evt, rd_wr_ne _ _ _ _ (by simp)]

end

/-- With one TIME_DREQ held, the gap before it is passed over and it is served. -/
theorem exec_tallyGapSkip_dreq {v : Fin 4} {n : Nat} (hh : (s.pas v).upHeld = [(n, .dreq)]) :
    exec (.tallyGapSkip v false) s = done (gapServed v n s) := by
  have hdrain : upDrain v 16 (gapSkipped v n s) = gapServed v n s := by
    rw [upDrain_next 15 (by rw [gapSkipped_pas]; exact hh) (by rw [gapSkipped_pas]), ← gapServed]
    exact upDrain_noneHeld 15 (by rw [gapServed_pas])
  have hnext : nextHeld (s.pas v).upRx ((s.pas v).upHeld.map fun h => h.1) = some n := by rw [hh]; rfl
  rw [← hdrain]
  show execTallyGapSkip v false s = _
  simp only [execTallyGapSkip, hnext, Bool.false_eq_true, if_false]
  rfl

theorem tallyGapSkip_serves_dreq {v : Fin 4} {n : Nat} (hc : Calm s) (hh : (s.pas v).upHeld = [(n, .dreq)]) :
    ∃ u, exec (.tallyGapSkip v false) s = .next u ∧
      u.pas v = { s.pas v with upHeld := [], upRx := (n + 1) % 256, upCache := (n :: (s.pas v).upCache).take 16 } ∧
      u.bit (R.PASS_EVT_SKIPPED v) = true ∧ Counted (R.PASS_TALLY_CNT_COUNT v 6) (dist 8 n (s.pas v).upRx) s u ∧
      .tally v 0x32 n ∈ u.out ∧ Counted (R.PASS_TALLY_CNT_COUNT v 0) 1 s u ∧
      Only [R.PASS_EVT_SKIPPED v, R.PASS_TALLY_CNT_COUNT v 6, R.PASS_TALLY_CNT_COUNT v 0] (State.offPas v) s u := by
  obtain ⟨hn, hp, ho⟩ := pasPart_next hc (exec_tallyGapSkip_dreq hh) gapServed_only gapServed_pas rfl (by simp [calmRegs])
  refine ⟨_, hn, hp, ?flag, counted_vectors.2 ?skipped, hostSend_mem_out v 0x32 n, counted_vectors.2 ?sent, ho⟩
  case flag =>
    rw [vectors_bit, State.bit, gapServed_rd, tallyCnt_rd_ne _ _ (by simp), gapSkipped_skipped]
    rfl
  case skipped => rw [Counted, gapServed_rd, tallyCnt_rd_ne _ _ (by simp)]; exact gapSkipped_counted
  case sent => rw [Counted, gapServed_rd, tallyCnt_rd_self, gapSkipped_sent]

/-- Settles O32: one lemma for each way in which a request ends, is repeated, or is passed over. -/
theorem tallyAnswers : Obligations.TallyAnswers := by
  refine fun v seq s hc => ⟨fun r hr hw => ⟨fun c hb hg => answer_next hc hw (exec_cmdRsp_accepted hr hb hg),
      fun hg => ?ack, tallyGiveUp_wake_closes hr hc hw⟩, fun r hr => tallyResend_sends hr hc, ack_releases_rungAnswer hc,
    valeTallyResend_repeats v hc, fun n b hh _ hb _ => ?skip⟩
  case ack =>
    obtain ⟨u, hn, hp, hcnt, -, ho⟩ := answer_next hc hw (exec_ack_wake hr hg)
    exact ⟨u, hn, hp, hcnt, ho⟩
  case skip => exact hb ▸ tallyGapSkip_serves_dreq hc hh

end Sys2Proof.Machine
end

section
/-! PROOFS. A host lane locks, loses its lock, goes idle and sends a report (R246, R249 to R251, R258, R259). -/

namespace Sys2Proof.Machine

variable {l : List Fld} {n : Nat} {s u w : State} {c : Instr}

/-! ## Frames over one host lane -/

theorem Only.hlnWr {f : Fld} {v : Nat} (h : Only l (State.offHln n) s u) (m : f ∈ l) :
    Only l (State.offHln n) s (u.wr f v) := ⟨h.regs.wr m, h.rest⟩

theorem Only.modHln {g : HLane → HLane} (h : Only l (State.offHln n) s u) : Only l (State.offHln n) s (u.modHln n g) :=
  ⟨h.regs, (offHln_modHln u n g).trans h.rest⟩

/-- A command of one host lane answers its effect, and keeps everything outside the lane. -/
theorem hlnPart_next (hc : Calm s) (hx : exec c s = done w) (h : Only l (State.offHln n) s w)
    (hl : ∀ f ∈ l, f.id ∉ calmRegs) : exec c s = .next (vectors w) ∧ Only l (State.offHln n) s (vectors w) :=
  ⟨only_next hc hx h (offCalm_offHln n) hl, h.vectors fun x => offHln_vectors x n⟩

/-! ## Nothing is being sent -/

theorem laneEnd_free (h : (s.hln n).busy = none) : laneEnd n s = s := by simp only [laneEnd, h]

theorem laneCut_free (h : (s.hln n).busy = none) : laneCut n s = s := by simp only [laneCut, h]

/-! ## Lock (R249, R250, R258) -/

/-- The lane has locked: on a PAM-4 lane the alignment markers with it, and the sequence numbers restart. -/
def laneLocked (n : Nat) (s : State) : State :=
  (((s.wrb (R.HLN_STAT_LOCK n) true).wrb (R.HLN_EVT_LOCK_GAIN n) true).wrb (R.HLN_STAT_AM_LOCK n)
    (!s.bit (R.HLN_CTL_RATE n))).modHln n fun x => { x with txSeq := 0, seqSet := false }

theorem laneLocked_only :
    Only [R.HLN_STAT_LOCK n, R.HLN_EVT_LOCK_GAIN n, R.HLN_STAT_AM_LOCK n] (State.offHln n) s (laneLocked n s) :=
  (((Only.refl.hlnWr (by simp)).hlnWr (by simp)).hlnWr (by simp)).modHln

/-- An unlocked lane whose receiver is on locks. -/
theorem exec_hostLaneLock_unlocked {n : Fin 6} (hl : s.bit (R.HLN_STAT_LOCK n) = false)
    (hr : s.rd R.PWR_STAT_HOST_RUNG < 2) : exec (.hostLaneLock n) s = done (laneLocked n s) :=
  congrArg done (if_neg (by simp [hl, hr]))

theorem hostLaneLock_locks {n : Fin 6} (hc : Calm s) (hl : s.bit (R.HLN_STAT_LOCK n) = false)
    (hr : s.rd R.PWR_STAT_HOST_RUNG < 2) : ∃ u, exec (.hostLaneLock n) s = .next u ∧
      u.bit (R.HLN_STAT_LOCK n) = true ∧ u.bit (R.HLN_EVT_LOCK_GAIN n) = true ∧
      u.bit (R.HLN_STAT_AM_LOCK n) = !s.bit (R.HLN_CTL_RATE n) ∧
      u.hln n = { s.hln n with txSeq := 0, seqSet := false } ∧
      Only [R.HLN_STAT_LOCK n, R.HLN_EVT_LOCK_GAIN n, R.HLN_STAT_AM_LOCK n] (State.offHln n) s u := by
  obtain ⟨hn, ho⟩ := hlnPart_next hc (exec_hostLaneLock_unlocked hl hr) laneLocked_only (by simp [calmRegs])
  refine ⟨_, hn, ?lock, ?gain, ?am, ?lane, ho⟩
  case lock =>
    exact (vectors_bit _ _).trans ((wrb_bit_ne _ (by simp)).trans ((wrb_bit_ne _ (by simp)).trans (wrb_bit_self rfl true)))
  case gain => exact (vectors_bit _ _).trans ((wrb_bit_ne _ (by simp)).trans (wrb_bit_self rfl true))
  case am => exact (vectors_bit _ _).trans (wrb_bit_self rfl _)
  case lane => exact (vectors_hln _ _).trans (modHln_hln_self _ _ _)

/-- The lane has lost its lock while it sent nothing. -/
def laneLost (n : Nat) (s : State) : State :=
  ((s.wrb (R.HLN_EVT_LOCK_LOSS n) true).wrb (R.HLN_STAT_LOCK n) false).wrb (R.HLN_STAT_AM_LOCK n) false

theorem laneLost_only :
    RegsOnly [R.HLN_STAT_LOCK n, R.HLN_STAT_AM_LOCK n, R.HLN_EVT_LOCK_LOSS n] s (laneLost n s) :=
  RegsOnly.wr (RegsOnly.wr (RegsOnly.wr .refl (by simp)) (by simp)) (by simp)

theorem laneUnlock_free (hl : s.bit (R.HLN_STAT_LOCK n) = true) (hb : (s.hln n).busy = none) :
    laneUnlock n s = laneLost n s := by
  simp only [laneUnlock, laneCut_free hb, hl, if_true]
  rfl

theorem exec_hostLaneLockLoss_locked {n : Fin 6} (hl : s.bit (R.HLN_STAT_LOCK n) = true) (hb : (s.hln n).busy = none) :
    exec (.hostLaneLockLoss n) s = done (laneLost n s) := by
  rw [← laneUnlock_free hl hb]
  exact congrArg done (if_pos hl)

theorem hostLaneLockLoss_unlocks {n : Fin 6} (hc : Calm s) (hl : s.bit (R.HLN_STAT_LOCK n) = true)
    (hb : (s.hln n).busy = none) : ∃ u, exec (.hostLaneLockLoss n) s = .next u ∧
      u.bit (R.HLN_STAT_LOCK n) = false ∧ u.bit (R.HLN_STAT_AM_LOCK n) = false ∧ u.bit (R.HLN_EVT_LOCK_LOSS n) = true ∧
      RegsOnly [R.HLN_STAT_LOCK n, R.HLN_STAT_AM_LOCK n, R.HLN_EVT_LOCK_LOSS n] s u := by
  obtain ⟨hn, ho⟩ := regs_next hc (exec_hostLaneLockLoss_locked hl hb) laneLost_only (by simp [calmRegs])
  refine ⟨_, hn, ?lock, ?am, ?loss, ho⟩
  case lock => exact (vectors_bit _ _).trans ((wrb_bit_ne _ (by simp)).trans (wrb_bit_self rfl false))
  case am => exact (vectors_bit _ _).trans (wrb_bit_self rfl false)
  case loss =>
    exact (vectors_bit _ _).trans ((wrb_bit_ne _ (by simp)).trans ((wrb_bit_ne _ (by simp)).trans (wrb_bit_self rfl true)))

/-! ## Idle (R251) -/

/-- The transmitter has gone to electrical idle. -/
def laneIdled (n : Nat) (s : State) : State := (s.wrb (R.HLN_STAT_TX_IDLE n) true).send (.hostIdle n)

theorem laneIdled_only : RegsOnly [R.HLN_STAT_TX_IDLE n] s (laneIdled n s) :=
  have h := RegsOnly.wr (n := 1) (.refl (s := s)) (List.mem_singleton_self (R.HLN_STAT_TX_IDLE n))
  ⟨h.regs, h.rest⟩

theorem exec_hostLaneIdleEntry_free {n : Fin 6} (he : s.bit (R.HLN_CTL_ENABLE n) = true)
    (hi : s.bit (R.HLN_STAT_TX_IDLE n) = false) (hb : (s.hln n).busy = none)
    (ha : 1 ≤ s.rd R.PWR_STAT_HOST_RUNG ∨ s.rd (R.HLN_CTL_IDLE_US n) ≠ 0) :
    exec (.hostLaneIdleEntry n) s = done (laneIdled n s) := by
  show execHostLaneIdleEntry n s = _
  simp only [execHostLaneIdleEntry, laneEnd_free hb]
  exact congrArg done (if_pos (by simpa [he, hi] using ha))

theorem hostLaneIdleEntry_idles {n : Fin 6} (hc : Calm s) (he : s.bit (R.HLN_CTL_ENABLE n) = true)
    (hi : s.bit (R.HLN_STAT_TX_IDLE n) = false) (hb : (s.hln n).busy = none)
    (ha : 1 ≤ s.rd R.PWR_STAT_HOST_RUNG ∨ s.rd (R.HLN_CTL_IDLE_US n) ≠ 0) :
    ∃ u, exec (.hostLaneIdleEntry n) s = .next u ∧ u.bit (R.HLN_STAT_TX_IDLE n) = true ∧ .hostIdle n ∈ u.out ∧
      RegsOnly [R.HLN_STAT_TX_IDLE n] s u := by
  obtain ⟨hn, ho⟩ := regs_next hc (exec_hostLaneIdleEntry_free he hi hb ha) laneIdled_only (by simp [calmRegs])
  exact ⟨_, hn, (vectors_bit _ _).trans (wrb_bit_self rfl true), mem_vectors_out List.mem_cons_self, ho⟩

/-! ## Reports (R258, R259) -/

/-- The lane sends a report: its waybill with the stamp, or with zeros where the frame was not sent. -/
def reportSent (n : Nat) (r : Report) (s : State) : State :=
  ((s.send (.hostRecord n (reportWaybill n r s) (some (r.stamp.getD ⟨0, 0, 0⟩)) [])).add (R.HLN_TX_RECORDS_COUNT n) 1).modHln n
    fun x => { x with busy := some (.report r), txSeq := (x.txSeq + 1) % 65536 }

theorem Calm.reportSent {r : Report} (h : Calm s) : Calm (reportSent n r s) :=
  (h.send.add (by simp [calmRegs])).modHln

/-- A transmitter that is not idle starts a record without a burst. -/
theorem laneSend_awake {r : HRec} {x : BitVec 64} {ext : Option Stamp} {o : List Byte}
    (h : s.bit (R.HLN_STAT_TX_IDLE n) = false) : laneSend n r x ext o s =
      ((s.send (.hostRecord n x ext o)).add (R.HLN_TX_RECORDS_COUNT n) 1).modHln n
        fun y => { y with busy := some r, txSeq := (y.txSeq + 1) % 65536 } := by
  simp only [laneSend, h, Bool.false_eq_true, if_false]

/-- A report at the head of the list that names the lane goes before any queue (R282). -/
theorem laneSchedule_ownReport {r : Report} {l : List Report} (hr : s.reports = r :: l) (hn : r.lane = n)
    (hi : s.bit (R.HLN_STAT_TX_IDLE n) = false) : laneSchedule n s = reportSent n r { s with reports := l } := by
  have hfind : (s.reports.find? fun x => reportHere n s x) = some r := by
    rw [hr, List.find?_cons_of_pos]
    simp [reportHere, hn]
  have herase : s.reports.erase r = l := by rw [hr, List.erase_cons_head]
  have hawake : ({ s with reports := l } : State).bit (R.HLN_STAT_TX_IDLE n) = false := hi
  simp only [laneSchedule, hfind, herase, laneSend_awake hawake, reportSent]

theorem exec_hostLaneSchedule_ownReport {n : Fin 6} {r : Report} {l : List Report} (hu : laneUp n s = true)
    (hp : s.rd R.PWR_STAT_HOST_RUNG < 2) (hb : (s.hln n).busy = none) (hr : s.reports = r :: l) (hn : r.lane = n.val)
    (hi : s.bit (R.HLN_STAT_TX_IDLE n) = false) :
    exec (.hostLaneSchedule n []) s = done (reportSent n r { s with reports := l }) := by
  rw [← laneSchedule_ownReport hr hn hi]
  show execHostLaneSchedule n [] s = _
  simp only [execHostLaneSchedule, psFindings, List.foldl_nil, laneEnd_free hb]
  exact congrArg done (if_pos ⟨hu, hp⟩)

/-- Settles O36: one lemma for each of the four commands. -/
theorem hostLanes : Obligations.HostLanes :=
  fun _ _ hc => ⟨fun hl hr => hostLaneLock_locks hc hl hr, fun hl hb => hostLaneLockLoss_unlocks hc hl hb,
    fun he hi hb ha => hostLaneIdleEntry_idles hc he hi hb ha,
    fun _ _ hu hp hb hr hn hi =>
      next_of_done (exec_hostLaneSchedule_ownReport hu hp hb hr hn hi) hc.with_reports.reportSent⟩

end Sys2Proof.Machine
end

section
/-! PROOFS. A record from the host that passes the checks of its waybill enters its queue (R255, R257, R258, R272). -/

namespace Sys2Proof.Machine

variable {n q w seq : Nat} {l : List Byte} {s : State}

/-! ## The sequence number (R258) -/

/-- The lane expects the SEQ after this one. -/
def seqTaken (n seq : Nat) (s : State) : State :=
  (s.wr (R.HLN_STAT_EXP_SEQ n) (seq + 1)).modHln n fun x => { x with seqSet := true }

/-- A field is at no distance from itself. -/
theorem dist_rd_self (f : Fld) : dist f.width (s.rd f) (s.rd f) = 0 := by simp [dist]

/-- The expected SEQ, or the first one of a lane, is taken without a finding. -/
theorem seqCheck_expected (h : (s.hln n).seqSet = false ∨ seq = s.rd (R.HLN_STAT_EXP_SEQ n)) :
    seqCheck n seq s = seqTaken n seq s := by
  have hok : (!(s.hln n).seqSet) = true ∨ dist 16 seq (s.rd (R.HLN_STAT_EXP_SEQ n)) = 0 :=
    h.imp (fun hset => by simp [hset]) fun hseq => by rw [hseq]; exact dist_rd_self (R.HLN_STAT_EXP_SEQ n)
  simp only [seqCheck, if_pos hok, seqTaken]

theorem seqTaken_rd {f : Fld} (h : f.id ≠ (R.HLN_STAT_EXP_SEQ n).id) : (seqTaken n seq s).rd f = s.rd f :=
  rd_wr_ne s _ _ _ fun e => absurd e.symm h

theorem seqTaken_que : (seqTaken n seq s).que q = s.que q := rfl

theorem seqTaken_physical : physical q (seqTaken n seq s) = physical q s := rfl

theorem Calm.seqTaken (h : Calm s) : Calm (seqTaken n seq s) := (h.wr (by simp [calmRegs])).modHln

/-! ## A drop's queue -/

/-- The queues below 4,096 are those of the drops. -/
theorem queuePort_drop (h : q < 4096) : 8 ≤ queuePort q := by
  rw [queuePort, if_pos h]
  omega

theorem queueRange_drop (h : q < 4096) : queueRange q = 0 := if_pos h

theorem frameQueued_drop {p : Nat} (h : 8 ≤ p) : frameQueued p s = s := if_neg (by omega)

theorem queueEnabled_seqTaken (h : q < 4096) : queueEnabled q (seqTaken n seq s) = queueEnabled q s := by
  have hp := Nat.not_lt.2 (queuePort_drop h)
  simp [queueEnabled, hp, State.bit, seqTaken_rd]

theorem egressFenced_seqTaken {p : Nat} (h : 8 ≤ p) : egressFenced p (seqTaken n seq s) = egressFenced p s := by
  rw [egressFenced, egressFenced, if_neg (by omega), if_neg (by omega)]
  rfl

theorem sizeBad_drop (h : q < 4096) (hl : 64 ≤ l.length ∧ l.length ≤ 2000) : sizeBad q l.length = false := by
  simp [sizeBad, h, hl]

/-! ## The checks of R257 -/

/-- A frame from the host has entered queue `q`, and its record is counted. -/
def recordEntered (n q w : Nat) (l : List Byte) (s : State) : State :=
  (queued q (queuedTx n w l) (seqTaken n (tbits w 40 25) s)).add (R.HLN_RX_RECORDS_COUNT n) 1

theorem Calm.queued {f : MFrame} (h : Calm s) : Calm (queued q f s) :=
  (queued_only q f).calm h ⟨fun _ => rfl, fun _ _ _ => rfl, fun _ => rfl, fun _ => rfl⟩ (by simp [queueFields, calmRegs])

theorem Calm.recordEntered (h : Calm s) : Calm (recordEntered n q w l s) :=
  h.seqTaken.queued.add (by simp [calmRegs])

/-- The frame of a record that fits finds its cells. -/
theorem RecordFits.enqueue (h : RecordFits n q w l s) :
    Machine.enqueue q (queuedTx n w l) (seqTaken n (tbits w 40 25) s) =
      (true, Machine.queued q (queuedTx n w l) (seqTaken n (tbits w 40 25) s)) := by
  refine enqueue_fits ?limit ?cells
  case limit =>
    rw [seqTaken_que, seqTaken_rd (by simp)]
    exact h.limit
  case cells =>
    rw [queueRange_drop h.range, seqTaken_rd (by simp), seqTaken_rd (by simp)]
    exact h.cells

/-- A record that fits passes every check. -/
theorem RecordFits.effRecord (h : RecordFits n q w l s) : Machine.effRecord n w l false s = recordEntered n q w l s := by
  have hport := queuePort_drop h.drop
  have hen : ¬ (4160 ≤ tbits w 63 51 ∨ (!queueEnabled (tbits w 63 51) (seqTaken n (tbits w 40 25) s)) = true) := by
    rw [queueEnabled_seqTaken h.drop, h.enabled]
    simpa using Nat.lt_of_lt_of_le h.drop (by decide)
  have hent := h.enqueue
  rw [queuedTx] at hent
  simp only [Machine.effRecord, h.up, h.chk, seqCheck_expected h.seq, h.flags, if_neg hen, egressFenced_seqTaken hport,
    h.unfenced, sizeBad_drop h.drop h.size, seqTaken_physical, h.queue, hent, frameQueued_drop hport, Bool.not_true,
    Bool.false_eq_true, ne_eq, not_true_eq_false, if_false, if_true]
  rfl

/-- What enters takes its cells from the drops' range as they stood before the record. -/
theorem recordEntered_eq (h : q < 4096) : recordEntered n q w l s = (qShow q
    ((((seqTaken n (tbits w 40 25) s).wr (R.MILL_PART_USED_USED 0)
      (s.rd (R.MILL_PART_USED_USED 0) + (queuedTx n w l).cells)).modQue q
        fun x => { x with frames := x.frames ++ [queuedTx n w l] }).add (R.MILLQ_ENQ_FRAMES_COUNT q) 1)).add
          (R.HLN_RX_RECORDS_COUNT n) 1 := by
  simp only [recordEntered, queued, queueRange_drop h, seqTaken_rd (f := R.MILL_PART_USED_USED 0) (by simp)]

/-- Settles O37: no check of `effRecord` finds anything, so that the frame enters as in `enqueue_fits`. -/
theorem hostRecordsEnter : Obligations.HostRecordsEnter := by
  intro n w l q s hc h
  have hx : exec (.hostRecordReceive n w l false) s = done (recordEntered n q w.toNat l s) := congrArg done h.effRecord
  have hn := next_of_done hx hc.recordEntered
  rw [recordEntered_eq h.range] at hn
  exact hn

end Sys2Proof.Machine
end

section
/-! PROOFS. Steps, their interrupt lines, and the field-side fault pin (R311, R313, R314, R394, R396). -/

namespace Sys2Proof.Machine

/-! ## Every command completes -/

/-- Every command answers the state that its effect leaves at the end of the step: none faults or refuses. -/
theorem exec_done (c : Instr) (s : State) : ∃ u, exec c s = done u := by
  cases c <;> exact ⟨_, rfl⟩

theorem step_cons (c : Instr) (q : List Instr) (s : State) :
    step { s with pending := c :: q } = exec c { s with pending := q } := rfl

theorem step_nil {s : State} (h : s.pending = []) : step s = .next (settle (tick s)) := by
  unfold step
  rw [h]
  rfl

/-- Whatever waits in the queue, a step ends as every step does. -/
theorem step_settle (s : State) : ∃ u, step s = .next (settle u) := by
  unfold step
  split
  case h_1 => exact ⟨tick s, rfl⟩
  case h_2 c q _ => exact exec_done c { s with pending := q }

/-- Settles O3: every step ends by looking at the vectors, which makes the lines true whatever they were before. -/
theorem interruptsTrue : Obligations.InterruptsTrue := fun s _ =>
  have ⟨u, h⟩ := step_settle s
  ⟨settle u, h, settle_irqTrue u⟩

/-! ## The tick -/

theorem tick_awake {s : State} (h : s.rd R.PWR_STAT_HOST_RUNG < 2) (ha : (s.copies R.TIME_ADJ_FREQ_FREQ).1 =
    (s.copies R.TIME_ADJ_FREQ_FREQ).2.1 ∧ (s.copies R.TIME_ADJ_FREQ_FREQ).1 = (s.copies R.TIME_ADJ_FREQ_FREQ).2.2) :
    tick s = refCycle { s with age := s.age + 51200 } := by
  unfold tick
  rw [if_neg (Nat.not_le.2 h), voteRepair_agree ha]

theorem tick_asleep {s : State} (h : 2 ≤ s.rd R.PWR_STAT_HOST_RUNG) :
    tick s = aonTick { s with age := s.age + 244140625 } := if_pos h

/-- Settles O1: a step by the front of the queue, a tick by the rung of the host die. -/
theorem stepRunsFront : Obligations.StepRunsFront := fun s =>
  ⟨fun c q => step_cons c q s, fun h => ⟨step_nil h, fun hr h1 h2 => tick_awake hr ⟨h1, h2⟩, tick_asleep⟩⟩

/-! ## FLT_FIELD_N (R385, R394) -/

theorem srcField_iff (src : Nat) :
    srcField src = true ↔ (32 ≤ src ∧ src < 48) ∨ (64 ≤ src ∧ src < 72) ∨ (128 ≤ src ∧ src < 192) := by
  simp only [srcField, Bool.and_eq_true, Bool.or_eq_true, decide_eq_true_eq]
  omega

/-- The class of a slot has two bits: from 2 on it is U or F. -/
theorem heldUF_iff (src : Nat) (s : State) : s.heldUF src = true ↔ s.slotHeld src = true ∧
    (s.rd (R.WATCH_SLOT_HDR_CLASS src) = 2 ∨ s.rd (R.WATCH_SLOT_HDR_CLASS src) = 3) := by
  have hw : s.rd (R.WATCH_SLOT_HDR_CLASS src) < 4 := rd_lt s (R.WATCH_SLOT_HDR_CLASS src)
  simp only [State.heldUF, Bool.and_eq_true, decide_eq_true_eq]
  refine and_congr_right fun _ => ?_
  omega

/-- Settles O57: the pin is low where some source below 192 lies on the field side and holds a record of class U or F. -/
theorem fieldFaultPin : Obligations.FieldFaultPin := by
  intro s
  simp only [State.fltField, List.any_eq_true, mem_upto, Bool.and_eq_true, srcField_iff, heldUF_iff]
  refine exists_congr fun src => ⟨And.right, fun h => ⟨?_, h⟩⟩
  have hf := h.1
  omega

end Sys2Proof.Machine
end

section
/-! PROOFS. Page-outs and fetches of the Miller (R272, R274 to R276). -/

namespace Sys2Proof.Machine

variable {s : State} {q : Nat}

/-! ## Cells, slots and shows -/

/-- An edit of a queue looks at that queue alone. -/
theorem modQue_congr {f g : MQueue → MQueue} (h : f (s.que q) = g (s.que q)) : s.modQue q f = s.modQue q g := by
  simp [State.modQue, h]

theorem Calm.qShow (h : Calm s) : Calm (qShow q s) :=
  (((((h.wr (by simp [calmRegs])).wrb (by simp [calmRegs])).wr (by simp [calmRegs])).wr (by simp [calmRegs])).wr
    (by simp [calmRegs])).wr (by simp [calmRegs])

theorem Calm.freeCells {r n : Nat} (h : Calm s) : Calm (freeCells r n s) :=
  ((h.wr (by simp [calmRegs])).wr (by decide)).with_mill

theorem Calm.freeSlots {n : Nat} (h : Calm s) : Calm (freeSlots n s) := h.wr (by decide)

/-- A queue that is not isochronous is only shown: refill, panic and starvation are of isochronous queues (R277). -/
theorem isoCheck_plain (h : queueIso q = false) : isoCheck q s = qShow q s := by
  simp [isoCheck, h]

/-! ## Page-outs (R274) -/

/-- A bale of queue `q` is in write. -/
def pagedOut (q : Nat) (s : State) : State :=
  let t := (s.modQue q fun x => { x with
    writing := x.writing + 1, front := if x.paged + x.writing = 0 then keepCells q s else x.front }).wr
      R.MILL_PAGE_STAT_BALES_USED (s.rd R.MILL_PAGE_STAT_BALES_USED + 1)
  { t with mill := { t.mill with pageAt := q + 1, written := true } }

theorem Calm.pagedOut (h : Calm s) : Calm (pagedOut q s) := (h.modQue.wr (by decide)).with_mill

/-- With nothing paged or in write, the next bale begins KEEP cells behind the head. -/
theorem baleStart_first (h : (s.que q).paged + (s.que q).writing = 0) : baleStart q s = keepCells q s := if_pos h

theorem effPageOut_starts (hg : granServes s = true) (hn : pageNext s = some q)
    (hf : s.rd R.MILL_PAGE_STAT_BALES_USED < baleSlots s) : effPageOut s = pagedOut q s := by
  have hm : (s.modQue q fun x => { x with
        writing := x.writing + 1, front := if x.paged + x.writing = 0 then baleStart q s else x.front }) =
      s.modQue q fun x => { x with
        writing := x.writing + 1, front := if x.paged + x.writing = 0 then keepCells q s else x.front } := by
    refine modQue_congr ?_
    by_cases h : (s.que q).paged + (s.que q).writing = 0
    · simp only [baleStart_first h]
    · simp only [if_neg h]
  simp only [effPageOut, hg, hn, Bool.not_true, Bool.false_eq_true, if_false, if_neg (Nat.not_le.2 hf), hm]
  rfl

theorem effPageOut_full (hg : granServes s = true) (hn : (pageNext s).isSome = true)
    (hf : s.rd R.MILL_PAGE_STAT_BALES_USED ≥ baleSlots s) : effPageOut s = s.evt R.MILL_EVT_GRAN_FULL := by
  obtain ⟨q, hq⟩ := Option.isSome_iff_exists.1 hn
  simp [effPageOut, hg, hq, if_pos hf]

/-- The write of a bale ends: its 32 cells are freed, and it is counted. -/
theorem effPageOutDone_plain (hi : queueIso q = false) (hw : (s.que q).writing ≠ 0) : effPageOutDone q s = qShow q
    ((freeCells (queueRange q) 32 (s.modQue q fun x => { x with writing := x.writing - 1, paged := x.paged + 1 })).add
      (R.MILL_CNT_COUNT 0) 1) := by
  rw [effPageOutDone, if_neg hw, isoCheck_plain hi]

/-! ## Fetches (R275, R276) -/

/-- A fetch that is due takes the 32 cells of its bale from the reserve. -/
theorem fetchTry_reserve (hg : granServes s = true) (hd : fetchDue q s = true)
    (hr : s.rd (R.MILL_PART_USED_USED (queueRange q)) + 32 ≤ s.rd (R.MILL_PART_RES_RESERVE (queueRange q))) :
    fetchTry q s = (s.wr (R.MILL_PART_USED_USED (queueRange q)) (s.rd (R.MILL_PART_USED_USED (queueRange q)) + 32)).modQue q
      fun x => { x with fetching := x.fetching + 1 } := by
  simp only [fetchTry, hg, hd, Bool.and_self, if_true, takeCells_reserve hr]

/-- The bale of a flushed queue only frees its slot. -/
theorem effFetchDone_orphan {bad : List (Fin 128)} (h : (s.que q).orphans ≠ 0) : effFetchDone q bad s =
    freeSlots 1 (s.modQue q fun x => { x with orphans := x.orphans - 1 }) := if_pos (Nat.pos_of_ne_zero h)

/-- A sound bale joins the head window, frees its slot and is counted. -/
theorem effFetchDone_sound (hi : queueIso q = false) (ho : (s.que q).orphans = 0) (hf : (s.que q).fetching ≠ 0) :
    effFetchDone q [] s = qShow q ((freeSlots 1 (s.modQue q fun x => { x with
      fetching := x.fetching - 1, paged := x.paged - 1,
      front := if x.paged = 1 ∧ x.writing = 0 then 0 else x.front + 32 })).add (R.MILL_CNT_COUNT 1) 1) := by
  have hx : ¬ 0 < (s.que q).orphans := by omega
  simp only [effFetchDone, if_neg hx, if_neg hf, List.filterMap_nil, List.foldl_nil, isoCheck_plain hi, hi,
    Bool.false_eq_true, if_false]

/-- Settles O39: one equation for each end of a page-out and of a fetch, none of which touches what calm rests on. -/
theorem millerPages : Obligations.MillerPages := by
  refine ⟨fun q s hc hg hn hf => ?start, fun s hc hg hn hf => ?full, fun q s hc hi =>
    ⟨fun hw => ?done, fun hg hd hr => ?request, fun bad ho => ?orphan, fun ho hf => ?arrives⟩⟩
  case start => exact next_of_done (congrArg done (effPageOut_starts hg hn hf)) hc.pagedOut
  case full => exact next_of_done (congrArg done (effPageOut_full hg hn hf)) (hc.evt (by decide))
  case done =>
    exact next_of_done (congrArg done (effPageOutDone_plain hi hw)) (hc.modQue.freeCells.add (by decide)).qShow
  case request =>
    exact next_of_done (congrArg done (fetchTry_reserve hg hd hr)) (hc.wr (by simp [calmRegs])).modQue
  case orphan => exact next_of_done (congrArg done (effFetchDone_orphan ho)) hc.modQue.freeSlots
  case arrives =>
    exact next_of_done (congrArg done (effFetchDone_sound hi ho hf)) (hc.modQue.freeSlots.add (by decide)).qShow

end Sys2Proof.Machine
end

section
/-! PROOFS. A drop's isochronous frame and a trunk's priority frame are released; the timers of the Miller (R275, R277, R278,
R280, R281, R436). -/

namespace Sys2Proof.Machine

variable {s : State} {p el q : Nat} {f : MFrame}

/-! ## The only frame of a queue leaves it (R272, R277) -/

@[simp] theorem freeCells_que (r n k : Nat) : (freeCells r n s).que k = s.que k := rfl

/-- Two edits of one queue are one. -/
theorem modQue_modQue (g h : MQueue → MQueue) : (s.modQue q g).modQue q h = s.modQue q fun x => h (g x) := by
  simp [State.modQue, State.que]

/-- With nothing paged no bale is fetched, panic does not start, and a starvation is over (R275, R277). -/
theorem isoCheck_unpaged {g : MQueue → MQueue} (hp : (g (s.que q)).paged = 0) (hn : (g (s.que q)).panic = false) :
    isoCheck q (s.modQue q g) = qShow q (s.modQue q fun x => { g x with starved := (g x).starved && !queueIso q }) := by
  have hfetch : fetchTry q (s.modQue q g) = s.modQue q g := by simp [fetchTry, fetchDue, hp]
  have hpanic : panicCheck q (s.modQue q g) = s.modQue q g := by simp [panicCheck, hp, hn]
  have hstarve : starveCheck q (s.modQue q g) = s.modQue q fun x => { g x with starved := false } := by
    simp [starveCheck, hp, modQue_modQue]
  cases hi : queueIso q
  case false => simp [isoCheck, hi]
  case true => simp [isoCheck, hi, hfetch, hpanic, hstarve]

/-- The only frame has left the queue, and its cells are free. -/
def headLeft (q : Nat) (f : MFrame) (s : State) : State :=
  qShow q ((freeSlots 0 (freeCells (queueRange q) f.cells s)).modQue q fun x =>
    { x with frames := [], front := x.front - f.cells, deficit := 0, starved := x.starved && !queueIso q })

theorem popHead_only (hf : (s.que q).frames = [f]) (hp : (s.que q).paged = 0) (hw : (s.que q).writing = 0)
    (hn : (s.que q).panic = false) : popHead q s = headLeft q f s := by
  have hpop : popHead q s = isoCheck q ((freeSlots 0 (freeCells (queueRange q) f.cells s)).modQue q fun x =>
      { x with frames := [], front := x.front - f.cells, deficit := 0 }) := by
    simp only [popHead, hf, hw, abandon, List.isEmpty_nil, if_true]
    exact congrArg (isoCheck q) (modQue_congr (by simp only [freeSlots, wr_que, freeCells_que, hw]))
  rw [hpop, isoCheck_unpaged hp hn]
  rfl

/-- The fields that a release of queue `q` writes. -/
def releaseFields (q : Nat) : List Fld :=
  [R.MILLQ_DEQ_FRAMES_COUNT q, R.MILLQ_DEQ_OCTETS_COUNT q, R.MILL_PART_USED_USED (queueRange q), R.MILL_STAT_FREE,
   R.MILL_PAGE_STAT_BALES_USED] ++ queueFields q

theorem kept_freeCells (r n : Nat) : Kept [R.MILL_PART_USED_USED r, R.MILL_STAT_FREE] s (freeCells r n s) := by
  have h : Kept [R.MILL_PART_USED_USED r, R.MILL_STAT_FREE] s
      ((s.wr (R.MILL_PART_USED_USED r) (s.rd (R.MILL_PART_USED_USED r) - n)).wr R.MILL_STAT_FREE
        (s.rd R.MILL_STAT_FREE + (n - min n (s.rd (R.MILL_PART_USED_USED r) - tget 0 s.mill.lent r)))) :=
    (Kept.refl.wr (by simp)).wr (by simp)
  exact h.of_regs rfl

theorem headLeft_kept : Kept (releaseFields q) s (headLeft q f s) := by
  have hcells : Kept (releaseFields q) s (freeCells (queueRange q) f.cells s) :=
    (kept_freeCells _ _).mono (by simp [releaseFields])
  have hslots : Kept (releaseFields q) s (freeSlots 0 (freeCells (queueRange q) f.cells s)) :=
    hcells.wr (by simp [releaseFields])
  exact Kept.trans ((kept_modQue q _).2 hslots) ((kept_qShow q _).mono fun _ => List.mem_append_right _)

/-! ## The frame is handed to the pass (R278, R380) -/

/-- A frame of queue `q` as it crosses without protection. -/
def crossing (q : Nat) (f : MFrame) : TxFrame :=
  { queue := f.queue, octets := f.octets, tsreq := f.tsreq, tag := f.tag, lane := f.lane, slot := f.slot,
    iso := decide (queueClass q = 1), collisions := 0 }

/-- The port has been handed an unprotected frame. -/
def handed (p q : Nat) (f : MFrame) (s : State) : State :=
  (s.modCred p fun c => { c with released := (c.released + units f.octets.length) % 2 ^ 19 }).modPass (portVale p)
    fun v => { v with down := v.down ++ [crossing q f] }

theorem Calm.handed (h : Calm s) : Calm (handed p q f s) := h.modCred.modPass rfl

/-- A frame of no CA in use crosses as it is. -/
theorem handOver_clear (hc : caUsed (caIndex p f.slot) s = false) : handOver p none q f s = handed p q f s := by
  simp [handOver, egressProtect, hc, handed, crossing]

/-- The head frame of queue `q` is counted as released. -/
def dequeued (q : Nat) (f : MFrame) (s : State) : State :=
  (s.add (R.MILLQ_DEQ_FRAMES_COUNT q) 1).add (R.MILLQ_DEQ_OCTETS_COUNT q) f.octets.length

/-- The only frame of queue `q` has left it, and the interval to the next release begins where there is one. -/
def sentOff (q : Nat) (f : MFrame) (s : State) : State :=
  (headLeft q f (dequeued q f s)).modQue q fun x => { x with pacing := decide (s.rd (R.MILLQ_CFG_PACE_US q) ≠ 0) }

theorem headSent_eq : headSent p q f s = handed p q f (sentOff q f s) := rfl

theorem dequeued_kept : Kept (releaseFields q) s (headLeft q f (dequeued q f s)) := by
  have hcount : Kept (releaseFields q) s (dequeued q f s) :=
    (Kept.refl.wr (by simp [releaseFields])).wr (by simp [releaseFields])
  exact hcount.trans headLeft_kept

theorem HeadGoes.popHead (h : HeadGoes p el q f s) :
    popHead q (shaperTake p el f.octets.length (dequeued q f s)) = headLeft q f (dequeued q f s) := by
  have hshaper : shaperTake p el f.octets.length (dequeued q f s) = dequeued q f s := if_pos h.shape
  obtain ⟨hp, hw, hn⟩ := h.resident
  rw [hshaper]
  exact popHead_only h.frames hp hw hn

/-- A queue whose one frame may go hands it to the pass. -/
theorem HeadGoes.release (h : HeadGoes p el q f s) : release p el none q s = headSent p q f s := by
  have hpace : (headLeft q f (dequeued q f s)).rd (R.MILLQ_CFG_PACE_US q) = s.rd (R.MILLQ_CFG_PACE_US q) :=
    dequeued_kept _ (by simp [releaseFields, queueFields, Fld.same])
  have hca : caUsed (caIndex p f.slot) (sentOff q f s) = false := by
    have hr : (sentOff q f s).rd (R.MSEC_STAT_STATE (caIndex p f.slot)) = s.rd (R.MSEC_STAT_STATE (caIndex p f.slot)) := by
      rw [sentOff, modQue_rd]
      exact dequeued_kept _ (by simp [releaseFields, queueFields, Fld.same])
    rw [caUsed, hr]
    exact h.clear
  have hrel : Machine.release p el none q s = handOver p none q f (sentOff q f s) := by
    rw [sentOff, ← hpace, ← h.popHead]
    simp only [Machine.release, h.frames, h.sound, Bool.false_eq_true, if_false, dequeued]
    rfl
  rw [hrel, handOver_clear hca, headSent_eq]

theorem Calm.headSent (h : Calm s) : Calm (headSent p q f s) := by
  have hd : Calm (dequeued q f s) := (h.add (by simp [calmRegs])).add (by simp [calmRegs])
  have hl : Calm (headLeft q f (dequeued q f s)) := hd.freeCells.freeSlots.modQue.qShow
  exact hl.modQue.handed

/-! ## Rounds of one frame (R280, R281) -/

/-- Without a live re-warp no SCHED record waits for the port. -/
theorem liveSched_none (h : s.warp.pendSched = []) : liveSched p s = s := by
  simp [liveSched, h]

theorem dropRelease_iso {d slot : Nat} (hm : mayRelease (8 + d) s = true) (hw : s.warp.pendSched = [])
    (hn : portFrames (8 + d) s = 1) (hi : isoNext d s = some slot) (hg : HeadGoes (8 + d) 1 (64 * d + 2 * slot + 1) f s) :
    (if mayRelease (8 + d) (liveSched (8 + d) (psFindings [] s)) then
      dropLoop d (portFrames (8 + d) (liveSched (8 + d) (psFindings [] s))) (liveSched (8 + d) (psFindings [] s))
    else liveSched (8 + d) (psFindings [] s)) =
      headSent (8 + d) (64 * d + 2 * slot + 1) f { s with mill := { s.mill with isoAt := tset 31 s.mill.isoAt d slot } } := by
  have hs : liveSched (8 + d) (psFindings [] s) = s := liveSched_none hw
  rw [hs, if_pos hm, hn, dropLoop]
  simp only [hi, dropLoop]
  exact HeadGoes.release ⟨hg.frames, hg.sound, hg.resident, hg.shape, hg.clear⟩

/-- Outside a twin a trunk's port is fenced with the trunk. -/
theorem egressFenced_alone {t : Nat} (ht : t < 8) (ha : Alone t s) : egressFenced t s = s.trkFenced t := by
  have h : twinOf t s = none := ha
  simp [egressFenced, portTrunks, ht, h]

theorem trunkTwin_alone {t : Nat} (ha : Alone t s) : trunkTwin t s = none := by
  have h : twinOf t s = none := ha
  simp [trunkTwin, h]

theorem trunkLoop_strict {t c : Nat} (ha : Alone t s) (hc : strictNext t s = some c)
    (hg : HeadGoes t c (4096 + 8 * t + c) f s) : trunkLoop t 1 s = headSent t (4096 + 8 * t + c) f s := by
  simp only [trunkLoop, hc, trunkTwin_alone ha]
  exact hg.release

theorem exec_dropRelease_iso {d : Fin 64} {slot : Nat} (hm : mayRelease (8 + d) s = true) (hw : s.warp.pendSched = [])
    (hn : portFrames (8 + d) s = 1) (hi : isoNext d s = some slot) (hg : HeadGoes (8 + d) 1 (64 * d + 2 * slot + 1) f s) :
    exec (.dropRelease d []) s = done (headSent (8 + d) (64 * d + 2 * slot + 1) f
      { s with mill := { s.mill with isoAt := tset 31 s.mill.isoAt d slot } }) :=
  congrArg done (dropRelease_iso hm hw hn hi hg)

theorem exec_trunkRelease_strict {t : Fin 8} {c : Nat} (hs : s.serving = true) (hr : s.rd R.PWR_STAT_HOST_RUNG < 2)
    (hf : s.trkFenced t = false) (ha : Alone t s) (hw : s.warp.pendSched = []) (hn : portFrames t s = 1)
    (hc : strictNext t s = some c) (hg : HeadGoes t c (4096 + 8 * t + c) f s) :
    exec (.trunkRelease t []) s = done (headSent t (4096 + 8 * t + c) f s) := by
  have hl : liveSched t (psFindings [] s) = s := liveSched_none hw
  have hx : exec (.trunkRelease t []) s = done (let s := liveSched t (psFindings [] s)
    if s.serving && decide (s.rd R.PWR_STAT_HOST_RUNG < 2) && !egressFenced t s then trunkLoop t (portFrames t s) s else s) := rfl
  rw [hx, hl]
  simp only [hs, hr, egressFenced_alone t.isLt ha, hf, hn, trunkLoop_strict ha hc hg, decide_true, Bool.not_false, Bool.and_self,
    if_true]

/-! ## Timers (R277, R278, R436) -/

theorem exec_panicLong_panics (h : s.rd R.MILL_ISO_CTL_PANIC_NOW ≠ 0) :
    exec .panicLong s = done ((s.evt R.MILL_EVT_PANIC_LONG).recordFree 9 2 0x25 none) := congrArg done (if_pos h)

theorem exec_shaperBucketRefill_debt {p : Fin 72} {c : Fin 8} (h : shaperOk p c s = false) :
    exec (.shaperBucketRefill p c) s = done { s with mill := { s.mill with
      buckets := tset {} s.mill.buckets (8 * p + c) { debt := bucketCap, stamp := s.age } } } :=
  congrArg done (if_neg (by simp [h]))

/-- Settles O40: a round of one frame releases it as `HeadGoes.release` says, and each timer does its one effect. -/
theorem millerReleases : Obligations.MillerReleases := by
  refine ⟨⟨fun d slot f s hc hm hw hn hi hg => ?drop, fun t c f s hc hs hr hf ha hw hn hn2 hg => ?trunk⟩,
    fun s hc hl hp => ?panic, fun q s hc => ?pace, fun p c s hc hd => ?bucket⟩
  case drop => exact next_of_done (exec_dropRelease_iso hm hw hn hi hg) hc.with_mill.headSent
  case trunk => exact next_of_done (exec_trunkRelease_strict hs hr hf ha hw hn hn2 hg) hc.headSent
  case panic =>
    exact records_free (exec_panicLong_panics hp) hl (.inr rfl) (by decide) (hc.evt (by decide)) rfl rfl rfl
      fun f hf => rd_wr_log hf (by decide)
  case pace => exact next_of_done (c := .paceDue q) rfl hc.modQue
  case bucket => exact next_of_done (exec_shaperBucketRefill_debt hd) hc.with_mill

end Sys2Proof.Machine
end

section
/-! PROOFS. MILL_FLUSH: the word it writes, and what a flush of a queue leaves (R82, R285). -/

namespace Sys2Proof.Machine

variable {s : State} {p : Port} {q k n : Nat}

/-! ## The word of MILL_FLUSH -/

/-- MILL_FLUSH.GO as the catalogue describes it. -/
def flushGo : FldDesc := ⟨400, 31, 1, .w1s, true, false, false, false, false, .const 0, []⟩

/-- MILL_FLUSH.Q as the catalogue describes it. -/
def flushQ : FldDesc := ⟨401, 0, 13, .rw, false, false, false, false, false, .const 0, []⟩

/-- The register at 0x009_0070. -/
def flushReg : RegAt := ⟨⟨"MILL_FLUSH", 589936, 32, 0, (0, 0, 0), (0, 0, 0), [flushGo, flushQ]⟩, 0, 0, 0⟩

theorem fieldAt_flush : fieldAt R.MILL_FLUSH_GO = some flushReg := by decide +kernel

theorem plain_flush : plainReg flushReg = true := by decide

/-- The word that the row writes, in which GO stands at 1. -/
def flushWord (q : Nat) (s : State) : Nat := rowWord flushReg [(R.MILL_FLUSH_GO, 1), (R.MILL_FLUSH_Q, q)] s

theorem flushWord_go : wordVal (flushWord q s) flushGo = 1 :=
  registerWrites.2 flushReg _ s plain_flush flushGo (by simp [flushReg])

theorem flushWord_q (h : q < 8192) : wordVal (flushWord q s) flushQ = q :=
  (registerWrites.2 flushReg _ s plain_flush flushQ (by simp [flushReg])).trans (Nat.mod_eq_of_lt h)

/-- GO is keyed, and the word would change it, so that the port is armed. -/
theorem armed_of_opens (h : Opens p flushReg (flushWord q s) s) : armed p s = true := by
  by_contra hn
  have hf := (h.fields flushGo (by simp [flushReg])).1 rfl (Bool.not_eq_true _ ▸ hn)
  rw [flushWord_go] at hf
  exact Nat.one_ne_zero hf.2

/-- The write has used up the arming and stored Q. -/
def flushWritten (p : Port) (q : Nat) (s : State) : State :=
  if q = s.rd R.MILL_FLUSH_Q then disarm p s else (disarm p s).wr R.MILL_FLUSH_Q q

theorem flush_puts (hq : q < 8192) : regPuts flushReg (flushWord q s) true s (regFrom p flushReg s) = flushWritten p q s := by
  have hgo : fieldPut flushReg (flushWord q s) true s (disarm p s) flushGo = disarm p s := rfl
  have hfq : fieldPut flushReg (flushWord q s) true s (disarm p s) flushQ = flushWritten p q s := by
    have hput : fieldPut flushReg (flushWord q s) true s (disarm p s) flushQ =
        if wordVal (flushWord q s) flushQ = s.rd R.MILL_FLUSH_Q then disarm p s
        else (disarm p s).wr R.MILL_FLUSH_Q (wordVal (flushWord q s) flushQ) := rfl
    rw [hput, flushWord_q hq, flushWritten]
  calc regPuts flushReg (flushWord q s) true s (regFrom p flushReg s)
      = fieldPut flushReg (flushWord q s) true s (fieldPut flushReg (flushWord q s) true s (disarm p s) flushGo) flushQ := rfl
    _ = flushWritten p q s := by rw [hgo, hfq]

theorem flush_hooks : regHooks flushReg (flushWord q s) true s =
    [(R.MILL_FLUSH_GO, s.rd R.MILL_FLUSH_GO, 1), (R.MILL_FLUSH_Q, s.rd R.MILL_FLUSH_Q, wordVal (flushWord q s) flushQ)] := by
  have hgo : fieldHook flushReg (flushWord q s) true s flushGo = [(R.MILL_FLUSH_GO, s.rd R.MILL_FLUSH_GO, 1)] := by
    have hhook : fieldHook flushReg (flushWord q s) true s flushGo = if wordVal (flushWord q s) flushGo = 0 then []
        else [(R.MILL_FLUSH_GO, s.rd R.MILL_FLUSH_GO, wordVal (flushWord q s) flushGo)] := rfl
    rw [hhook, flushWord_go, if_neg Nat.one_ne_zero]
  have hfq : fieldHook flushReg (flushWord q s) true s flushQ =
      [(R.MILL_FLUSH_Q, s.rd R.MILL_FLUSH_Q, wordVal (flushWord q s) flushQ)] := rfl
  rw [regHooks, show flushReg.d.fields = [flushGo, flushQ] from rfl, List.flatMap_cons, List.flatMap_cons, hgo, hfq]
  rfl

theorem hook_flushGo {e : Ext} {old new : Nat} : hook e p flushReg R.MILL_FLUSH_GO old new s =
    if s.rd R.MILL_FLUSH_Q < 4480 then flushQueue (s.rd R.MILL_FLUSH_Q) 2 s else accNote 4 p true 0x90070 s := rfl

theorem hook_flushQ {e : Ext} {old new : Nat} : hook e p flushReg R.MILL_FLUSH_Q old new s = s := rfl

theorem flushWritten_q (hq : q < 8192) : (flushWritten p q s).rd R.MILL_FLUSH_Q = q := by
  unfold flushWritten
  split
  case isTrue h => exact h.symm
  case isFalse h => exact (rd_wr_self _ _ _).trans (Nat.mod_eq_of_lt hq)

theorem flushWritten_rd {f : Fld} (h : f.id ≠ R.MILL_FLUSH_Q.id) : (flushWritten p q s).rd f = s.rd f := by
  unfold flushWritten
  split
  · rfl
  · exact rd_wr_ne (disarm p s) _ _ _ fun e => absurd e.symm h

theorem flushWritten_mill : (flushWritten p q s).mill = s.mill := by
  unfold flushWritten
  split <;> rfl

theorem flushWritten_passes : (flushWritten p q s).passes = s.passes := by
  unfold flushWritten
  split <;> rfl

theorem flushWritten_que : (flushWritten p q s).que n = s.que n := by rw [State.que, flushWritten_mill, State.que]

/-- MILL_FLUSH at a port that may write it stores Q, and then flushes the queue or notes a reserved value. -/
theorem exec_millFlush_open {q : BitVec 13} {r : RegAt} {w : Nat}
    (hw : wordOf (.millFlush p q) s = some (Ext.plain, p, r, w)) (ho : Opens p r w s) :
    exec (.millFlush p q) s = .next (settle (if q.toNat < 4480 then flushQueue q.toNat 2 (flushWritten p q.toNat s)
      else accNote 4 p true 0x90070 (flushWritten p q.toNat s))) := by
  have hrow : wordOf (.millFlush p q) s = some (Ext.plain, p, flushReg, flushWord q.toNat s) := by
    simp only [wordOf, rowWords, fieldAt_flush]
    rfl
  obtain ⟨rfl, rfl⟩ : r = flushReg ∧ w = flushWord q.toNat s := by
    rw [hrow] at hw
    simpa [eq_comm] using hw
  rw [registerWrites.1 _ _ _ _ _ _ hw ho, armed_of_opens ho, flush_puts q.isLt, flush_hooks, List.foldl_cons, List.foldl_cons,
    List.foldl_nil, hook_flushGo, hook_flushQ, flushWritten_q q.isLt]

/-! ## What a flush leaves (R272, R276, R285) -/

/-- The frames of a queue that a flush keeps: the head whose record is on a lane. -/
def flushKept (x : MQueue) : List MFrame := if x.lane.isSome then x.frames.take 1 else []

theorem frameReport_regs (f : MFrame) : (frameReport q f s).regs = s.regs := by
  unfold frameReport
  split <;> rfl

theorem frameReport_passes (f : MFrame) : (frameReport q f s).passes = s.passes := by
  unfold frameReport
  split <;> rfl

/-- Every discarded frame counts in DISC, which stops at its largest value. -/
theorem discards_counted (l : List MFrame) :
    Counted (R.MILLQ_DISC_COUNT q k) l.length s (l.foldl (fun a f => discard q k f a) s) := by
  induction l generalizing s with
  | nil =>
    have h := rd_lt s (R.MILLQ_DISC_COUNT q k)
    rw [Counted, List.foldl_nil, List.length_nil, Nat.add_zero]
    exact (Nat.min_eq_left (Nat.le_sub_one_of_lt h)).symm
  | cons f l ih =>
    have h1 : (discard q k f s).rd (R.MILLQ_DISC_COUNT q k) =
        min (s.rd (R.MILLQ_DISC_COUNT q k) + 1) (2 ^ (R.MILLQ_DISC_COUNT q k).width - 1) := by
      rw [discard, rd_eq, frameReport_regs, ← rd_eq, sat_rd]
    have h2 := ih (s := discard q k f s)
    unfold Counted at h2 ⊢
    rw [List.foldl_cons, h2, h1, List.length_cons]
    omega

theorem discards_passes (l : List MFrame) : (l.foldl (fun a f => discard q k f a) s).passes = s.passes := by
  induction l generalizing s with
  | nil => rfl
  | cons f l ih => rw [List.foldl_cons, ih, discard, frameReport_passes]; rfl

/-- A queue of which only some frames are left, all of them resident. -/
def MQueue.cutTo (keep : List MFrame) (x : MQueue) : MQueue :=
  { x with frames := keep, front := 0, paged := 0, writing := 0, fetching := 0, orphans := x.orphans + x.fetching,
           panic := false, starved := false, deficit := 0 }

/-- A queue is emptied but for the frames kept, after the rest was discarded into `s`. -/
def flushEmptied (q : Nat) (keep : List MFrame) (cells slots : Nat) (s : State) : State :=
  qShow q (panicShow ((freeSlots slots (freeCells (queueRange q) cells s)).modQue q (MQueue.cutTo keep)))

theorem flushQueue_eq : ∃ cells slots, flushQueue q k s = flushEmptied q (flushKept (s.que q)) cells slots
    (((s.que q).frames.drop (flushKept (s.que q)).length).foldl (fun a f => discard q k f a) s) := ⟨_, _, rfl⟩

theorem flushEmptied_que {keep : List MFrame} {cells slots : Nat} :
    (flushEmptied q keep cells slots s).que q = MQueue.cutTo keep (s.que q) := modQue_que_self _ q _

theorem flushEmptied_passes {keep : List MFrame} {cells slots : Nat} :
    (flushEmptied q keep cells slots s).passes = s.passes := rfl

/-- What a flush does beside the discards counts no discard. -/
theorem flushEmptied_disc {keep : List MFrame} {cells slots j : Nat} :
    (flushEmptied q keep cells slots s).rd (R.MILLQ_DISC_COUNT j k) = s.rd (R.MILLQ_DISC_COUNT j k) := by
  have hshow := kept_qShow q (panicShow ((freeSlots slots (freeCells (queueRange q) cells s)).modQue q (MQueue.cutTo keep))) (R.MILLQ_DISC_COUNT j k) (by simp [queueFields, Fld.same])
  have hcells := kept_freeCells (s := s) (queueRange q) cells (R.MILLQ_DISC_COUNT j k) (by simp [Fld.same])
  rw [flushEmptied, hshow, panicShow, State.wrb, rd_wr_ne _ _ _ _ (by simp), rd_wr_ne _ _ _ _ (by simp), modQue_rd, freeSlots,
    rd_wr_ne _ _ _ _ (by simp), hcells]

/-- A flush discards and counts every frame but the one whose record is on a lane. -/
theorem flushQueue_leaves : ((flushQueue q k s).que q).frames = flushKept (s.que q) ∧
    ((flushQueue q k s).que q).paged = 0 ∧ ((flushQueue q k s).que q).writing = 0 ∧ (flushQueue q k s).passes = s.passes ∧
    Counted (R.MILLQ_DISC_COUNT q k) ((s.que q).frames.length - (flushKept (s.que q)).length) s (flushQueue q k s) := by
  obtain ⟨cells, slots, h⟩ := flushQueue_eq (q := q) (k := k) (s := s)
  have hd := discards_counted (q := q) (k := k) (s := s) ((s.que q).frames.drop (flushKept (s.que q)).length)
  rw [List.length_drop] at hd
  rw [h, flushEmptied_que]
  refine ⟨rfl, rfl, rfl, flushEmptied_passes.trans (discards_passes _), ?_⟩
  rw [Counted, flushEmptied_disc]
  exact hd

theorem counted_of_rd {f : Fld} {t u : State} (h : t.rd f = s.rd f) (hc : Counted f n t u) : Counted f n s u := by
  rwa [Counted, h] at hc

/-- Settles O41: the write stores Q, and its effect is `flushQueue_leaves` or a note of a reserved value. -/
theorem flushDiscards : Obligations.FlushDiscards := by
  intro p q r w s hw ho
  have hx := exec_millFlush_open hw ho
  obtain ⟨hf, hp, hwr, hpa, hd⟩ := flushQueue_leaves (q := q.toNat) (k := 2) (s := flushWritten p q.toNat s)
  rw [flushWritten_que] at hf hd
  have hd := counted_of_rd (flushWritten_rd (f := R.MILLQ_DISC_COUNT q.toNat 2) (by simp)) hd
  refine ⟨fun hq => ⟨?flush, fun hl => ?free, fun hl => ?busy, hp, hwr, hpa.trans flushWritten_passes⟩,
    fun hq => ⟨?internal, accNote_kind (by decide) p true 0x90070, flushWritten_mill⟩⟩
  case flush => exact hx.trans (by rw [if_pos hq]; rfl)
  case free =>
    have hk : flushKept (s.que q.toNat) = [] := if_neg (by simp [hl])
    rw [hk] at hf hd
    exact ⟨hf, hd⟩
  case busy =>
    have hk : flushKept (s.que q.toNat) = (s.que q.toNat).frames.take 1 := if_pos (Option.isSome_iff_ne_none.2 hl)
    rw [hk] at hf hd
    refine ⟨hf, ?_⟩
    have hn : (s.que q.toNat).frames.length - ((s.que q.toNat).frames.take 1).length = (s.que q.toNat).frames.length - 1 := by
      rw [List.length_take]; omega
    rw [hn] at hd
    exact hd
  case internal => exact hx.trans (by rw [if_neg (by omega)]; rfl)

end Sys2Proof.Machine
end

section
/-! PROOFS. The granary controller: requests join their queues, the pick serves them, rows and refreshes, fills, changes of
frequency and the scrubber (R297 to R310). -/

namespace Sys2Proof.Machine

variable {s t u : State} {ch bank : Nat} {c : GChan} {r : GReq}

/-! ## Channels -/

theorem granChan_modChan {f : GChan → GChan} : granChan ch (modChan ch f s) = f (granChan ch s) := tget_tset_self _ _ _ _

theorem Calm.modChan {f : GChan → GChan} (h : Calm s) : Calm (modChan ch f s) := h.with_gran

theorem Calm.modBank {f : GBank → GBank} (h : Calm s) : Calm (modBank ch bank f s) := h.modChan

theorem granChan_vectors : granChan ch (vectors s) = granChan ch s := by rw [granChan, vectors_gran, granChan]

theorem granReads_vectors (a : Nat) : granReads (vectors s) a = granReads s a := by rw [granReads, vectors_gran, granReads]

theorem fenced_notRuns (h : GranRuns s) : (s.isFenced .gran || decide (s.rd R.GRAN_STAT_STATE = 0)) = false := by
  simp [h.fence, h.state]

theorem granWake_runs (h : s.rd R.GRAN_STAT_STATE = 2) : granWake s = s := if_neg (by omega)

theorem effFill_filled {seg : Nat} (h : tbit (s.rd R.GRAN_STAT_FILLED) seg = true) : effFill seg s = s := if_pos h

/-! ## Requests (R297, R298, R300) -/

/-- A request taken into its channel's queue, with the next number. -/
def requestTaken (ch : Nat) (f : GChan → GChan) (s : State) : State :=
  modChan ch f { s with gran := { s.gran with next := s.gran.next + 1 } }

/-- The request that a port brings. -/
def requestOf (cls burst : Nat) (data : Option (List Byte)) (s : State) : GReq :=
  { seq := s.gran.next, cls := cls, wr := data.isSome, burst := burst, data := data.getD [], lost := 0 }

theorem effGranRequest_read {cls burst : Nat} (hg : GranRuns s)
    (hf : tbit (s.rd R.GRAN_STAT_FILLED) (burst / segBursts) = true)
    (hw : ∀ w ∈ (granChan (burstPlace burst s).ch s).writes, w.burst ≠ burst)
    (hn : ((granChan (burstPlace burst s).ch s).reads.filter fun q =>
      (burstPlace q.burst s).bank = (burstPlace burst s).bank).length < 8) :
    effGranRequest cls burst none s = requestTaken (burstPlace burst s).ch
      (fun x => { x with reads := x.reads ++ [requestOf cls burst none s] }) s := by
  have hfind : (granChan (burstPlace burst s).ch s).writes.reverse.find? (fun w => decide (w.burst = burst)) = none := by
    simpa using hw
  simp only [effGranRequest, fenced_notRuns hg, granWake_runs hg.state, ite_self, effFill_filled hf, hfind,
    if_neg (Nat.not_le.2 hn), Bool.false_eq_true, if_false]
  rfl

theorem effGranRequest_write {cls burst : Nat} {l : List Byte} (hg : GranRuns s)
    (hf : tbit (s.rd R.GRAN_STAT_FILLED) (burst / segBursts) = true)
    (hw : ∀ w ∈ (granChan (burstPlace burst s).ch s).writes, w.burst ≠ burst)
    (hn : (granChan (burstPlace burst s).ch s).writes.length < 32) :
    effGranRequest cls burst (some l) s = requestTaken (burstPlace burst s).ch
      (fun x => { x with writes := x.writes ++ [requestOf cls burst (some l) s] }) s := by
  have hany : (granChan (burstPlace burst s).ch s).writes.any (fun w => decide (w.burst = burst)) = false := by
    simpa using hw
  simp only [effGranRequest, fenced_notRuns hg, granWake_runs hg.state, ite_self, effFill_filled hf, hany,
    if_neg (Nat.not_le.2 hn), Bool.false_eq_true, if_false]
  rfl

/-- A request taken changes its channel and the next number alone. -/
theorem requestTaken_next {i : Instr} {f : GChan → GChan} (hc : Calm s) (hx : exec i s = done (requestTaken ch f s)) :
    ∃ u, exec i s = .next u ∧ u.gran.next = s.gran.next + 1 ∧ granChan ch u = f (granChan ch s) ∧
      Only [] (fun x => { x.rest with gran := { x.gran with chans := terase x.gran.chans ch, next := 0 } }) s u := by
  have ho : Only [] (fun x : State => { x.rest with gran := { x.gran with chans := terase x.gran.chans ch, next := 0 } }) s
      (requestTaken ch f s) := by
    refine ⟨.refl, ?_⟩
    simp only [requestTaken, modChan, terase_tset]
    rfl
  refine ⟨_, next_of_done hx hc.with_gran.modChan, ?_, ?_, ho.vectors fun x => by simp⟩
  · rw [vectors_gran]; rfl
  · rw [granChan_vectors, requestTaken, granChan_modChan]; rfl

/-- Settles O43: a request joins its channel's reads or writes and takes the next number. -/
theorem granaryQueues : Obligations.GranaryQueues := by
  intro cls burst s hc hg hf _ hw
  refine ⟨fun hn => ?read, fun l hn => ?write⟩
  case read => exact requestTaken_next (i := .granaryRequest cls burst none) hc (congrArg done (effGranRequest_read hg hf hw hn))
  case write => exact requestTaken_next (i := .granaryRequest cls burst (some l)) hc (congrArg done (effGranRequest_write hg hf hw hn))

/-! ## Completion (R300) -/

/-- No request waits in a channel. -/
def NoneWaits (s : State) : Prop := ∀ e ∈ s.gran.chans, e.2.reads = [] ∧ e.2.writes = []

theorem reqEarlier_noneWaits (h : NoneWaits s) (cls seq : Nat) : reqEarlier cls seq s = false := by
  simp only [reqEarlier, List.any_eq_false]
  intro e he
  obtain ⟨hr, hw⟩ := h e he
  simp [hr, hw]

/-- With no other request about, a served request completes at once. -/
theorem served_alone {ok : Bool} (h : NoneWaits s) (hr : s.gran.ready = []) : served r ok s = reqOut r ok s := by
  have hs : ({ s with gran := { s.gran with ready := [] } } : State) = s := by rw [← hr]
  simp only [served, hr, List.filter_nil, List.nil_append, deliver, reqEarlier_noneWaits (s := { s with gran := { s.gran with ready := [(r, ok)] } }) h,
    Bool.not_false, List.filter_cons_of_pos, List.filter_cons_of_neg, Bool.false_eq_true, not_false_eq_true, List.foldl_cons, List.foldl_nil, hs]

/-! ## One channel in use -/

/-- The state without the channels of the granary. -/
def State.offChans (s : State) : State := { s.rest with gran := { s.gran with chans := [] } }

theorem offCalm_offChans : OffCalm State.offChans := ⟨fun _ => rfl, fun _ _ _ => rfl, fun _ => rfl, fun _ => rfl⟩

theorem offChans_vectors (x : State) : (vectors x).offChans = x.offChans := by simp [State.offChans]

theorem offChans_modChan {f : GChan → GChan} : (modChan ch f s).offChans = s.offChans := rfl

theorem granReads_of_offChans (h : u.offChans = s.offChans) (a : Nat) : granReads u a = granReads s a := by
  have hb : granByte u.offChans.gran a = granByte s.offChans.gran a := by rw [h]
  exact hb

theorem ready_of_offChans (h : u.offChans = s.offChans) : u.gran.ready = s.gran.ready :=
  congrArg (fun x => x.gran.ready) h

theorem poison_of_offChans (h : u.offChans = s.offChans) : u.gran.poison = s.gran.poison :=
  congrArg (fun x => x.gran.poison) h

/-- Channel `ch` stands as `c`, and every other as at the reset. -/
def InUse (ch : Nat) (c : GChan) (s : State) : Prop := s.gran.chans = tset {} [] ch c

theorem InUse.chan (h : InUse ch c s) : granChan ch s = c := by rw [granChan, h, tget_tset_self]

theorem InUse.modChan {f : GChan → GChan} (h : InUse ch c s) : InUse ch (f c) (modChan ch f s) := by
  have hch := h.chan
  unfold InUse at h
  rw [InUse, Machine.modChan, hch, h, tset_tset]

theorem InUse.noneWaits (h : InUse ch c s) (hr : c.reads = []) (hw : c.writes = []) : NoneWaits s := by
  unfold InUse at h
  intro e he
  rw [h] at he
  unfold tset at he
  split at he
  · cases he
  · obtain rfl : e = (ch, c) := by simpa [terase, tinsert] using he
    exact ⟨hr, hw⟩

/-! ## The pick (R298, R299) -/

/-- What a served request leaves in its channel: the others lost a pick, and the pointer and the bank's row moved on. -/
def chanServed (p : GPlace) (policy : Nat) (r : GReq) (c : GChan) : GChan :=
  { c with
    reads := (c.reads.filter fun q => q.seq ≠ r.seq).map fun q => { q with lost := q.lost + 1 },
    writes := (c.writes.filter fun q => q.seq ≠ r.seq).map fun q => { q with lost := q.lost + 1 },
    ptr := (p.bank + 1) % 16, banks := tset {} c.banks p.bank (bankAccess p.row policy (tget {} c.banks p.bank)) }

/-- The channel's part of a served request. -/
def slotServed (ch : Nat) (p : GPlace) (r : GReq) (s : State) : State :=
  modChan ch (chanServed p (s.rd R.GRAN_PAGE_CTL_POLICY) r) s

theorem granFind_clean {cls burst : Nat} {watch : Bool} (hp : s.gran.poison = []) :
    granFind cls burst .clean watch s = (true, s) := by
  simp [granFind, hp]

theorem serveReq_read (hr : r.wr = false) (hp : s.gran.poison = []) : serveReq ch r .clean s =
    served { r with data := granBurst r.burst s.gran } true (slotServed ch (burstPlace r.burst s) r s) := by
  have hp' : (slotServed ch (burstPlace r.burst s) r s).gran.poison = [] := hp
  calc serveReq ch r .clean s
      = served { r with data := granBurst r.burst s.gran }
          (granFind r.cls r.burst .clean (decide (3 ≤ r.cls)) (slotServed ch (burstPlace r.burst s) r s)).1
          (granFind r.cls r.burst .clean (decide (3 ≤ r.cls)) (slotServed ch (burstPlace r.burst s) r s)).2 := by
        simp only [serveReq, hr, Bool.false_eq_true, if_false, modBank, modChan, granChan, tget_tset_self, tset_tset]
        rfl
    _ = _ := by rw [granFind_clean hp']

/-- The state in which a write stores its octets. -/
def writeSlot (ch : Nat) (r : GReq) (s : State) : State :=
  slotServed ch (burstPlace r.burst s) r (checkColumn (burstPlace r.burst s) (granChan ch s) s)

theorem serveReq_write {f : BurstFind} (hr : r.wr = true) : serveReq ch r f s = served r true (unpoison r.burst
    { writeSlot ch r s with gran := granPutAll (64 * r.burst) r.data (writeSlot ch r s).gran }) := by
  simp only [serveReq, hr, if_true, modBank, modChan, granChan, tget_tset_self, tset_tset]
  rfl

/-- The channel with its drain flag after the levels of the write queue. -/
def slotOpen (ch : Nat) (s : State) : State := modChan ch (fun x => { x with drain := drainNow x s }) s

theorem effGranPick_serves {f : BurstFind} (hg : GranRuns s) (hd : dueBank (granChan ch s) = none)
    (hp : pickReq (granChan ch (slotOpen ch s)) (slotOpen ch s) = some r) :
    effGranPick ch f s = serveReq ch r f (slotOpen ch s) := by
  unfold slotOpen at hp ⊢
  simp only [effGranPick, hg.fence, hg.state, hd, hp, ne_eq, not_true_eq_false, decide_false, Bool.or_false,
    Bool.false_eq_true, if_false]

/-- The only request of a channel is the one that its slot serves. -/
theorem pickReq_read (hr : c.reads = [r]) (hw : c.writes = []) (hd : c.drain = false) (hl : r.lost < 4096) :
    pickReq c s = some r := by
  have hfresh : decide (4096 ≤ r.lost) = false := by simpa using hl
  by_cases hc : r.cls = 0 <;> simp [pickReq, hr, hw, hd, hfresh, oldest, poolBest, hc]

theorem pickReq_write (hr : c.reads = []) (hw : c.writes = [r]) (hl : r.lost < 4096) : pickReq c s = some r := by
  have hfresh : decide (4096 ≤ r.lost) = false := by simpa using hl
  simp [pickReq, reqFree, hr, hw, hfresh, oldest, poolBest]

/-! ## The one request that waits -/

theorem chanServed_empty {p : GPlace} {n : Nat} (hr : ∀ q ∈ c.reads, q.seq = r.seq) (hw : ∀ q ∈ c.writes, q.seq = r.seq) :
    (chanServed p n r c).reads = [] ∧ (chanServed p n r c).writes = [] := by
  simpa [chanServed] using ⟨hr, hw⟩

theorem inUse_of_single {c : GChan} (h : s.gran.chans = [(ch, c)]) (hn : c ≠ {}) : InUse ch c s := by
  rw [InUse, h, tset, if_neg hn, terase, tinsert]

/-- A bank has cached its check column. -/
def colCached (p : GPlace) (s : State) : State :=
  modChan p.ch (fun x => { x with cols := tset none x.cols p.bank (some (p.row * 4 + p.col / 8)) }) s

theorem checkColumn_cases (p : GPlace) (c : GChan) (s : State) : checkColumn p c s = s ∨
    checkColumn p c s = colCached p s ∨ checkColumn p c s = (colCached p s).add (R.GRAN_CNT_COUNT 3) 1 := by
  unfold checkColumn
  dsimp only
  split
  · exact .inl rfl
  · split
    · exact .inr (.inl rfl)
    · exact .inr (.inr rfl)

theorem checkColumn_only {p : GPlace} : Only [R.GRAN_CNT_COUNT 3] State.offChans s (checkColumn p c s) := by
  obtain h | h | h := checkColumn_cases p c s <;> rw [h]
  · exact .refl
  · exact ⟨.refl, rfl⟩
  · exact ⟨Kept.refl.wr (.head _), rfl⟩

/-- The check column changes what a channel has cached, and no request. -/
theorem InUse.checkColumn {p : GPlace} (hp : p.ch = ch) (h : InUse ch c s) :
    ∃ c', InUse ch c' (checkColumn p c s) ∧ c'.reads = c.reads ∧ c'.writes = c.writes := by
  subst hp
  obtain e | e | e := checkColumn_cases p c s <;> rw [e]
  · exact ⟨c, h, rfl, rfl⟩
  · exact ⟨_, h.modChan, rfl, rfl⟩
  · exact ⟨_, (h.modChan : InUse p.ch _ (colCached p s)), rfl, rfl⟩

theorem writeSlot_only : Only [R.GRAN_CNT_COUNT 3] State.offChans s (writeSlot ch r s) :=
  ⟨checkColumn_only.regs, checkColumn_only.rest⟩

theorem granPut_off (a : Nat) (b : Byte) (g : Gran) : ({ granPut a b g with mem := [] } : Gran) = { g with mem := [] } := by
  unfold granPut
  split <;> rfl

/-- Octets written change the contents alone. -/
theorem granPutAll_off (l : List Byte) (a : Nat) (g : Gran) :
    ({ granPutAll a l g with mem := [] } : Gran) = { g with mem := [] } := by
  induction l generalizing a g with
  | nil => rfl
  | cons b l ih => rw [granPutAll, ih, granPut_off]

theorem unpoison_none {burst : Nat} (h : s.gran.poison = []) : unpoison burst s = s := by
  have hs : ({ s with gran := { s.gran with poison := [] } } : State) = s := by rw [← h]
  rw [unpoison, h]
  exact hs

/-- A channel with the one request `r`, open and picked. -/
theorem OnlyRequest.picked {f : BurstFind} (h : OnlyRequest ch r s) (hg : GranRuns s) :
    effGranPick ch f s = serveReq ch r f (slotOpen ch s) ∧
      ∃ c, InUse ch c (slotOpen ch s) ∧ if r.wr then c.reads = [] ∧ c.writes = [r] else c.reads = [r] ∧ c.writes = [] := by
  obtain ⟨c, hch, hdrain, hdue, hreq⟩ := h.chans
  have hne : c ≠ {} := by
    rintro rfl
    split at hreq <;> simp at hreq
  have hu := inUse_of_single hch hne
  have hu' : InUse ch { c with drain := drainNow c s } (slotOpen ch s) := hu.modChan
  refine ⟨effGranPick_serves hg (by rw [hu.chan]; exact hdue) ?_, _, hu', hreq⟩
  rw [hu'.chan]
  split at hreq
  case isTrue => exact pickReq_write hreq.1 hreq.2 h.fresh
  case isFalse =>
    have hlow : ¬ s.rd R.GRAN_WQ_CTL_WQ_HIGH = 0 := Nat.pos_iff_ne_zero.1 h.levels
    exact pickReq_read hreq.1 hreq.2 (by simp [drainNow, hdrain, hreq.2, hlow]) h.fresh

/-- After the only request of a channel was served, none waits. -/
theorem InUse.served (p : GPlace) (h : InUse ch c s) (hr : ∀ q ∈ c.reads, q.seq = r.seq)
    (hw : ∀ q ∈ c.writes, q.seq = r.seq) : NoneWaits (slotServed ch p r s) ∧
      (granChan ch (slotServed ch p r s)).reads = [] ∧ (granChan ch (slotServed ch p r s)).writes = [] := by
  have hu : InUse ch (chanServed p (s.rd R.GRAN_PAGE_CTL_POLICY) r c) (slotServed ch p r s) := h.modChan
  obtain ⟨hr0, hw0⟩ := chanServed_empty (p := p) (n := s.rd R.GRAN_PAGE_CTL_POLICY) hr hw
  rw [hu.chan]
  exact ⟨hu.noneWaits hr0 hw0, hr0, hw0⟩

/-- The state in which a read returns its burst. -/
def readSlot (ch : Nat) (r : GReq) (s : State) : State := slotServed ch (burstPlace r.burst s) r (slotOpen ch s)

theorem Only.chanSend {l : List Fld} {x : Out} (h : Only l State.offChans s u) : Only l State.offChans s (u.send x) :=
  ⟨h.regs, h.rest⟩

theorem readSlot_only : Only [] State.offChans s (readSlot ch r s) := ⟨.refl, rfl⟩

theorem granaryPick_read (hg : GranRuns s) (h : OnlyRequest ch r s) (hr : r.wr = false) :
    effGranPick ch .clean s = (readSlot ch r s).send (.granRead r.cls r.burst (some (granBurst r.burst s.gran))) ∧
      (granChan ch (readSlot ch r s)).reads = [] := by
  obtain ⟨he, c, hu, hq⟩ := h.picked (f := .clean) hg
  simp only [hr, Bool.false_eq_true, if_false] at hq
  have hsound : (slotOpen ch s).gran.poison = [] := h.sound
  have hready : (readSlot ch r s).gran.ready = [] := h.ready
  obtain ⟨hnone, hreads, -⟩ := hu.served (r := r) (burstPlace r.burst s) (by simp [hq.1]) (by simp [hq.2])
  refine ⟨?_, hreads⟩
  calc effGranPick ch .clean s
      = served { r with data := granBurst r.burst s.gran } true (readSlot ch r s) := he.trans (serveReq_read hr hsound)
    _ = reqOut { r with data := granBurst r.burst s.gran } true (readSlot ch r s) := served_alone hnone hready
    _ = _ := by simp [reqOut, hr]

/-- A write stores its octets. -/
def burstStored (r : GReq) (s : State) : State := { s with gran := granPutAll (64 * r.burst) r.data s.gran }

/-- The state without the channels and the contents of the granary. -/
def State.offMem (s : State) : State := { s.rest with gran := { s.gran with chans := [], mem := [] } }

theorem offCalm_offMem : OffCalm State.offMem := ⟨fun _ => rfl, fun _ _ _ => rfl, fun _ => rfl, fun _ => rfl⟩

theorem offMem_vectors (x : State) : (vectors x).offMem = x.offMem := by simp [State.offMem]

theorem Only.memSend {l : List Fld} {x : Out} (h : Only l State.offMem s u) : Only l State.offMem s (u.send x) :=
  ⟨h.regs, h.rest⟩

theorem granChan_send {x : Out} : granChan ch (s.send x) = granChan ch s := rfl

theorem granReads_send {x : Out} (a : Nat) : granReads (s.send x) a = granReads s a := rfl

theorem burstStored_gran : ({ (burstStored r s).gran with mem := [] } : Gran) = { s.gran with mem := [] } :=
  granPutAll_off _ _ _

/-- A write of a burst changes its 64 octets. -/
theorem granReads_burstStored (hl : r.data.length = 64) (a : Nat) : granReads (burstStored r s) a =
    if 64 * r.burst ≤ a ∧ a < 64 * r.burst + 64 then r.data.getD (a - 64 * r.burst) 0 else granReads s a := by
  have h := granByte_granPutAll (g := s.gran) r.data (64 * r.burst) a
  rw [hl] at h
  exact h

theorem burstStored_chans : (burstStored r s).gran.chans = s.gran.chans := by
  have h := congrArg Gran.chans (burstStored_gran (r := r) (s := s))
  exact h

theorem burstStored_ready : (burstStored r s).gran.ready = s.gran.ready := by
  have h := congrArg Gran.ready (burstStored_gran (r := r) (s := s))
  exact h

theorem burstStored_poison : (burstStored r s).gran.poison = s.gran.poison := by
  have h := congrArg Gran.poison (burstStored_gran (r := r) (s := s))
  exact h

theorem burstStored_only {l : List Fld} (h : Only l State.offChans s u) : Only l State.offMem s (burstStored r u) := by
  have hg : ({ (burstStored r u).gran with chans := [], mem := [] } : Gran) = { u.gran with chans := [], mem := [] } :=
    congrArg (fun g : Gran => ({ g with chans := [] } : Gran)) burstStored_gran
  have hu : u.offMem = s.offMem :=
    congrArg (fun x : State => ({ x with gran := { x.gran with mem := [] } } : State)) h.rest
  refine ⟨h.regs, Eq.trans ?_ hu⟩
  exact congrArg (fun g => ({ u.rest with gran := g } : State)) hg

theorem granaryPick_write (hg : GranRuns s) (h : OnlyRequest ch r s) (hr : r.wr = true) :
    effGranPick ch .clean s = (burstStored r (writeSlot ch r (slotOpen ch s))).send (.granWrite r.burst) ∧
      (granChan ch (writeSlot ch r (slotOpen ch s))).writes = [] := by
  obtain ⟨he, c, hu, hq⟩ := h.picked (f := .clean) hg
  simp only [hr, if_true] at hq
  obtain rfl := hu.chan
  let o := slotOpen ch s
  have hp : (burstPlace r.burst o).ch = ch := h.place
  have hoff : Only [R.GRAN_CNT_COUNT 3] State.offChans o (writeSlot ch r o) := writeSlot_only
  obtain ⟨c', hu', hr', hw'⟩ := hu.checkColumn hp
  rw [hq.1] at hr'
  rw [hq.2] at hw'
  obtain ⟨hnone, -, hwrites⟩ := hu'.served (r := r) (burstPlace r.burst o) (by simp [hr']) (by simp [hw'])
  have hpoison : (burstStored r (writeSlot ch r o)).gran.poison = [] := by
    rw [burstStored_poison, poison_of_offChans hoff.rest]; exact h.sound
  have hready : (burstStored r (writeSlot ch r o)).gran.ready = [] := by
    rw [burstStored_ready, ready_of_offChans hoff.rest]; exact h.ready
  have hnone' : NoneWaits (burstStored r (writeSlot ch r o)) := by
    rw [NoneWaits, burstStored_chans]; exact hnone
  refine ⟨?_, hwrites⟩
  calc effGranPick ch .clean s
      = served r true (unpoison r.burst (burstStored r (writeSlot ch r o))) := he.trans (serveReq_write hr)
    _ = served r true (burstStored r (writeSlot ch r o)) := by rw [unpoison_none hpoison]
    _ = reqOut r true (burstStored r (writeSlot ch r o)) := served_alone hnone' hready
    _ = _ := by simp [reqOut, hr]; rfl

/-- Settles O44: the one request is served and completes at once; a write stores its burst. -/
theorem granaryServes : Obligations.GranaryServes := by
  intro ch r s hc hg h
  refine ⟨fun hr => ?read, fun hr hl => ?write⟩
  case read =>
    obtain ⟨he, hreads⟩ := granaryPick_read hg h hr
    have ho := (readSlot_only (ch := ch) (r := r) (s := s)).chanSend
      (x := .granRead r.cls r.burst (some (granBurst r.burst s.gran)))
    refine ⟨_, only_next hc (congrArg done he) ho offCalm_offChans (by simp), mem_vectors_out (.head _), ?_, fun a => ?_,
      ho.vectors offChans_vectors⟩
    · rw [granChan_vectors]
      exact hreads
    · rw [granReads_vectors]
      exact granReads_of_offChans ho.rest a
  case write =>
    obtain ⟨he, hwrites⟩ := granaryPick_write hg h hr
    have hw : Only [R.GRAN_CNT_COUNT 3] State.offChans s (writeSlot ch r (slotOpen ch s)) :=
      ⟨writeSlot_only.regs, writeSlot_only.rest⟩
    have ho := (burstStored_only (r := r) hw).memSend (x := .granWrite r.burst)
    have hput (a : Nat) : granReads (burstStored r (writeSlot ch r (slotOpen ch s))) a =
        if 64 * r.burst ≤ a ∧ a < 64 * r.burst + 64 then r.data.getD (a - 64 * r.burst) 0 else granReads s a := by
      rw [granReads_burstStored hl, granReads_of_offChans hw.rest]
    refine ⟨_, only_next hc (congrArg done he) ho offCalm_offMem (by simp [calmRegs]), mem_vectors_out (.head _), ?_,
      fun i hi => ?_, fun a ha => ?_, ho.vectors offMem_vectors⟩
    · rw [granChan_vectors, granChan_send, granChan, burstStored_chans]
      exact hwrites
    · rw [granReads_vectors, granReads_send, hput, if_pos (by omega), Nat.add_sub_cancel_left]
    · rw [granReads_vectors, granReads_send, hput, if_neg (by omega)]

end Sys2Proof.Machine
end

section
/-! PROOFS. Upkeep of the granary: rows, refreshes, self-refresh, fills, changes of frequency, training and the scrubber
(R299 to R310). -/

namespace Sys2Proof.Machine

variable {s : State}

/-! ## Refresh (R301) -/

theorem effRefreshDue_due {ch bank : Nat} (h : s.rd R.GRAN_STAT_STATE = 2) (hp : s.bit R.GRAN_STAT_PANIC = false) :
    effRefreshDue ch bank s = modBank ch bank (fun x => { x with due := true }) s := by
  simp [effRefreshDue, h, hp]

theorem effRefreshDue_postponed {ch bank : Nat} (h : s.rd R.GRAN_STAT_STATE = 2) (hp : s.bit R.GRAN_STAT_PANIC = true)
    (hn : (tget {} (granChan ch s).banks bank).postponed < s.rd R.GRAN_PAGE_CTL_REFRESH_POSTPONE) :
    effRefreshDue ch bank s =
      (modBank ch bank (fun x => { x with postponed := x.postponed + 1 }) s).add (R.GRAN_CNT_COUNT 4) 1 := by
  simp [effRefreshDue, h, hp, hn]

/-! ## Self-refresh (R302) -/

/-- Every row is closed, and the granary refreshes itself. -/
def selfRefreshing (s : State) : State :=
  { s.wr R.GRAN_STAT_STATE 3 with
    gran := { s.gran with
      chans := s.gran.chans.map fun c => (c.1, { c.2 with banks := c.2.banks.map fun b => (b.1, { b.2 with row := none }) }) } }

theorem effSelfRefresh_enters (ha : s.bit R.GRAN_SR_CTL_AUTO_EN = true) (h : s.rd R.GRAN_STAT_STATE = 2)
    (hp : s.bit R.GRAN_STAT_PANIC = false) (hq : granQuiet s = true) : effSelfRefresh s = selfRefreshing s :=
  if_pos (by simp [ha, h, hp, hq])

theorem selfRefreshing_only : Only [R.GRAN_STAT_STATE] State.offChans s (selfRefreshing s) :=
  ⟨Kept.refl.wr (.head _), rfl⟩

/-! ## Fills (R304) -/

/-- A segment is filled with zeros. -/
def segmentFilled (seg : Nat) (s : State) : State :=
  { s.wr R.GRAN_STAT_FILLED (setBit (s.rd R.GRAN_STAT_FILLED) seg true) with gran := fillGran seg s.gran }

theorem effFill_fills {seg : Nat} (h : tbit (s.rd R.GRAN_STAT_FILLED) seg = false) : effFill seg s = segmentFilled seg s := by
  simp only [effFill, h, Bool.false_eq_true, if_false]
  rfl

theorem granReads_segmentFilled {seg : Nat} (a : Nat) :
    granReads (segmentFilled seg s) a = if a / segOctets = seg then 0 else granReads s a := granByte_fill seg a

/-- The state without what a fill writes of the granary. -/
def State.offFill (s : State) : State := { s.rest with gran := { s.gran with mem := [], defd := 0 } }

theorem offCalm_offFill : OffCalm State.offFill := ⟨fun _ => rfl, fun _ _ _ => rfl, fun _ => rfl, fun _ => rfl⟩

theorem segmentFilled_only {seg : Nat} : Only [R.GRAN_STAT_FILLED] State.offFill s (segmentFilled seg s) :=
  ⟨Kept.refl.wr (.head _), rfl⟩

/-- Settles O45: each row of the granary's upkeep does what its lemma says. -/
theorem granaryUpkeep : Obligations.GranaryUpkeep := by
  refine ⟨fun ch bank s hc => ⟨?close, fun h => ⟨fun hp => ?due, fun hp hn => ?postpone⟩⟩, fun s hc hf hg => ?hot,
    fun s hc ha h hp hq => ?rest, fun seg s hc h hn => ?fill⟩
  case close => exact next_of_done (t := modBank ch bank (fun x => { x with row := none }) s) rfl hc.modBank
  case due => exact next_of_done (congrArg done (effRefreshDue_due h hp)) hc.modBank
  case postpone => exact next_of_done (congrArg done (effRefreshDue_postponed h hp hn)) (hc.modBank.add (by simp [calmRegs]))
  case hot =>
    exact records_free (congrArg done (if_pos (by simp [hf]))) hg (.inr rfl) (by decide) (hc.evt (by decide)) rfl rfl rfl
      fun f hf => rd_wr_log hf (by decide)
  case rest =>
    have ho := selfRefreshing_only (s := s)
    refine ⟨_, only_next hc (congrArg done (effSelfRefresh_enters ha h hp hq)) ho offCalm_offChans (by simp [calmRegs]), ?_,
      fun a => ?_, ?_, ho.vectors offChans_vectors⟩
    · rw [vectors_rd]
      exact rd_wr_self s R.GRAN_STAT_STATE 3
    · rw [granReads_vectors]
      exact granReads_of_offChans (s := s) rfl a
    · rw [vectors_gran]
      rfl
  case fill =>
    have ho := segmentFilled_only (s := s) (seg := seg)
    have hx : exec (.segmentFillDone seg) s = done (segmentFilled seg s) :=
      congrArg done ((if_pos (.inl h)).trans (effFill_fills hn))
    refine ⟨_, only_next hc hx ho offCalm_offFill (by simp [calmRegs]), ?_, fun a ha => ?_, fun a ha => ?_,
      ho.vectors fun x => by simp [State.offFill]⟩
    · rw [vectors_rd]
      exact (rd_wr_self s R.GRAN_STAT_FILLED _).trans (Nat.mod_eq_of_lt (setBit_lt (rd_lt s R.GRAN_STAT_FILLED) seg.isLt true))
    · rw [granReads_vectors, granReads_segmentFilled, if_pos ha]
    · rw [granReads_vectors, granReads_segmentFilled, if_neg ha]

/-! ## Changes of frequency (R307) -/

theorem drainWrites_none {ch : Nat} (h : (granChan ch s).writes = []) : drainWrites ch s = s := by
  rw [drainWrites, h, List.foldl_nil]

theorem effPanicWait_changes {p : Nat} (h : s.gran.freqNow = some (1, p)) (h0 : (granChan 0 s).writes = [])
    (h1 : (granChan 1 s).writes = []) : effPanicWait s =
      { s.wr R.GRAN_STAT_STATE 5 with gran := { s.gran with freqNow := some (2, p) } } := by
  rw [effPanicWait, h]
  simp only [changeDrain, drainWrites_none h0, drainWrites_none h1]

/-- A point is in force after a change. -/
def pointSet (p : Nat) (s : State) : State :=
  { s.wr R.GRAN_STAT_POINT_ACT p with gran := histReset { s.gran with freqNow := none } }

theorem effChangeDone_sets {p : Nat} (h : s.gran.freqNow = some (2, p)) (hp : s.gran.freqPend = none) :
    effChangeDone s = if tbit (s.rd R.GRAN_FREQ_TRAINED) p then (pointSet p s).wr R.GRAN_STAT_STATE 2
      else trainStart p ((pointSet p s).wr R.GRAN_STAT_STATE 2) := by
  have hpend : ((pointSet p s).wr R.GRAN_STAT_STATE 2).gran.freqPend = none := hp
  have hrd : ((pointSet p s).wr R.GRAN_STAT_STATE 2).rd R.GRAN_FREQ_TRAINED = s.rd R.GRAN_FREQ_TRAINED :=
    (rd_wr_ne _ _ _ _ (by decide)).trans (rd_wr_ne _ _ _ _ (by decide))
  calc effChangeDone s
      = match ((pointSet p s).wr R.GRAN_STAT_STATE 2).gran.freqPend with
        | some q => changeStart q { ((pointSet p s).wr R.GRAN_STAT_STATE 2).wr R.GRAN_FREQ_PENDING 0 with
            gran := { ((pointSet p s).wr R.GRAN_STAT_STATE 2).gran with freqPend := none } }
        | none => if tbit (((pointSet p s).wr R.GRAN_STAT_STATE 2).rd R.GRAN_FREQ_TRAINED) p
            then (pointSet p s).wr R.GRAN_STAT_STATE 2 else trainStart p ((pointSet p s).wr R.GRAN_STAT_STATE 2) := by
        rw [effChangeDone, h]; rfl
    _ = _ := by rw [hpend, hrd]

/-! ## Training and the scrubber (R305, R310) -/

theorem effTrainDone_ok {p : Nat} (h : s.gran.training = some p) : effTrainDone true s =
    ((({ s with gran := histReset { s.gran with training := none } } : State).wr R.GRAN_FREQ_TRAINED
      (setBit (s.rd R.GRAN_FREQ_TRAINED) p true)).sat R.GRAN_TRN_CNT_TRAININGS 1).wr R.GRAN_STAT_STATE 2 := by
  rw [effTrainDone, h]
  rfl

theorem effScrubRead_clean {b n : Nat} (he : s.bit R.GRAN_CTL_SCRUB_EN = true) (h : s.rd R.GRAN_STAT_STATE = 2)
    (hb : scrubNext (s.rd R.GRAN_STAT_FILLED) s.gran.scrubAt = some b)
    (hn : scrubNext (s.rd R.GRAN_STAT_FILLED) (b + 1) = some n) : effScrubRead .clean none s =
      if n ≤ b then { s.sat R.GRAN_SCRUB_PASSES 1 with
        gran := { s.gran with scrubAt := n, scrubStart := s.age, rowCorr := [] } }
      else if s.gran.scrubStart + 4 * s.rd R.GRAN_SCRUB_PERIOD_H * 3600 * second < s.age then
        ({ s with gran := { s.gran with scrubAt := n } } : State).evt R.GRAN_EVT_SCRUB_SLOW
      else { s with gran := { s.gran with scrubAt := n } } := by
  simp only [effScrubRead, he, h, hb, hn, Bool.not_true, ne_eq, not_true_eq_false, decide_false, Bool.or_false,
    Bool.false_eq_true, if_false, Option.getD_some]
  rfl

/-- Settles O46: each row ends what it names, as its lemma says. -/
theorem granaryChanges : Obligations.GranaryChanges := by
  refine ⟨fun p s hc h h0 h1 => ?wait, fun p s hc h hp => ⟨fun ht => ?trained, fun ht => ?untrained⟩, fun p s hc h => ?training,
    fun beats dq s hc hb => ?run, fun b n s hc he h hb hn => ⟨fun hl => ?last, fun hl ha => ?more⟩⟩
  case wait => exact next_of_done (congrArg done (effPanicWait_changes h h0 h1)) (hc.wr (by decide)).with_gran
  case trained =>
    exact next_of_done (congrArg done ((effChangeDone_sets h hp).trans (if_pos ht)))
      ((hc.wr (by decide)).with_gran.wr (by decide))
  case untrained =>
    exact next_of_done (congrArg done ((effChangeDone_sets h hp).trans (if_neg (by simp [ht]))))
      (((hc.wr (by decide)).with_gran.wr (by decide)).wr (by decide)).with_gran
  case training =>
    exact next_of_done (congrArg done (effTrainDone_ok h))
      (((hc.with_gran.wr (by decide)).sat (by decide)).wr (by decide))
  case run =>
    exact next_of_done (congrArg done (if_pos hb)) (((hc.wr (by decide)).wr (by decide)).wr (by decide))
  case last =>
    exact next_of_done (congrArg done ((effScrubRead_clean he h hb hn).trans (if_pos hl))) (hc.sat (by decide)).with_gran
  case more =>
    exact next_of_done (congrArg done ((effScrubRead_clean he h hb hn).trans
      ((if_neg (Nat.not_le.2 hl)).trans (if_neg (Nat.not_lt.2 ha))))) hc.with_gran

end Sys2Proof.Machine
end

section
/-! PROOFS. The time base's references and pulses, the wake sources and timers, and the Watch's own commands (14_time R312,
R319 to R321; 19_power R410, R411, R416; 18_watch_faults R387 to R399). -/

namespace Sys2Proof.Machine

variable {s t : State}

/-- A command that owes one action, and is calm beside it, answers what the action leaves. -/
theorem next_of_owed {c : Instr} {x : Todo} (hx : exec c s = done (t.owe x)) (ht : Calm t) (hd : Calm (todoDo x t)) :
    exec c s = .next (vectors (todoDo x t)) := by
  have hpaid : (t.owe x).paid = t := paid_owe ht.owed
  have howed : (t.owe x).todo = [x] := by rw [owe_todo, ht.owed, List.nil_append]
  rw [hx, done_owed howed (by rw [hpaid]; exact hd), hpaid]

/-- Parts of the power manager beside the ladder's domains carry nothing on. -/
theorem Calm.with_power {x : Power} (hd : x.dom = s.power.dom) (h : Calm s) : Calm { s with power := x } :=
  h.keep rfl (fun _ _ => rfl) hd rfl fun _ _ => rfl

/-! ## Wakes that are only counted (R410) -/

/-- A source whose mask bit is clear is counted, and wakes nothing. -/
theorem wakeDetect_masked {code : Nat} (h6 : code ≠ 6) (hm : tbit (s.rd R.PWR_WAKE_MASK) code = false) :
    wakeDetect code s = s.sat (R.PWR_WAKE_CNT_COUNT code) 1 :=
  if_neg (by rw [sat_rd_ne _ _ _ _ (by simp)]; simp [h6, hm])

theorem wakeDetect_wakes {code : Nat} (h : code = 6 ∨ code < 6 ∧ tbit (s.rd R.PWR_WAKE_MASK) code = true) :
    wakeDetect code s = wakeAll code (s.sat (R.PWR_WAKE_CNT_COUNT code) 1) :=
  if_pos (by rw [sat_rd_ne _ _ _ _ (by simp)]; exact h)

/-! ## PPS_IN (R319, R320) -/

theorem effPpsEdge_early {ps : Int} (he : s.bit R.TIME_CTL_PPS_IN_EN = true)
    (h : ∃ a, s.clock.ppsAt = some a ∧ s.age < a + second / 2) : effPpsEdge ps s = s.sat R.TIME_PPS_CNT_IGNORED 1 := by
  obtain ⟨a, ha, hl⟩ := h
  simp [effPpsEdge, he, ha, hl]

/-- An edge shows its stamp and is counted. -/
def edgeShown (ps : Int) (s : State) : State :=
  (s.wr R.TIME_PPS_IN_STAMP (stampWords (edgeStamp ps s))).sat R.TIME_PPS_CNT_ACCEPTED 1

/-- An edge is noted with its age. -/
def edgeNoted (age : Nat) (t : State) : State := { t with clock := { t.clock with ppsAt := some age } }

/-- An edge is stamped, counted, and noted. -/
def edgeTaken (ps : Int) (s : State) : State := edgeNoted s.age (edgeShown ps s)

theorem edgeShown_age {ps : Int} : (edgeShown ps s).age = s.age := by rw [edgeShown, sat_age, wr_age]

theorem with_clock_rd (t : State) (x : Clock) (f : Fld) : ({ t with clock := x } : State).rd f = t.rd f := rfl

theorem edgeTaken_rd {ps : Int} {f : Fld} (h1 : R.TIME_PPS_IN_STAMP.id ≠ f.id) (h2 : R.TIME_PPS_CNT_ACCEPTED.id ≠ f.id) :
    (edgeTaken ps s).rd f = s.rd f := by
  rw [edgeTaken, edgeNoted, with_clock_rd, edgeShown, sat_rd_ne _ _ _ _ fun e => absurd e h2, rd_wr_ne _ _ _ _ fun e => absurd e h1]

theorem effPpsEdge_taken {ps : Int} (he : s.bit R.TIME_CTL_PPS_IN_EN = true)
    (h : ∀ a, s.clock.ppsAt = some a → a + second / 2 ≤ s.age) (hs : s.rd R.TIME_CTL_SRC ≠ 1) :
    effPpsEdge ps s = (edgeTaken ps s).owe (.wake 5) := by
  have hsrc : ((edgeTaken ps s).owe (.wake 5)).rd R.TIME_CTL_SRC ≠ 1 := by
    rw [owe_rd, edgeTaken_rd (by decide) (by decide)]
    exact hs
  unfold effPpsEdge
  rw [if_neg (by simp [he]), if_neg]
  case hnc =>
    split
    case h_1 a ha => simpa using h a ha
    case h_2 => simp
  rw [edgeTaken, ← edgeShown_age (ps := ps)] at hsrc ⊢
  exact if_neg hsrc

theorem Calm.edgeTaken {ps : Int} (h : Calm s) : Calm (edgeTaken ps s) := ((h.wr (by decide)).sat (by decide)).with_clock

/-- An edge that disciplines nothing is stamped, counted, and counted as wake source 5. -/
theorem ppsInEdge_taken {ps : Int} (hc : Calm s) (he : s.bit R.TIME_CTL_PPS_IN_EN = true)
    (h : ∀ a, s.clock.ppsAt = some a → a + second / 2 ≤ s.age) (hs : s.rd R.TIME_CTL_SRC ≠ 1)
    (hm : tbit (s.rd R.PWR_WAKE_MASK) 5 = false) :
    exec (.ppsInEdge ps) s = .next (vectors ((edgeTaken ps s).sat (R.PWR_WAKE_CNT_COUNT 5) 1)) := by
  have hw : todoDo (.wake 5) (edgeTaken ps s) = (edgeTaken ps s).sat (R.PWR_WAKE_CNT_COUNT 5) 1 :=
    wakeDetect_masked (by decide) (by rw [edgeTaken_rd (by decide) (by decide)]; exact hm)
  have hn := next_of_owed (c := .ppsInEdge ps) (congrArg done (effPpsEdge_taken he h hs)) hc.edgeTaken
    (by rw [hw]; exact hc.edgeTaken.sat (by simp [calmRegs]))
  rw [hw] at hn
  exact hn

theorem effPpsRise_rises (he : s.bit R.TIME_CTL_PPS_OUT_EN = true) (ho : s.clock.out = false)
    (h : ∀ a, s.clock.outAt = some a → a + second / 2 ≤ s.age) : effPpsRise s =
      { s with clock := { s.clock with out := true, outAt := some s.age } }.send (.ppsOut true) := by
  have hlate : (match s.clock.outAt with | some a => decide (a + second / 2 ≤ s.age) | none => true) = true := by
    split
    case h_1 a ha => simpa using h a ha
    case h_2 => rfl
  exact if_pos (by rw [he, ho]; exact hlate)

/-- Settles O47: the edge of PPS_IN as `ppsInEdge_taken` says, the other rows by their one branch. -/
theorem timeEvents : Obligations.TimeEvents := by
  intro s hc
  refine ⟨fun ha hg => ?loss, fun ps he => ⟨fun h => ?early, fun h hs hm => ?taken⟩, fun he => ?lost, fun he ho h => ?rise,
    fun ho => ?fall⟩
  case loss =>
    refine records_free (congrArg done (if_pos ha)) hg (.inr rfl) (by decide) ((hc.wr (by decide)).evt (by decide)) rfl rfl rfl
      fun f hf => ?_
    exact (rd_wr_log hf (by decide)).trans (rd_wr_log hf (by decide))
  case early => exact next_of_done (congrArg done (effPpsEdge_early he h)) (hc.sat (by decide))
  case taken => exact ppsInEdge_taken hc he h hs hm
  case lost => exact next_of_done (congrArg done (if_pos he)) ((hc.evt (by decide)).wr (by decide))
  case rise => exact next_of_done (congrArg done (effPpsRise_rises he ho h)) hc.with_clock.send
  case fall => exact next_of_done (congrArg done (if_pos ho)) hc.with_clock.send

/-! ## Wake sources (R410, R411) -/

/-- WAKE_N's detector stands armed or off. -/
def wakeNSet (off : Bool) (s : State) : State := { s with power := { s.power with wakeNOff := off } }

theorem Calm.wakeNSet {off : Bool} (h : Calm s) : Calm (wakeNSet off s) := h.with_power rfl

theorem effWakeN_armed (ho : s.power.wakeNOff = false) :
    effWakeN s = wakeNSet (tbit ((wakeDetect 0 s).rd R.PWR_WAKE_MASK) 0) (wakeDetect 0 s) :=
  if_neg (by simp [ho])

theorem effWakeN_masked (ho : s.power.wakeNOff = false) (hm : tbit (s.rd R.PWR_WAKE_MASK) 0 = false) :
    effWakeN s = wakeNSet false (s.sat (R.PWR_WAKE_CNT_COUNT 0) 1) := by
  rw [effWakeN_armed ho, wakeDetect_masked (by decide) hm, sat_rd_ne _ _ _ _ (by simp), hm]

theorem effWakeN_wakes (ho : s.power.wakeNOff = false) (hm : tbit (s.rd R.PWR_WAKE_MASK) 0 = true)
    (ha : tbit ((wakeAll 0 (s.sat (R.PWR_WAKE_CNT_COUNT 0) 1)).rd R.PWR_WAKE_MASK) 0 = true) :
    effWakeN s = wakeNSet true (wakeAll 0 (s.sat (R.PWR_WAKE_CNT_COUNT 0) 1)) := by
  rw [effWakeN_armed ho, wakeDetect_wakes (.inr ⟨by decide, hm⟩), ha]

theorem exec_wakeSourceDetect {c : Fin 8} (h0 : c ≠ 0) (ha : wakeSourceArmed c s = true) :
    exec (.wakeSourceDetect c) s = done (wakeDetect c s) :=
  congrArg done ((if_neg h0).trans (if_pos ha))

/-- Source 7 stands for no detector. -/
theorem wakeSourceArmed_lt {c : Fin 8} (ha : wakeSourceArmed c s = true) : c.val = 6 ∨ c.val < 6 := by
  by_contra h
  have h7 : c.val = 7 := by omega
  simp [wakeSourceArmed, h7] at ha

/-- The timer stops. -/
def timerHalt (s : State) : State :=
  { (s.wr R.PWR_TIMER_CTL_EN 0).wr R.PWR_TIMER_LEFT_LEFT 0 with power := { s.power with timerEnd := none } }

/-- The timer expires: it reloads where PERIODIC is set, else it stops. -/
def timerOver (s : State) : State :=
  if s.bit R.PWR_TIMER_CTL_PERIODIC then timerLoad (s.evt R.PWR_TIMER_CTL_EXPIRED)
  else timerHalt (s.evt R.PWR_TIMER_CTL_EXPIRED)

theorem effTimerExpiry_runs (he : s.bit R.PWR_TIMER_CTL_EN = true) : effTimerExpiry s = wakeDetect 4 (timerOver s) := by
  have hbit : (s.evt R.PWR_TIMER_CTL_EXPIRED).bit R.PWR_TIMER_CTL_PERIODIC = s.bit R.PWR_TIMER_CTL_PERIODIC := by
    rw [State.bit, State.evt, rd_wr_ne _ _ _ _ (by decide), State.bit]
  have hx : effTimerExpiry s = wakeDetect 4 (if (s.evt R.PWR_TIMER_CTL_EXPIRED).bit R.PWR_TIMER_CTL_PERIODIC
      then timerLoad (s.evt R.PWR_TIMER_CTL_EXPIRED) else timerHalt (s.evt R.PWR_TIMER_CTL_EXPIRED)) := if_pos he
  rw [hx, hbit, timerOver]

/-- Settles O60: each source counts and wakes by its mask bit; the timer and the supply as their rows say. -/
theorem wakeSources : Obligations.WakeSources := by
  refine ⟨fun s hc ho hm => ?masked, fun s ho hm hc ha => ?wakes, fun s hc => ?rearm,
    fun c s h0 ha => ⟨fun h6 hm hc => ?counted, fun h hc => ?detected⟩, fun s he hc => ?timer, fun s hc => ⟨?hold, ?vin⟩⟩
  case masked =>
    have hcs : Calm (s.sat (R.PWR_WAKE_CNT_COUNT 0) 1) := hc.sat (by simp [calmRegs])
    exact next_of_done (c := .wakeNAssert) (congrArg done (effWakeN_masked ho hm)) hcs.wakeNSet
  case wakes => exact next_of_done (c := .wakeNAssert) (congrArg done (effWakeN_wakes ho hm ha)) hc.wakeNSet
  case rearm => exact next_of_done (t := wakeNSet false s) rfl hc.wakeNSet
  case counted =>
    exact next_of_done ((exec_wakeSourceDetect h0 ha).trans (congrArg done (wakeDetect_masked h6 hm)))
      (hc.sat (by simp [calmRegs]))
  case detected =>
    have hcond : c.val = 6 ∨ c.val < 6 ∧ tbit (s.rd R.PWR_WAKE_MASK) c = true :=
      (wakeSourceArmed_lt ha).imp_right fun hlt => ⟨hlt, h.resolve_left (by omega)⟩
    exact next_of_done ((exec_wakeSourceDetect h0 ha).trans (congrArg done (wakeDetect_wakes hcond))) hc
  case timer => exact next_of_done (c := .pwrTimerExpiry) (congrArg done (effTimerExpiry_runs he)) hc
  case hold => exact next_of_done rfl (hc.wr (by decide))
  case vin => exact next_of_done rfl (hc.wr (by decide))

/-! ## The Watch (R387 to R399) -/

theorem effErrorRecord_known {src kind detail c : Nat} (hs : srcKnown src = true) (hk : kindClass kind src = some c)
    (hf : kindFixed kind src = none) (h58 : kind ≠ 0x58) : effErrorRecord src kind detail s = s.record src c kind detail := by
  simp only [effErrorRecord, hs, hk, watchError, hf, Bool.not_true, Bool.false_eq_true, if_false, ne_eq, h58, not_false_eq_true,
    decide_true, State.record]

/-- A grace timer has expired with action `act`: logged, counted, and over. -/
def graceOver (src act : Nat) (s : State) : State :=
  let w := (((s.free 32).2.logEntry src 0 false 0xF0 act false s.mode (s.free 32).1).sat (R.WATCH_CNT_COUNT 4) 1).wr
    (R.WATCH_SLOT_HDR_GRACE src) 0
  { w with watch := { w.watch with grace := tset none w.watch.grace src none } }

theorem graceOver_mode {src act : Nat} : (graceOver src act s).mode = s.mode :=
  (rd_wr_ne _ _ _ _ (by simp)).trans ((rd_wr_ne _ _ _ _ (by simp)).trans (rd_wr_ne _ _ _ _ (by decide)))

theorem Calm.graceOver {src act : Nat} (h : Calm s) : Calm (graceOver src act s) :=
  (((h.free.with_watch.wr (by decide)).sat (by simp [calmRegs])).wr (by simp [calmRegs])).with_watch

/-- The action of a grace timer is shown and a message goes out. -/
def graceApplied (src act : Nat) (s : State) : State :=
  ((graceOver src act s).wr (R.WATCH_SLOT_HDR_APPLIED src) act).message 0

/-- A grace timer that runs expires: its action is applied unless the device is in QUARANTINE. -/
theorem effGraceExpiry_runs {src due act n : Nat} (hg : tget none s.watch.grace src = some (due, act))
    (hn : (if s.mode = 5 then 0 else act) = n) : effGraceExpiry src s =
      if (graceOver src n s).mode = 5 then graceOver src n s
      else (if 1 ≤ n then graceApplied src n s else (graceOver src n s).wr (R.WATCH_SLOT_HDR_APPLIED src) n).oweAction src n := by
  subst hn
  rw [effGraceExpiry, hg]
  rfl

theorem effGraceExpiry_quarantine {src due act : Nat} (hg : tget none s.watch.grace src = some (due, act)) (hm : s.mode = 5) :
    effGraceExpiry src s = graceOver src 0 s :=
  (effGraceExpiry_runs hg (if_pos hm)).trans (if_pos (graceOver_mode.trans hm))

theorem effGraceExpiry_applies {src due act : Nat} (hg : tget none s.watch.grace src = some (due, act)) (hm : s.mode ≠ 5)
    (ha : 1 ≤ act) : effGraceExpiry src s = (graceApplied src act s).oweAction src act := by
  rw [effGraceExpiry_runs hg (if_neg hm), if_neg (by rw [graceOver_mode]; exact hm), if_pos ha]

/-- The oldest entry that waits is in the archive. -/
def entryCopied (x : LogEntry) (l : List LogEntry) (s : State) : State :=
  { s with archive := (x :: s.archive).take 4096, watch := { s.watch with toArchive := l } }

theorem Calm.entryCopied {x : LogEntry} {l : List LogEntry} (h : Calm s) : Calm (entryCopied x l s) :=
  h.keep rfl (fun _ _ => rfl) rfl rfl fun _ _ => rfl

theorem exec_archiveCopy {x : LogEntry} {l : List LogEntry} (h : s.watch.toArchive = x :: l) :
    exec .archiveCopy s = done (entryCopied x l s) := by
  have hx : exec .archiveCopy s = done (match s.watch.toArchive with | [] => s | e :: l => entryCopied e l s) := rfl
  rw [hx, h]

/-- Settles O58: the Watch's rows by their one branch; the grace timer as `effGraceExpiry_applies` says. -/
theorem watchServes : Obligations.WatchServes := by
  refine ⟨fun src kind detail c s hc hl hs hk hcl hf h58 => ?record,
    fun src due act s hc hg => ⟨fun hm => ?quarantine, fun hm ha => ?message, fun hm ha => ?owes⟩,
    fun s hc => ⟨?width, fun ha hr => ?ready, fun x l h => ?copy⟩⟩
  case record =>
    have h58' : kind.toNat ≠ 0x58 := fun h => h58 (BitVec.eq_of_toNat_eq h)
    exact records_given (congrArg done (effErrorRecord_known hs hk hf h58')) hl hcl (by omega) hc rfl rfl rfl fun _ _ => rfl
  case quarantine => exact next_of_done (congrArg done (effGraceExpiry_quarantine hg hm)) hc.graceOver
  case message =>
    subst ha
    exact next_of_done (congrArg done (effGraceExpiry_applies hg hm (Nat.le_refl 1)))
      (hc.graceOver.wr (by simp [calmRegs])).message
  case owes => exact congrArg done (effGraceExpiry_applies hg hm (by omega))
  case width => exact next_of_done rfl hc.with_watch
  case ready => exact next_of_done (congrArg done (if_pos (by simp [ha, hr]))) (hc.with_watch.wr (by decide))
  case copy => exact next_of_done (exec_archiveCopy h) hc.entryCopied

end Sys2Proof.Machine
end

section
/-! PROOFS. Entries of the power ladder: attempts, refusals, delays, retries, entries and climbs that end (19_power R401 to
R412). -/

namespace Sys2Proof.Machine

variable {s : State} {k : Fin 5}

/-! ## Attempts (R407) -/

theorem Attempts.notLive {d : Nat} (h : Attempts d s) : ¬ (liveBusy s = true ∧ 3 ≤ targetOf d s) := by
  rintro ⟨hl, h3⟩
  rcases h.warp with hw | hw
  · simp [hl] at hw
  · omega

theorem effEntryAttempt_asks (h : Attempts k s) : effEntryAttempt k s = domAttempt k s :=
  if_pos (by simp [h.serves, h.takes, h.idle, h.deeper, h.hold, h.retry])

/-- The host die pauses paging while it is asked for Still or deeper. -/
def pagingPaused (rung : Nat) (s : State) : State :=
  if 2 ≤ rung then { s with mill := { s.mill with paused := true } } else s

theorem domAttempt_host (h : Attempts 0 s) : domAttempt 0 s = hostTry (targetOf 0 s) (pagingPaused (targetOf 0 s) s) := by
  rw [domAttempt, if_neg h.notLive]
  rfl

theorem domAttempt_vale (h : Attempts k s) (h0 : k ≠ 0) :
    domAttempt k s = hostRequest (k - 1) (.rung (targetOf k s)) (domPut k (.asked (targetOf k s) []) s) :=
  (if_neg h.notLive).trans (if_neg fun e => h0 (Fin.ext e))

theorem hostTry_accepts {r : Nat} (h : (hostAnswer r s).2 = .accept) : hostTry r s = domPut 0 (.committed r) s := by
  simp only [hostTry, h]

/-- A refusal lets the host die go, and paging with it. -/
def hostReleased (s : State) : State := { domPut 0 .idle s with mill := { s.mill with paused := false } }

theorem hostTry_refuses {r c w : Nat} (h : hostAnswer r s = (c, .refuse w)) :
    hostTry r s = hostReleased (refusal 0 r c w s) := by
  simp only [hostTry, h]
  rfl

/-! ## Refusals, entries and climbs (R407, R409) -/

/-- An entry refused by a delay that lasts too long releases its domain. -/
theorem domRefuse_releases {r c w : Nat} : domRefuse k r c w true s = if k = 0 then hostReleased (refusal k r c w s)
    else hostRequest (k - 1) (.rung ((domPut k .idle (refusal k r c w s)).valeRung (k - 1)))
      (domPut k .idle (refusal k r c w s)) := by
  have hx : domRefuse k r c w true s = (if true = true ∨ k.val = 0 then
      domAbandon k (refusal k r c w s) else domPut k .idle (refusal k r c w s)) := rfl
  rw [hx, if_pos (.inl rfl)]
  by_cases h : k = 0
  · subst h; rfl
  · rw [if_neg h]
    exact if_neg fun e => h (Fin.ext e)

theorem effDelayTimeout_asked {r : Nat} {l : List Nat} (h : domOf k s = .asked r l) :
    effDelayTimeout k s = domRefuse k r 0x7F 0x0D true s := by
  rw [effDelayTimeout, h]

theorem effEntryDone_committed {r : Nat} (h : domOf k s = .committed r) : effEntryDone k s = domEntered k r s := by
  rw [effEntryDone, h]

theorem effClimbDone_climbing {r : Nat} (h : domOf k s = .climbing r) : effClimbDone k s = domClimbed k r s := by
  rw [effClimbDone, h]

/-- Settles O59: each row does what its lemma says of the domain's place on the ladder. -/
theorem ladderEntries : Obligations.LadderEntries := by
  refine ⟨fun s h => ⟨fun ha hc => ?accepted, fun c w hr hc => ?refused⟩, fun k s h0 h hc => ?asked, fun k r l s h => ?delay,
    fun k s hc => ?retry, fun k r s h => ?entered, fun k r s h => ?climbed⟩
  case accepted =>
    exact next_of_done (c := .rungEntryAttempt 0)
      (congrArg done ((effEntryAttempt_asks h).trans ((domAttempt_host h).trans (hostTry_accepts ha)))) hc
  case refused =>
    exact next_of_done (c := .rungEntryAttempt 0)
      (congrArg done ((effEntryAttempt_asks h).trans ((domAttempt_host h).trans (hostTry_refuses hr)))) hc
  case asked =>
    exact next_of_done (c := .rungEntryAttempt k) (congrArg done ((effEntryAttempt_asks h).trans (domAttempt_vale h h0))) hc
  case delay =>
    intro t u hc
    have hu : domRefuse k r 0x7F 0x0D true s = u := by
      rw [domRefuse_releases]
      by_cases h0 : k = 0
      · subst h0; rfl
      · rw [if_neg h0]
        exact (if_neg h0).symm
    exact next_of_done (c := .rungDelayTimeout k) (congrArg done ((effDelayTimeout_asked h).trans hu)) hc
  case retry => exact next_of_done rfl (hc.with_power rfl)
  case entered =>
    intro t u hc
    have hu : domEntered k r s = u := congrArg (wakeNext k) (if_congr (Fin.ext_iff (b := 0)).symm rfl rfl)
    exact next_of_done (c := .rungEntryDone k) (congrArg done ((effEntryDone_committed h).trans hu)) hc
  case climbed =>
    intro t u hc
    have hu : domClimbed k r s = u := congrArg (wakeNext k) (if_congr (Fin.ext_iff (b := 0)).symm rfl rfl)
    exact next_of_done (c := .rungClimbDone k) (congrArg done ((effClimbDone_climbing h).trans hu)) hc

end Sys2Proof.Machine
end

section
/-! PROOFS. Survey passes of a trunk, and the loop messages of its link channel (15_surveyor R325 to R332, R340). -/

namespace Sys2Proof.Machine

variable {s : State} {t : Nat}

/-! ## Edits of the Surveyor's part -/

@[simp] theorem modSurv_rd (n : Nat) (g : TrkSurv → TrkSurv) (f : Fld) : (s.modSurv n g).rd f = s.rd f := rfl

@[simp] theorem modSurv_trk_self (n : Nat) (g : TrkSurv → TrkSurv) :
    (s.modSurv n g).trk n = { s.trk n with surv := g (s.trk n).surv } := modTrk_trk_self s n _

theorem modTrk_modSurv (g : Trunk → Trunk) (h : TrkSurv → TrkSurv) :
    (s.modTrk t g).modSurv t h = s.modTrk t fun x => { g x with surv := h (g x).surv } := modTrk_modTrk s t g _

theorem Calm.survBusy (h : Calm s) : Calm (survBusy t s) := h.wrb (by simp [calmRegs])

theorem portVale_trunk (ht : t < 8) : portVale t = t / 2 := if_pos ht

theorem portBlock_trunk (ht : t < 8) : portBlock t = .trunk t := if_pos ht

theorem qwOpen_congr {u : State} (h : (u.trk t).qw = (s.trk t).qw) : qwOpen t u = qwOpen t s := by
  rw [qwOpen, qwOpen, h]

/-! ## A pass falls due (R328, R340) -/

theorem survTarget_alone (ha : Alone t s) : survTarget t s = t := by
  have hn : twinOf t s = none := ha
  simp [survTarget, hn]

theorem survFlip_alone (ha : Alone t s) : survFlip t s = s := by
  have hn : twinOf t s = none := ha
  simp [survFlip, hn]

theorem survEstimate_idle {est : Option (Nat × Nat)} (h : trkState t s ≠ 8) : survEstimate t est s = s := by
  cases est <;> simp [survEstimate, h]

/-- The estimates of insertion and return loss show. -/
def estimated (t il rl : Nat) (s : State) : State :=
  (s.wr (R.SURV_TRK_STAT_IL_QDB t) il).wr (R.SURV_TRK_SHIELD_LIM_RL_QDB t) rl

theorem survEstimate_data {il rl : Nat} (ht : t < 8) (h : trkState t s = 8) :
    survEstimate t (some (il, rl)) s = estimated t il rl s := if_pos ⟨ht, h⟩

theorem Calm.estimated {il rl : Nat} (h : Calm s) : Calm (estimated t il rl s) :=
  (h.wr (by simp [calmRegs])).wr (by simp [calmRegs])

theorem estimated_rd {il rl : Nat} {f : Fld} (h1 : (R.SURV_TRK_STAT_IL_QDB t).id ≠ f.id)
    (h2 : (R.SURV_TRK_SHIELD_LIM_RL_QDB t).id ≠ f.id) : (estimated t il rl s).rd f = s.rd f := by
  rw [estimated, rd_wr_ne _ _ _ _ fun e => absurd e h2, rd_wr_ne _ _ _ _ fun e => absurd e h1]

theorem estimated_alone {il rl : Nat} (ha : Alone t s) : Alone t (estimated t il rl s) :=
  (twinOf_wr (by simp) t).trans ((twinOf_wr (by simp) t).trans ha)

/-- A line that is not in a state for a pass waits for it. -/
theorem effPassDue_waits {est : Option (Nat × Nat)} (ht : t < 8) (ha : Alone t s) (hf : feServes (t / 2) s = true)
    (hk : s.trkFenced t = false) (hp : survPending t s = false) (h8 : trkState t s ≠ 8) (h12 : trkState t s ≠ 12) :
    effPassDue t est s = s.modSurv t fun x => { x with passDue := true } := by
  have hk' : s.isFenced (.trunk t) = false := hk
  simp only [effPassDue, survTarget_alone ha, survEstimate_idle h8, survFlip_alone ha, hp, portBlock_trunk ht, hk',
    portVale_trunk ht, hf, Bool.not_true, Bool.or_self, Bool.false_eq_true, if_false, if_pos ht, h8, h12, false_and,
    decide_false, Bool.and_false]

/-- A standard link in DATA gets the estimates alone. -/
theorem effPassDue_estimates {il rl : Nat} (ht : t < 8) (ha : Alone t s) (h8 : trkState t s = 8) (hr : trkCR t s = false) :
    effPassDue t (some (il, rl)) s = estimated t il rl s := by
  have h8' : trkState t (estimated t il rl s) = 8 := (estimated_rd (by simp) (by simp)).trans h8
  have hr' : trkCR t (estimated t il rl s) = false := by
    rw [trkCR, estimated_rd (by simp) (by simp)]; exact hr
  simp only [effPassDue, survTarget_alone ha, survEstimate_data ht h8, survFlip_alone (estimated_alone ha), if_pos ht, h8', hr',
    Bool.not_false, and_self, if_true, ite_self]

theorem exec_surveyPassDue {t : Fin 8} {est : Option (BitVec 16 × BitVec 16)} :
    exec (.surveyPassDue ⟨t, by omega⟩ est) s = done (effPassDue t (estNat est) s) := congrArg done (if_pos (.inl t.isLt))

/-! ## A pass is done (R327) -/

/-- What holds before the peaks are shown and over each of their registers holds afterwards. -/
theorem showPeaks_induct {P : State → Prop} {n : Nat} {level delay : Nat → Fld} {l : List PsReflection} (h : P s)
    (hw : ∀ a i v, P a → P (State.wr a (level i) v)) (hd : ∀ a i v, P a → P (State.wr a (delay i) v)) :
    P (showPeaks n level delay l s) := by
  unfold showPeaks
  generalize upto n = ix
  induction ix generalizing s with
  | nil => exact h
  | cons i ix ih => exact ih (hd _ _ _ (hw _ _ _ h))

/-- The peaks and the pass show. -/
def passShown (t : Nat) (l : List PsReflection) (s : State) : State :=
  ((showPeaks 16 (R.SURV_TRK_REFL_LEVEL_HDB t) (R.SURV_TRK_REFL_DELAY_PS t) l s).wr (R.SURV_TRK_STAT_PEAKS t) l.length).sat
    (R.SURV_TRK_CNT_PASSES t) 1

theorem Calm.passShown {l : List PsReflection} (h : Calm s) : Calm (passShown t l s) :=
  ((showPeaks_induct h (fun _ _ _ hc => hc.wr (by simp [calmRegs])) fun _ _ _ hc => hc.wr (by simp [calmRegs])).wr
    (by simp [calmRegs])).sat (by simp [calmRegs])

theorem passShown_trk {l : List PsReflection} : (passShown t l s).trk t = s.trk t :=
  showPeaks_induct (P := fun a => a.trk t = s.trk t) rfl (fun _ _ _ h => h) fun _ _ _ h => h

theorem passShown_capture {l : List PsReflection} :
    (passShown t l s).bit (R.SURV_TRK_CTL_CAPTURE t) = s.bit (R.SURV_TRK_CTL_CAPTURE t) := by
  have h : (showPeaks 16 (R.SURV_TRK_REFL_LEVEL_HDB t) (R.SURV_TRK_REFL_DELAY_PS t) l s).rd (R.SURV_TRK_CTL_CAPTURE t) =
      s.rd (R.SURV_TRK_CTL_CAPTURE t) :=
    showPeaks_induct (P := fun a => a.rd (R.SURV_TRK_CTL_CAPTURE t) = s.rd (R.SURV_TRK_CTL_CAPTURE t)) rfl
      (fun _ _ _ hp => by rw [rd_wr_ne _ _ _ _ (by simp)]; exact hp) fun _ _ _ hp => by
        rw [rd_wr_ne _ _ _ _ (by simp)]; exact hp
  rw [State.bit, passShown, sat_rd_ne _ _ _ _ (by simp), rd_wr_ne _ _ _ _ (by simp), h, State.bit]

/-- The pass is over. -/
def passOver (t : Nat) (l : List PsReflection) (s : State) : State :=
  survBusy t ((passShown t l s).modSurv t fun x => { x with passRuns := false, capArm := false })

theorem passOver_trk {l : List PsReflection} : (passOver t l s).trk t =
    { s.trk t with surv := { (s.trk t).surv with passRuns := false, capArm := false } } := by
  rw [passOver, survBusy, State.wrb, wr_trk, modSurv_trk_self, passShown_trk]

theorem Calm.passOver {l : List PsReflection} (h : Calm s) : Calm (passOver t l s) := h.passShown.modSurv.survBusy

/-- A pass that is over reports itself, unless the loop measurement is still awaited. -/
def passTold (t : Nat) (l : List PsReflection) (s : State) : State :=
  if (s.trk t).surv.loopWait then s
  else survDone t 0 0 (survLoop t s) (survContact t s) l.length (if qwOpen t s then 2 else 0) s

theorem trkPassDone_whole {peaks : List PsReflection} (hr : (s.trk t).surv.passRuns = true)
    (hl : (s.trk t).surv.loopWait = false) (ha : (s.trk t).surv.capArm = false)
    (hc : s.bit (R.SURV_TRK_CTL_CAPTURE t) = false) : trkPassDone t peaks false [] s =
      survDone t 0 0 (survLoop t (passOver t (passPeaks 16 peaks) s)) (survContact t (passOver t (passPeaks 16 peaks) s))
        (passPeaks 16 peaks).length (if qwOpen t s then 2 else 0) (passOver t (passPeaks 16 peaks) s) := by
  have hcap : ((passShown t (passPeaks 16 peaks) s).bit (R.SURV_TRK_CTL_CAPTURE t) ||
      ((passShown t (passPeaks 16 peaks) s).trk t).surv.capArm) = false := by
    rw [passShown_capture, passShown_trk, hc, ha]; rfl
  have hopen : qwOpen t (passOver t (passPeaks 16 peaks) s) = qwOpen t s := qwOpen_congr (by rw [passOver_trk])
  have hwait : ((passOver t (passPeaks 16 peaks) s).trk t).surv.loopWait = false := by rw [passOver_trk]; exact hl
  calc trkPassDone t peaks false [] s
      = passTold t (passPeaks 16 peaks) (survBusy t ((if (passShown t (passPeaks 16 peaks) s).bit (R.SURV_TRK_CTL_CAPTURE t) ||
            ((passShown t (passPeaks 16 peaks) s).trk t).surv.capArm
          then capStore (t / 2) [] (passShown t (passPeaks 16 peaks) s)
          else passShown t (passPeaks 16 peaks) s).modSurv t fun x => { x with passRuns := false, capArm := false })) := by
        rw [trkPassDone, if_neg (by simp [hr]), if_neg Bool.false_ne_true]
        rfl
    _ = passTold t (passPeaks 16 peaks) (passOver t (passPeaks 16 peaks) s) := by rw [hcap, if_neg Bool.false_ne_true, passOver]
    _ = _ := by rw [passTold, hwait, if_neg Bool.false_ne_true, hopen]

/-- A pass of a trunk shows its outcome and waits to be reported. -/
theorem survDone_pass {code loop contact peaks outcome : Nat} (ht : t < 8) : survDone t 0 code loop contact peaks outcome s =
    survEnds t 0 code loop contact peaks outcome (s.wr (R.SURV_TRK_STAT_OUTCOME t) outcome) := by
  simp only [survDone, ne_eq, not_true_eq_false, if_false, if_pos ht, portVale_trunk ht, survEnds]

/-- A loop measurement or a pulse of a trunk waits to be reported. -/
theorem survDone_other {op code loop contact peaks outcome : Nat} (ht : t < 8) (ho : op ≠ 0) :
    survDone t op code loop contact peaks outcome s = survEnds t op code loop contact peaks outcome s := by
  simp only [survDone, ne_eq, ho, not_false_eq_true, if_true, portVale_trunk ht, survEnds]

theorem Calm.survEnds {op code loop contact peaks outcome : Nat} (h : Calm s) :
    Calm (survEnds t op code loop contact peaks outcome s) := h.modPass rfl

theorem survLoop_outcome {n : Nat} : survLoop t (s.wr (R.SURV_TRK_STAT_OUTCOME t) n) = survLoop t s :=
  rd_wr_ne _ _ _ _ (by simp)

theorem survContact_outcome {n : Nat} : survContact t (s.wr (R.SURV_TRK_STAT_OUTCOME t) n) = survContact t s :=
  rd_wr_ne _ _ _ _ (by simp)

/-- Settles O48: a pass waits, is estimated, starts, or is over, as its lemma says. -/
theorem surveyPasses : Obligations.SurveyPasses := by
  intro t s hc ha hf
  refine ⟨fun hk hp h8 h12 est => ?waits, fun hk hp h8 hr il rl => ?estimates, fun hr hl hca hb peaks => ?done,
    fun h2 hm hr => ?quiet⟩
  case waits =>
    exact next_of_done (exec_surveyPassDue.trans (congrArg done (effPassDue_waits t.isLt ha hf hk hp h8 h12))) hc.modSurv
  case estimates =>
    exact next_of_done (exec_surveyPassDue.trans (congrArg done (effPassDue_estimates t.isLt ha h8 hr))) hc.estimated
  case done =>
    intro l r r'
    have hr' : r' = (passOver t l s).wr (R.SURV_TRK_STAT_OUTCOME t) (if qwOpen t s then 2 else 0) := rfl
    have hx : exec (.surveyPassDone ⟨t, by omega⟩ peaks false []) s =
        done (survEnds t 0 0 (survLoop t r') (survContact t r') l.length (if qwOpen t s then 2 else 0) r') := by
      refine congrArg done ((if_pos t.isLt).trans ((trkPassDone_whole hr hl hca hb).trans ?_))
      rw [survDone_pass t.isLt, hr', survLoop_outcome, survContact_outcome]
    have hend := next_of_done hx (hc.passOver.wr (by simp [calmRegs])).survEnds
    simp only [survEnds, Nat.cast_ite] at hend
    exact hend
  case quiet =>
    exact next_of_done (congrArg done (if_pos ⟨h2, hm, by simp [hr]⟩)) hc.modSurv.survBusy

/-! ## Loop messages (R330 to R332) -/

theorem loopTarget_alone {scope : Nat} (ha : Alone t s) : loopTarget t scope s = t := by
  have hn : twinOf t s = none := ha
  simp only [loopTarget, hn]

theorem ownScope_alone (ha : Alone t s) : ownScope t s = 0 := by
  have hn : twinOf t s = none := ha
  simp only [ownScope, hn]

/-- The answer to a loop request with reason `r` is sent and kept for a repeat. -/
def loopAnswered (t seq payload r : Nat) (s : State) : State :=
  (lchSend t (if r = 0 then 0x21 else 0x22) seq (loopPayload 0 (tbit payload 45) r (tbits payload 39 32)
    (tbits payload 31 17) (tbits payload 16 2)) s).modTrk t fun x => { x with lchDone := some (0x20, seq, r) }

/-- A first LOOP_REQ is answered, and where no reason stands against it the closure is noted. -/
theorem effLoopReq_first {seq payload r : Nat} (ha : Alone t s) (h8 : trkState t s = 8) (hr : trkCR t s = true)
    (hd : (s.trk t).lchDone = none)
    (he : loopReason t (tbits payload 39 32) (tbits payload 31 17) (tbits payload 16 2) s = r) :
    effLoopReq t seq payload s = if r = 0 then (loopAnswered t seq payload r s).modSurv t fun x =>
      { x with closure := some (tbits payload 31 17, tbits payload 16 2) } else loopAnswered t seq payload r s := by
  subst he
  unfold effLoopReq
  rw [if_neg (by simp [h8, hr]), loopTarget_alone ha]
  simp only [hd, ownScope_alone ha]
  rfl

theorem loopOpenReq_alone {seq : Nat} {r : LchReq} (ha : Alone t s) (hl : (s.trk t).lch = some r) (ht : r.type = 0x20)
    (hs : r.seq = seq) : loopOpenReq t seq s = some t := by
  have hn : twinOf t s = none := ha
  simp [loopOpenReq, portTrunks, hn, hl, ht, hs]

/-- An agreed interval: the request is closed, and the closure stands. -/
def loopAgreed (t : Nat) (s : State) : State :=
  (s.modTrk t fun x => { x with lch := none }).modSurv t fun x => { x with loopOk := true }

theorem exec_loopAck_early {t : Fin 8} {seq : BitVec 8} {payload : BitVec 48} {g : QwGrant}
    (ho : loopOpenReq t seq.toNat s = some t.val) (hg : (s.trk t).qw.grant = some g) (hop : g.opened = false)
    (hloc : g.isLocal = true) (h2 : 2 ≤ (g.start + 256 - (s.trk t).amTx) % 256)
    (h127 : (g.start + 256 - (s.trk t).amTx) % 256 ≤ 127) : exec (.loopAck t seq payload) s = done (loopAgreed t s) := by
  show execLoopAck t seq payload s = _
  have hc : ¬ (g.opened = true ∨ (g.start + 256 - (s.trk t).amTx) % 256 < 2 ∨ 127 < (g.start + 256 - (s.trk t).amTx) % 256) := by
    simp only [hop, Bool.false_eq_true, false_or]
    omega
  simp only [execLoopAck, ho, hg, hloc, if_true, if_neg hc]
  rfl

theorem exec_loopNak_own {t : Fin 8} {seq : BitVec 8} {payload : BitVec 48} (ho : loopOpenReq t seq.toNat s = some t.val) :
    exec (.loopNak t seq payload) s = done (loopNone t s) := by
  show execLoopNak t seq payload s = _
  rw [execLoopNak, ho]

/-- Settles O49: each message of the link channel does what its lemma says, as one edit of the trunk. -/
theorem loopMessages : Obligations.LoopMessages := by
  intro t s hc ha
  refine ⟨fun seq payload h8 hr hd => ?request, fun seq payload r hl hty hs => ⟨fun g hg hop hloc h2 h127 => ?ack, ?nak⟩,
    fun payload h8 => ?result, fun ho hcl hn hf => ?closes, fun hcl => ?opens⟩
  case request =>
    intro off hold start r msg
    have hx : exec (.loopReq t seq payload) s = done (if r = 0 then (loopAnswered t seq.toNat payload.toNat r s).modSurv t
        fun x => { x with closure := some (off, hold) } else loopAnswered t seq.toNat payload.toNat r s) :=
      congrArg done (effLoopReq_first ha h8 hr hd rfl)
    have hanswered : loopAnswered t seq.toNat payload.toNat r s = s.modTrk t fun x => { x with
        lchOut := x.lchOut ++ [msg (if r = 0 then 0x21 else 0x22)], lchDone := some (0x20, seq.toNat, r) } :=
      modTrk_modTrk s t _ _
    refine ⟨fun h0 => ?_, fun h0 => ?_⟩
    · rw [if_pos h0, hanswered, modTrk_modSurv, if_pos h0] at hx
      rw [next_of_done hx hc.modTrk, h0]
    · rw [if_neg h0, hanswered, if_neg h0] at hx
      exact next_of_done hx hc.modTrk
  case ack =>
    have hx := exec_loopAck_early (payload := payload) (loopOpenReq_alone ha hl hty hs) hg hop hloc h2 h127
    rw [loopAgreed, modTrk_modSurv] at hx
    exact next_of_done hx hc.modTrk
  case nak =>
    have hx := exec_loopNak_own (payload := payload) (loopOpenReq_alone ha hl hty hs)
    rw [loopNone, modTrk_modSurv] at hx
    exact next_of_done hx (hc.sat (by simp [calmRegs])).modTrk
  case result =>
    have hx : exec (.loopResult t payload) s =
        done (s.wr (R.SURV_TRK_LOOP_PEER_MOHM (loopTarget t (tbits payload.toNat 47 46) s)) (tbits payload.toNat 31 16)) :=
      congrArg done (if_pos h8)
    rw [loopTarget_alone ha] at hx
    exact next_of_done hx (hc.wr (by simp [calmRegs]))
  case closes => exact next_of_done (congrArg done (if_pos (by simp [ho, hcl, hn, hf]))) hc.modSurv.send
  case opens => exact next_of_done (congrArg done (if_pos hcl)) hc.modSurv.send

end Sys2Proof.Machine
end

section
/-! PROOFS. Loop measurements and contact care (15_surveyor R329, R334 to R336). -/

namespace Sys2Proof.Machine

variable {s u : State} {t loop : Nat} {pulse : Bool}

/-! ## A loop figure is taken (R329) -/

/-- The first figure after a full training is the baseline. -/
def baseLearned (t loop : Nat) (s : State) : State :=
  if s.rd (R.SURV_TRK_BASE_BASE_MOHM t) = 0 ∧ (s.trk t).surv.trained then
    (s.wr (R.SURV_TRK_BASE_BASE_MOHM t) loop).modSurv t fun x => { x with trained := false }
  else s

/-- The loop and the contact resistance show. -/
def loopShown (t loop : Nat) (s : State) : State :=
  (s.wr (R.SURV_TRK_LOOP_LOOP_MOHM t) loop).wr (R.SURV_TRK_BASE_CONTACT_MOHM t)
    (loop - (s.wr (R.SURV_TRK_LOOP_LOOP_MOHM t) loop).rd (R.SURV_TRK_BASE_BASE_MOHM t))

/-- A contact resistance from the limit on is an event. -/
def contactSeen (t c : Nat) (s : State) : State := if (s.trk t).surv.ccMohm ≤ c then s.evt R.SURV_EVT_CONTACT else s

theorem loopTake_eq : ∃ c start, loopTake t loop pulse s =
    lchSend t 0x23 0 (ownScope t (contactSeen t c (loopShown t (min 10000 loop) (baseLearned t (min 10000 loop) s))) * 2 ^ 46 +
        b2n pulse * 2 ^ 45 + start * 2 ^ 32 + min 10000 loop * 65536)
      (contactSeen t c (loopShown t (min 10000 loop) (baseLearned t (min 10000 loop) s))) := ⟨_, _, rfl⟩

/-- What taking a loop figure writes of the registers. -/
def takeFields (t : Nat) : List Fld :=
  [R.SURV_TRK_LOOP_LOOP_MOHM t, R.SURV_TRK_BASE_CONTACT_MOHM t, R.SURV_TRK_BASE_BASE_MOHM t, R.SURV_EVT_CONTACT]

theorem baseLearned_only : Only (takeFields t) (State.offTrk t) s (baseLearned t loop s) := by
  unfold baseLearned
  split
  · exact (Only.refl.trkWr (by simp [takeFields])).modTrk
  · exact .refl

theorem baseLearned_untrained (h : (s.trk t).surv.trained = false) : baseLearned t loop s = s := if_neg (by simp [h])

theorem contactSeen_only {c : Nat} : Only [R.SURV_EVT_CONTACT] (State.offTrk t) s (contactSeen t c s) := by
  unfold contactSeen
  split
  · exact Only.refl.trkWr (.head _)
  · exact .refl

theorem loopTake_only : Only (takeFields t) (State.offTrk t) s (loopTake t loop pulse s) := by
  obtain ⟨c, start, h⟩ := loopTake_eq (t := t) (loop := loop) (pulse := pulse) (s := s)
  have hshow : Only (takeFields t) (State.offTrk t) s (loopShown t (min 10000 loop) (baseLearned t (min 10000 loop) s)) :=
    (baseLearned_only.trkWr (by simp [takeFields])).trkWr (by simp [takeFields])
  rw [h]
  exact (hshow.trans (contactSeen_only.mono (by simp [takeFields]))).modTrk

theorem baseLearned_surv : ∃ b, ((baseLearned t loop s).trk t).surv = { (s.trk t).surv with trained := b } := by
  unfold baseLearned
  split
  · exact ⟨false, by rw [modSurv_trk_self, wr_trk]⟩
  · exact ⟨(s.trk t).surv.trained, rfl⟩

theorem contactSeen_trk {c : Nat} : (contactSeen t c s).trk t = s.trk t := by
  unfold contactSeen
  split <;> rfl

/-- Of the Surveyor's part, only the note of a training changes. -/
theorem loopTake_surv : ∃ b, ((loopTake t loop pulse s).trk t).surv = { (s.trk t).surv with trained := b } := by
  obtain ⟨c, start, h⟩ := loopTake_eq (t := t) (loop := loop) (pulse := pulse) (s := s)
  obtain ⟨b, hb⟩ := baseLearned_surv (t := t) (loop := min 10000 loop) (s := s)
  exact ⟨b, by rw [h, lchSend, modTrk_trk_self, contactSeen_trk, loopShown, wr_trk, wr_trk, hb]⟩

theorem contactSeen_rd {c : Nat} {f : Fld} (hf : f.id ≠ R.SURV_EVT_CONTACT.id) : (contactSeen t c s).rd f = s.rd f :=
  contactSeen_only.rd_of_id (by simpa using hf)

/-- The loop shows as measured, up to 10 Ω. -/
theorem loopTake_loop : (loopTake t loop pulse s).rd (R.SURV_TRK_LOOP_LOOP_MOHM t) = min 10000 loop := by
  obtain ⟨c, start, h⟩ := loopTake_eq (t := t) (loop := loop) (pulse := pulse) (s := s)
  have hlt : min 10000 loop < 2 ^ 16 := by omega
  rw [h, lchSend, modTrk_rd, contactSeen_rd (by simp), loopShown, rd_wr_ne _ _ _ _ (by simp), rd_wr_self]
  exact Nat.mod_eq_of_lt hlt

/-- With the baseline learned, the contact resistance is what the loop has above it. -/
theorem loopTake_contact (hn : (s.trk t).surv.trained = false) :
    (loopTake t loop pulse s).rd (R.SURV_TRK_BASE_CONTACT_MOHM t) = min 10000 loop - s.rd (R.SURV_TRK_BASE_BASE_MOHM t) := by
  obtain ⟨c, start, h⟩ := loopTake_eq (t := t) (loop := loop) (pulse := pulse) (s := s)
  have hlt : min 10000 loop - s.rd (R.SURV_TRK_BASE_BASE_MOHM t) < 2 ^ 16 := by omega
  rw [h, lchSend, modTrk_rd, contactSeen_rd (by simp), baseLearned_untrained hn, loopShown, rd_wr_self,
    rd_wr_ne _ _ _ _ (by simp)]
  exact Nat.mod_eq_of_lt hlt

theorem loopTake_out : (loopTake t loop pulse s).out = s.out := by
  obtain ⟨c, start, h⟩ := loopTake_eq (t := t) (loop := loop) (pulse := pulse) (s := s)
  have hb : (baseLearned t (min 10000 loop) s).out = s.out := by
    unfold baseLearned
    split <;> rfl
  have hc (a : State) : (contactSeen t c a).out = a.out := by
    unfold contactSeen
    split <;> rfl
  rw [h, lchSend]
  exact (hc _).trans hb

/-! ## Measurements and pulses end (R329, R336) -/

theorem survEnds_only {op code x contact peaks outcome : Nat} :
    Only [] (State.offPas (t / 2)) s (survEnds t op code x contact peaks outcome s) := ⟨.refl, offPas_modPass s _ _⟩

/-- A report of the vale beside what the trunk does. -/
theorem Only.survEnds {l : List Fld} {op code x contact peaks outcome : Nat} (h : Only l (State.offTrk t) s u) :
    Only l (fun y => (y.offTrk t).offPas (t / 2)) s (survEnds t op code x contact peaks outcome u) :=
  (h.then survEnds_only fun _ => rfl).mono (by simp)

theorem survBusy_only {l : List Fld} (h : Only l (State.offTrk t) s u) (hl : R.SURV_TRK_STAT_BUSY t ∈ l) :
    Only l (State.offTrk t) s (survBusy t u) := h.trkWr hl

theorem survEnds_rd {op code x contact peaks outcome : Nat} (f : Fld) :
    (survEnds t op code x contact peaks outcome s).rd f = s.rd f := modPass_rd _ _ _ _

theorem survEnds_trk {op code x contact peaks outcome : Nat} :
    (survEnds t op code x contact peaks outcome s).trk t = s.trk t := modPass_trk _ _ _ _

theorem survEnds_out {op code x contact peaks outcome : Nat} : (survEnds t op code x contact peaks outcome s).out = s.out := rfl

/-- The measurement of a survey window is over. -/
def loopEnded (t : Nat) (s : State) : State :=
  survBusy t (s.modSurv t fun x => { x with loopWait := false, loopOnly := false })

/-- A contact below the limit clears the failure of its treatment. -/
def careCleared (t : Nat) (s : State) : State :=
  if survContact t s < (s.trk t).surv.ccMohm then s.wr (R.SURV_TRK_CC_STAT_FAIL t) 0 else s

/-- What a loop measurement leaves before it is reported. -/
def loopMeasured (t loop : Nat) (s : State) : State := careCleared t (loopEnded t (loopTake t loop false s))

theorem loopEnded_only : Only [R.SURV_TRK_STAT_BUSY t] (State.offTrk t) s (loopEnded t s) :=
  survBusy_only Only.refl.modTrk (.head _)

theorem careCleared_only : Only [R.SURV_TRK_CC_STAT_FAIL t] (State.offTrk t) s (careCleared t s) := by
  unfold careCleared
  split
  · exact Only.refl.trkWr (.head _)
  · exact .refl

theorem careCleared_trk : (careCleared t s).trk t = s.trk t := by
  unfold careCleared
  split <;> rfl

theorem loopMeasured_only : Only (loopFields t) (State.offTrk t) s (loopMeasured t loop s) :=
  ((loopTake_only.mono (by simp [takeFields, loopFields])).trans (loopEnded_only.mono (by simp [loopFields]))).trans
    (careCleared_only.mono (by simp [loopFields]))

theorem loopMeasured_surv : ∃ b, ((loopMeasured t loop s).trk t).surv =
    { (s.trk t).surv with trained := b, loopWait := false, loopOnly := false } := by
  obtain ⟨b, hb⟩ := loopTake_surv (t := t) (loop := loop) (pulse := false) (s := s)
  exact ⟨b, by rw [loopMeasured, careCleared_trk, loopEnded, survBusy, State.wrb, wr_trk, modSurv_trk_self, hb]⟩

/-- Ending the measurement leaves what the figure showed. -/
theorem loopMeasured_rd {f : Fld} (h1 : f.id ≠ (R.SURV_TRK_STAT_BUSY t).id) (h2 : f.id ≠ (R.SURV_TRK_CC_STAT_FAIL t).id) :
    (loopMeasured t loop s).rd f = (loopTake t loop false s).rd f :=
  (careCleared_only.rd_of_id (by simpa using h2)).trans (loopEnded_only.rd_of_id (by simpa using h1))

/-- Outside a treatment's switch no treatment starts. -/
theorem treatStart_off (h : (s.trk t).surv.ccEn = false) : treatStart t s = s := if_neg (by simp [h])

/-- A loop measurement of its own ends, and no treatment follows. -/
theorem effLoopDone_only (ht : t < 8) (hw : (s.trk t).surv.loopWait = true) (ho : (s.trk t).surv.loopOnly = true)
    (he : (s.trk t).surv.ccEn = false) : ∃ x c p,
      effLoopDone t loop s = survEnds t 2 0 x c p 0 (loopMeasured t loop s) := by
  obtain ⟨b, hb⟩ := loopMeasured_surv (t := t) (loop := loop) (s := s)
  refine ⟨survLoop t (loopMeasured t loop s), survContact t (loopMeasured t loop s),
    (loopMeasured t loop s).rd (R.SURV_TRK_STAT_PEAKS t), ?_⟩
  have hx : effLoopDone t loop s = treatStart t (survDone t (if (s.trk t).surv.loopOnly then 2 else 0) 0
      (survLoop t (loopMeasured t loop s)) (survContact t (loopMeasured t loop s))
      ((loopMeasured t loop s).rd (R.SURV_TRK_STAT_PEAKS t)) 0 (loopMeasured t loop s)) := if_neg (by simp [hw])
  rw [hx, ho, if_pos rfl, survDone_other ht (by decide), treatStart_off (by rw [survEnds_trk, hb]; exact he)]

theorem loopMeasurementDone_shows {t : Fin 8} {loop : BitVec 16} (hc : Calm s) (hw : (s.trk t).surv.loopWait = true)
    (ho : (s.trk t).surv.loopOnly = true) (he : (s.trk t).surv.ccEn = false) :
    ∃ u, exec (.loopMeasurementDone t loop) s = .next u ∧
      u.rd (R.SURV_TRK_LOOP_LOOP_MOHM t) = min 10000 loop.toNat ∧
      ((s.trk t).surv.trained = false →
        u.rd (R.SURV_TRK_BASE_CONTACT_MOHM t) = min 10000 loop.toNat - s.rd (R.SURV_TRK_BASE_BASE_MOHM t)) ∧
      (u.trk t).surv.loopWait = false ∧ (u.trk t).surv.loopOnly = false ∧
      Only (loopFields t) (fun x => (x.offTrk t).offPas (t.val / 2)) s u := by
  obtain ⟨x, c, p, hx⟩ := effLoopDone_only (loop := loop.toNat) t.isLt hw ho he
  obtain ⟨b, hb⟩ := loopMeasured_surv (t := t) (loop := loop.toNat) (s := s)
  have hm := loopMeasured_only (t := t) (loop := loop.toNat) (s := s)
  have hcm : Calm (survEnds t 2 0 x c p 0 (loopMeasured t loop.toNat s)) :=
    (hm.calm hc (offCalm_offTrk _) (by simp [loopFields, calmRegs])).survEnds
  refine ⟨_, next_of_done (congrArg done hx) hcm, ?_, fun hn => ?_, ?_, ?_, hm.survEnds.vectors fun y => ?_⟩
  · rw [vectors_rd, survEnds_rd, loopMeasured_rd (by simp) (by simp), loopTake_loop]
  · rw [vectors_rd, survEnds_rd, loopMeasured_rd (by simp) (by simp), loopTake_contact hn]
  · rw [vectors_trk, survEnds_trk, hb]
  · rw [vectors_trk, survEnds_trk, hb]
  · rw [offTrk_vectors]

/-! ## Pulses (R334 to R336) -/

/-- The pulse has ended, and is counted. -/
def pulseCounted (t : Nat) (s : State) : State :=
  ((survBusy t ((s.send (.pulse t 0)).modSurv t fun x => { x with pulseRuns := false })).sat (R.SURV_TRK_CNT_CC_PULSE_CNT t) 1).sat
    (R.SURV_TRK_CC_STAT_PULSES t) 1

/-- The fields that the end of a pulse writes. -/
def pulseFields (t : Nat) : List Fld := R.SURV_TRK_CNT_CC_PULSE_CNT t :: R.SURV_TRK_CC_STAT_PULSES t :: loopFields t

theorem pulseCounted_only : Only (pulseFields t) (State.offTrk t) s (pulseCounted t s) := by
  have hsend : Only (pulseFields t) (State.offTrk t) s (s.send (.pulse t 0)) := ⟨.refl, rfl⟩
  exact ((survBusy_only hsend.modTrk (by simp [pulseFields, loopFields])).trkWr (by simp [pulseFields])).trkWr
    (by simp [pulseFields])

theorem pulseMeasured_only :
    Only (pulseFields t) (State.offTrk t) s (loopTake t loop true (pulseCounted t s)) :=
  pulseCounted_only.trans (loopTake_only.mono (by simp [takeFields, pulseFields, loopFields]))

theorem pulseCounted_surv : ((pulseCounted t s).trk t).surv = { (s.trk t).surv with pulseRuns := false } := by
  rw [pulseCounted, sat_trk, sat_trk, survBusy, State.wrb, wr_trk, modSurv_trk_self, send_trk]

theorem pulseCounted_out : (pulseCounted t s).out = .pulse t 0 :: s.out := rfl

theorem loopTake_rd {f : Fld} (hf : f.id ∉ (takeFields t).map Fld.id) : (loopTake t loop pulse s).rd f = s.rd f :=
  loopTake_only.rd_of_id hf

theorem pulseCounted_rd {f : Fld} (h1 : f.id ≠ (R.SURV_TRK_STAT_BUSY t).id)
    (h2 : f.id ≠ (R.SURV_TRK_CNT_CC_PULSE_CNT t).id) (h3 : f.id ≠ (R.SURV_TRK_CC_STAT_PULSES t).id) :
    (pulseCounted t s).rd f = s.rd f := by
  rw [pulseCounted, sat_rd_ne _ _ _ _ fun e => absurd e.symm h3, sat_rd_ne _ _ _ _ fun e => absurd e.symm h2, survBusy,
    State.wrb, rd_wr_ne _ _ _ _ fun e => absurd e.symm h1, modSurv_rd, send_rd]

/-- A pulse outside a treatment ends with its measurement. -/
theorem effPulseEnd_alone (ht : t < 8) (hr : (s.trk t).surv.pulseRuns = true)
    (ha : s.bit (R.SURV_TRK_CC_STAT_ACTIVE t) = false) : ∃ x c,
      effPulseEnd t loop s = survEnds t 1 0 x c 0 0 (loopTake t loop true (pulseCounted t s)) := by
  refine ⟨survLoop t (loopTake t loop true (pulseCounted t s)), survContact t (loopTake t loop true (pulseCounted t s)), ?_⟩
  have hbit : (survEnds t 1 0 (survLoop t (loopTake t loop true (pulseCounted t s)))
      (survContact t (loopTake t loop true (pulseCounted t s))) 0 0 (loopTake t loop true (pulseCounted t s))).bit
        (R.SURV_TRK_CC_STAT_ACTIVE t) = false := by
    rw [State.bit, survEnds_rd, loopTake_rd (by simp [takeFields]), pulseCounted_rd (by simp) (by simp) (by simp)]
    exact ha
  rw [← survDone_other ht (by decide)] at hbit ⊢
  rw [effPulseEnd, if_neg (by simp [hr])]
  exact if_pos (congrArg Bool.not hbit)

theorem pulseEnd_shows {t : Fin 8} {loop : BitVec 16} (hc : Calm s) (hr : (s.trk t).surv.pulseRuns = true)
    (ha : s.bit (R.SURV_TRK_CC_STAT_ACTIVE t) = false) :
    ∃ u, exec (.contactCarePulseEnd t loop) s = .next u ∧ .pulse t 0 ∈ u.out ∧ (u.trk t).surv.pulseRuns = false ∧
      u.rd (R.SURV_TRK_LOOP_LOOP_MOHM t) = min 10000 loop.toNat ∧
      Counted (R.SURV_TRK_CNT_CC_PULSE_CNT t) 1 s u ∧ Counted (R.SURV_TRK_CC_STAT_PULSES t) 1 s u ∧
      Only (pulseFields t) (fun x => (x.offTrk t).offPas (t.val / 2)) s u := by
  obtain ⟨x, c, hx⟩ := effPulseEnd_alone (loop := loop.toNat) t.isLt hr ha
  obtain ⟨b, hb⟩ := loopTake_surv (t := t) (loop := loop.toNat) (pulse := true) (s := pulseCounted t s)
  have hm := pulseMeasured_only (t := t) (loop := loop.toNat) (s := s)
  have hcm : Calm (survEnds t 1 0 x c 0 0 (loopTake t loop.toNat true (pulseCounted t s))) :=
    (hm.calm hc (offCalm_offTrk _) (by simp [pulseFields, loopFields, calmRegs])).survEnds
  refine ⟨_, next_of_done (congrArg done hx) hcm, ?_, ?_, ?_, ?_, ?_, hm.survEnds.vectors fun y => by rw [offTrk_vectors]⟩
  · refine mem_vectors_out ?_
    rw [survEnds_out, loopTake_out, pulseCounted_out]
    exact .head _
  · rw [vectors_trk, survEnds_trk, hb, pulseCounted_surv]
  · rw [vectors_rd, survEnds_rd, loopTake_loop]
  · rw [Counted, vectors_rd, survEnds_rd, loopTake_rd (by simp [takeFields]), pulseCounted, sat_rd_ne _ _ _ _ (by simp),
      sat_rd, survBusy, State.wrb, rd_wr_ne _ _ _ _ (by simp), modSurv_rd, send_rd]
  · rw [Counted, vectors_rd, survEnds_rd, loopTake_rd (by simp [takeFields]), pulseCounted, sat_rd,
      sat_rd_ne _ _ _ _ (by simp), survBusy, State.wrb, rd_wr_ne _ _ _ _ (by simp), modSurv_rd, send_rd]

/-! ## The day's pulses (R336) -/

theorem Calm.dayPrune (h : Calm s) : Calm (dayPrune t s) := h.modSurv.wr (by simp [calmRegs])

theorem dayPrune_rd {f : Fld} (hf : (R.SURV_TRK_CC_STAT_DAY_CNT t).id ≠ f.id) : (dayPrune t s).rd f = s.rd f := by
  rw [dayPrune, rd_wr_ne _ _ _ _ fun e => absurd e hf, modSurv_rd]

theorem dayPrune_trk : ∃ l, (dayPrune t s).trk t = { s.trk t with surv := { (s.trk t).surv with dayPulses := l } } :=
  ⟨_, by rw [dayPrune, wr_trk, modSurv_trk_self]⟩

/-- Pulses that age out have no part in whether the trunk may be used. -/
theorem survMay_dayPrune : survMay t (dayPrune t s) = survMay t s := by
  have h1 : feServes (t / 2) (dayPrune t s) = feServes (t / 2) s := rfl
  have h2 : (dayPrune t s).trkFenced t = s.trkFenced t := rfl
  have h3 : feCalDue (t / 2) (dayPrune t s) = feCalDue (t / 2) s := by
    rw [feCalDue, State.bit, dayPrune_rd (by simp), dayPrune_rd (by simp), feCalDue, State.bit]
  have h4 : inRun (t / 2) (dayPrune t s) = inRun (t / 2) s := by
    rw [inRun, State.valeRung, dayPrune_rd (by simp), dayPrune_rd (by simp), inRun, State.valeRung]
  rw [survMay, h1, h2, h3, h4, survMay]

/-- The current of the next pulse of trunk `t`, with its sign. -/
def pulseMa (t : Nat) (s : State) : Int :=
  if (s.trk t).surv.negative then -((s.trk t).surv.ccMa : Int) else (s.trk t).surv.ccMa

/-- A pulse starts. -/
def pulseStarted (t : Nat) (ma : Int) (s : State) : State :=
  survBusy t (dayPrune t (((dayPrune t s).send (.pulse t ma)).modSurv t fun x =>
    { x with pulseRuns := true, pulsePend := false, negative := !x.negative, dayPulses := dayNow s :: x.dayPulses }))

theorem effPulseStart_starts {g : QwGrant} (hd : dayFree t (dayPrune t s) = true) (hg : (s.trk t).qw.grant = some g)
    (ho : g.opened = true) (hl : g.isLocal = true) (hp : g.purpose = 1) (hk : (s.trk t).surv.loopOk = true)
    (hw : (s.trk t).surv.pulsePend = true) (hr : (s.trk t).surv.pulseRuns = false) (hm : survMay t s = true) :
    effPulseStart t s = pulseStarted t (pulseMa t s) s := by
  obtain ⟨l, ht⟩ := dayPrune_trk (t := t) (s := s)
  have hma : pulseMa t (dayPrune t s) = pulseMa t s := by simp only [pulseMa, ht]
  rw [← hma]
  unfold effPulseStart
  refine if_pos ?_
  simp only [ht, hg, ho, hl, hp, hk, hw, hr, survMay_dayPrune, hm, hd, decide_true, Bool.not_false, Bool.and_self]

theorem Calm.pulseStarted {ma : Int} (h : Calm s) : Calm (pulseStarted t ma s) := h.dayPrune.send.modSurv.dayPrune.survBusy

/-- The driver has met its limit: the current is off and the treatment stopped. -/
def pulseStopped (t : Nat) (s : State) : State :=
  survBusy t (((((s.send (.pulse t 0)).wr (R.SURV_TRK_CC_STAT_ACTIVE t) 0).modSurv t fun x => { x with pulseRuns := false }).wr
    (R.SURV_TRK_LOOP_LOOP_MOHM t) 0xFFFF).evt R.SURV_EVT_LOOP_OPEN)

theorem Calm.pulseStopped (h : Calm s) : Calm (pulseStopped t s) :=
  (((h.send.wr (by simp [calmRegs])).modSurv.wr (by simp [calmRegs])).evt (by decide)).survBusy

theorem survContact_pulseStopped : survContact t (pulseStopped t s) = survContact t s := by
  rw [survContact, pulseStopped, survBusy, State.wrb, rd_wr_ne _ _ _ _ (by simp), State.evt, rd_wr_ne _ _ _ _ (by simp),
    rd_wr_ne _ _ _ _ (by simp), modSurv_rd, rd_wr_ne _ _ _ _ (by simp), send_rd, survContact]

theorem effCompliance_pulse (ht : t < 8) (hr : (s.trk t).surv.pulseRuns = true) :
    effCompliance t s = survEnds t 1 0 0xFFFF (survContact t s) 0 3 (pulseStopped t s) := by
  have hx : effCompliance t s = survDone t 1 0 0xFFFF (survContact t (pulseStopped t s)) 0 3 (pulseStopped t s) := by
    simp only [effCompliance, hr, Bool.not_true, Bool.false_and, Bool.false_eq_true, if_false, if_true]
    rfl
  rw [hx, survDone_other ht (by decide), survContact_pulseStopped]

/-- Settles O50: measurements and pulses as `loopMeasurementDone_shows` and `pulseEnd_shows` say, the others by their one
branch. -/
theorem contactCare : Obligations.ContactCare := by
  intro t s hc
  refine ⟨fun hw ho he loop => ?measured, fun g hd hg ho hl hp hk hw hr hm => ?started, fun hr ha loop => ?ended, fun hr => ?stopped,
    fun hh hd => ?held⟩
  case measured => exact loopMeasurementDone_shows hc hw ho he
  case started =>
    exact next_of_done (c := .contactCarePulseStart t)
      (congrArg done (effPulseStart_starts hd hg ho hl hp hk hw hr hm)) hc.pulseStarted
  case ended => exact pulseEnd_shows hc hr ha
  case stopped =>
    exact next_of_done (c := .loopCompliance t) (congrArg done (effCompliance_pulse t.isLt hr)) hc.pulseStopped.survEnds
  case held =>
    have hbit : (dayPrune t s).bit (R.SURV_TRK_CC_STAT_DAY_HELD t) = true := by
      rw [State.bit, dayPrune_rd (by simp)]; exact hh
    exact next_of_done (c := .contactCareDayHeldEnd t) (congrArg done (if_pos (by simp [hbit, hd])))
      (hc.dayPrune.wr (by simp [calmRegs]))

end Sys2Proof.Machine
end

section
/-! PROOFS. Shield currents, sensors, and a vale that is too hot (15_surveyor R338, R339; 19_power R414). -/

namespace Sys2Proof.Machine

variable {s : State} {t : Nat} {dc : Int} {ac : Nat}

/-! ## Shield current (R338) -/

/-- The samples in a row above the limit, this one counted. -/
def shieldRunNow (t : Nat) (dc : Int) (ac : Nat) (s : State) : Nat :=
  if s.rd (R.SURV_TRK_SHIELD_LIM_LIM_MA t) < dc.natAbs ∨ s.rd (R.SURV_TRK_SHIELD_LIM_LIM_MA t) < ac
  then (s.trk t).surv.shieldRun + 1 else 0

/-- Both currents show, and the run is kept. -/
def shieldShown (t : Nat) (dc : Int) (ac : Nat) (s : State) : State :=
  ((s.wr (R.SURV_TRK_SHIELD_DC_MA t) (dc % 65536).toNat).wr (R.SURV_TRK_SHIELD_AC_MA t) (min 65535 ac)).modSurv t
    fun x => { x with shieldRun := shieldRunNow t dc ac s }

theorem effShield_serves (hf : feServes (t / 2) s = true) : effShield t dc ac s =
    if shieldRunNow t dc ac s = 100 then ((shieldShown t dc ac s).evt R.SURV_EVT_SHIELD).recordFree (64 + t) 1 0x42 none
    else shieldShown t dc ac s := by
  have hlim : ((s.wr (R.SURV_TRK_SHIELD_DC_MA t) (dc % 65536).toNat).wr (R.SURV_TRK_SHIELD_AC_MA t) (min 65535 ac)).rd
      (R.SURV_TRK_SHIELD_LIM_LIM_MA t) = s.rd (R.SURV_TRK_SHIELD_LIM_LIM_MA t) := by
    rw [rd_wr_ne _ _ _ _ (by simp), rd_wr_ne _ _ _ _ (by simp)]
  simp only [effShield, hf, Bool.not_true, Bool.false_eq_true, if_false, hlim]
  rfl

theorem Calm.shieldShown (h : Calm s) : Calm (shieldShown t dc ac s) :=
  ((h.wr (by simp [calmRegs])).wr (by simp [calmRegs])).modSurv

/-! ## Sensors (R339) -/

/-- A host temperature within its limit, and below the warning, is shown. -/
def sensorShown (v : Nat) (s : State) : State :=
  { s.wr (R.SURV_ENV_VALUE 0) v with sensorHot := tset false s.sensorHot 0 false }

theorem sensorTake_cool {v : Nat} (hw : tget false s.sensorHot 0 = false) (hl : int16 v ≤ int16 (s.rd (R.SURV_ENV_LIMIT 0)))
    (hh : int16 v < 8 * (s.rd R.PWR_THERM_WARN_C : Int)) :
    sensorTake 0 (R.SURV_ENV_LIMIT 0) (R.SURV_ENV_VALUE 0) 3 0 true v s = sensorShown v s := by
  have hlim : (s.wr (R.SURV_ENV_VALUE 0) v).rd (R.SURV_ENV_LIMIT 0) = s.rd (R.SURV_ENV_LIMIT 0) :=
    rd_wr_ne _ _ _ _ (by simp)
  have hwarn : (s.wr (R.SURV_ENV_VALUE 0) v).rd R.PWR_THERM_WARN_C = s.rd R.PWR_THERM_WARN_C := rd_wr_ne _ _ _ _ (by simp)
  have hhot : tget false (s.wr (R.SURV_ENV_VALUE 0) v).sensorHot 0 = false := hw
  simp only [sensorTake, hlim, hwarn, hhot, if_true, decide_eq_false (Int.not_lt.2 hl), decide_eq_false (Int.not_le.2 hh),
    Bool.and_false, Bool.false_and, Bool.or_false, Bool.false_eq_true, if_false]
  rfl

/-- The input power shows. -/
def inputShown (power : Word) (s : State) : State :=
  (s.wr R.PWR_INPUT_P_MW (power.toNat / 65536)).wr R.PWR_INPUT_I_MA (power.toNat % 65536)

theorem effSensors_one {v : BitVec 16} {power : Word} (hw : tget false s.sensorHot 0 = false)
    (hl : int16 v.toNat ≤ int16 (s.rd (R.SURV_ENV_LIMIT 0))) (hh : int16 v.toNat < 8 * (s.rd R.PWR_THERM_WARN_C : Int)) :
    effSensors [v] [] power s = inputShown power (sensorShown v.toNat s) :=
  congrArg (inputShown power) (sensorTake_cool hw hl hh)

theorem Calm.sensorShown {v : Nat} (h : Calm s) : Calm (sensorShown v s) := by
  have hw : Calm (s.wr (R.SURV_ENV_VALUE 0) v) := h.wr (by simp [calmRegs])
  exact hw.with_sensorHot

/-! ## A vale that is too hot (R414) -/

theorem exec_valeOvertempCut_hot {v : Fin 4} {k : Nat} (hp : (s.pas v).powered = true) (hk : k < 2)
    (hh : 8 * (s.rd R.PWR_THERM_CUT_C : Int) ≤ int16 (s.rd (R.SURV_VALE_ENV_VALUE v k))) :
    exec (.valeOvertempCut v) s = done ((valePowerOff v s).owe (.fence (.vale v))) := by
  have hany : ((upto 2).any fun k =>
      decide (8 * (s.rd R.PWR_THERM_CUT_C : Int) ≤ int16 (s.rd (R.SURV_VALE_ENV_VALUE v k)))) = true :=
    List.any_eq_true.2 ⟨k, mem_upto.2 hk, by simpa using hh⟩
  exact congrArg done (if_pos (by rw [hp, hany]; rfl))

/-- Settles O51: a shield current as `effShield_serves` says, a sensor by its one branch, a hot vale by the action owed. -/
theorem surveyorSamples : Obligations.SurveyorSamples := by
  refine ⟨fun t dc ac s hc hf => ?shield, fun v power s hc hw hl hh => ?sensor, fun v k s hc hp hk hh => ?cut⟩
  case shield =>
    intro lim n r
    refine ⟨fun hn => ?_, fun hn hg => ?_⟩
    · exact next_of_done (c := .shieldSample t dc ac) (congrArg done ((effShield_serves hf).trans (if_neg hn))) hc.shieldShown
    · refine records_free (congrArg done ((effShield_serves hf).trans (if_pos hn))) hg (.inl rfl) (by decide)
        (hc.shieldShown.evt (by decide)) rfl rfl rfl fun f hf' => ?_
      exact (rd_wr_log hf' (by decide)).trans ((rd_wr_log hf' (by simp [logRegs])).trans (rd_wr_log hf' (by simp [logRegs])))
  case sensor =>
    exact next_of_done (c := .sensorSample [v] [] power) (congrArg done (effSensors_one hw hl hh))
      ((hc.sensorShown.wr (by decide)).wr (by decide))
  case cut =>
    refine ⟨exec_valeOvertempCut_hot hp hk hh, ?_, valePowerOff_powered v⟩
    rw [owe_todo, valePowerOff_todo, hc.owed, List.nil_append]

end Sys2Proof.Machine
end

section
/-! PROOFS. Calibration items: due, started, done, recorded and slewed, and the check of CALREF (16_assayer_calibration R344
to R355). -/

namespace Sys2Proof.Machine

variable {s : State} {i r : Nat}

/-! ## What keeps calm -/

theorem Calm.outShow {v : Nat} (h : Calm s) : Calm (outShow v s) := h.wr (by simp [calmRegs])

theorem Calm.hostSend {v ty seq : Nat} (h : Calm s) : Calm (hostSend v ty seq s) := (h.sat (by simp [calmRegs])).send

theorem Calm.hostPump {v n : Nat} (h : Calm s) : Calm (hostPump v n s) := by
  induction n generalizing s with
  | zero => exact h.outShow
  | succ n ih =>
    unfold Machine.hostPump
    split
    · dsimp only
      split
      · exact ih (Calm.modPass rfl h).hostSend
      · exact h.outShow
    · exact h.outShow

/-- A request to a vale waits for nothing that the end of a step would carry on. -/
theorem Calm.hostRequest {v : Nat} {b : HostBody} (h : Calm s) : Calm (hostRequest v b s) := (h.modPass rfl).hostPump

theorem Calm.busySet {b : Bool} (h : Calm s) : Calm (busySet i b s) := by
  unfold Machine.busySet
  split
  · exact h.wr (by decide)
  · exact h.wrb (by decide)

theorem Calm.calOff (h : Calm s) : Calm (calOff i s) := by
  unfold Machine.calOff
  split
  · exact h.modTrk
  · exact h

theorem Calm.assayDone {code : Nat} (h : Calm s) : Calm (assayDone i code s) := by
  unfold Machine.assayDone
  split
  · exact h.modPass rfl
  · exact h

theorem Calm.corrShow (h : Calm s) : Calm (corrShow i s) :=
  (corrShow_only i).calm h offCalm_rest (by simp [corrFields, calmRegs])

theorem Calm.itemSet {n : Nat} (h : Calm s) : Calm (itemSet i n s) := h.wr (by simp [calmRegs])

theorem Calm.trefShow (h : Calm s) : Calm (trefShow s) := h.wr (by decide)

/-! ## References (R346, R347) -/

/-- A reading of CALREF within its range. -/
def calrefShown (r : Nat) (s : State) : State := (s.wr R.ASSAY_REF_CALREF r).wr R.ASSAY_STAT_REF_OK 1

theorem calrefTake_ok (h : calrefOk r = true) : calrefTake r s = calrefShown r s := if_pos h

theorem Calm.calrefShown (h : Calm s) : Calm (calrefShown r s) := (h.wr (by decide)).wr (by decide)

/-- A recheck that is wanted and in range only shows the reading. -/
theorem effCalref_ok (hw : s.bit R.ASSAY_STAT_REF_OK = false ∨ (running s).isEmpty = false) (h : calrefOk r = true) :
    effCalref r s = calrefShown r s := by
  have hn : ¬ (s.bit R.ASSAY_STAT_REF_OK && (running s).isEmpty) = true := by
    rcases hw with hw | hw <;> simp [hw]
  exact (if_neg hn).trans ((if_pos h).trans (calrefTake_ok h))

/-! ## Items (R344 to R345, R350) -/

theorem effItemDue_idle (h0 : itemState i s = 0) (hh : itemHeld i s = false) :
    effItemDue i s = itemSet i 1 (s.modItem i fun x => { x with dueAge := s.age }) := by
  rw [effItemDue, if_pos h0, hh]
  rfl

/-- Item `i` runs. -/
def itemStarted (i r : Nat) (s : State) : State :=
  busySet i true (itemSet i 3 ((trefShow (calrefShown r s)).modItem i fun x => { x with calref := r }))

theorem Calm.itemStarted (h : Calm s) : Calm (itemStarted i r s) := h.calrefShown.trefShow.modItem.itemSet.busySet

/-- The start is a command to the item's vale, or the host die's own. -/
def startTold (i : Nat) (s : State) : State :=
  match itemVale i with
  | some v => hostRequest v (.cmd (.assay i true)) s
  | none => s.send (.calibrate i)

theorem Calm.startTold (h : Calm s) : Calm (startTold i s) := by
  unfold Machine.startTold
  split
  · exact h.hostRequest
  · exact h.send

theorem effCalStart_starts (hh : itemHeld i s = false) (hc : calCan i s = true) (hf : calFirst i s = true)
    (hr : calrefOk r = true) : effCalStart i r s = startTold i (itemStarted i r s) := by
  simp only [effCalStart, hh, hc, hf, hr, calrefTake_ok hr, Bool.false_eq_true, if_false, Bool.and_self, if_true, Bool.not_true]
  rfl

/-- Item `i` runs no longer, and the vale's agent has ended. -/
def itemEnded (i : Nat) (s : State) : State :=
  assayDone i 0 (((calOff i (busySet i false (itemSet i 0 s))).wr R.ASSAY_STAT_LAST_ITEM i).modItem i
    fun x => { x with forced := false })

theorem Calm.itemEnded (h : Calm s) : Calm (itemEnded i s) :=
  ((h.itemSet.busySet.calOff.wr (by decide)).modItem).assayDone

/-- Sound results wait for their record. -/
def resultAccepted (i : Nat) (res : List CalVal) (temp : Int) (s : State) : State :=
  ((((s.wr (R.ASSAY_ITEM_STAT_ACCEPT_ARMED i) 0).wr (R.ASSAY_ITEM_STAT_LAST_REJ i) 0).wr
    (R.ASSAY_ITEM_STAT_CONSEC_REJ i) 0).evt R.ASSAY_EVT_DONE).modItem i fun x => { x with writing := some (res, temp) }

theorem Calm.resultAccepted {res : List CalVal} {temp : Int} (h : Calm s) : Calm (resultAccepted i res temp s) :=
  ((((h.wr (by simp [calmRegs])).wr (by simp [calmRegs])).wr (by simp [calmRegs])).evt (by decide)).modItem

theorem effCalDone_sound {res : List CalVal} {temp : Int} (h3 : itemState i s = 3) (hr : rangeOk res = true)
    (hp : repeatOk res (s.item i).stored = true) : effCalDone i res temp s = resultAccepted i res temp (itemEnded i s) := by
  have hn : ¬ itemState i s ≠ 3 := by simp [h3]
  simp only [effCalDone, if_neg hn, hr, hp, Bool.or_true, Bool.and_self, if_true]
  rfl

/-! ## Records and slews (R352 to R355) -/

/-- A record in flash is counted, stamped and in use. -/
def recordStored (i : Nat) (l : List CalVal) (temp : Int) (s : State) : State :=
  itemSet i 4 ((((s.sat (R.ASSAY_ITEM_COUNT_COUNT i) 1).wr (R.ASSAY_ITEM_LAST_SEC i) s.time.sec).wr
    (R.ASSAY_ITEM_STAT_NOREC i) 0).modItem i fun x => { x with
      stored := l, temp := temp, slewFrom := x.inForce, steps := 0, writing := none, copyB := !x.copyB })

theorem Calm.recordStored {l : List CalVal} {temp : Int} (h : Calm s) : Calm (recordStored i l temp s) :=
  (((h.sat (by simp [calmRegs])).wr (by simp [calmRegs])).wr (by simp [calmRegs])).modItem.itemSet

theorem effCalWritten_stored {l : List CalVal} {temp : Int} (hw : (s.item i).writing = some (l, temp))
    (hh : itemHeld i s = false) : effCalWritten i true s = recordStored i l temp s := by
  have hh' : itemHeld i (recordStored i l temp s) = false := hh
  have hx : effCalWritten i true s =
      if itemHeld i (recordStored i l temp s) then slewEnd i (recordStored i l temp s) else recordStored i l temp s := by
    simp only [effCalWritten, hw, if_true]
    rfl
  rw [hx, hh', if_neg Bool.false_ne_true]

/-- One step of a slew. -/
def slewMoved (i : Nat) (s : State) : State := corrShow i (s.modItem i fun x => { x with
  steps := x.steps + 1, inForce := slewValues x.slewFrom x.stored (x.steps + 1) })

theorem Calm.slewMoved (h : Calm s) : Calm (slewMoved i s) := h.modItem.corrShow

theorem effSlewStep_moves (h4 : itemState i s = 4) (hv : ∀ v, itemVale i = some v → s.valeRung v < 2)
    (hd : itemVale i = none → s.rd R.PWR_STAT_HOST_RUNG < 2) (hn : (s.item i).steps + 1 < 256) :
    effSlewStep i s = slewMoved i s := by
  have hrung : (match itemVale i with | some v => s.valeRung v | none => s.rd R.PWR_STAT_HOST_RUNG) < 2 := by
    split
    case h_1 v h => exact hv v h
    case h_2 h => exact hd h
  exact (if_pos ⟨h4, hrung⟩).trans (if_neg (Nat.not_le.2 hn))

/-- Settles O52: each row does what its lemma says of an item that is not held. -/
theorem assayerItems : Obligations.AssayerItems := by
  intro i s hc hh
  refine ⟨fun h0 => ?due, fun r hcan hfirst hr => ?start, fun res temp h3 hr hp => ?done, fun l temp hw => ?written,
    fun h4 hv hd hn => ?slew, fun r hw hr => ?recheck⟩
  case due => exact next_of_done (c := .assayItemDue i) (congrArg done (effItemDue_idle h0 hh)) hc.modItem.itemSet
  case start =>
    exact next_of_done (c := .calibrationStart i r) (congrArg done (effCalStart_starts hh hcan hfirst hr)) hc.itemStarted.startTold
  case done =>
    exact next_of_done (c := .calibrationDone i res temp) (congrArg done (effCalDone_sound h3 hr hp)) hc.itemEnded.resultAccepted
  case written =>
    exact next_of_done (c := .calRecordWritten i true) (congrArg done (effCalWritten_stored hw hh)) hc.recordStored
  case slew => exact next_of_done (c := .calSlewStep i) (congrArg done (effSlewStep_moves h4 hv hd hn)) hc.slewMoved
  case recheck => exact next_of_done (c := .calrefRecheck r) (congrArg done (effCalref_ok hw hr)) hc.calrefShown

end Sys2Proof.Machine
end

section
/-! PROOFS. The ends of security loads, and what the strongroom does (17_security R362 to R375). -/

namespace Sys2Proof.Machine

variable {s : State}

/-! ## Security loads (R368 to R372) -/

/-- A load that takes data, or is checked, closes without touching what the end of a step looks at. -/
theorem Calm.secClose {n : Nat} (h : Calm s) : Calm (secClose n s) := (h.wr (by decide)).with_sec

theorem secLoadTimeout_drops (hc : Calm s) (ho : s.sec.loadOpen = true) :
    exec .secLoadTimeout s = .next (vectors (secClose 0 (s.wr R.SEC_LOAD_CTL_ABORT 0))) :=
  next_of_done (c := .secLoadTimeout) (congrArg done (if_pos ho)) (hc.wr (by decide)).secClose

section Bundles

variable {v : Verdict} {es : List BEntry}

/-- What was staged for `target` is being checked, by a device out of QUARANTINE. -/
structure Checking (target : Nat) (s : State) : Prop where
  busy : s.sec.loadBusy = true
  target : s.sec.loadTarget = target
  mode : s.mode ≠ 5

theorem Checking.bundleDone (h : Checking 0 s) : effBundleDone v s =
    if (bundleCheck s.sec.loadWords v s).1 ≠ 0 then secRefuse (bundleCheck s.sec.loadWords v s).1 s
    else bundleAccept s.sec.loadWords (bundleCheck s.sec.loadWords v s).2 s :=
  if_neg (by simp [h.busy, h.target, h.mode])

/-- A bundle that checks takes effect. -/
theorem Checking.bundle_accepted (h : Checking 0 s) (hk : bundleCheck s.sec.loadWords v s = (0, es)) :
    effBundleDone v s = bundleAccept s.sec.loadWords es s := by
  rw [h.bundleDone, hk]
  exact if_neg (not_not.2 rfl)

/-- A bundle that fails a check is refused and counted. -/
theorem Checking.bundle_refused (h : Checking 0 s) (hk : (bundleCheck s.sec.loadWords v s).1 ≠ 0) :
    effBundleDone v s =
      secResult (bundleCheck s.sec.loadWords v s).1 (secClose 3 (s.sat (R.SEC_CNT_COUNT 3) 1)) := by
  rw [h.bundleDone, if_pos hk]
  unfold secRefuse
  rw [if_pos h.target]

/-- The state once a bundle's entries stand in the store, its sequence number is the floor, and its load is over. -/
def bundleStored (es : List BEntry) (s : State) : State :=
  secResult 0 (secClose 3 { s with sec := { s.sec with
    store := es.foldl (fun a e => entryApply e a) s.sec.store, floor := imgWord s.sec.loadWords 4 } })

/-- A storage bundle reaches the strongroom where it is loaded, and restarts the CAs whose CAK it changed. -/
def bundleKeyed (es : List BEntry) (store : List Key) (t : State) : State :=
  (es.flatMap entryCas).foldl (fun a e => mkaRestart e a)
    (if t.bit R.SEC_STAT_KEYSTORE_OK then { t with sec := { t.sec with room := store } } else t)

/-- A token bundle authorises the life-cycle state `n`. -/
def bundleToken (n : Nat) (t : State) : State := { t with sec := { t.sec with token := some (n, decide (n = 3)) } }

theorem Calm.bundleToken {n : Nat} (h : Calm s) : Calm (bundleToken n s) := h.with_sec

/-- What a bundle of KIND `kind` does in the state `t` that follows its load, `store` being the new key store. -/
def bundleActs (kind : Nat) (es : List BEntry) (store : List Key) (t : State) : State :=
  if kind = 1 then lcChange 1 (t.wr R.SEC_STAT_AUTH_FUSED 1)
  else if kind = 3 then bundleToken (match es with | e :: _ => (e.value.getD 0 0).toNat | [] => 0) t
  else bundleKeyed es store t

theorem bundleAccept_eq : bundleAccept s.sec.loadWords es s =
    bundleActs (bundleKind s.sec.loadWords) es (es.foldl (fun a e => entryApply e a) s.sec.store) (bundleStored es s) := by
  unfold bundleAccept
  extract_lets store sec u t
  have ht : bundleStored es s = t := rfl
  rw [ht]
  clear_value t
  rfl

theorem Checking.storage_done (h : Checking 0 s) (hk : bundleCheck s.sec.loadWords v s = (0, es))
    (h2 : bundleKind s.sec.loadWords = 2) : effBundleDone v s =
      bundleKeyed es (es.foldl (fun a e => entryApply e a) s.sec.store) (bundleStored es s) := by
  rw [h.bundle_accepted hk, bundleAccept_eq, h2]
  rfl

theorem Checking.token_done {e : BEntry} (h : Checking 0 s) (hk : bundleCheck s.sec.loadWords v s = (0, [e]))
    (h3 : bundleKind s.sec.loadWords = 3) :
    effBundleDone v s = bundleToken (e.value.getD 0 0).toNat (bundleStored [e] s) := by
  rw [h.bundle_accepted hk, bundleAccept_eq, h3]
  rfl

end Bundles

/-- A firmware image that checks has its COMMIT word programmed, and one of slot 2 retires slot 1. -/
theorem Checking.firmware_done {k : Nat} (h : Checking k s) (h0 : k ≠ 0) (hk : fwCheck (tget [] s.sec.fw k) true true s = 0) :
    effFirmwareDone true true s = secResult 0 (secClose 3 { s with sec := { s.sec with
      fw :=
        let fw := tset [] s.sec.fw k (imgCommit (tget [] s.sec.fw k) commitWord)
        if k = 2 then tset [] fw 1 (imgCommit (tget [] fw 1) 0) else fw } }) := by
  obtain ⟨hb, rfl, hm⟩ := h
  unfold effFirmwareDone
  dsimp only
  rw [if_neg (by simp [hb, h0, hm]), if_neg (not_not.2 hk)]

/-- Settles O53: the timeout, a storage or token bundle that checks, one that does not, and a firmware image that checks. -/
theorem secLoadsEnd : Obligations.SecLoadsEnd := by
  refine ⟨fun s hc ho => secLoadTimeout_drops hc ho, fun v es s hb ht hm hk => ⟨fun h2 hu => ?storage, fun e he h3 hc => ?token⟩,
    fun v s hb ht hm hk hc => ?refused, fun s hb ht hm hk hc => ?firmware⟩
  case storage =>
    have hx := Checking.storage_done ⟨hb, ht, hm⟩ hk h2
    unfold bundleKeyed bundleStored at hx
    exact next_of_done (c := .bundleCommitDone v) (congrArg done hx) hu
  case token =>
    subst he
    have hx := Checking.token_done ⟨hb, ht, hm⟩ hk h3
    have hu := Calm.bundleToken (n := (e.value.getD 0 0).toNat) hc
    unfold bundleToken bundleStored at hx
    unfold bundleToken at hu
    exact next_of_done (c := .bundleCommitDone v) (congrArg done hx) hu
  case refused =>
    exact next_of_done (c := .bundleCommitDone v) (congrArg done (Checking.bundle_refused ⟨hb, ht, hm⟩ hk)) hc
  case firmware =>
    have h0 : s.sec.loadTarget ≠ 0 := by omega
    exact next_of_done (c := .firmwareCommitDone true true) (congrArg done (Checking.firmware_done ⟨hb, rfl, hm⟩ h0 hk)) hc

/-! ## Tamper (R362, R364) -/

section Tamper

variable {src : Fin 5} {active : Bool}

/-- The state once TAMPER_ACTIVE shows source `src`. -/
def tamperSeen (src : Fin 5) (active : Bool) (s : State) : State :=
  s.wr R.SEC_TAMPER_ACTIVE (setBit (s.rd R.SEC_TAMPER_ACTIVE) src active)

/-- The latch is set and the source noted. -/
def tamperNoted (src : Fin 5) (active : Bool) (s : State) : State :=
  ((tamperSeen src active s).wr R.SEC_TAMPER_LATCH 1).wr R.SEC_TAMPER_SRC (setBit (s.rd R.SEC_TAMPER_SRC) src true)

theorem Calm.tamperSeen (h : Calm s) : Calm (tamperSeen src active s) := h.wr (by decide)

theorem Calm.tamperNoted (h : Calm s) : Calm (tamperNoted src active s) := (h.tamperSeen.wr (by decide)).wr (by decide)

theorem tamperSeen_latch : (tamperSeen src active s).bit R.SEC_TAMPER_LATCH = s.bit R.SEC_TAMPER_LATCH := by
  unfold State.bit tamperSeen
  rw [rd_wr_ne _ _ _ _ (by decide)]

theorem tamperSeen_src : (tamperSeen src active s).rd R.SEC_TAMPER_SRC = s.rd R.SEC_TAMPER_SRC :=
  rd_wr_ne _ _ _ _ (by decide)

theorem effTamper_off (h : tamperOn src (tamperSeen src active s) = false) :
    effTamper src active s = tamperSeen src active s :=
  if_pos (congrArg not h)

/-- A source that fires sets the latch; the first one wipes the strongroom and is recorded. -/
theorem effTamper_on (h : tamperOn src (tamperSeen src active s) = true) :
    effTamper src active s = if !s.bit R.SEC_TAMPER_LATCH then
      ((roomWipe (tamperNoted src active s)).sat (R.SEC_CNT_COUNT 0) 1).recordFree 5 3 0x50 (some 4)
    else tamperNoted src active s := by
  have hn : ((tamperSeen src active s).wr R.SEC_TAMPER_LATCH 1).wr R.SEC_TAMPER_SRC
      (setBit ((tamperSeen src active s).rd R.SEC_TAMPER_SRC) src true) = tamperNoted src active s := by
    rw [tamperSeen_src]; rfl
  rw [← tamperSeen_latch (src := src) (active := active), ← hn]
  have hon : ¬(!tamperOn src (tamperSeen src active s)) = true := by rw [h]; decide
  exact if_neg hon

end Tamper

/-! ## Key generation (R367) and attestation (R374, R375) -/

/-- Words put into registers that the end of a step does not look at. -/
theorem Calm.foldl_wr {l : List (Nat × Nat)} {f : Nat → Fld} (hf : ∀ i, (f i).id ∉ calmRegs) (h : Calm s) :
    Calm (l.foldl (fun a e => a.wr (f e.2) e.1) s) := by
  induction l generalizing s with
  | nil => exact h
  | cons e l ih => exact ih (h.wr (hf e.2))

/-- The public key is shown and key generation is no longer busy. -/
def pubKeyShown (p : List Byte) (s : State) : State :=
  (octetWords 24 p).zipIdx.foldl (fun a e => a.wr (R.SEC_ID_PUB_KEY e.2) e.1) (s.wr R.SEC_PROV_CTL_BUSY 0)

theorem Calm.pubKeyShown {p : List Byte} (h : Calm s) : Calm (pubKeyShown p s) :=
  (h.wr (by decide)).foldl_wr (by simp [calmRegs])

/-- The device tag and the key store, once the key pair of `p` and `k` is generated. -/
def keyStored (p k : List Byte) (s : State) : State :=
  { s with sec := { s.sec with
    devTag := ((sha384 p).take 8).foldl (fun (a : Nat) o => a * 256 + o.toNat) 0, storageKey := true,
    store := keyPut { type := 0, index := 0, value := k } s.sec.store } }

theorem genkeyDone_stores {pub : BitVec 768} (hc : Calm s) (hb : s.bit R.SEC_PROV_CTL_BUSY = true) :
    let t := pubKeyShown (octetsOf 96 pub.toNat) s
    exec (.genkeyDone pub) s = .next (vectors (keyStored (octetsOf 96 pub.toNat) (t.freeOctets 48).1 (t.freeOctets 48).2)) := by
  intro t
  have hf : Calm (t.freeOctets 48).2 := hc.pubKeyShown.free (w := 8 * 48)
  exact next_of_done (c := .genkeyDone pub) (congrArg done (if_neg (by simp [hb]))) hf.with_sec

/-- Settles O54: a tamper source that is off, noted, or first; a key that is generated; a report that is signed. -/
theorem strongroomActs : Obligations.StrongroomActs := by
  refine ⟨fun src active s hc => ⟨fun h => ?off, fun h hl => ?noted, fun h hl => ?first⟩,
    fun pub s hc hb => genkeyDone_stores hc hb, fun s hb hm hc => ?attested⟩
  case off => exact next_of_done (c := .tamperDetect src active) (congrArg done (effTamper_off h)) hc.tamperSeen
  case noted =>
    have hx : effTamper src active s = tamperNoted src active s := (effTamper_on h).trans (if_neg (by rw [hl]; decide))
    exact next_of_done (c := .tamperDetect src active) (congrArg done hx) hc.tamperNoted
  case first => exact congrArg done ((effTamper_on h).trans (if_pos (by rw [hl]; decide)))
  case attested =>
    have hx : effAttested s = _ := if_neg (by simp [hb, hm])
    exact next_of_done (c := .attestationDone) (congrArg done hx) hc

end Sys2Proof.Machine
end

section
/-! PROOFS. Key agreement and the rotation of SAKs (17_security R377 to R382). -/

namespace Sys2Proof.Machine

variable {s : State} {e : Nat}

theorem Calm.peersShow (h : Calm s) : Calm (peersShow e s) := h.wr (by simp [calmRegs])

/-! ## Peers (R381, R382) -/

section Peers

variable {p : Nat} {i u : Bool}

/-- A frame of peer `p` that MKA takes: of a known peer it notes the report, and a new peer joins where there is room. -/
theorem MkaRuns.frame (h : MkaRuns e s) : effMkaFrame e p i u s =
    if (s.ca e).peers.any (fun x => x.id = p) then
      s.modCa e fun x => { x with peers := x.peers.map fun y =>
        if y.id = p then { y with installed := y.installed || i, used := y.used || u } else y }
    else if 32 ≤ (s.ca e).peers.length then s
    else
      let t := peersShow e (s.modCa e fun x => { x with peers := x.peers ++ [{ id := p, installed := false, used := false }] })
      if !(s.ca e).txReady then (if (s.ca e).newAn.isSome then t else rotStart e t)
      else if caGroup e then rotAsk e t else t :=
  if_neg (by simp [h.used, h.key, h.serves, h.port, h.engine])

/-- The state once the new peer `p` is live. -/
def peerJoined (e p : Nat) (s : State) : State :=
  peersShow e (s.modCa e fun x => { x with peers := x.peers ++ [{ id := p, installed := false, used := false }] })

theorem Calm.peerJoined (h : Calm s) : Calm (peerJoined e p s) := h.modCa.peersShow

theorem MkaRuns.frame_new (h : MkaRuns e s) (hp : ((s.ca e).peers.any fun x => x.id = p) = false)
    (hl : (s.ca e).peers.length < 32) : effMkaFrame e p i u s =
      if !(s.ca e).txReady then (if (s.ca e).newAn.isSome then peerJoined e p s else rotStart e (peerJoined e p s))
      else if caGroup e then rotAsk e (peerJoined e p s) else peerJoined e p s := by
  rw [h.frame, if_neg (by simp [hp]), if_neg (by omega)]
  rfl

/-- The state once peer `p` has left. -/
def peerLeft (e p : Nat) (s : State) : State :=
  peersShow e (s.modCa e fun x => { x with peers := x.peers.filter fun y => y.id ≠ p })

theorem Calm.peerLeft (h : Calm s) : Calm (peerLeft e p s) := h.modCa.peersShow

theorem effPeerLost_eq (ha : caAsleep e s = false) (hp : ((s.ca e).peers.any fun x => x.id = p) = true) :
    effPeerLost e p s = if ((peerLeft e p s).ca e).peers.isEmpty then caNoSak e (peerLeft e p s)
      else if caGroup e then rotAsk e (peerLeft e p s) else peerLeft e p s :=
  if_neg (by simp [ha, hp])

/-- Of a CA that keeps a peer, the group CA of a drop asks for a rotation. -/
theorem effPeerLost_peers (ha : caAsleep e s = false) (hp : ((s.ca e).peers.any fun x => x.id = p) = true)
    (hn : ((peerLeft e p s).ca e).peers ≠ []) :
    effPeerLost e p s = if caGroup e then rotAsk e (peerLeft e p s) else peerLeft e p s :=
  (effPeerLost_eq ha hp).trans (if_neg fun h => hn (List.isEmpty_iff.1 h))

/-- The last peer leaves the CA without a SAK (PRESUMED, log 66). -/
theorem effPeerLost_last (ha : caAsleep e s = false) (hp : ((s.ca e).peers.any fun x => x.id = p) = true)
    (hn : ((peerLeft e p s).ca e).peers = []) : effPeerLost e p s = caNoSak e (peerLeft e p s) :=
  (effPeerLost_eq ha hp).trans (if_pos (List.isEmpty_iff.2 hn))

end Peers

/-- The hello of a CA for which no rotation waits and whose transmit PN is far from its end. -/
theorem MkaRuns.hello (h : MkaRuns e s) (ha : caAsleep e s = false) (hr : (mkaHello e s).bit (R.MSEC_CTL_ROTATE e) = false)
    (hp : (mkaHello e s).rd (R.MSEC_TX_PN_PN e) < 2 ^ 62) : effMkaHello e s = mkaHello e s := by
  unfold effMkaHello
  rw [if_neg (by simp [h.key, h.port, h.engine, ha])]
  exact if_neg (not_or.2 ⟨by simp [hr], Nat.not_le.2 hp⟩)

/-- Settles O55: frames of known and new peers, the hello, and the loss of a peer, the last one among them. -/
theorem keyAgreement : Obligations.KeyAgreement := by
  refine ⟨fun e p i u s hc hm => ⟨fun hp => ?known, fun hp hl => ⟨fun ht hg => ?pair, fun ht hg hq => ?group, fun ht hn hq => ?first⟩⟩,
    fun e s he hm ha hr hp hc => ?hello, fun e p s hc ha hp => ⟨fun hn hg => ?leaves, fun hn hg hq => ?asks, fun hn hq => ?last⟩⟩
  case known =>
    exact next_of_done (c := .mkaFrameReceive e p i u) (congrArg done (hm.frame.trans (if_pos hp))) hc.modCa
  case pair =>
    have hx : effMkaFrame e p.toNat i u s = peerJoined e p.toNat s := by simp [hm.frame_new hp hl, ht, hg]
    exact next_of_done (c := .mkaFrameReceive e p i u) (congrArg done hx) hc.peerJoined
  case group =>
    have hx : effMkaFrame e p.toNat i u s = rotAsk e (peerJoined e p.toNat s) := by simp [hm.frame_new hp hl, ht, hg]
    exact next_of_done (c := .mkaFrameReceive e p i u) (congrArg done hx) hq
  case first =>
    have hx : effMkaFrame e p.toNat i u s = rotStart e (peerJoined e p.toNat s) := by simp [hm.frame_new hp hl, ht, hn]
    exact next_of_done (c := .mkaFrameReceive e p i u) (congrArg done hx) hq
  case hello =>
    have hx : (if s.serving then (casUsed s).foldl (fun a e => effMkaHello e a) s else s) = mkaHello e s := by
      rw [if_pos hm.serves, he]
      exact hm.hello ha hr hp
    exact next_of_done (c := .mkaHelloTick) (congrArg done hx) hc
  case leaves =>
    have hx := (effPeerLost_peers ha hp hn).trans (if_neg (by simp [hg]))
    exact next_of_done (c := .mkaLifeExpiry e p) (congrArg done hx) (Calm.peerLeft hc)
  case asks =>
    have hx := (effPeerLost_peers ha hp hn).trans (if_pos hg)
    exact next_of_done (c := .mkaLifeExpiry e p) (congrArg done hx) hq
  case last =>
    exact next_of_done (c := .mkaLifeExpiry e p) (congrArg done (effPeerLost_last ha hp hn)) hq

/-! ## Rotation (R382) -/

/-- The lifetime of a SAK in use ends with a rotation asked for. -/
theorem sakLifetimeExpiry_asks {e : Fin 2056} (ht : (s.ca e).txReady = true) :
    exec (.sakLifetimeExpiry e) s = done (rotAsk e s) := congrArg done (if_pos ht)

/-- A rotation asked for waits with ROTATE set while the port is down. -/
theorem rotAsk_down (hu : caUsed e s = true) (hn : (s.ca e).newAn = none) (hp : caPortUp e s = false) :
    rotAsk e s = s.wr (R.MSEC_CTL_ROTATE e) 1 := by
  unfold rotAsk
  rw [if_neg (by simp [hu, hn]), if_pos (by simp [hp])]

theorem rotAsk_up (ht : (s.ca e).txReady = true) (hu : caUsed e s = true) (hn : (s.ca e).newAn = none)
    (hp : caPortUp e s = true) : rotAsk e s = rotStart e (s.wr (R.MSEC_CTL_ROTATE e) 1) := by
  unfold rotAsk
  rw [if_neg (by simp [hu, hn]), if_neg (by simp [ht, hp])]

/-- The AN that a rotation of CA `e` distributes. -/
def anNext (e : Nat) (s : State) : Nat := if (s.ca e).rx.isEmpty then 0 else (s.rd (R.MSEC_STAT_RX_AN e) + 1) % 4

/-- The SAK of AN `an` is installed for receive, and no peer has it yet. -/
def sakFresh (e an : Nat) (s : State) : State :=
  (s.modCa e fun x => { x with
    rx := x.rx.filter (fun a => a.1 ≠ an) ++ [(an, 1)], newAn := some an, oldAn := x.oldAn.filter (fun a => a ≠ an),
    peers := x.peers.map fun p => { p with installed := false, used := false } }).wr (R.MSEC_STAT_RX_AN e) an

/-- A CA that transmits is in rotation once the next SAK is installed. -/
theorem rotStart_rotates (ht : (s.ca e).txReady = true) : rotStart e s = caState e 3 (sakFresh e (anNext e s) s) :=
  if_pos ht

/-- Every live peer has installed the SAK of AN `an`. -/
structure Installed (e an : Nat) (s : State) : Prop where
  new : (s.ca e).newAn = some an
  live : (s.ca e).peers ≠ []
  all : ((s.ca e).peers.all fun p => p.installed) = true

/-- AN `an` transmits from packet number 1, and what transmitted before is the old SA. -/
def sakSends (e an : Nat) (s : State) : State :=
  let t := (kiFresh e ((s.wr (R.MSEC_STAT_TX_AN e) an).wr (R.MSEC_TX_PN_PN e) 1)).modCa e fun x => { x with
    newAn := none, oldAn := if (s.ca e).txReady then some (s.rd (R.MSEC_STAT_TX_AN e)) else none, txReady := true }
  caState e 2 (t.wr (R.MSEC_CTL_ROTATE e) 0)

theorem Installed.rotated {an : Nat} (h : Installed e an s) : effRotated e s =
    if (s.ca e).txReady then secNotice 2 e ((sakSends e an s).sat (R.SEC_CNT_COUNT 5) 1) else sakSends e an s := by
  unfold effRotated
  dsimp only
  rw [h.new]
  exact if_neg (by simp [h.live, h.all])

/-- Settles O56: a rotation asked for with the port down and up, its end, and the retirement of the old SA. -/
theorem sakRotation : Obligations.SakRotation := by
  refine fun e s hc => ⟨fun ht hu hn hp => ?waits, fun ht hu hn hp hq => ?starts, fun an hn hl ha hq => ?done,
    fun an ho => ?retires⟩
  case waits =>
    exact next_of_done ((sakLifetimeExpiry_asks ht).trans (congrArg done (rotAsk_down hu hn hp))) (hc.wr (by simp [calmRegs]))
  case starts =>
    have hx := (rotAsk_up ht hu hn hp).trans (rotStart_rotates ht)
    exact next_of_done ((sakLifetimeExpiry_asks ht).trans (congrArg done hx)) hq
  case done =>
    exact next_of_done (c := .sakRotationDone e) (congrArg done (Installed.rotated ⟨hn, hl, ha⟩)) hq
  case retires =>
    have hx : exec (.oldSaRetire e) s = done (s.modCa e fun x => { x with rx := x.rx.filter fun a => a.1 ≠ an, oldAn := none }) := by
      change done (match (s.ca e).oldAn with | some an => _ | none => s) = _
      rw [ho]
    exact next_of_done hx hc.modCa

end Sys2Proof.Machine
end
